-- ==== Sys2Proof/Word.lean ====
section
/-!
DEFINITION. Sys2Proof/Word.lean: the word and byte types and their plainest arithmetic. Nothing here is a
reading of the spec beyond "every register is 32 bits wide" (R10).
-/
namespace Sys2Proof

/-- A 32-bit register or descriptor word (R10, R57). -/
abbrev Word := BitVec 32

/-- One byte. -/
abbrev Byte := BitVec 8

/-- Bits `[hi:lo]` of a natural number, bit 0 the least significant (notation of chapter 00). -/
def bits (n hi lo : Nat) : Nat := (n / 2 ^ lo) % 2 ^ (hi - lo + 1)

/-- One bit of a natural number as a truth value. -/
def bit (n k : Nat) : Bool := (n / 2 ^ k) % 2 == 1

/-- Sign extension of the low `w` bits of a number to an integer (two's complement). -/
def signed (w n : Nat) : Int :=
  if (n % 2 ^ w) < 2 ^ (w - 1) then ((n % 2 ^ w : Nat) : Int) else ((n % 2 ^ w : Nat) : Int) - (2 : Int) ^ w

/-- The two's complement of an integer in `w` bits, as a natural number. -/
def unsigned (w : Nat) (i : Int) : Nat := (i % (2 : Int) ^ w).toNat

/-- A truth value as a one-bit number. -/
def b2n (b : Bool) : Nat := if b then 1 else 0

/-- Saturation of an integer to the closed range `[lo, hi]`. -/
def clampI (lo hi i : Int) : Int := if i < lo then lo else if hi < i then hi else i

/-- The first element of a list that meets a test, with its position removed. -/
def pullFirst {α : Type} (p : α → Bool) : List α → Option (α × List α)
  | [] => none
  | x :: xs =>
    if p x then some (x, xs)
    else match pullFirst p xs with
      | some (y, ys) => some (y, x :: ys)
      | none => none

/-- Replace the elements of a list that meet a test. -/
def mapWhere {α : Type} (p : α → Bool) (f : α → α) (l : List α) : List α :=
  l.map (fun x => if p x then f x else x)

end Sys2Proof
end

