-- ==== Sys2Proof/Syntax.lean ====
section
/-!
DEFINITION. Sys2Proof/Syntax.lean: the commands and events the block takes, one constructor of `Instr` per row of
spec/opcode_table.json, and the types of their operands. An operand carries what comes from outside the block: the
descriptor words and buffer contents read from host memory, the value written to a register, the content of a message of
the head end, a measurement, or the outcome of a check whose function stands in another standard (log entry 2).
-/
namespace Sys2Proof

/-- The parts of R2. -/
inductive Part where
  | lk9540 | lk9520
  deriving DecidableEq, Repr

/-- A command or inject descriptor as the terminal holds it once fetched (R57). `args` is DW5 to DW15; `data` is the
content of the host buffer, in 32-bit little-endian words, for a command that reads its buffer. -/
structure Desc where
  ring : Nat
  index : Nat
  tag : Nat
  opcode : Nat
  durable : Bool
  buf : Bool
  irq : Bool
  quiet : Bool
  fence : Bool
  bufAddr : Nat
  bufLen : Nat
  args : List Word
  data : List Word
  deriving DecidableEq, Repr

/-- Argument word `DWk` of a descriptor, k from 5 to 15 (R57). -/
def Desc.dw (d : Desc) (k : Nat) : Nat := (d.args.getD (k - 5) 0).toNat

/-- Word `k` of the buffer content. -/
def Desc.word (d : Desc) (k : Nat) : Nat := (d.data.getD k 0).toNat

/-- The doorbell page as one poll reads it (R53, R54), with the punt entries its PUNT_TAIL indices newly cover: ring,
buffer address and buffer length of each. -/
structure DbPage where
  cmdTail : List Nat
  injTail : List Nat
  cplHead : List Nat
  evtHead : List Nat
  puntTail : List Nat
  magic : Nat
  posted : List (Nat × Nat × Nat)
  deriving DecidableEq, Repr

/-! Host lanes (R100). -/

/-- A Clause 73 technology ability with RS-FEC: 100GBASE-KR2 or 200GBASE-KR4 (R100). -/
inductive Ability where
  | kr2RsFec | kr4RsFec
  deriving DecidableEq, Repr

/-! DSF (R111 to R147). -/

/-- An XGEM header as delineated (R121, R125): channel, SFC of the frame it begins in, offset of its first byte in that frame, HEC
outcome (0 good, 1 corrected, 2 uncorrectable), whether it is an idle frame, PLI, key index, Port-ID, options, LF, whether a codeword of
the frame was uncorrectable, and, for a frame of the protection request channel, its payload bytes. -/
structure XgemHdr where
  chan : Nat
  sfc : Nat
  offset : Nat
  hec : Nat
  idle : Bool
  pli : Nat
  keyIdx : Nat
  port : Nat
  options : Nat
  lf : Bool
  errored : Bool
  prc : List Nat
  deriving DecidableEq, Repr

/-- A failure of the reorder buffer's memory (R146): the tile, macro and row that fail, and the held frames with a byte there, by their place in the order of R125. -/
structure ReorderFail where
  tile : Nat
  mac : Nat
  row : Nat
  frames : List (Nat × Nat × Nat)
  deriving DecidableEq, Repr

/-! UBE and WHS (R172 to R207). -/

/-- Whom a downstream PLOAM message is addressed to (R149): an ONU-ID, or a serial number, ACT_SERIAL_HI and ACT_SERIAL_LO as one number of 64 bits. -/
inductive PloamTo where
  | onu (n : Nat)
  | serial (n : Nat)
  deriving DecidableEq, Repr

/-- A downstream PLOAM message as service engine 0 takes it from its queue (R149, R152): whether it passes the integrity check, its addressee, and whether the engine
restarts while it processes it, so that it is lost. -/
structure Ploam where
  mic : Bool
  dest : PloamTo
  lost : Bool
  deriving DecidableEq, Repr

/-- An allocation structure of a bandwidth map (R172, R173): channel, HEC outcome, Alloc-ID, whether it is the broadcast
Alloc-ID of G.9804.3, profile index, StartTime in delay units, content in bytes, the parity bytes FEC adds to it where the profile's FEC is on (R177), whether
it lies inside the upstream frame, whether G.9804.2 marks it as continuing the previous allocation, and whether its flags
ask for a PLOAMu message and a DBRu. -/
structure AllocStruct where
  chan : Nat
  hecOk : Bool
  alloc : Nat
  bcast : Bool
  profile : Nat
  startDu : Nat
  bytes : Nat
  parity : Nat
  inFrame : Bool
  contiguous : Bool
  ploamu : Bool
  dbru : Bool
  deriving DecidableEq, Repr

/-- A burst profile (R175). `rate` is 0, 1 or 2 for 12.4416, 24.8832 or 49.7664 Gb/s; `pre` is the preamble of `preBits` bits and `del` the delimiter of `delBytes`
bytes. -/
structure Profile where
  rate : Nat
  fec : Bool
  delBytes : Nat
  preBits : Nat
  pre : Nat
  del : Nat
  deriving DecidableEq, Repr

/-- What makes a map gap (R191): a link frame with part of the map fails its CRC, the strobe is missing, or it lies at this
linear line time. -/
inductive GapCause where
  | linkFrame
  | missing
  | misplaced (strobe : Int)
  deriving DecidableEq, Repr

/-! CPH and CDY (R362 to R385). -/

/-- How the Caddy's transfer of a key to CPH ends (R364, R365): loaded, its CRC failing twice, or the slot's storage failing its check
at a tile, macro and row. -/
inductive KeyFetch where
  | ok
  | busFault
  | slotMem (tile mac row : Nat)
  deriving DecidableEq, Repr

/-- The SecTAG and ICV outcome of a received frame with EtherType 0x88E5 (R375): well formed, SCI (the port's implicit one where the
tag carries none), AN, packet number as recovered, the ICV check, and the frame with SecTAG and ICV removed, as decrypted. -/
structure SecTag where
  wellFormed : Bool
  sci : Nat
  an : Nat
  pn : Nat
  icvOk : Bool
  plain : List Nat
  deriving DecidableEq, Repr

/-! MEM (R298 to R335). -/

/-- A request or command of a DDR5 channel (R315, R321, R330): the command code, sub-channel, rank, bank group and bank, column and row, the client, the line's
address, the CRC-32C of write data (0 for none). -/
structure MemReq where
  cmd : Nat
  place : Nat
  col : Nat
  row : Nat
  client : Nat
  addr : Nat
  crc : Nat
  deriving DecidableEq, Repr

/-- A failed training step on an interface (R303, R325): channel, step, and MACRO and ROW of R302 as the failing byte lane gives them. -/
structure TrainFail where
  chan : Nat
  step : Nat
  mac : Nat
  row : Nat
  deriving DecidableEq, Repr

/-- A stamp as HPM measured it, before the board's adjustment (R351): the linear line cycle of the crossing and sixteenths. -/
structure Sfd where
  lin : Int
  fine : Nat
  deriving DecidableEq, Repr
/-! INF (R421 to R440). -/

/-- What an instruction of an Infuser core meets when its words are read (R422, R435): nothing wrong, a parity error in the program memory, or one
in the data memory, with the macro and row that fail. -/
inductive CoreParity where
  | good
  | program (macro_ row : Nat)
  | data (macro_ row : Nat)
  deriving DecidableEq, Repr

/-! PWR (R447 to R452). -/

/-- The head end's power-management message of G.9804.3 (R447, R448, R450): the modes it permits on the channel ([0] doze, [1] cyclic, [2] watchful; 0 withdraws
permission), the low-power and aware intervals in ms, or a forced wake. -/
inductive PowerMsg where
  | permit (modes : Nat)
  | intervals (lowPower aware : Nat)
  | wake
  deriving DecidableEq, Repr

/-- The commands and events of the block: one constructor per row of spec/opcode_table.json. -/
inductive Instr where
  /-- BAD_BAR_ACCESS (R12): A BAR0 access that is not an aligned 32-bit or 64-bit access reads all-ones or is discarded. -/
  | badBarAccess (addr size : Nat) (write : Bool)
  /-- SETUP_REGISTER_WRITE (R17): A host write to a register field that has no row of its own takes effect as its table states and is journalled as a REG_WRITE record. -/
  | setupRegisterWrite (addr : Nat) (v : Word) (hi : Option Word)
  /-- W1C_CLEAR (R14): A host write of 1 to a W1C status bit clears it unless a hardware set falls in the same cycle. -/
  | w1cClear (addr : Nat) (v sets : Word)
  /-- RC_READ (R16): A read of an RC field returns it and clears it, or for a peak field leaves the present level, with a coincident event kept. -/
  | rcRead (addr : Nat) (wide : Bool) (evs : Word)
  /-- LOW_REGISTER_READ (R13): A read of the low register of a wide value latches its high register for later reads. -/
  | lowRegisterRead (addr : Nat) (wide : Bool)
  /-- KRST_N (R467): Assertion and release of KRST_N resets both dies, loses host keys and restarts the Whistle at INIT. -/
  | krstN (strap0 strap1 strap2 strap3 : Bool) (deg : Int)
  /-- MRST_N (R467): Assertion and release of MRST_N resets every main-die unit and empties the PON key slots. -/
  | mrstN (strap0 strap2 strap3 : Bool) (deg : Int) (lost : Nat)
  /-- PERST_N (R467): PERST_N low acts on HIF as link loss and its release leaves HIF as after FLR. -/
  | perstN (low : Bool)
  /-- TRST_N (R467): TRST_N resets the JTAG test logic alone. -/
  | trstN
  /-- KEEPING_DIE_POWER_LOSS (R466): Loss of the keeping-die rails leaves TX_DISABLE to the board's pulls and stops key transfers and mirroring. -/
  | keepingDiePowerLoss
  /-- MAIN_DIE_POWER_LOSS (R83): Loss of main-die power while the keeping die runs loses at most the unmirrored records and puts the Whistle in its link-loss hold. -/
  | mainDiePowerLoss (lost : Nat)
  /-- THERM_ALERT (R477): THERM_ALERT_N goes low when a sensor reads 105 °C or more and releases below 100 °C. -/
  | thermAlert (deg : Int)
  /-- THERMTRIP (R477): A sensor at 125 °C latches THERMTRIP_N and puts the main die into cold reset. -/
  | thermtrip (lost : Nat)
  /-- FLR (R47): A function-level reset stops the rings, resets the HIF registers apart from the kept ones, and moves STAGE. -/
  | flr
  /-- LOAD (R48): A write of HIF_IMG_CTRL.LOAD in IMAGE_WAIT starts the DMA of the Undal image. -/
  | load (v : Word)
  /-- IMAGE_LOAD_END (R49): At the end of the image DMA the header, CRC and signature are checked, and the stage moves to SETUP or back to IMAGE_WAIT. -/
  | imageLoadEnd (magic hdrLen version : Nat) (crcOk sigOk dmaOk : Bool) (progs : List (List Nat))
  /-- RUN (R48): A write of HIF_CTRL.RUN in SETUP enters RUN and commits a STAGE record. -/
  | run (v : Word)
  /-- HIF_NUDGE (R54): A write to HIF_NUDGE.POLL starts a doorbell poll within 32 lc. -/
  | hifNudge (v : Word)
  /-- DOORBELL_POLL (R54): At each poll interval the terminal reads the doorbell page and checks its indices. -/
  | doorbellPoll (pg : DbPage)
  /-- COMMAND_FETCH (R60): A descriptor covered by the producer index is fetched once its completion space is reserved and entered in a ready list. -/
  | commandFetch (inj : Bool) (ring : Nat) (words : List Nat) (data : List Word)
  /-- SAUCER_RETURN (R65): A spilled entry returns to chip as room frees, or retires with MEM_UNCORRECTABLE if its refetch fails. -/
  | saucerReturn (p fails : Nat)
  /-- AGE_PROMOTION (R64): An entry that waited longer than AGE_LIMIT at the head of its list moves to the tail of the list one priority higher. -/
  | agePromotion (p : Nat)
  /-- DISPATCH (R63): The dispatcher starts the first entry able to start from the highest-priority ready list. -/
  | dispatch
  /-- RETIRE (R67): A command retires in ring order once its record is committed and its completion written. -/
  | retire (inj : Bool) (ring : Nat)
  /-- NOP (R58): The NOP command completes with result 0. -/
  | nop (d : Desc)
  /-- JOURNAL_MARK (R58): JOURNAL_MARK copies a host cookie into its journal record. -/
  | journalMark (d : Desc)
  /-- JOURNAL_READ (R58): JOURNAL_READ writes journal records in commit order from a start SEQ into a host buffer. -/
  | journalRead (d : Desc)
  /-- RING_START (R58): RING_CONTROL start clears a ring's STOPPED and resumes fetching from the terminal's index. -/
  | ringStart (d : Desc)
  /-- RING_STOP (R488): RING_CONTROL stop sets a ring's STOPPED with the effects of R488. -/
  | ringStop (d : Desc)
  /-- ENGINE_QUERY (R58): ENGINE_QUERY writes each service engine's running state, restart count and restart program counter. -/
  | engineQuery (d : Desc)
  /-- RING_CFG_WRITE (R88): A write to a ring CFG enables or disables the ring or is discarded with CFG_REFUSED. -/
  | ringCfgWrite (kind n : Nat) (v : Word)
  /-- ENGINE_RESTART (R69): On expiry of its 10 ms watchdog a service engine restarts and its work retires with FAULT. -/
  | engineRestart (k pc : Nat) (work : List Desc) (tasks : List Nat)
  /-- INJECT_DOWNSTREAM (R73): An inject descriptor of opcode 0x0010 places a packet in the downstream walk or a named queue. -/
  | injectDownstream (d : Desc)
  /-- INJECT_UPSTREAM (R73): An inject descriptor of opcode 0x0011 places a packet in the upstream walk or a named queue. -/
  | injectUpstream (d : Desc)
  /-- VECTOR_RAISE (R74): An MSI-X vector is raised when COUNT entries have accumulated or HOLDOFF has passed. -/
  | vectorRaise (kind n : Nat)
  /-- HOST_LOSS (R87): Bus Master Enable clearing or link loss stops fetching while fetched commands execute and are journalled. -/
  | hostLoss (bme link : Bool)
  /-- MIRROR_RECORD (R82): The keeping die writes the oldest unmirrored record to the non-volatile store. -/
  | mirrorRecord (verified : Bool)
  /-- MIRROR_EN (R486): A write of LFG_CFG.MIRROR_EN stops or resumes the mirror at a record boundary. -/
  | mirrorEn (v : Word)
  /-- KEPT_EVENT_HANDOVER (R489): When the inter-die link returns the keeping die hands over the WHS events it kept. -/
  | keptEventHandover
  /-- ARRIVAL (R27): A channel's frame arrival is reported to LTB, which measures its offset and acts on lock, rejoin and timing-channel changes. -/
  | arrival (c : Nat) (pllLock : Bool) (trim : Option Nat)
  /-- STEP (R37): A decided step of the stamp takes effect at cycle 0 of the next frame on both dies and every consumer. -/
  | step
  /-- ARRIVAL_MISSED (R32): A timing-channel arrival not seen by 1 lc after it was due puts LTB in COASTING. -/
  | arrivalMissed
  /-- FORCE_LOCAL (R32): A write of LTB_CTRL.FORCE_LOCAL to 1 enters HOLDOVER and forbids lock. -/
  | forceLocal (v : Word)
  /-- TC_REQUEST (R35): A write of LTB_TC_CFG.TC requests a timing channel, taken at its first eligible arrival. -/
  | tcRequest (v : Word)
  /-- SLEW_DONE (R36): The rejoin slew ends when the offset is within 1 lc of the anchor and SLEWING clears. -/
  | slewDone
  /-- EXT_STOPPED (R40): With no SLEEP_CLK_IN edge for 100 µs the keeping die switches to the crystal-derived sleep source. -/
  | extStopped
  /-- SLEEP_SOURCE_SWITCH (R40): A change of LTB_SLEEP_CFG.SRC takes effect at the next sleep tick and the switch point is recorded. -/
  | sleepSourceSwitch
  /-- RX_LANE_ENABLE (R90): A write of LLN_RXn_CFG.EN enables or disables a receive lane. -/
  | rxLaneEnable (n : Nat) (v : Word)
  /-- CDR_LOCK (R90): Signal detect and CDR lock held for 4,096 lc move a receive lane to LOCK. -/
  | cdrLock (n ctle : Nat)
  /-- TRACK_ENTRY (R90): Lock held a further 4,096 lc moves the lane to TRACK and hands the taps to their source. -/
  | trackEntry (n : Nat)
  /-- ACQ_RETRY (R90): No lock within ACQ_TIMEOUT restarts the CTLE sweep. -/
  | acqRetry (n : Nat) (sig : Bool)
  /-- CDR_LOSS (R90): A sustained phase error or loss of signal detect returns the lane to ACQUIRE and reports loss of clock recovery. -/
  | cdrLoss (n : Nat) (sigLost : Bool)
  /-- TAP_WRITE (R91): A host write of a tap register takes effect under ADAPT HOST or is discarded. -/
  | tapWrite (n k : Nat) (v : Word)
  /-- TX_LANE_ENABLE (R95): A write of LLN_TXn_CFG.EN enables or disables a transmit lane. -/
  | txLaneEnable (n : Nat) (v : Word)
  /-- BEN_RISE (R95): At start stamp minus LEAD the lane raises BEN for a burst that passes the skip checks. -/
  | benRise (n : Nat)
  /-- LAST_BIT_SERIALISED (R95): The last bit of a burst leaves the serialiser. -/
  | lastBitSerialised (n : Nat)
  /-- BEN_FALL (R95): BEN falls LAG lc after the last bit and the burst is counted. -/
  | benFall (n : Nat)
  /-- TX_DISABLE_ASSERTED (R95): Sensed TX_DISABLE moves the lane to SHUT, truncating any burst in progress. -/
  | txDisableAsserted (n : Nat)
  /-- TX_DISABLE_RELEASED (R95): Sensed release of TX_DISABLE returns the lane from SHUT to DARK. -/
  | txDisableReleased (n : Nat)
  /-- LANE_LOOP_SET (R107): LANE_LOOP with a loop kind sets a near-end or far-end loop on a lane in OFF or DOWN. -/
  | laneLoopSet (d : Desc)
  /-- LANE_LOOP_REMOVE (R107): LANE_LOOP with kind 0 removes the loop of a lane in LOOP. -/
  | laneLoopRemove (d : Desc)
  /-- LANE_TEST (R106): LANE_TEST sets a lane's pattern generator and checker. -/
  | laneTest (d : Desc)
  /-- OSA_READ (R106): OSA_ACCESS with the read bit reads an optics register over the management bus. -/
  | osaRead (d : Desc) (held : Bool) (data : Option Nat)
  /-- OSA_WRITE (R106): OSA_ACCESS with the write bit writes an optics register over the management bus. -/
  | osaWrite (d : Desc) (held ack : Bool)
  /-- PORT_EN (R338): A write of HPM_CFG.PORT_EN starts a port's lanes at DOWN or takes the port down. -/
  | portEn (v : Word)
  /-- AN_RESOLVED (R101): A common Clause 73 ability resolves and the port moves to TRAIN or ALIGN. -/
  | anResolved (port : Nat) (partner : List Ability)
  /-- AN_RESTART (R101): Negotiation with no common ability or expired timers restarts. -/
  | anRestart (port : Nat)
  /-- TRAIN_COMPLETE (R101): Link training completes on every lane of the port and the port moves to ALIGN. -/
  | trainComplete (port : Nat) (coeffs : List (Nat × Nat × Nat × Nat))
  /-- TRAIN_FAIL (R101): Training failure or its wait timer returns the port to DOWN. -/
  | trainFail (port : Nat)
  /-- ALIGN_DONE (R101): Every lane locks to alignment markers within skew and the port goes UP. -/
  | alignDone (p : Nat) (skew : List Nat)
  /-- DESKEW_FAIL (R101): No marker lock within 10 ms or excess skew returns the port to DOWN. -/
  | deskewFail (port : Nat) (skew : Option Nat)
  /-- LINK_DOWN (R101): A lane of an UP port loses CDR or marker lock and the port returns to ALIGN. -/
  | linkDown (p lane : Nat) (cdr marker : Bool)
  /-- PSYNC_MATCH (R113): An exact PSync match in HUNT or PRE_SYNC enters a candidate. -/
  | psyncMatch (c align : Nat) (sfc : Option Nat)
  /-- CANDIDATE_CHECK (R113): A candidate is confirmed or discarded 155,520 lc after entry. -/
  | candidateCheck (c align diff : Nat) (sfc : Option Nat) (third : Nat) (thirdOk : Bool)
  /-- PSBD_CHECK (R114): In SYNC each expected PSBd is checked and judged found or a miss. -/
  | psbdCheck (c diff : Nat) (sfc : Option Nat) (third : Nat) (thirdOk : Bool)
  /-- HUNT_RESTART (R112): HUNT_RESTART returns a channel's framing to HUNT. -/
  | huntRestart (d : Desc)
  /-- CODEWORD_DECODE (R118): The LDPC decoder decodes a codeword and counts its outcome. -/
  | codewordDecode (c : Nat) (zero1 zero2 : Bool) (iters bitsChanged : Nat) (decoded : Bool)
  /-- XGEM_FRAME (R122): An XGEM header is delineated and its frame accepted, bonded, reassembled or discarded. -/
  | xgemFrame (x : XgemHdr)
  /-- REORDER_RELEASE (R126): A held bonded frame is released when every other member's position has passed its key. -/
  | reorderRelease (fail : Option ReorderFail)
  /-- BOND_STALL (R127): A member whose position has not advanced for STALL_US is suspended. -/
  | bondStall (c : Nat)
  /-- PARKING_DONE (R127): A PARKING member goes OUT when its position reaches the agreed frame. -/
  | parkingDone (c : Nat)
  /-- LOS_DECLARED (R131): SIG_DET at 0 for LOS_SET_US declares LOS on the channel. -/
  | losDeclared (c : Nat)
  /-- LOS_CLEARED (R131): SIG_DET at 1 for LOS_CLR_FR frames clears LOS. -/
  | losCleared (c : Nat)
  /-- PRC_FRAME_JUDGED (R138): A path's head-end frame is judged for its protection request message once every in-sync channel has passed it. -/
  | prcFrameJudged (p k : Nat)
  /-- LINE_SECOND (R139): At each line-second boundary DSF marks the second for every channel. -/
  | lineSecond (frame : Nat)
  /-- PM_BIN_CLOSED (R140): A 15-minute or 24-hour bin closes at its boundary with its flags. -/
  | pmBinClosed (day : Bool) (frame : Nat)
  /-- PM_PHASE_CHANGE (R140): A write of DSF_PM_CFG.PHASE closes the current bins at once, flagged STEPPED. -/
  | pmPhaseChange (v : Word)
  /-- PORT_SET (R144): PORT_SET writes a Port-ID table entry. -/
  | portSet (d : Desc)
  /-- PM_READ (R143): PM_READ writes one performance bin record. -/
  | pmRead (d : Desc)
  /-- PM_THRESHOLD (R144): PM_THRESHOLD sets a counter's threshold-crossing value. -/
  | pmThreshold (d : Desc)
  /-- ACT_IDENTITY (R167): ACT_IDENTITY sets the serial number and registration ID. -/
  | actIdentity (d : Desc)
  /-- CH_ENABLE (R168): CH_CONTROL enable moves a DISABLED channel to O1.1 or O7 and may set the active path. -/
  | chEnable (d : Desc)
  /-- CH_DISABLE (R149): CH_CONTROL disable moves a channel to DISABLED and drops its context. -/
  | chDisable (d : Desc)
  /-- BOND_SET (R160): BOND_SET sets the member mask, adding or removing channels from the bonding group. -/
  | bondSet (d : Desc)
  /-- PARK (R165): PARK with the park bit starts a parking exchange and completes when it settles. -/
  | park (d : Desc)
  /-- UNPARK (R165): PARK with the unpark bit starts an unparking exchange and completes when it settles. -/
  | unpark (d : Desc)
  /-- ACT_QUERY (R167): ACT_QUERY writes the status, EqD, CAL and reference of every channel. -/
  | actQuery (d : Desc)
  /-- ALLOC_READ (R167): ALLOC_READ writes a channel's Alloc-IDs. -/
  | allocRead (d : Desc)
  /-- BURST_PROFILE (R175): A burst profile PLOAM is loaded into UBE and the Whistle context and may move O1.2 to O2-3. -/
  | burstProfile (c k : Nat) (p : Profile) (m : Ploam)
  /-- ASSIGN_ONU_ID (R149): Assign_ONU-ID naming the terminal's serial number gives the channel an ONU-ID and moves it to O4. -/
  | assignOnuId (c onu : Nat) (eqd : Option Nat) (m : Ploam)
  /-- RANGING_TIME (R157): Ranging_Time loads a new EqD or is negatively acknowledged when out of range. -/
  | rangingTime (c : Nat) (eqd : Int) (m : Ploam)
  /-- ASSIGN_ALLOC_ID (R158): Assign_Alloc-ID adds or removes an Alloc-ID entry for the channel. -/
  | assignAllocId (c alloc : Nat) (add : Bool) (m : Ploam)
  /-- DEACTIVATE_ONU_ID (R149): Deactivate_ONU-ID drops the channel's ONU-ID, EqD and Alloc-IDs. -/
  | deactivateOnuId (c : Nat) (m : Ploam)
  /-- DISABLE_SERIAL_NUMBER (R149): Disable_Serial_Number enters or releases the emergency stop. -/
  | disableSerialNumber (c : Nat) (disable : Bool) (m : Ploam)
  /-- TUNING_CONTROL (R161): A Tuning_Control request is accepted or refused by NACK. -/
  | tuningControl (c target rollout : Nat) (both cancel : Bool) (reason : Nat) (m : Ploam)
  /-- KEY_REQUEST (R366): The head end's key request makes the Caddy generate and wrap a new PON data key. -/
  | keyRequest (c i frame : Nat) (long : Bool) (fetch : KeyFetch) (m : Ploam)
  /-- TIMER_EXPIRED (R151): Expiry of activation timer TO1 to TO5 moves the channel as R149 lays down. -/
  | timerExpired (c timer : Nat)
  /-- PARK_ENTRY (R149): Once the grants for frame Fp − 1 are served a PARK_PENDING channel enters O5.P. -/
  | parkEntry (c : Nat)
  /-- UNPARK_APPLY (R149): At the map of the agreed frame a parked channel returns to O5.1 and rejoins the group. -/
  | unparkApply (c : Nat)
  /-- ROLLOUT (R162): At the rollout frame the context moves from the source channel to the target. -/
  | rollout (c : Nat)
  /-- PARK_WINDOW (R163): At the end of each load window service engine 3 decides whether to request parking or unparking. -/
  | parkWindow
  /-- PARK_ANSWER (R164): The head end's answer to a parking exchange schedules, refuses or is negatively acknowledged. -/
  | parkAnswer (c frame : Nat) (agreed : Bool) (m : Ploam)
  /-- PARK_TIMEOUT (R164): No answer within AGREE_MS settles the exchange as no answer. -/
  | parkTimeout
  /-- ALLOCATION_STRUCTURE (R172): UBE and the Whistle take a bandwidth-map allocation structure and plan a burst and its window. -/
  | allocationStructure (a : AllocStruct)
  /-- FILLING (R178): At s − FILL_LEAD UBE asks TMG for the allocation's payload and builds the burst. -/
  | filling (c : Nat) (cell : Option (Nat × Nat × Nat))
  /-- HANDED (R178): Complete encrypted content is handed to the lane. -/
  | handed (c : Nat) (cell : Option (Nat × Nat × Nat))
  /-- LATE_FILL (R179): At s − LEAD − 64 an incomplete burst is completed with idle and handed over. -/
  | lateFill (c : Nat) (cell : Option (Nat × Nat × Nat))
  /-- CONTEXT_EXCHANGE (R187): ACT sends a changed channel context to the Whistle and both apply it from the named frame on CRC match. -/
  | contextExchange (c mismatches : Nat)
  /-- CONTEXT_CHECK (R188): At each frame boundary the Whistle compares each context CRC with its stored copy. -/
  | contextCheck (c : Nat) (crcOk parityOk : Bool)
  /-- LINK_LOSS (R188): Link frames failing for more than two frames assert TX_DISABLE on every lane as a hold. -/
  | linkLoss (frames : Nat)
  /-- MAP_GAP (R191): A failed map link frame or missing or misplaced strobe holds the lane dark over the frame's span. -/
  | mapGap (c k : Nat) (cause : GapCause)
  /-- TIME_DIVERGE (R192): At a frame boundary the Whistle compares its line count with LTB's stamp. -/
  | timeDiverge (diff : Int)
  /-- CRYSTAL_SPAN_CHECK (R192): Each 64-frame span is measured against the crystal and a span off by over 200 ppm is a violation. -/
  | crystalSpanCheck (spanNs : Nat)
  /-- OUTSIDE_WINDOW (R194): BEN high outside every window for DEB + 1 line cycles is declared an OUTSIDE_WINDOW violation. -/
  | outsideWindow (c : Nat) (a b : Int)
  /-- DARK_VIOLATION (R193): Eight consecutive crystal samples of BEN or light during the dark signal are a DARK violation. -/
  | darkViolation (c samples quiet : Nat)
  /-- SWEEP (R193): Every 100 µs the sweep examines the sticky latches of unassigned lanes. -/
  | sweep (mask : Nat)
  /-- EYE_SAMPLE (R193): Each 1 ms power-monitor sample is compared with the eye-safety limit. -/
  | eyeSample (c code : Nat)
  /-- SELFTEST_END (R199): The self-test ends and the Whistle moves to ARMED, ROGUE_SHUT or SELFTEST_FAIL. -/
  | selftestEnd (failed : Nat)
  /-- PERIODIC_SELFTEST (R199): Once a second in ARMED the Whistle repeats steps 2 and 5. -/
  | periodicSelftest (failed : Nat)
  /-- WHS_REENABLE (R198): WHS_REENABLE clears the latch and returns the Whistle to ARMED when permitted. -/
  | whsReenable (d : Desc)
  /-- WHS_SELFTEST (R203): WHS_SELFTEST starts the self-test and retires when it ends. -/
  | whsSelftest (d : Desc)
  /-- WHS_QUERY (R202): WHS_QUERY writes the Whistle's status registers to a host buffer. -/
  | whsQuery (d : Desc)
  /-- STRAINER_PASS (R221): A frame's window is classified in one Strainer pass and its decision handed on. -/
  | strainerPass (bytes memErr : List Nat)
  /-- LENGTH_CHECK (R232): At the frame's last byte the length check completes and LEN_POLICY applies. -/
  | lengthCheck (id : Nat)
  /-- DRAIN_END (R229): When DRAIN reaches 0 the old bank becomes STANDBY and the swap completes. -/
  | drainEnd
  /-- RULE_WRITE (R235): RULE_WRITE writes rule records into a standby bank. -/
  | ruleWrite (d : Desc)
  /-- RULE_READ (R235): RULE_READ reads rule records and hit counts. -/
  | ruleRead (d : Desc) (memErr : List Nat)
  /-- RULE_COPY (R235): RULE_COPY copies the active bank into the standby bank. -/
  | ruleCopy (d : Desc) (memErr : List Nat)
  /-- RULE_SWAP (R229): RULE_SWAP makes the standby bank active and starts the old bank's drain. -/
  | ruleSwap (d : Desc)
  /-- PROFILE_SET (R223): PROFILE_SET writes a parse profile into a standby bank. -/
  | profileSet (d : Desc)
  /-- SELECTOR_SET (R211): SELECTOR_SET writes a selector group into a standby bank. -/
  | selectorSet (d : Desc)
  /-- INGRESS_MAP (R211): INGRESS_MAP writes ingress map entries into a standby bank. -/
  | ingressMap (d : Desc)
  /-- RESTEEP_SET (R224): RESTEEP_SET writes a Resteep queue definition into a standby bank. -/
  | resteepSet (d : Desc)
  /-- LOOKUP (R245): TBL looks up a frame's key and applies hit or miss to its action. -/
  | lookup (fails : Nat)
  /-- INSERT (R252): INSERT places a key in a free slot, by a displacement chain, or in the stash. -/
  | insert (fails during : Nat)
  /-- UPDATE (R251): UPDATE replaces the whole entry holding a key. -/
  | update (fails during : Nat)
  /-- DELETE (R251): DELETE removes a key from the table. -/
  | delete (fails during : Nat)
  /-- READ (R251): READ finds a key and returns its entry in staging. -/
  | read (fails during : Nat)
  /-- READ_SLOT (R251): READ_SLOT returns the entry of a slot. -/
  | readSlot (slot fails during : Nat)
  /-- WRITE_SLOT (R251): WRITE_SLOT replaces the entry of an occupied slot. -/
  | writeSlot (slot during : Nat)
  /-- DELETE_SLOT (R251): DELETE_SLOT empties an occupied slot. -/
  | deleteSlot (slot during : Nat)
  /-- TABLE_BATCH (R255): TABLE_BATCH executes its elements through the window in buffer order. -/
  | tableBatch (d : Desc) (fails : List Nat) (during : Nat)
  /-- FLOW_COUNT_READ (R256): FLOW_COUNT_READ writes flow counters and optionally clears them. -/
  | flowCountRead (d : Desc)
  /-- TABLE_READY (R241): When every QDR line has been initialised TBL_STATUS.READY is set. -/
  | tableReady
  /-- FP_REBUILD (R250): An uncorrectable fingerprint row is rebuilt from its 32 lines. -/
  | fpRebuild (array n tile mac row : Nat) (bad : List Nat)
  /-- AGE_EPOCH (R260): Every EPOCH_MS the aging epoch advances by one. -/
  | ageEpoch
  /-- DELETE_IF_STALE (R262): The scanner's delete of a stale slot commits or is abandoned at its freshness stage. -/
  | deleteIfStale (fails : Nat)
  /-- FRESHNESS_CLAMP (R261): A clamp rewrites a stamp older than 32,767 epochs. -/
  | freshnessClamp
  /-- FILTER_EXPIRY (R258): A learn filter entry expires WINDOW_US after its first stamp. -/
  | filterExpiry
  /-- ADMISSION (R271): At a frame's last byte TMG meters it, admits or discards it, and links it into its queue. -/
  | admission
  /-- TAIL_WRITE (R278): A tail page is written to the Kettle when full or when TAIL_US expires. -/
  | tailWrite (k : Nat)
  /-- REFILL (R278): A Kettle page read completes and joins the queue's head. -/
  | refill (k : Nat) (bad : List Nat)
  /-- DOWNSTREAM_DEQUEUE (R286): When HPM asks a port for a frame TMG selects a queue and dequeues its head. -/
  | downstreamDequeue (p : Nat) (sfd : Sfd) (cell : Option (Nat × Nat × Nat))
  /-- CALENDAR_RELEASE (R283): A calendar entry whose time is reached is released and its entity wakes. -/
  | calendarRelease
  /-- COARSE_REDISTRIBUTE (R282): A coarse slot is redistributed into the fine ring 4,096 lc before it starts. -/
  | coarseRedistribute
  /-- FAR_LIST_SCAN (R282): Every 2,048 coarse slots the far list moves near entries to the coarse ring. -/
  | farListScan
  /-- DEPTH_SAMPLE (R290): Every SAMPLE_US the sampler bins each watched queue's occupancy. -/
  | depthSample
  /-- QUEUE_SET (R292): QUEUE_SET sets a queue's parameters and state. -/
  | queueSet (d : Desc)
  /-- QUEUE_READ (R292): QUEUE_READ writes queue records. -/
  | queueRead (d : Desc)
  /-- QUEUE_FLUSH (R295): QUEUE_FLUSH discards every frame of a draining queue and retires when done. -/
  | queueFlush (d : Desc)
  /-- GROUP_SET (R292): GROUP_SET sets a group's port, TC, weight and shaper. -/
  | groupSet (d : Desc)
  /-- PORT_TC_SET (R292): PORT_TC_SET sets a port's strict TCs and weights. -/
  | portTcSet (d : Desc)
  /-- METER_SET (R292): METER_SET sets a meter's mode and rates. -/
  | meterSet (d : Desc)
  /-- METER_READ (R292): METER_READ writes meter records. -/
  | meterRead (d : Desc)
  /-- WATCH_SET (R292): WATCH_SET names a watched queue for a sampler slot. -/
  | watchSet (d : Desc)
  /-- SAMPLER_READ (R292): SAMPLER_READ writes sampler histograms. -/
  | samplerRead (d : Desc)
  /-- DDR_TRAIN (R303): A write of MEM_DDR_CFG.TRAIN in SETUP starts DDR5 training. -/
  | ddrTrain (v : Word)
  /-- DDR_TRAINING_END (R305): DDR5 training ends and the channels enter SERVICE or return to OFF. -/
  | ddrTrainingEnd (fails : List TrainFail)
  /-- QDR_TRAIN (R325): A write of MEM_QDR_CFG.TRAIN in SETUP starts QDR-IV training. -/
  | qdrTrain (v : Word)
  /-- QDR_TRAINING_END (R325): QDR-IV training ends and the group enters SERVICE or stays OFF. -/
  | qdrTrainingEnd (fail : Option TrainFail)
  /-- PARITY_ALERT (R316): A DDR5 parity alert replays the unretired entries or freezes the channel. -/
  | parityAlert (n : Nat) (reqs : List MemReq) (sub rank row : Nat)
  /-- ENTRY_RETIRE (R315): A retry-buffer entry retires ALERT_WIN after issue with no alert and its read data is delivered. -/
  | entryRetire (n : Nat) (reqs : List MemReq)
  /-- QDR_PARITY_ERROR (R326): A QDR-IV address parity error replays the buffered writes. -/
  | qdrParityError
  /-- REFETCH (R310): A line failing its outer check is read again and ends corrected or uncorrectable. -/
  | refetch (itf line client fails : Nat) (work : Option Desc)
  /-- NARROW_WRITE (R312): A narrow engine-region write is carried out as read, merge and whole-line write. -/
  | narrowWrite (e a fails : Nat) (bytes : List Nat) (work : Option Desc)
  /-- REGULATOR_PERIOD (R322): At each regulator period each client's budget is renewed. -/
  | regulatorPeriod
  /-- SETTLE_END (R322): SETTLE_US after entry to SERVICE the channel returns to regulated mode. -/
  | settleEnd (n : Nat)
  /-- RINSE_PASS (R328): A Rinse pass ends and its summary is recorded. -/
  | rinsePass (itf skipped ecs : Nat)
  /-- MEM_RESUME (R320): MEM_CONTROL resume retrains a frozen channel and issues its held requests. -/
  | memResume (d : Desc)
  /-- MEM_FREEZE (R318): MEM_CONTROL freeze freezes a channel in SERVICE. -/
  | memFreeze (d : Desc)
  /-- MEM_TEST_ENTRY (R332): MEM_CONTROL test entry moves a channel to TEST. -/
  | memTestEntry (d : Desc)
  /-- MEM_TEST_EXIT (R332): MEM_CONTROL test exit returns a channel from TEST to SERVICE. -/
  | memTestExit (d : Desc)
  /-- MEM_FREQ (R307): MEM_FREQ moves every DDR5 channel to the other timing set. -/
  | memFreq (d : Desc) (us : Nat) (escalated : Option (Nat × Nat × Nat)) (failed : List Nat)
  /-- MEM_TEST (R330): MEM_TEST writes and checks pattern lines in a channel under test. -/
  | memTest (d : Desc) (errors : Nat)
  /-- MEM_DIAG_READ (R330): MEM_DIAG_READ writes a channel's freeze snapshot. -/
  | memDiagRead (d : Desc)
  /-- MEM_TRACK_READ (R330): MEM_TRACK_READ writes the recurrence tracker entries. -/
  | memTrackRead (d : Desc)
  /-- MEM_TRACK_CLEAR (R330): MEM_TRACK_CLEAR frees tracker entries. -/
  | memTrackClear (d : Desc)
  /-- MEM_LINE_REWRITE (R314): MEM_LINE_REWRITE reads a line with refetch and writes a good copy back. -/
  | memLineRewrite (d : Desc) (fails : Nat)
  /-- MEM_PAGE_RETIRE (R314): MEM_PAGE_RETIRE marks a Kettle page for retirement. -/
  | memPageRetire (d : Desc)
  /-- RINSE_READ (R330): RINSE_READ writes an interface's Rinse pass summaries. -/
  | rinseRead (d : Desc)
  /-- RX_FRAME (R341): A host port receives a frame and checks its size and FCS. -/
  | rxFrame (p : Nat) (bytes : List Nat) (pcsErr fcsOk : Bool) (sfd : Sfd) (tag : SecTag)
  /-- PAUSE_TIMER_EXPIRY (R345): A receive pause timer runs out and its TCs are released. -/
  | pauseTimerExpiry (p i : Nat)
  /-- FC_REFRESH (R348): Every REFRESH quanta in XOFF the port resends a PAUSE or PFC frame. -/
  | fcRefresh (p : Nat)
  /-- PORT_STATS (R357): PORT_STATS captures a port's counters in one line cycle. -/
  | portStats (d : Desc) (fec : List Nat)
  /-- WAKE_PATTERN_ENABLE (R358): WAKE_PATTERN_SET with enable writes and enables a wake pattern. -/
  | wakePatternEnable (d : Desc)
  /-- WAKE_PATTERN_DISABLE (R358): WAKE_PATTERN_SET with disable disables a wake pattern. -/
  | wakePatternDisable (d : Desc)
  /-- SA_ENABLE (R372): SA_SET with EN 1 installs an SA and binds its key slot. -/
  | saEnable (d : Desc) (fetch : KeyFetch)
  /-- SA_DISABLE (R372): SA_SET with EN 0 takes an SA to OFF and unbinds its key slot. -/
  | saDisable (d : Desc)
  /-- SA_READ (R381): SA_READ writes SA records. -/
  | saRead (d : Desc)
  /-- TX_SA_SELECT (R372): TX_SA_SELECT makes a READY transmit SA the port's SA in use. -/
  | txSaSelect (d : Desc)
  /-- PORT_KEY_SET (R368): PORT_KEY_SET writes entries of the Port-ID key table. -/
  | portKeySet (d : Desc)
  /-- KEY_IMPORT (R378): KEY_IMPORT unwraps a key into an empty slot. -/
  | keyImport (d : Desc) (plain : Option (Nat × Nat))
  /-- KEY_ERASE (R382): KEY_ERASE empties one slot or every host slot. -/
  | keyErase (d : Desc)
  /-- KEY_QUERY (R381): KEY_QUERY writes slot states, check values and PN floors. -/
  | keyQuery (d : Desc)
  /-- UP_INDEX_SWITCH (R369): At the named frame a channel's upstream key index changes. -/
  | upIndexSwitch (c : Nat)
  /-- TOD_SET (R389): TOD_SET applies a head-end ToD message to the relation. -/
  | todSet (d : Desc)
  /-- TOD_READ (R395): TOD_READ captures the stamp, ToD, servo state and epochs. -/
  | todRead (d : Desc)
  /-- SERVO_SAMPLE (R391): SERVO_SAMPLE applies a PTP offset to the servo. -/
  | servoSample (d : Desc)
  /-- TRIG_SET (R397): TRIG_SET arms, re-arms or disarms a trigger output. -/
  | trigSet (d : Desc)
  /-- TOD_SLEW_DONE (R389): The PON slew of Φ arrives and TIM_STATUS.SLEWING clears. -/
  | todSlewDone
  /-- SERVO_FALLBACK (R391): With no sample within HOLD_SAMPLES intervals y falls back to the integral term. -/
  | servoFallback
  /-- PPS_EDGE (R396): PPS_OUT rises as ToD crosses a whole second. -/
  | ppsEdge
  /-- TRIG_FIRED (R398): A trigger occurrence falls due and fires, fires late or is missed. -/
  | trigFired (t : Nat)
  /-- CAPTURE (R399): An edge on a capture input is stamped. -/
  | capture (c : Nat) (rising : Bool) (ago fine : Nat)
  /-- PSYNC_UNIT (R406): At each cycle 0 PRT judges the PSync heartbeat unit of each path and the request in force. -/
  | psyncUnit
  /-- KEEP_ALIVE_UNIT (R406): At each KA_MS period PRT judges the keep-alive heartbeat of each path. -/
  | keepAliveUnit
  /-- PATH_CHANGE (R412): At F1 ACT_STATUS.PATH changes and standby channels enter O5.1. -/
  | pathChange
  /-- STANDBY_LOAD (R410): PRT loads a standby channel with the working channel's context and computed EqD. -/
  | standbyLoad (k : Nat)
  /-- WTR_EXPIRY (R413): Expiry of the wait-to-restore timer decides a switch to the working path. -/
  | wtrExpiry
  /-- EXERCISE_END (R416): The exercise duration ends and PRT switches back. -/
  | exerciseEnd
  /-- PRT_EN (R417): A write of PRT_CFG.EN starts or stops protection. -/
  | prtEn (v : Word)
  /-- SB_FAULT_CLR (R416): A write of PRT_CFG.SB_FAULT_CLR clears SB_UP_FAULT. -/
  | sbFaultClr (v : Word)
  /-- LOCKOUT (R418): PRT_REQUEST with code 0x10 requests a lockout of protection. -/
  | lockout (d : Desc)
  /-- FORCED_SWITCH (R418): PRT_REQUEST with code 0x11 requests a forced switch. -/
  | forcedSwitch (d : Desc)
  /-- MANUAL_SWITCH (R418): PRT_REQUEST with code 0x14 requests a manual switch. -/
  | manualSwitch (d : Desc)
  /-- EXERCISE (R416): PRT_REQUEST with code 0x15 requests an exercise of the protection path. -/
  | exercise (d : Desc)
  /-- CLEAR (R409): PRT_REQUEST with code 0x16 removes the host's local requests. -/
  | clear (d : Desc)
  /-- STREAM_SET (R431): A source delivers a set into a core's input FIFO or it is dropped. -/
  | streamSet (src : Nat) (ws : List Nat)
  /-- CORE_NOP (R433): The NOP instruction does nothing. -/
  | coreNop (n : Nat) (p : CoreParity)
  /-- HALT (R433): HALT moves the core to HALTED. -/
  | halt (n : Nat) (p : CoreParity)
  /-- SIG (R433): SIG writes INF_SIGNAL with its code and ITER. -/
  | sig (n : Nat) (p : CoreParity)
  /-- WAIT (R434): WAIT idles the core n core cycles. -/
  | wait (n : Nat) (p : CoreParity)
  /-- LOOP (R433): LOOP runs the following body a counted number of times. -/
  | loop (n : Nat) (p : CoreParity)
  /-- BR (R433): BR branches on its condition. -/
  | br (n : Nat) (p : CoreParity)
  /-- LDI (R433): LDI loads an immediate value into a register. -/
  | ldi (n : Nat) (p : CoreParity)
  /-- LD (R424): LD loads a register from data memory. -/
  | ld (n : Nat) (p : CoreParity)
  /-- ST (R424): ST stores a register to data memory. -/
  | st (n : Nat) (p : CoreParity)
  /-- MLD (R425): MLD with MOP none makes up to two pointer loads. -/
  | mld (n : Nat) (p : CoreParity)
  /-- MAC (R427): MLD with MOP MAC adds a product to the accumulator with its loads. -/
  | mac (n : Nat) (p : CoreParity)
  /-- MSB (R427): MLD with MOP MSB subtracts a product from the accumulator with its loads. -/
  | msb (n : Nat) (p : CoreParity)
  /-- MUL (R427): MLD with MOP MUL loads a product into the accumulator with its loads. -/
  | mul (n : Nat) (p : CoreParity)
  /-- ADD (R426): ALU ADD adds two registers, wrapping or saturating. -/
  | add (n : Nat) (p : CoreParity)
  /-- SUB (R426): ALU SUB subtracts two registers, wrapping or saturating. -/
  | sub (n : Nat) (p : CoreParity)
  /-- AND (R433): ALU AND forms the bitwise and. -/
  | and (n : Nat) (p : CoreParity)
  /-- OR (R433): ALU OR forms the bitwise or. -/
  | or (n : Nat) (p : CoreParity)
  /-- XOR (R433): ALU XOR forms the bitwise exclusive or. -/
  | xor (n : Nat) (p : CoreParity)
  /-- MOV (R433): ALU MOV copies a register. -/
  | mov (n : Nat) (p : CoreParity)
  /-- SHF (R426): ALU SHF shifts a register by an amount or by BE minus it. -/
  | shf (n : Nat) (p : CoreParity)
  /-- SGNB (R426): ALU SGNB writes the redundant sign bits of a register. -/
  | sgnb (n : Nat) (p : CoreParity)
  /-- BLKX (R430): ALU BLKX lowers BE to an operand's redundant sign bits. -/
  | blkx (n : Nat) (p : CoreParity)
  /-- CLR (R433): ACC CLR clears an accumulator. -/
  | clr (n : Nat) (p : CoreParity)
  /-- LDA (R433): ACC LDA loads an accumulator from a register shifted by 16. -/
  | lda (n : Nat) (p : CoreParity)
  /-- ADDX (R428): ACC ADDX adds the other accumulator. -/
  | addx (n : Nat) (p : CoreParity)
  /-- SHA (R428): ACC SHA shifts an accumulator. -/
  | sha (n : Nat) (p : CoreParity)
  /-- STA (R429): ACC STA stores an accumulator to a register with shift, rounding and saturation. -/
  | sta (n : Nat) (p : CoreParity)
  /-- IN (R433): IN takes the next word of an input or blocks. -/
  | inp (n : Nat) (p : CoreParity)
  /-- IN_COMPLETE (R435): A word arrives for a blocked IN, which completes. -/
  | inComplete (n : Nat)
  /-- OUT (R432): OUT writes a word to a tap or bus port or blocks. -/
  | out (n : Nat) (room : Bool) (p : CoreParity)
  /-- OUT_COMPLETE (R435): Room arrives for a blocked OUT, which completes. -/
  | outComplete (n : Nat)
  /-- INF_LOAD (R437): INF_LOAD writes instructions into a halted core's program memory. -/
  | infLoad (d : Desc)
  /-- INF_START (R435): INF_CONTROL start runs a core from its entry address. -/
  | infStart (d : Desc)
  /-- INF_HALT (R435): INF_CONTROL halt halts a running or waiting core. -/
  | infHalt (d : Desc)
  /-- INF_DATA_READ (R437): INF_DATA read reads a core's data memory. -/
  | infDataRead (d : Desc) (bad : Option (Nat × Nat))
  /-- INF_DATA_WRITE (R437): INF_DATA write writes a core's data memory. -/
  | infDataWrite (d : Desc) (bad : Option (Nat × Nat))
  /-- DOMAIN_POWER_DOWN (R443): An AUTO domain idle for IDLE_US powers down to RET or OFF. -/
  | domainPowerDown (n sl : Nat)
  /-- DOMAIN_READY (R444): A waking domain becomes ON and its stalled demands are served. -/
  | domainReady (n sl : Nat) (qdrFail : Bool) (keys : List (Nat × KeyFetch))
  /-- WAKE_TIMEOUT (R444): A demand not served 12 µs after it arrived completes as a timeout. -/
  | wakeTimeout
  /-- HOLD_INTERVAL_END (R450): The Simmer hold interval ends and the controller enters FREE. -/
  | holdIntervalEnd
  /-- SIMMER_ENTRY (R448): From FREE an entry is attempted, every unit polled and the sleep request sent. -/
  | simmerEntry
  /-- ENTRY_TIMEOUT (R449): A channel without a grant within ENTRY_MS aborts the entry. -/
  | entryTimeout (c : Nat)
  /-- DARK_GUARD_END (R449): DARK_GUARD after the last BEN fall the dark signal is asserted and the remaining entry steps run. -/
  | darkGuardEnd
  /-- LOW_POWER_END (R450): The low-power interval of DOZE or SLEEP ends and the terminal wakes into AWARE. -/
  | lowPowerEnd
  /-- AWARE_END (R450): The aware interval ends and the terminal re-enters the mode or returns to HELD. -/
  | awareEnd
  /-- SAMPLE (R451): At each watchful-sleep sample period the sample channel is powered and framed. -/
  | sample
  /-- SAMPLE_END (R451): After SAMPLE_FRAMES frames the comparator finds an indication or the terminal returns to WATCH. -/
  | sampleEnd (forced : Bool) (ploams : List Nat)
  /-- SAMPLE_TIMEOUT (R450): No SYNC within 1 ms of a sample counts a miss or wakes after MISS_WAKE misses. -/
  | sampleTimeout
  /-- WAKING (R452): A wake powers every domain, exits self-refresh and restarts the core clock. -/
  | waking (arr : Option (Nat × Nat)) (memFail : List Nat) (qdrFail : Bool) (keys : List (Nat × KeyFetch))
  /-- WAKE_COMPLETE (R450): With every domain ready and the dark signal released the controller enters HELD. -/
  | wakeComplete
  /-- SIMMER_WAKE (R456): SIMMER_WAKE wakes the terminal and completes on entry to HELD. -/
  | simmerWake (d : Desc)
  /-- SIMMER_HOLD (R456): SIMMER_HOLD with DW5 [0] 1 holds the terminal awake. -/
  | simmerHold (d : Desc)
  /-- SIMMER_RELEASE (R456): SIMMER_HOLD with DW5 [0] 0 releases the hold. -/
  | simmerRelease (d : Desc)
  /-- PWR_QUERY (R456): PWR_QUERY writes the power status registers. -/
  | pwrQuery (d : Desc)
  /-- TX_PLL_LOCK (R95): The transmit lane's serialiser PLL locks while EN is 1 and the lane moves from OFF to DARK. -/
  | txPllLock (n : Nat)
  /-- LIGHT_PRESENT (R193): The light-present comparator finds light on an assigned lane outside every window with BEN low, and OUTSIDE_WINDOW is declared within 1 µs. -/
  | lightPresent (c code : Nat) (a b : Int)
  /-- HEAD_END_PARK (R165): A park or unpark that the head end initiates is scheduled for the frame it names, whatever MIN_ACTIVE and the load. -/
  | headEndPark (c frame : Nat) (park : Bool) (m : Ploam)
  /-- HEAD_END_POWER_MESSAGE (R450): The head end's power-management message grants or withdraws Simmer permission, sets the intervals, or forces a wake. -/
  | headEndPowerMessage (c : Nat) (msg : PowerMsg) (m : Ploam)
  /-- GROUP_KEY_MESSAGE (R362): The head end's group key message is unwrapped by the Caddy under the channel's KEK into a PON group key slot. -/
  | groupKeyMessage (c i : Nat) (plain : Option (Nat × Bool)) (fetch : KeyFetch)
  /-- MAP_GAP_HOLD_END (R191): The map-gap hold on a lane ends 155,520 lc after the expected reference of frame k and TX_DISABLE is released. -/
  | mapGapHoldEnd (c : Nat)
  /-- PULSE_WIDTH_END (R397): A PPS_OUT or trigger output returns to its inactive level WIDTH after it went active. -/
  | pulseWidthEnd (w : Nat)
  deriving DecidableEq, Repr

end Sys2Proof
end

