-- ==== Sys2Proof/Decode.lean ====
section
/-!
DEFINITION. Sys2Proof/Decode.lean: commands spelled by a word of bits, and the sixteen words of a descriptor. No row of spec/opcode_table.json gives bits, so no word
spells a command; a descriptor's words, which COMMAND_FETCH reads, are laid out by R57.
-/
namespace Sys2Proof

/-- The command that the low `nbits` bits of `w` spell by the table's bits: the table gives no row any. -/
def decodeTableWord (_nbits _w : Nat) : Option Instr := none

/-- The descriptor that sixteen words hold, in the ring and at the index it was fetched from (R57); `data` is the content of the buffer it names. -/
def descOf (ring index : Nat) (words : List Nat) (data : List Word) : Desc :=
  let w := fun k => words.getD k 0
  { ring := ring, index := index, tag := bits (w 0) 31 16, opcode := bits (w 0) 15 0, durable := bit (w 1) 4, buf := bit (w 1) 3, irq := bit (w 1) 2,
    quiet := bit (w 1) 1, fence := bit (w 1) 0, bufAddr := w 3 % 2 ^ 32 * 2 ^ 32 + w 2 % 2 ^ 32, bufLen := bits (w 4) 23 0,
    args := (List.range 11).map (fun k => BitVec.ofNat 32 (w (5 + k))), data := data }

/-- The sixteen words of a descriptor (R57). -/
def descWords (d : Desc) : List Nat :=
  [d.tag % 2 ^ 16 * 2 ^ 16 + d.opcode % 2 ^ 16, b2n d.durable * 16 + b2n d.buf * 8 + b2n d.irq * 4 + b2n d.quiet * 2 + b2n d.fence,
   d.bufAddr % 2 ^ 32, d.bufAddr / 2 ^ 32 % 2 ^ 32, d.bufLen % 2 ^ 24] ++ (List.range 11).map (fun k => d.dw (5 + k))

end Sys2Proof
end

