-- ==== Sys2Proof/Config.lean ====
section
/-!
DEFINITION. Sys2Proof/Config.lean: what the spec leaves open (free values) and the functions whose definition
stands in another standard and not in this spec. None has a body: nothing in Lean can evaluate them, so a claim
holds whatever they are.
-/
namespace Sys2Proof.Config

/-- The n-th free value: where the spec states an effect but not a value, the step takes `free n` for the counter
`n` that State holds, and advances the counter (log entry 3). -/
opaque free : Nat → Nat

/-- AES of the zero block under a key of the length given in bits, a number of 128 bits: check values are its top bits (R363, R381; AES stands in FIPS 197). -/
opaque keyCheck : Nat → Nat → Nat

/-- The keys fixed at manufacture, by slot: the device import key and the image-verification key (R362, R363; each part has its own). -/
opaque partKey : Nat → Nat

/-- The first header word of a trace of a lane at a spacing (R431: the packing of the two is not stated). -/
opaque traceHeader : (lane spacing : Nat) → Nat

/-- The transmit coefficients of a Clause 136 initial preset, laid out as HPM_SDn_TXFFE (R100, R110; the presets stand in IEEE 802.3). -/
opaque presetCoeffs : Nat → Nat

/-- Byte `i` of the line at index `line` under a test pattern (PRBS7, PRBS23 or walking one) from a seed (R304, R330: the generators' phases are not stated). -/
opaque patternByte : (pattern seed line i : Nat) → Nat

/-- The rank of a channel-local address where two ranks are fitted (R299: the mapping is fixed and not stated). -/
opaque ddrRank : Nat → Nat

/-- Byte `i` of the 64 that a service engine's task takes in the Saucer, by engine and task code (R65; they are its firmware's and not stated). -/
opaque taskByte : (engine code i : Nat) → Nat

end Sys2Proof.Config
end

