-- ==== Sys2Proof/Machine/RegMap.lean ====
section
/-!
DEFINITION. Sys2Proof/Machine/RegMap.lean: every register of BAR0 (R480), field by field: BAR0 byte address of the
instance 0, distance between instances, number of instances, bit range, access code (R10) and reset value, from the
register tables of each unit's chapter (R45, R88, R110, R147, R171, R206, R207, R239, R264, R297, R335, R361, R384, R385,
R404, R420, R440, R458). Bits in no field are reserved: they read 0 and a write does not reach them (R11).
-/
namespace Sys2Proof.Machine

/-- The access codes of R10. -/
inductive Acc where
  | rw | ro | w1c | rc | wo
  deriving DecidableEq, Repr

/-- One field of a register. `base` is the BAR0 byte address of instance 0, `stride` the distance between instances,
`count` the number of instances; the field is bits `[hi:lo]`; `rst` its value at reset. -/
structure Fld where
  base : Nat
  stride : Nat
  count : Nat
  hi : Nat
  lo : Nat
  acc : Acc
  rst : Nat
  deriving DecidableEq, Repr

/-- The number a field is stored under: no two fields share it (address and lowest bit are distinct). -/
def Fld.id (f : Fld) : Nat := f.base * 32 + f.lo

/-- Width of a field in bits. -/
def Fld.width (f : Fld) : Nat := f.hi - f.lo + 1

/-- The greatest value of a field. -/
def Fld.top (f : Fld) : Nat := 2 ^ f.width - 1

/-! HIF_CTRL, at 0x0000000 (R88). -/
def F.HIF_CTRL_DB_CHECK : Fld := ⟨0x0, 0x0, 1, 2, 2, .rw, 0x1⟩
def F.HIF_CTRL_RINGS_EN : Fld := ⟨0x0, 0x0, 1, 1, 1, .rw, 0x0⟩
def F.HIF_CTRL_RUN : Fld := ⟨0x0, 0x0, 1, 0, 0, .rw, 0x0⟩
/-! HIF_STATUS, at 0x0000004 (R88). -/
def F.HIF_STATUS_BME : Fld := ⟨0x4, 0x0, 1, 4, 4, .ro, 0x0⟩
def F.HIF_STATUS_QUIESCED : Fld := ⟨0x4, 0x0, 1, 3, 3, .ro, 0x1⟩
def F.HIF_STATUS_STAGE : Fld := ⟨0x4, 0x0, 1, 2, 0, .ro, 0x0⟩
/-! HIF_EVENT, at 0x0000008 (R88). -/
def F.HIF_EVENT_PUNT_DROP : Fld := ⟨0x8, 0x0, 1, 7, 7, .w1c, 0x0⟩
def F.HIF_EVENT_EVT_LOST : Fld := ⟨0x8, 0x0, 1, 6, 6, .w1c, 0x0⟩
def F.HIF_EVENT_SAUCER_FULL : Fld := ⟨0x8, 0x0, 1, 5, 5, .w1c, 0x0⟩
def F.HIF_EVENT_BAR_ERROR : Fld := ⟨0x8, 0x0, 1, 4, 4, .w1c, 0x0⟩
def F.HIF_EVENT_ENGINE_RESTART : Fld := ⟨0x8, 0x0, 1, 3, 3, .w1c, 0x0⟩
def F.HIF_EVENT_CFG_REFUSED : Fld := ⟨0x8, 0x0, 1, 2, 2, .w1c, 0x0⟩
def F.HIF_EVENT_MAGIC_MISMATCH : Fld := ⟨0x8, 0x0, 1, 1, 1, .w1c, 0x0⟩
def F.HIF_EVENT_BAD_INDEX : Fld := ⟨0x8, 0x0, 1, 0, 0, .w1c, 0x0⟩
/-! HIF_EVENT_EVCNT0, at 0x000000C (R88). -/
def F.HIF_EVENT_EVCNT0_BAD_INDEX : Fld := ⟨0xC, 0x0, 1, 7, 0, .ro, 0x0⟩
def F.HIF_EVENT_EVCNT0_MAGIC_MISMATCH : Fld := ⟨0xC, 0x0, 1, 15, 8, .ro, 0x0⟩
def F.HIF_EVENT_EVCNT0_CFG_REFUSED : Fld := ⟨0xC, 0x0, 1, 23, 16, .ro, 0x0⟩
def F.HIF_EVENT_EVCNT0_ENGINE_RESTART : Fld := ⟨0xC, 0x0, 1, 31, 24, .ro, 0x0⟩
/-! HIF_DB_BASE_LO, at 0x0000010 (R88). -/
def F.HIF_DB_BASE_LO_ADDR : Fld := ⟨0x10, 0x0, 1, 31, 12, .rw, 0x0⟩
/-! HIF_DB_BASE_HI, at 0x0000014 (R88). -/
def F.HIF_DB_BASE_HI_ADDR : Fld := ⟨0x14, 0x0, 1, 31, 0, .rw, 0x0⟩
/-! HIF_DB_MAGIC, at 0x0000018 (R88). -/
def F.HIF_DB_MAGIC_MAGIC : Fld := ⟨0x18, 0x0, 1, 31, 0, .rw, 0x0⟩
/-! HIF_POLL_CFG, at 0x000001C (R88). -/
def F.HIF_POLL_CFG_INTERVAL : Fld := ⟨0x1C, 0x0, 1, 19, 0, .rw, 0x3E8⟩
/-! HIF_NUDGE, at 0x0000020 (R88). -/
def F.HIF_NUDGE_POLL : Fld := ⟨0x20, 0x0, 1, 0, 0, .wo, 0x0⟩
/-! HIF_ERR_LOC, at 0x0000024 (R88). -/
def F.HIF_ERR_LOC_ERR_LOC : Fld := ⟨0x24, 0x0, 1, 31, 0, .ro, 0x0⟩
/-! HIF_IMG_ADDR_LO, at 0x0000028 (R88). -/
def F.HIF_IMG_ADDR_LO_ADDR : Fld := ⟨0x28, 0x0, 1, 31, 6, .rw, 0x0⟩
/-! HIF_IMG_ADDR_HI, at 0x000002C (R88). -/
def F.HIF_IMG_ADDR_HI_ADDR : Fld := ⟨0x2C, 0x0, 1, 31, 0, .rw, 0x0⟩
/-! HIF_IMG_CTRL, at 0x0000030 (R88). -/
def F.HIF_IMG_CTRL_LOAD : Fld := ⟨0x30, 0x0, 1, 31, 31, .wo, 0x0⟩
def F.HIF_IMG_CTRL_LEN : Fld := ⟨0x30, 0x0, 1, 23, 0, .rw, 0x0⟩
/-! HIF_IMG_STATUS, at 0x0000034 (R88). -/
def F.HIF_IMG_STATUS_MAJOR : Fld := ⟨0x34, 0x0, 1, 31, 24, .ro, 0x0⟩
def F.HIF_IMG_STATUS_MINOR : Fld := ⟨0x34, 0x0, 1, 23, 16, .ro, 0x0⟩
def F.HIF_IMG_STATUS_PATCH : Fld := ⟨0x34, 0x0, 1, 15, 8, .ro, 0x0⟩
def F.HIF_IMG_STATUS_ERROR : Fld := ⟨0x34, 0x0, 1, 3, 0, .ro, 0x0⟩
/-! HIF_SAUCER_BASE_LO, at 0x0000038 (R88). -/
def F.HIF_SAUCER_BASE_LO_ADDR : Fld := ⟨0x38, 0x0, 1, 31, 26, .rw, 0x0⟩
/-! HIF_SAUCER_BASE_HI, at 0x000003C (R88). -/
def F.HIF_SAUCER_BASE_HI_ADDR : Fld := ⟨0x3C, 0x0, 1, 31, 0, .rw, 0x0⟩
/-! HIF_DISPATCH_CFG, at 0x0000040 (R88). -/
def F.HIF_DISPATCH_CFG_SAUCER_EN : Fld := ⟨0x40, 0x0, 1, 16, 16, .rw, 0x1⟩
def F.HIF_DISPATCH_CFG_AGE_LIMIT : Fld := ⟨0x40, 0x0, 1, 15, 0, .rw, 0x3E8⟩
/-! HIF_ENGINE_STATUS, at 0x0000044 (R88). -/
def F.HIF_ENGINE_STATUS_RUNNING0 : Fld := ⟨0x44, 0x0, 1, 7, 7, .ro, 0x0⟩
def F.HIF_ENGINE_STATUS_RESTARTS0 : Fld := ⟨0x44, 0x0, 1, 6, 0, .ro, 0x0⟩
def F.HIF_ENGINE_STATUS_RUNNING1 : Fld := ⟨0x44, 0x0, 1, 15, 15, .ro, 0x0⟩
def F.HIF_ENGINE_STATUS_RESTARTS1 : Fld := ⟨0x44, 0x0, 1, 14, 8, .ro, 0x0⟩
def F.HIF_ENGINE_STATUS_RUNNING2 : Fld := ⟨0x44, 0x0, 1, 23, 23, .ro, 0x0⟩
def F.HIF_ENGINE_STATUS_RESTARTS2 : Fld := ⟨0x44, 0x0, 1, 22, 16, .ro, 0x0⟩
def F.HIF_ENGINE_STATUS_RUNNING3 : Fld := ⟨0x44, 0x0, 1, 31, 31, .ro, 0x0⟩
def F.HIF_ENGINE_STATUS_RESTARTS3 : Fld := ⟨0x44, 0x0, 1, 30, 24, .ro, 0x0⟩
/-! HIF_JRN_HEAD_LO, at 0x0000048 (R88). -/
def F.HIF_JRN_HEAD_LO_SEQ : Fld := ⟨0x48, 0x0, 1, 31, 0, .ro, 0x0⟩
/-! HIF_JRN_HEAD_HI, at 0x000004C (R88). -/
def F.HIF_JRN_HEAD_HI_SEQ : Fld := ⟨0x4C, 0x0, 1, 31, 0, .ro, 0x0⟩
/-! HIF_EVT_ROUTE0, at 0x0000050 (R88). -/
def F.HIF_EVT_ROUTE0_ROUTES : Fld := ⟨0x50, 0x0, 1, 29, 0, .rw, 0x0⟩
/-! HIF_EVT_ROUTE1, at 0x0000054 (R88). -/
def F.HIF_EVT_ROUTE1_ROUTES : Fld := ⟨0x54, 0x0, 1, 26, 0, .rw, 0x0⟩
/-! HIF_EVENT_EVCNT1, at 0x0000058 (R88). -/
def F.HIF_EVENT_EVCNT1_BAR_ERROR : Fld := ⟨0x58, 0x0, 1, 7, 0, .ro, 0x0⟩
def F.HIF_EVENT_EVCNT1_SAUCER_FULL : Fld := ⟨0x58, 0x0, 1, 15, 8, .ro, 0x0⟩
def F.HIF_EVENT_EVCNT1_EVT_LOST : Fld := ⟨0x58, 0x0, 1, 23, 16, .ro, 0x0⟩
def F.HIF_EVENT_EVCNT1_PUNT_DROP : Fld := ⟨0x58, 0x0, 1, 31, 24, .ro, 0x0⟩
/-! HIF_READY_DEPTH, at 0x0000080 + 0x4 n, n 0 to 7 (R88). -/
def F.HIF_READY_DEPTH_ONCHIP : Fld := ⟨0x80, 0x4, 8, 31, 21, .ro, 0x0⟩
def F.HIF_READY_DEPTH_SAUCER : Fld := ⟨0x80, 0x4, 8, 17, 0, .ro, 0x0⟩
/-! HIF_CMD_BASE_LO, at 0x0001000 + 0x20 n, n 0 to 15 (R88). -/
def F.HIF_CMD_BASE_LO_ADDR : Fld := ⟨0x1000, 0x20, 16, 31, 12, .rw, 0x0⟩
/-! HIF_CMD_BASE_HI, at 0x0001004 + 0x20 n, n 0 to 15 (R88). -/
def F.HIF_CMD_BASE_HI_ADDR : Fld := ⟨0x1004, 0x20, 16, 31, 0, .rw, 0x0⟩
/-! HIF_CMD_CFG, at 0x0001008 + 0x20 n, n 0 to 15 (R88). -/
def F.HIF_CMD_CFG_EN : Fld := ⟨0x1008, 0x20, 16, 31, 31, .rw, 0x0⟩
def F.HIF_CMD_CFG_PRIO : Fld := ⟨0x1008, 0x20, 16, 26, 24, .rw, 0x1⟩
def F.HIF_CMD_CFG_CPL : Fld := ⟨0x1008, 0x20, 16, 23, 20, .rw, 0x0⟩
def F.HIF_CMD_CFG_VEC : Fld := ⟨0x1008, 0x20, 16, 13, 8, .rw, 0x0⟩
def F.HIF_CMD_CFG_LOG2_SIZE : Fld := ⟨0x1008, 0x20, 16, 4, 0, .rw, 0x6⟩
/-! HIF_CMD_STATUS, at 0x000100C + 0x20 n, n 0 to 15 (R88). -/
def F.HIF_CMD_STATUS_IDLE : Fld := ⟨0x100C, 0x20, 16, 31, 31, .ro, 0x1⟩
def F.HIF_CMD_STATUS_STOPPED : Fld := ⟨0x100C, 0x20, 16, 30, 30, .ro, 0x0⟩
def F.HIF_CMD_STATUS_LOST : Fld := ⟨0x100C, 0x20, 16, 23, 16, .ro, 0x0⟩
def F.HIF_CMD_STATUS_INDEX : Fld := ⟨0x100C, 0x20, 16, 15, 0, .ro, 0x0⟩
/-! HIF_CPL_BASE_LO, at 0x0001200 + 0x20 n, n 0 to 15 (R88). -/
def F.HIF_CPL_BASE_LO_ADDR : Fld := ⟨0x1200, 0x20, 16, 31, 12, .rw, 0x0⟩
/-! HIF_CPL_BASE_HI, at 0x0001204 + 0x20 n, n 0 to 15 (R88). -/
def F.HIF_CPL_BASE_HI_ADDR : Fld := ⟨0x1204, 0x20, 16, 31, 0, .rw, 0x0⟩
/-! HIF_CPL_CFG, at 0x0001208 + 0x20 n, n 0 to 15 (R88). -/
def F.HIF_CPL_CFG_EN : Fld := ⟨0x1208, 0x20, 16, 31, 31, .rw, 0x0⟩
def F.HIF_CPL_CFG_PRIO : Fld := ⟨0x1208, 0x20, 16, 26, 24, .rw, 0x1⟩
def F.HIF_CPL_CFG_CPL : Fld := ⟨0x1208, 0x20, 16, 23, 20, .rw, 0x0⟩
def F.HIF_CPL_CFG_VEC : Fld := ⟨0x1208, 0x20, 16, 13, 8, .rw, 0x0⟩
def F.HIF_CPL_CFG_LOG2_SIZE : Fld := ⟨0x1208, 0x20, 16, 4, 0, .rw, 0x6⟩
/-! HIF_CPL_STATUS, at 0x000120C + 0x20 n, n 0 to 15 (R88). -/
def F.HIF_CPL_STATUS_IDLE : Fld := ⟨0x120C, 0x20, 16, 31, 31, .ro, 0x1⟩
def F.HIF_CPL_STATUS_STOPPED : Fld := ⟨0x120C, 0x20, 16, 30, 30, .ro, 0x0⟩
def F.HIF_CPL_STATUS_LOST : Fld := ⟨0x120C, 0x20, 16, 23, 16, .ro, 0x0⟩
def F.HIF_CPL_STATUS_INDEX : Fld := ⟨0x120C, 0x20, 16, 15, 0, .ro, 0x0⟩
/-! HIF_EVT_BASE_LO, at 0x0001400 + 0x20 n, n 0 to 7 (R88). -/
def F.HIF_EVT_BASE_LO_ADDR : Fld := ⟨0x1400, 0x20, 8, 31, 12, .rw, 0x0⟩
/-! HIF_EVT_BASE_HI, at 0x0001404 + 0x20 n, n 0 to 7 (R88). -/
def F.HIF_EVT_BASE_HI_ADDR : Fld := ⟨0x1404, 0x20, 8, 31, 0, .rw, 0x0⟩
/-! HIF_EVT_CFG, at 0x0001408 + 0x20 n, n 0 to 7 (R88). -/
def F.HIF_EVT_CFG_EN : Fld := ⟨0x1408, 0x20, 8, 31, 31, .rw, 0x0⟩
def F.HIF_EVT_CFG_PRIO : Fld := ⟨0x1408, 0x20, 8, 26, 24, .rw, 0x1⟩
def F.HIF_EVT_CFG_CPL : Fld := ⟨0x1408, 0x20, 8, 23, 20, .rw, 0x0⟩
def F.HIF_EVT_CFG_VEC : Fld := ⟨0x1408, 0x20, 8, 13, 8, .rw, 0x0⟩
def F.HIF_EVT_CFG_LOG2_SIZE : Fld := ⟨0x1408, 0x20, 8, 4, 0, .rw, 0x6⟩
/-! HIF_EVT_STATUS, at 0x000140C + 0x20 n, n 0 to 7 (R88). -/
def F.HIF_EVT_STATUS_IDLE : Fld := ⟨0x140C, 0x20, 8, 31, 31, .ro, 0x1⟩
def F.HIF_EVT_STATUS_STOPPED : Fld := ⟨0x140C, 0x20, 8, 30, 30, .ro, 0x0⟩
def F.HIF_EVT_STATUS_LOST : Fld := ⟨0x140C, 0x20, 8, 23, 16, .ro, 0x0⟩
def F.HIF_EVT_STATUS_INDEX : Fld := ⟨0x140C, 0x20, 8, 15, 0, .ro, 0x0⟩
/-! HIF_PUNT_BASE_LO, at 0x0001500 + 0x20 n, n 0 to 7 (R88). -/
def F.HIF_PUNT_BASE_LO_ADDR : Fld := ⟨0x1500, 0x20, 8, 31, 12, .rw, 0x0⟩
/-! HIF_PUNT_BASE_HI, at 0x0001504 + 0x20 n, n 0 to 7 (R88). -/
def F.HIF_PUNT_BASE_HI_ADDR : Fld := ⟨0x1504, 0x20, 8, 31, 0, .rw, 0x0⟩
/-! HIF_PUNT_CFG, at 0x0001508 + 0x20 n, n 0 to 7 (R88). -/
def F.HIF_PUNT_CFG_EN : Fld := ⟨0x1508, 0x20, 8, 31, 31, .rw, 0x0⟩
def F.HIF_PUNT_CFG_PRIO : Fld := ⟨0x1508, 0x20, 8, 26, 24, .rw, 0x1⟩
def F.HIF_PUNT_CFG_CPL : Fld := ⟨0x1508, 0x20, 8, 23, 20, .rw, 0x0⟩
def F.HIF_PUNT_CFG_VEC : Fld := ⟨0x1508, 0x20, 8, 13, 8, .rw, 0x0⟩
def F.HIF_PUNT_CFG_LOG2_SIZE : Fld := ⟨0x1508, 0x20, 8, 4, 0, .rw, 0x6⟩
/-! HIF_PUNT_STATUS, at 0x000150C + 0x20 n, n 0 to 7 (R88). -/
def F.HIF_PUNT_STATUS_IDLE : Fld := ⟨0x150C, 0x20, 8, 31, 31, .ro, 0x1⟩
def F.HIF_PUNT_STATUS_STOPPED : Fld := ⟨0x150C, 0x20, 8, 30, 30, .ro, 0x0⟩
def F.HIF_PUNT_STATUS_LOST : Fld := ⟨0x150C, 0x20, 8, 23, 16, .ro, 0x0⟩
def F.HIF_PUNT_STATUS_INDEX : Fld := ⟨0x150C, 0x20, 8, 15, 0, .ro, 0x0⟩
/-! HIF_INJ_BASE_LO, at 0x0001600 + 0x20 n, n 0 to 7 (R88). -/
def F.HIF_INJ_BASE_LO_ADDR : Fld := ⟨0x1600, 0x20, 8, 31, 12, .rw, 0x0⟩
/-! HIF_INJ_BASE_HI, at 0x0001604 + 0x20 n, n 0 to 7 (R88). -/
def F.HIF_INJ_BASE_HI_ADDR : Fld := ⟨0x1604, 0x20, 8, 31, 0, .rw, 0x0⟩
/-! HIF_INJ_CFG, at 0x0001608 + 0x20 n, n 0 to 7 (R88). -/
def F.HIF_INJ_CFG_EN : Fld := ⟨0x1608, 0x20, 8, 31, 31, .rw, 0x0⟩
def F.HIF_INJ_CFG_PRIO : Fld := ⟨0x1608, 0x20, 8, 26, 24, .rw, 0x1⟩
def F.HIF_INJ_CFG_CPL : Fld := ⟨0x1608, 0x20, 8, 23, 20, .rw, 0x0⟩
def F.HIF_INJ_CFG_VEC : Fld := ⟨0x1608, 0x20, 8, 13, 8, .rw, 0x0⟩
def F.HIF_INJ_CFG_LOG2_SIZE : Fld := ⟨0x1608, 0x20, 8, 4, 0, .rw, 0x6⟩
/-! HIF_INJ_STATUS, at 0x000160C + 0x20 n, n 0 to 7 (R88). -/
def F.HIF_INJ_STATUS_IDLE : Fld := ⟨0x160C, 0x20, 8, 31, 31, .ro, 0x1⟩
def F.HIF_INJ_STATUS_STOPPED : Fld := ⟨0x160C, 0x20, 8, 30, 30, .ro, 0x0⟩
def F.HIF_INJ_STATUS_LOST : Fld := ⟨0x160C, 0x20, 8, 23, 16, .ro, 0x0⟩
def F.HIF_INJ_STATUS_INDEX : Fld := ⟨0x160C, 0x20, 8, 15, 0, .ro, 0x0⟩
/-! HIF_VEC_MOD, at 0x0002000 + 0x4 n, n 0 to 63 (R88). -/
def F.HIF_VEC_MOD_HOLDOFF : Fld := ⟨0x2000, 0x4, 64, 31, 16, .rw, 0x0⟩
def F.HIF_VEC_MOD_COUNT : Fld := ⟨0x2000, 0x4, 64, 7, 0, .rw, 0x1⟩
/-! LTB_CTRL, at 0x0100000 (R45). -/
def F.LTB_CTRL_FORCE_LOCAL : Fld := ⟨0x100000, 0x0, 1, 0, 0, .rw, 0x0⟩
/-! LTB_TC_CFG, at 0x0100004 (R45). -/
def F.LTB_TC_CFG_PRIO : Fld := ⟨0x100004, 0x0, 1, 15, 8, .rw, 0xE4⟩
def F.LTB_TC_CFG_AUTO_CHANGE : Fld := ⟨0x100004, 0x0, 1, 3, 3, .rw, 0x1⟩
def F.LTB_TC_CFG_TC : Fld := ⟨0x100004, 0x0, 1, 2, 0, .rw, 0x0⟩
/-! LTB_PLL_CFG, at 0x0100008 (R45). -/
def F.LTB_PLL_CFG_SLEW_PPB : Fld := ⟨0x100008, 0x0, 1, 31, 16, .rw, 0x2710⟩
def F.LTB_PLL_CFG_LOCK_FRAMES : Fld := ⟨0x100008, 0x0, 1, 7, 4, .rw, 0x8⟩
def F.LTB_PLL_CFG_BW : Fld := ⟨0x100008, 0x0, 1, 1, 0, .rw, 0x1⟩
/-! LTB_REJOIN_CFG, at 0x010000C (R45). -/
def F.LTB_REJOIN_CFG_STEP_EN : Fld := ⟨0x10000C, 0x0, 1, 16, 16, .rw, 0x1⟩
def F.LTB_REJOIN_CFG_SLEW_LIMIT : Fld := ⟨0x10000C, 0x0, 1, 15, 0, .rw, 0x400⟩
/-! LTB_STATUS, at 0x0100010 (R45). -/
def F.LTB_STATUS_TC_ACTIVE : Fld := ⟨0x100010, 0x0, 1, 10, 8, .ro, 0x0⟩
def F.LTB_STATUS_PLL_LOCK : Fld := ⟨0x100010, 0x0, 1, 5, 5, .ro, 0x0⟩
def F.LTB_STATUS_PLL_REF : Fld := ⟨0x100010, 0x0, 1, 4, 4, .ro, 0x0⟩
def F.LTB_STATUS_COASTING : Fld := ⟨0x100010, 0x0, 1, 3, 3, .ro, 0x0⟩
def F.LTB_STATUS_SLEWING : Fld := ⟨0x100010, 0x0, 1, 2, 2, .ro, 0x0⟩
def F.LTB_STATUS_STATE : Fld := ⟨0x100010, 0x0, 1, 1, 0, .ro, 0x2⟩
/-! LTB_EVENT, at 0x0100014 (R45). -/
def F.LTB_EVENT_WAKE_RECONCILED : Fld := ⟨0x100014, 0x0, 1, 3, 3, .w1c, 0x0⟩
def F.LTB_EVENT_TC_CHANGE : Fld := ⟨0x100014, 0x0, 1, 2, 2, .w1c, 0x0⟩
def F.LTB_EVENT_STEP : Fld := ⟨0x100014, 0x0, 1, 1, 1, .w1c, 0x0⟩
def F.LTB_EVENT_STATE_CHANGE : Fld := ⟨0x100014, 0x0, 1, 0, 0, .w1c, 0x0⟩
/-! LTB_EVENT_EVCNT, at 0x0100018 (R45). -/
def F.LTB_EVENT_EVCNT_STATE_CHANGE : Fld := ⟨0x100018, 0x0, 1, 7, 0, .ro, 0x0⟩
def F.LTB_EVENT_EVCNT_STEP : Fld := ⟨0x100018, 0x0, 1, 15, 8, .ro, 0x0⟩
def F.LTB_EVENT_EVCNT_TC_CHANGE : Fld := ⟨0x100018, 0x0, 1, 23, 16, .ro, 0x0⟩
def F.LTB_EVENT_EVCNT_WAKE_RECONCILED : Fld := ⟨0x100018, 0x0, 1, 31, 24, .ro, 0x0⟩
/-! LTB_EPOCH, at 0x010001C (R45). -/
def F.LTB_EPOCH_CAUSE : Fld := ⟨0x10001C, 0x0, 1, 19, 16, .ro, 0x0⟩
def F.LTB_EPOCH_EPOCH : Fld := ⟨0x10001C, 0x0, 1, 15, 0, .ro, 0x0⟩
/-! LTB_STAMP_LO, at 0x0100020 (R45). -/
def F.LTB_STAMP_LO_STAMP : Fld := ⟨0x100020, 0x0, 1, 31, 0, .ro, 0x0⟩
/-! LTB_STAMP_HI, at 0x0100024 (R45). -/
def F.LTB_STAMP_HI_STAMP : Fld := ⟨0x100024, 0x0, 1, 31, 0, .ro, 0x0⟩
/-! LTB_SFC_LO, at 0x0100028 (R45). -/
def F.LTB_SFC_LO_SFC : Fld := ⟨0x100028, 0x0, 1, 31, 0, .ro, 0x0⟩
/-! LTB_SFC_HI, at 0x010002C (R45). -/
def F.LTB_SFC_HI_SFC : Fld := ⟨0x10002C, 0x0, 1, 18, 0, .ro, 0x0⟩
/-! LTB_STEP_DELTA_LO, at 0x0100030 (R45). -/
def F.LTB_STEP_DELTA_LO_DELTA : Fld := ⟨0x100030, 0x0, 1, 31, 0, .ro, 0x0⟩
/-! LTB_STEP_DELTA_HI, at 0x0100034 (R45). -/
def F.LTB_STEP_DELTA_HI_DELTA : Fld := ⟨0x100034, 0x0, 1, 31, 0, .ro, 0x0⟩
/-! LTB_HOLD_FRAMES, at 0x0100038 (R45). -/
def F.LTB_HOLD_FRAMES_FRAMES : Fld := ⟨0x100038, 0x0, 1, 31, 0, .ro, 0x0⟩
/-! LTB_CH_OFS, at 0x0100040 + 0x4 n, n 0 to 7 (R45). -/
def F.LTB_CH_OFS_VALID : Fld := ⟨0x100040, 0x4, 8, 31, 31, .ro, 0x0⟩
def F.LTB_CH_OFS_TIMING : Fld := ⟨0x100040, 0x4, 8, 30, 30, .ro, 0x0⟩
def F.LTB_CH_OFS_SKEW_EXCEEDED : Fld := ⟨0x100040, 0x4, 8, 29, 29, .ro, 0x0⟩
def F.LTB_CH_OFS_OFS : Fld := ⟨0x100040, 0x4, 8, 19, 0, .ro, 0x0⟩
/-! LTB_SLEEP_CFG, at 0x0100060 (R45). -/
def F.LTB_SLEEP_CFG_UNC_EXT : Fld := ⟨0x100060, 0x0, 1, 23, 16, .rw, 0x32⟩
def F.LTB_SLEEP_CFG_UNC_INT : Fld := ⟨0x100060, 0x0, 1, 15, 8, .rw, 0x14⟩
def F.LTB_SLEEP_CFG_SRC : Fld := ⟨0x100060, 0x0, 1, 0, 0, .rw, 0x0⟩
/-! LTB_SLEEP_TRIM_INT, at 0x0100064 (R45). -/
def F.LTB_SLEEP_TRIM_INT_VALID : Fld := ⟨0x100064, 0x0, 1, 31, 31, .ro, 0x0⟩
def F.LTB_SLEEP_TRIM_INT_TRIM : Fld := ⟨0x100064, 0x0, 1, 23, 0, .ro, 0x0⟩
/-! LTB_SLEEP_TRIM_EXT, at 0x0100068 (R45). -/
def F.LTB_SLEEP_TRIM_EXT_VALID : Fld := ⟨0x100068, 0x0, 1, 31, 31, .ro, 0x0⟩
def F.LTB_SLEEP_TRIM_EXT_TRIM : Fld := ⟨0x100068, 0x0, 1, 23, 0, .ro, 0x0⟩
/-! LTB_WAKE_ELAPSED_LO, at 0x0100070 (R45). -/
def F.LTB_WAKE_ELAPSED_LO_ELAPSED : Fld := ⟨0x100070, 0x0, 1, 31, 0, .ro, 0x0⟩
/-! LTB_WAKE_ELAPSED_HI, at 0x0100074 (R45). -/
def F.LTB_WAKE_ELAPSED_HI_ELAPSED : Fld := ⟨0x100074, 0x0, 1, 31, 0, .ro, 0x0⟩
/-! LTB_WAKE_INFO, at 0x0100078 (R45). -/
def F.LTB_WAKE_INFO_UNC : Fld := ⟨0x100078, 0x0, 1, 31, 8, .ro, 0x0⟩
def F.LTB_WAKE_INFO_EXT_STOPPED : Fld := ⟨0x100078, 0x0, 1, 3, 3, .ro, 0x0⟩
def F.LTB_WAKE_INFO_SRC_CHANGED : Fld := ⟨0x100078, 0x0, 1, 2, 2, .ro, 0x0⟩
def F.LTB_WAKE_INFO_BASIS : Fld := ⟨0x100078, 0x0, 1, 1, 0, .ro, 0x0⟩
/-! LLN_RX_CFG, at 0x0201000 + 0x40 n, n 0 to 7 (R110). -/
def F.LLN_RX_CFG_ACQ_TIMEOUT : Fld := ⟨0x201000, 0x40, 8, 31, 16, .rw, 0x3E8⟩
def F.LLN_RX_CFG_CTLE_START : Fld := ⟨0x201000, 0x40, 8, 15, 12, .rw, 0x8⟩
def F.LLN_RX_CFG_ADAPT : Fld := ⟨0x201000, 0x40, 8, 9, 8, .rw, 0x0⟩
def F.LLN_RX_CFG_EN : Fld := ⟨0x201000, 0x40, 8, 0, 0, .rw, 0x0⟩
/-! LLN_RX_STATUS, at 0x0201004 + 0x40 n, n 0 to 7 (R110). -/
def F.LLN_RX_STATUS_CTLE : Fld := ⟨0x201004, 0x40, 8, 23, 20, .ro, 0x0⟩
def F.LLN_RX_STATUS_SIG_DET : Fld := ⟨0x201004, 0x40, 8, 6, 6, .ro, 0x0⟩
def F.LLN_RX_STATUS_CDR_LOCK : Fld := ⟨0x201004, 0x40, 8, 5, 5, .ro, 0x0⟩
def F.LLN_RX_STATUS_STATE : Fld := ⟨0x201004, 0x40, 8, 2, 0, .ro, 0x0⟩
/-! LLN_RX_EVENT, at 0x0201008 + 0x40 n, n 0 to 7 (R110). -/
def F.LLN_RX_EVENT_ACQ_RETRY : Fld := ⟨0x201008, 0x40, 8, 2, 2, .w1c, 0x0⟩
def F.LLN_RX_EVENT_SIG_LOSS : Fld := ⟨0x201008, 0x40, 8, 1, 1, .w1c, 0x0⟩
def F.LLN_RX_EVENT_CDR_LOSS : Fld := ⟨0x201008, 0x40, 8, 0, 0, .w1c, 0x0⟩
/-! LLN_RX_EVENT_EVCNT, at 0x020100C + 0x40 n, n 0 to 7 (R110). -/
def F.LLN_RX_EVENT_EVCNT_CDR_LOSS : Fld := ⟨0x20100C, 0x40, 8, 7, 0, .ro, 0x0⟩
def F.LLN_RX_EVENT_EVCNT_SIG_LOSS : Fld := ⟨0x20100C, 0x40, 8, 15, 8, .ro, 0x0⟩
def F.LLN_RX_EVENT_EVCNT_ACQ_RETRY : Fld := ⟨0x20100C, 0x40, 8, 23, 16, .ro, 0x0⟩
/-! LLN_RX_FFE0, at 0x0201010 + 0x40 n, n 0 to 7 (R110). -/
def F.LLN_RX_FFE0_T0 : Fld := ⟨0x201010, 0x40, 8, 7, 0, .rw, 0x0⟩
def F.LLN_RX_FFE0_T1 : Fld := ⟨0x201010, 0x40, 8, 15, 8, .rw, 0x0⟩
def F.LLN_RX_FFE0_T2 : Fld := ⟨0x201010, 0x40, 8, 23, 16, .rw, 0x0⟩
def F.LLN_RX_FFE0_T3 : Fld := ⟨0x201010, 0x40, 8, 31, 24, .rw, 0x0⟩
/-! LLN_RX_FFE1, at 0x0201014 + 0x40 n, n 0 to 7 (R110). -/
def F.LLN_RX_FFE1_T4 : Fld := ⟨0x201014, 0x40, 8, 7, 0, .rw, 0x40⟩
def F.LLN_RX_FFE1_T5 : Fld := ⟨0x201014, 0x40, 8, 15, 8, .rw, 0x0⟩
def F.LLN_RX_FFE1_T6 : Fld := ⟨0x201014, 0x40, 8, 23, 16, .rw, 0x0⟩
def F.LLN_RX_FFE1_T7 : Fld := ⟨0x201014, 0x40, 8, 31, 24, .rw, 0x0⟩
/-! LLN_RX_FFE2, at 0x0201018 + 0x40 n, n 0 to 7 (R110). -/
def F.LLN_RX_FFE2_T8 : Fld := ⟨0x201018, 0x40, 8, 7, 0, .rw, 0x0⟩
def F.LLN_RX_FFE2_T9 : Fld := ⟨0x201018, 0x40, 8, 15, 8, .rw, 0x0⟩
def F.LLN_RX_FFE2_T10 : Fld := ⟨0x201018, 0x40, 8, 23, 16, .rw, 0x0⟩
def F.LLN_RX_FFE2_T11 : Fld := ⟨0x201018, 0x40, 8, 31, 24, .rw, 0x0⟩
/-! LLN_RX_FFE3, at 0x020101C + 0x40 n, n 0 to 7 (R110). -/
def F.LLN_RX_FFE3_T12 : Fld := ⟨0x20101C, 0x40, 8, 7, 0, .rw, 0x0⟩
def F.LLN_RX_FFE3_T13 : Fld := ⟨0x20101C, 0x40, 8, 15, 8, .rw, 0x0⟩
def F.LLN_RX_FFE3_T14 : Fld := ⟨0x20101C, 0x40, 8, 23, 16, .rw, 0x0⟩
/-! LLN_RX_DFE, at 0x0201020 + 0x40 n, n 0 to 7 (R110). -/
def F.LLN_RX_DFE_D1 : Fld := ⟨0x201020, 0x40, 8, 7, 0, .rw, 0x0⟩
def F.LLN_RX_DFE_D2 : Fld := ⟨0x201020, 0x40, 8, 15, 8, .rw, 0x0⟩
def F.LLN_RX_DFE_D3 : Fld := ⟨0x201020, 0x40, 8, 23, 16, .rw, 0x0⟩
/-! LLN_RX_PRBS_ERR, at 0x0201024 + 0x40 n, n 0 to 7 (R110). -/
def F.LLN_RX_PRBS_ERR_ERRORS : Fld := ⟨0x201024, 0x40, 8, 31, 0, .rc, 0x0⟩
/-! LLN_TX_CFG, at 0x0202000 + 0x40 n, n 0 to 7 (R110). -/
def F.LLN_TX_CFG_LEAD : Fld := ⟨0x202000, 0x40, 8, 31, 24, .rw, 0x10⟩
def F.LLN_TX_CFG_LAG : Fld := ⟨0x202000, 0x40, 8, 23, 16, .rw, 0x8⟩
def F.LLN_TX_CFG_RATE_EN : Fld := ⟨0x202000, 0x40, 8, 6, 4, .rw, 0x1⟩
def F.LLN_TX_CFG_EN : Fld := ⟨0x202000, 0x40, 8, 0, 0, .rw, 0x0⟩
/-! LLN_TX_EMPH, at 0x0202004 + 0x40 n, n 0 to 7 (R110). -/
def F.LLN_TX_EMPH_POST : Fld := ⟨0x202004, 0x40, 8, 19, 16, .rw, 0x0⟩
def F.LLN_TX_EMPH_PRE : Fld := ⟨0x202004, 0x40, 8, 11, 8, .rw, 0x0⟩
def F.LLN_TX_EMPH_AMPL : Fld := ⟨0x202004, 0x40, 8, 5, 0, .rw, 0x28⟩
/-! LLN_TX_STATUS, at 0x0202008 + 0x40 n, n 0 to 7 (R110). -/
def F.LLN_TX_STATUS_TXDIS_SENSED : Fld := ⟨0x202008, 0x40, 8, 9, 9, .ro, 0x0⟩
def F.LLN_TX_STATUS_PLL_LOCK : Fld := ⟨0x202008, 0x40, 8, 8, 8, .ro, 0x0⟩
def F.LLN_TX_STATUS_RATE : Fld := ⟨0x202008, 0x40, 8, 5, 4, .ro, 0x0⟩
def F.LLN_TX_STATUS_STATE : Fld := ⟨0x202008, 0x40, 8, 2, 0, .ro, 0x0⟩
/-! LLN_TX_EVENT, at 0x020200C + 0x40 n, n 0 to 7 (R110). -/
def F.LLN_TX_EVENT_TRUNCATED : Fld := ⟨0x20200C, 0x40, 8, 3, 3, .w1c, 0x0⟩
def F.LLN_TX_EVENT_SHUT_SKIP : Fld := ⟨0x20200C, 0x40, 8, 2, 2, .w1c, 0x0⟩
def F.LLN_TX_EVENT_RATE_SKIP : Fld := ⟨0x20200C, 0x40, 8, 1, 1, .w1c, 0x0⟩
def F.LLN_TX_EVENT_LATE_SKIP : Fld := ⟨0x20200C, 0x40, 8, 0, 0, .w1c, 0x0⟩
/-! LLN_TX_EVENT_EVCNT, at 0x0202010 + 0x40 n, n 0 to 7 (R110). -/
def F.LLN_TX_EVENT_EVCNT_LATE_SKIP : Fld := ⟨0x202010, 0x40, 8, 7, 0, .ro, 0x0⟩
def F.LLN_TX_EVENT_EVCNT_RATE_SKIP : Fld := ⟨0x202010, 0x40, 8, 15, 8, .ro, 0x0⟩
def F.LLN_TX_EVENT_EVCNT_SHUT_SKIP : Fld := ⟨0x202010, 0x40, 8, 23, 16, .ro, 0x0⟩
def F.LLN_TX_EVENT_EVCNT_TRUNCATED : Fld := ⟨0x202010, 0x40, 8, 31, 24, .ro, 0x0⟩
/-! LLN_TX_BURSTS, at 0x0202014 + 0x40 n, n 0 to 7 (R110). -/
def F.LLN_TX_BURSTS_BURSTS : Fld := ⟨0x202014, 0x40, 8, 31, 0, .rc, 0x0⟩
/-! LLN_TX_SKIP, at 0x0202018 + 0x40 n, n 0 to 7 (R110). -/
def F.LLN_TX_SKIP_TRUNC : Fld := ⟨0x202018, 0x40, 8, 31, 24, .rc, 0x0⟩
def F.LLN_TX_SKIP_SHUT : Fld := ⟨0x202018, 0x40, 8, 23, 16, .rc, 0x0⟩
def F.LLN_TX_SKIP_RATE : Fld := ⟨0x202018, 0x40, 8, 15, 8, .rc, 0x0⟩
def F.LLN_TX_SKIP_LATE : Fld := ⟨0x202018, 0x40, 8, 7, 0, .rc, 0x0⟩
/-! LLN_TX_SKIP2, at 0x020201C + 0x40 n, n 0 to 7 (R110). -/
def F.LLN_TX_SKIP2_STATE : Fld := ⟨0x20201C, 0x40, 8, 7, 0, .rc, 0x0⟩
/-! DSF_CFG, at 0x0300000 (R147). -/
def F.DSF_CFG_REASM_MAX : Fld := ⟨0x300000, 0x0, 1, 13, 0, .rw, 0x3FFF⟩
/-! DSF_HUNT_CFG, at 0x0300004 (R147). -/
def F.DSF_HUNT_CFG_PSYNC_TOL : Fld := ⟨0x300004, 0x0, 1, 11, 8, .rw, 0x2⟩
def F.DSF_HUNT_CFG_MISS_LIMIT : Fld := ⟨0x300004, 0x0, 1, 3, 0, .rw, 0x2⟩
/-! DSF_DEF_CFG, at 0x0300008 (R147). -/
def F.DSF_DEF_CFG_LOS_CLR_FR : Fld := ⟨0x300008, 0x0, 1, 15, 8, .rw, 0x1⟩
def F.DSF_DEF_CFG_LOS_SET_US : Fld := ⟨0x300008, 0x0, 1, 7, 0, .rw, 0xA⟩
/-! DSF_LOF_STATUS, at 0x030000C (R147). -/
def F.DSF_LOF_STATUS_LOF : Fld := ⟨0x30000C, 0x0, 1, 0, 0, .w1c, 0x0⟩
/-! DSF_LOF_STATUS_EVCNT, at 0x0300010 (R147). -/
def F.DSF_LOF_STATUS_EVCNT_LOF : Fld := ⟨0x300010, 0x0, 1, 7, 0, .ro, 0x0⟩
/-! DSF_BOND_CFG, at 0x0300020 (R147). -/
def F.DSF_BOND_CFG_STALL_US : Fld := ⟨0x300020, 0x0, 1, 23, 16, .rw, 0x32⟩
def F.DSF_BOND_CFG_EN : Fld := ⟨0x300020, 0x0, 1, 0, 0, .rw, 0x1⟩
/-! DSF_BOND_STATUS, at 0x0300024 (R147). -/
def F.DSF_BOND_STATUS_SKEW : Fld := ⟨0x300024, 0x0, 1, 27, 8, .ro, 0x0⟩
def F.DSF_BOND_STATUS_MSTATE : Fld := ⟨0x300024, 0x0, 1, 7, 0, .ro, 0x0⟩
/-! DSF_BOND_EVENT, at 0x0300028 (R147). -/
def F.DSF_BOND_EVENT_LATE : Fld := ⟨0x300028, 0x0, 1, 2, 2, .w1c, 0x0⟩
def F.DSF_BOND_EVENT_OVERFLOW : Fld := ⟨0x300028, 0x0, 1, 1, 1, .w1c, 0x0⟩
def F.DSF_BOND_EVENT_SUSPEND : Fld := ⟨0x300028, 0x0, 1, 0, 0, .w1c, 0x0⟩
/-! DSF_BOND_EVENT_EVCNT, at 0x030002C (R147). -/
def F.DSF_BOND_EVENT_EVCNT_SUSPEND : Fld := ⟨0x30002C, 0x0, 1, 7, 0, .ro, 0x0⟩
def F.DSF_BOND_EVENT_EVCNT_OVERFLOW : Fld := ⟨0x30002C, 0x0, 1, 15, 8, .ro, 0x0⟩
def F.DSF_BOND_EVENT_EVCNT_LATE : Fld := ⟨0x30002C, 0x0, 1, 23, 16, .ro, 0x0⟩
/-! DSF_BOND_HELD, at 0x0300030 (R147). -/
def F.DSF_BOND_HELD_UNITS : Fld := ⟨0x300030, 0x0, 1, 18, 0, .ro, 0x0⟩
/-! DSF_PRC_CFG, at 0x0300040 (R147). -/
def F.DSF_PRC_CFG_EN : Fld := ⟨0x300040, 0x0, 1, 16, 16, .rw, 0x0⟩
def F.DSF_PRC_CFG_PORT_ID : Fld := ⟨0x300040, 0x0, 1, 15, 0, .rw, 0x0⟩
/-! DSF_PRC_STATUS, at 0x0300044 (R147). -/
def F.DSF_PRC_STATUS_RDI_B : Fld := ⟨0x300044, 0x0, 1, 25, 25, .ro, 0x0⟩
def F.DSF_PRC_STATUS_AIS_B : Fld := ⟨0x300044, 0x0, 1, 24, 24, .ro, 0x0⟩
def F.DSF_PRC_STATUS_CODE_B : Fld := ⟨0x300044, 0x0, 1, 23, 16, .ro, 0x0⟩
def F.DSF_PRC_STATUS_RDI_A : Fld := ⟨0x300044, 0x0, 1, 9, 9, .ro, 0x0⟩
def F.DSF_PRC_STATUS_AIS_A : Fld := ⟨0x300044, 0x0, 1, 8, 8, .ro, 0x0⟩
def F.DSF_PRC_STATUS_CODE_A : Fld := ⟨0x300044, 0x0, 1, 7, 0, .ro, 0x0⟩
/-! DSF_PRC_EVENT, at 0x0300048 (R147). -/
def F.DSF_PRC_EVENT_CONFLICT : Fld := ⟨0x300048, 0x0, 1, 3, 3, .w1c, 0x0⟩
def F.DSF_PRC_EVENT_BAD_MSG : Fld := ⟨0x300048, 0x0, 1, 2, 2, .w1c, 0x0⟩
def F.DSF_PRC_EVENT_ACCEPT_B : Fld := ⟨0x300048, 0x0, 1, 1, 1, .w1c, 0x0⟩
def F.DSF_PRC_EVENT_ACCEPT_A : Fld := ⟨0x300048, 0x0, 1, 0, 0, .w1c, 0x0⟩
/-! DSF_PRC_EVENT_EVCNT, at 0x030004C (R147). -/
def F.DSF_PRC_EVENT_EVCNT_ACCEPT_A : Fld := ⟨0x30004C, 0x0, 1, 7, 0, .ro, 0x0⟩
def F.DSF_PRC_EVENT_EVCNT_ACCEPT_B : Fld := ⟨0x30004C, 0x0, 1, 15, 8, .ro, 0x0⟩
def F.DSF_PRC_EVENT_EVCNT_BAD_MSG : Fld := ⟨0x30004C, 0x0, 1, 23, 16, .ro, 0x0⟩
def F.DSF_PRC_EVENT_EVCNT_CONFLICT : Fld := ⟨0x30004C, 0x0, 1, 31, 24, .ro, 0x0⟩
/-! DSF_PM_CFG, at 0x0300060 (R147). -/
def F.DSF_PM_CFG_PHASE : Fld := ⟨0x300060, 0x0, 1, 22, 0, .rw, 0x0⟩
/-! DSF_PM_SES, at 0x0300064 (R147). -/
def F.DSF_PM_SES_THRESH : Fld := ⟨0x300064, 0x0, 1, 31, 0, .rw, 0x3E8⟩
/-! DSF_CH_CFG, at 0x0301000 + 0x40 n, n 0 to 7 (R147). -/
def F.DSF_CH_CFG_ITER_MAX : Fld := ⟨0x301000, 0x40, 8, 11, 8, .rw, 0xC⟩
def F.DSF_CH_CFG_FEC_SHORT : Fld := ⟨0x301000, 0x40, 8, 1, 0, .rw, 0x0⟩
/-! DSF_CH_STATUS, at 0x0301004 + 0x40 n, n 0 to 7 (R147). -/
def F.DSF_CH_STATUS_CANDIDATES : Fld := ⟨0x301004, 0x40, 8, 19, 16, .ro, 0x0⟩
def F.DSF_CH_STATUS_LOF : Fld := ⟨0x301004, 0x40, 8, 9, 9, .ro, 0x0⟩
def F.DSF_CH_STATUS_LOS : Fld := ⟨0x301004, 0x40, 8, 8, 8, .ro, 0x0⟩
def F.DSF_CH_STATUS_FEC_IN_USE : Fld := ⟨0x301004, 0x40, 8, 5, 4, .ro, 0x0⟩
def F.DSF_CH_STATUS_STATE : Fld := ⟨0x301004, 0x40, 8, 2, 0, .ro, 0x0⟩
/-! DSF_CH_EVENT, at 0x0301008 + 0x40 n, n 0 to 7 (R147). -/
def F.DSF_CH_EVENT_HUNT_OVF : Fld := ⟨0x301008, 0x40, 8, 3, 3, .w1c, 0x0⟩
def F.DSF_CH_EVENT_SFC_MISMATCH : Fld := ⟨0x301008, 0x40, 8, 2, 2, .w1c, 0x0⟩
def F.DSF_CH_EVENT_LOF_DECL : Fld := ⟨0x301008, 0x40, 8, 1, 1, .w1c, 0x0⟩
def F.DSF_CH_EVENT_LOS_DECL : Fld := ⟨0x301008, 0x40, 8, 0, 0, .w1c, 0x0⟩
/-! DSF_CH_EVENT_EVCNT, at 0x030100C + 0x40 n, n 0 to 7 (R147). -/
def F.DSF_CH_EVENT_EVCNT_LOS_DECL : Fld := ⟨0x30100C, 0x40, 8, 7, 0, .ro, 0x0⟩
def F.DSF_CH_EVENT_EVCNT_LOF_DECL : Fld := ⟨0x30100C, 0x40, 8, 15, 8, .ro, 0x0⟩
def F.DSF_CH_EVENT_EVCNT_SFC_MISMATCH : Fld := ⟨0x30100C, 0x40, 8, 23, 16, .ro, 0x0⟩
def F.DSF_CH_EVENT_EVCNT_HUNT_OVF : Fld := ⟨0x30100C, 0x40, 8, 31, 24, .ro, 0x0⟩
/-! DSF_CH_CW, at 0x0301010 + 0x40 n, n 0 to 7 (R147). -/
def F.DSF_CH_CW_COUNT : Fld := ⟨0x301010, 0x40, 8, 31, 0, .rc, 0x0⟩
/-! DSF_CH_CW_CORR, at 0x0301014 + 0x40 n, n 0 to 7 (R147). -/
def F.DSF_CH_CW_CORR_COUNT : Fld := ⟨0x301014, 0x40, 8, 31, 0, .rc, 0x0⟩
/-! DSF_CH_CW_UNCORR, at 0x0301018 + 0x40 n, n 0 to 7 (R147). -/
def F.DSF_CH_CW_UNCORR_COUNT : Fld := ⟨0x301018, 0x40, 8, 31, 0, .rc, 0x0⟩
/-! DSF_CH_BITS_CORR, at 0x030101C + 0x40 n, n 0 to 7 (R147). -/
def F.DSF_CH_BITS_CORR_COUNT : Fld := ⟨0x30101C, 0x40, 8, 31, 0, .rc, 0x0⟩
/-! DSF_CH_ITER, at 0x0301020 + 0x40 n, n 0 to 7 (R147). -/
def F.DSF_CH_ITER_CW_AT_MAX : Fld := ⟨0x301020, 0x40, 8, 31, 16, .rc, 0x0⟩
def F.DSF_CH_ITER_PEAK : Fld := ⟨0x301020, 0x40, 8, 7, 0, .rc, 0x0⟩
/-! DSF_CH_HEC, at 0x0301024 + 0x40 n, n 0 to 7 (R147). -/
def F.DSF_CH_HEC_HEC_UNCORR : Fld := ⟨0x301024, 0x40, 8, 31, 16, .rc, 0x0⟩
def F.DSF_CH_HEC_HEC_CORR : Fld := ⟨0x301024, 0x40, 8, 15, 0, .rc, 0x0⟩
/-! DSF_CH_XGEM_DISC, at 0x0301028 + 0x40 n, n 0 to 7 (R147). -/
def F.DSF_CH_XGEM_DISC_UNKNOWN_PORT : Fld := ⟨0x301028, 0x40, 8, 31, 24, .rc, 0x0⟩
def F.DSF_CH_XGEM_DISC_ERRORED : Fld := ⟨0x301028, 0x40, 8, 23, 16, .rc, 0x0⟩
def F.DSF_CH_XGEM_DISC_LATE : Fld := ⟨0x301028, 0x40, 8, 15, 8, .rc, 0x0⟩
def F.DSF_CH_XGEM_DISC_EMPTY : Fld := ⟨0x301028, 0x40, 8, 7, 0, .rc, 0x0⟩
/-! ACT_CFG, at 0x0400000 (R171). -/
def F.ACT_CFG_RAND_MAX_US : Fld := ⟨0x400000, 0x0, 1, 7, 0, .rw, 0x30⟩
/-! ACT_STATUS, at 0x0400004 (R171). -/
def F.ACT_STATUS_PATH : Fld := ⟨0x400004, 0x0, 1, 9, 8, .ro, 0x0⟩
def F.ACT_STATUS_PARKED : Fld := ⟨0x400004, 0x0, 1, 7, 4, .ro, 0x0⟩
def F.ACT_STATUS_ASSOC : Fld := ⟨0x400004, 0x0, 1, 3, 0, .ro, 0x0⟩
/-! ACT_TIMER_CFG0, at 0x0400008 (R171). -/
def F.ACT_TIMER_CFG0_TO1 : Fld := ⟨0x400008, 0x0, 1, 31, 16, .rw, 0x3E8⟩
def F.ACT_TIMER_CFG0_TO2 : Fld := ⟨0x400008, 0x0, 1, 15, 0, .rw, 0x64⟩
/-! ACT_TIMER_CFG1, at 0x040000C (R171). -/
def F.ACT_TIMER_CFG1_TO3 : Fld := ⟨0x40000C, 0x0, 1, 29, 20, .rw, 0x64⟩
def F.ACT_TIMER_CFG1_TO4 : Fld := ⟨0x40000C, 0x0, 1, 19, 10, .rw, 0x64⟩
def F.ACT_TIMER_CFG1_TO5 : Fld := ⟨0x40000C, 0x0, 1, 9, 0, .rw, 0x64⟩
/-! ACT_PARK_CFG, at 0x0400010 (R171). -/
def F.ACT_PARK_CFG_EN : Fld := ⟨0x400010, 0x0, 1, 31, 31, .rw, 0x0⟩
def F.ACT_PARK_CFG_MIN_ACTIVE : Fld := ⟨0x400010, 0x0, 1, 26, 24, .rw, 0x1⟩
def F.ACT_PARK_CFG_WINDOW : Fld := ⟨0x400010, 0x0, 1, 23, 16, .rw, 0x64⟩
def F.ACT_PARK_CFG_AGREE_MS : Fld := ⟨0x400010, 0x0, 1, 15, 0, .rw, 0x64⟩
/-! ACT_PARK_LOAD, at 0x0400014 (R171). -/
def F.ACT_PARK_LOAD_HIGH_PCT : Fld := ⟨0x400014, 0x0, 1, 15, 8, .rw, 0x50⟩
def F.ACT_PARK_LOAD_LOW_PCT : Fld := ⟨0x400014, 0x0, 1, 7, 0, .rw, 0x1E⟩
/-! ACT_SERIAL_LO, at 0x0400018 (R171). -/
def F.ACT_SERIAL_LO_SERIAL : Fld := ⟨0x400018, 0x0, 1, 31, 0, .ro, 0x0⟩
/-! ACT_SERIAL_HI, at 0x040001C (R171). -/
def F.ACT_SERIAL_HI_SERIAL : Fld := ⟨0x40001C, 0x0, 1, 31, 0, .ro, 0x0⟩
/-! ACT_CH_STATUS, at 0x0401000 + 0x40 n, n 0 to 7 (R171). -/
def F.ACT_CH_STATUS_ESTOP : Fld := ⟨0x401000, 0x40, 8, 31, 31, .ro, 0x0⟩
def F.ACT_CH_STATUS_PARK_PENDING : Fld := ⟨0x401000, 0x40, 8, 30, 30, .ro, 0x0⟩
def F.ACT_CH_STATUS_TUNE_PENDING : Fld := ⟨0x401000, 0x40, 8, 29, 29, .ro, 0x0⟩
def F.ACT_CH_STATUS_MEMBER : Fld := ⟨0x401000, 0x40, 8, 28, 28, .ro, 0x0⟩
def F.ACT_CH_STATUS_ONU_ID : Fld := ⟨0x401000, 0x40, 8, 26, 17, .ro, 0x3FF⟩
def F.ACT_CH_STATUS_ALLOCS : Fld := ⟨0x401000, 0x40, 8, 16, 8, .ro, 0x0⟩
def F.ACT_CH_STATUS_STATE : Fld := ⟨0x401000, 0x40, 8, 7, 0, .ro, 0x0⟩
/-! ACT_CH_EQD, at 0x0401004 + 0x40 n, n 0 to 7 (R171). -/
def F.ACT_CH_EQD_VALID : Fld := ⟨0x401004, 0x40, 8, 31, 31, .ro, 0x0⟩
def F.ACT_CH_EQD_EQD : Fld := ⟨0x401004, 0x40, 8, 23, 0, .ro, 0x0⟩
/-! ACT_CH_CAL, at 0x0401008 + 0x40 n, n 0 to 7 (R171). -/
def F.ACT_CH_CAL_CAL : Fld := ⟨0x401008, 0x40, 8, 15, 0, .rw, 0x0⟩
/-! ACT_CH_EVENT, at 0x040100C + 0x40 n, n 0 to 7 (R171). -/
def F.ACT_CH_EVENT_ALLOC_FULL : Fld := ⟨0x40100C, 0x40, 8, 3, 3, .w1c, 0x0⟩
def F.ACT_CH_EVENT_NACK_SENT : Fld := ⟨0x40100C, 0x40, 8, 2, 2, .w1c, 0x0⟩
def F.ACT_CH_EVENT_TIMER_EXPIRED : Fld := ⟨0x40100C, 0x40, 8, 1, 1, .w1c, 0x0⟩
def F.ACT_CH_EVENT_STATE_CHANGE : Fld := ⟨0x40100C, 0x40, 8, 0, 0, .w1c, 0x0⟩
/-! ACT_CH_EVENT_EVCNT, at 0x0401010 + 0x40 n, n 0 to 7 (R171). -/
def F.ACT_CH_EVENT_EVCNT_STATE_CHANGE : Fld := ⟨0x401010, 0x40, 8, 7, 0, .ro, 0x0⟩
def F.ACT_CH_EVENT_EVCNT_TIMER_EXPIRED : Fld := ⟨0x401010, 0x40, 8, 15, 8, .ro, 0x0⟩
def F.ACT_CH_EVENT_EVCNT_NACK_SENT : Fld := ⟨0x401010, 0x40, 8, 23, 16, .ro, 0x0⟩
def F.ACT_CH_EVENT_EVCNT_ALLOC_FULL : Fld := ⟨0x401010, 0x40, 8, 31, 24, .ro, 0x0⟩
/-! ACT_CH_COUNT, at 0x0401014 + 0x40 n, n 0 to 7 (R171). -/
def F.ACT_CH_COUNT_PLOAM_BAD : Fld := ⟨0x401014, 0x40, 8, 31, 24, .rc, 0x0⟩
def F.ACT_CH_COUNT_EQD_SKIP : Fld := ⟨0x401014, 0x40, 8, 23, 16, .rc, 0x0⟩
def F.ACT_CH_COUNT_RNG_SENT : Fld := ⟨0x401014, 0x40, 8, 15, 8, .rc, 0x0⟩
def F.ACT_CH_COUNT_SN_SENT : Fld := ⟨0x401014, 0x40, 8, 7, 0, .rc, 0x0⟩
/-! UBE_CFG, at 0x0500000 (R206). -/
def F.UBE_CFG_FRAG_MIN : Fld := ⟨0x500000, 0x0, 1, 23, 16, .rw, 0x10⟩
def F.UBE_CFG_FILL_LEAD : Fld := ⟨0x500000, 0x0, 1, 15, 0, .rw, 0x3000⟩
/-! UBE_STATUS, at 0x0500004 (R206). -/
def F.UBE_STATUS_MODE : Fld := ⟨0x500004, 0x0, 1, 23, 0, .ro, 0x0⟩
/-! UBE_EVENT, at 0x0500008 (R206). -/
def F.UBE_EVENT_FRAG_DROP : Fld := ⟨0x500008, 0x0, 1, 3, 3, .w1c, 0x0⟩
def F.UBE_EVENT_LATE_FILL : Fld := ⟨0x500008, 0x0, 1, 2, 2, .w1c, 0x0⟩
def F.UBE_EVENT_OVERLAP : Fld := ⟨0x500008, 0x0, 1, 1, 1, .w1c, 0x0⟩
def F.UBE_EVENT_MAP_HEC : Fld := ⟨0x500008, 0x0, 1, 0, 0, .w1c, 0x0⟩
/-! UBE_EVENT_EVCNT, at 0x050000C (R206). -/
def F.UBE_EVENT_EVCNT_MAP_HEC : Fld := ⟨0x50000C, 0x0, 1, 7, 0, .ro, 0x0⟩
def F.UBE_EVENT_EVCNT_OVERLAP : Fld := ⟨0x50000C, 0x0, 1, 15, 8, .ro, 0x0⟩
def F.UBE_EVENT_EVCNT_LATE_FILL : Fld := ⟨0x50000C, 0x0, 1, 23, 16, .ro, 0x0⟩
def F.UBE_EVENT_EVCNT_FRAG_DROP : Fld := ⟨0x50000C, 0x0, 1, 31, 24, .ro, 0x0⟩
/-! UBE_CH_STATUS, at 0x0501000 + 0x40 n, n 0 to 7 (R206). -/
def F.UBE_CH_STATUS_PLANNED : Fld := ⟨0x501000, 0x40, 8, 15, 8, .ro, 0x0⟩
def F.UBE_CH_STATUS_PROF_VALID : Fld := ⟨0x501000, 0x40, 8, 7, 4, .ro, 0x0⟩
def F.UBE_CH_STATUS_MODE : Fld := ⟨0x501000, 0x40, 8, 2, 0, .ro, 0x0⟩
/-! UBE_CH_PROF0, at 0x0501004 + 0x40 n, n 0 to 7 (R206). -/
def F.UBE_CH_PROF0_VALID : Fld := ⟨0x501004, 0x40, 8, 31, 31, .ro, 0x0⟩
def F.UBE_CH_PROF0_RATE : Fld := ⟨0x501004, 0x40, 8, 30, 29, .ro, 0x0⟩
def F.UBE_CH_PROF0_FEC : Fld := ⟨0x501004, 0x40, 8, 28, 28, .ro, 0x0⟩
def F.UBE_CH_PROF0_DEL_BYTES : Fld := ⟨0x501004, 0x40, 8, 23, 16, .ro, 0x0⟩
def F.UBE_CH_PROF0_PRE_BITS : Fld := ⟨0x501004, 0x40, 8, 15, 0, .ro, 0x0⟩
/-! UBE_CH_PROF1, at 0x0501008 + 0x40 n, n 0 to 7 (R206). -/
def F.UBE_CH_PROF1_VALID : Fld := ⟨0x501008, 0x40, 8, 31, 31, .ro, 0x0⟩
def F.UBE_CH_PROF1_RATE : Fld := ⟨0x501008, 0x40, 8, 30, 29, .ro, 0x0⟩
def F.UBE_CH_PROF1_FEC : Fld := ⟨0x501008, 0x40, 8, 28, 28, .ro, 0x0⟩
def F.UBE_CH_PROF1_DEL_BYTES : Fld := ⟨0x501008, 0x40, 8, 23, 16, .ro, 0x0⟩
def F.UBE_CH_PROF1_PRE_BITS : Fld := ⟨0x501008, 0x40, 8, 15, 0, .ro, 0x0⟩
/-! UBE_CH_PROF2, at 0x050100C + 0x40 n, n 0 to 7 (R206). -/
def F.UBE_CH_PROF2_VALID : Fld := ⟨0x50100C, 0x40, 8, 31, 31, .ro, 0x0⟩
def F.UBE_CH_PROF2_RATE : Fld := ⟨0x50100C, 0x40, 8, 30, 29, .ro, 0x0⟩
def F.UBE_CH_PROF2_FEC : Fld := ⟨0x50100C, 0x40, 8, 28, 28, .ro, 0x0⟩
def F.UBE_CH_PROF2_DEL_BYTES : Fld := ⟨0x50100C, 0x40, 8, 23, 16, .ro, 0x0⟩
def F.UBE_CH_PROF2_PRE_BITS : Fld := ⟨0x50100C, 0x40, 8, 15, 0, .ro, 0x0⟩
/-! UBE_CH_PROF3, at 0x0501010 + 0x40 n, n 0 to 7 (R206). -/
def F.UBE_CH_PROF3_VALID : Fld := ⟨0x501010, 0x40, 8, 31, 31, .ro, 0x0⟩
def F.UBE_CH_PROF3_RATE : Fld := ⟨0x501010, 0x40, 8, 30, 29, .ro, 0x0⟩
def F.UBE_CH_PROF3_FEC : Fld := ⟨0x501010, 0x40, 8, 28, 28, .ro, 0x0⟩
def F.UBE_CH_PROF3_DEL_BYTES : Fld := ⟨0x501010, 0x40, 8, 23, 16, .ro, 0x0⟩
def F.UBE_CH_PROF3_PRE_BITS : Fld := ⟨0x501010, 0x40, 8, 15, 0, .ro, 0x0⟩
/-! UBE_CH_BURSTS, at 0x0501014 + 0x40 n, n 0 to 7 (R206). -/
def F.UBE_CH_BURSTS_BURSTS : Fld := ⟨0x501014, 0x40, 8, 31, 0, .rc, 0x0⟩
/-! UBE_CH_DISC, at 0x0501018 + 0x40 n, n 0 to 7 (R206). -/
def F.UBE_CH_DISC_HEC : Fld := ⟨0x501018, 0x40, 8, 31, 24, .rc, 0x0⟩
def F.UBE_CH_DISC_STATE : Fld := ⟨0x501018, 0x40, 8, 23, 16, .rc, 0x0⟩
def F.UBE_CH_DISC_OVERLAP : Fld := ⟨0x501018, 0x40, 8, 15, 8, .rc, 0x0⟩
def F.UBE_CH_DISC_PROFILE : Fld := ⟨0x501018, 0x40, 8, 7, 0, .rc, 0x0⟩
/-! UBE_CH_DISC2, at 0x050101C + 0x40 n, n 0 to 7 (R206). -/
def F.UBE_CH_DISC2_LATE_FILL : Fld := ⟨0x50101C, 0x40, 8, 31, 24, .rc, 0x0⟩
def F.UBE_CH_DISC2_FRAG_DROP : Fld := ⟨0x50101C, 0x40, 8, 23, 16, .rc, 0x0⟩
def F.UBE_CH_DISC2_RANGE : Fld := ⟨0x50101C, 0x40, 8, 15, 8, .rc, 0x0⟩
/-! UBE_CH_LOSS, at 0x0501020 + 0x40 n, n 0 to 7 (R206). -/
def F.UBE_CH_LOSS_FRAMES : Fld := ⟨0x501020, 0x40, 8, 31, 0, .rc, 0x0⟩
/-! UBE_CH_PAYLOAD, at 0x0501024 + 0x40 n, n 0 to 7 (R206). -/
def F.UBE_CH_PAYLOAD_UNITS : Fld := ⟨0x501024, 0x40, 8, 31, 0, .rc, 0x0⟩
/-! WHS_CFG, at 0x1000000 (R207, R458). -/
def F.WHS_CFG_SHUT_ALL : Fld := ⟨0x1000000, 0x0, 1, 31, 31, .rw, 0x1⟩
def F.WHS_CFG_PERIODIC : Fld := ⟨0x1000000, 0x0, 1, 30, 30, .rw, 0x1⟩
def F.WHS_CFG_EYE_N : Fld := ⟨0x1000000, 0x0, 1, 23, 20, .rw, 0x4⟩
def F.WHS_CFG_TOL_LC : Fld := ⟨0x1000000, 0x0, 1, 11, 8, .rw, 0x2⟩
def F.WHS_CFG_DEB : Fld := ⟨0x1000000, 0x0, 1, 4, 0, .rw, 0x3⟩
/-! WHS_STATUS, at 0x1000004 (R207, R458). -/
def F.WHS_STATUS_TXDIS : Fld := ⟨0x1000004, 0x0, 1, 31, 24, .ro, 0xFF⟩
def F.WHS_STATUS_ROGUE : Fld := ⟨0x1000004, 0x0, 1, 23, 16, .ro, 0x0⟩
def F.WHS_STATUS_RELEASE_SEEN : Fld := ⟨0x1000004, 0x0, 1, 15, 15, .ro, 0x0⟩
def F.WHS_STATUS_LINK_OK : Fld := ⟨0x1000004, 0x0, 1, 14, 14, .ro, 0x0⟩
def F.WHS_STATUS_DARK : Fld := ⟨0x1000004, 0x0, 1, 13, 13, .ro, 0x0⟩
def F.WHS_STATUS_LATCH_STORED : Fld := ⟨0x1000004, 0x0, 1, 12, 12, .ro, 0x0⟩  -- DESIGN CHOICE: per store or per part, log entry 6
def F.WHS_STATUS_TSTATE : Fld := ⟨0x1000004, 0x0, 1, 11, 10, .ro, 0x2⟩
def F.WHS_STATUS_STATE : Fld := ⟨0x1000004, 0x0, 1, 2, 0, .ro, 0x0⟩
/-! WHS_EVENT, at 0x1000008 (R207, R458). -/
def F.WHS_EVENT_LINK_LOSS : Fld := ⟨0x1000008, 0x0, 1, 3, 3, .w1c, 0x0⟩
def F.WHS_EVENT_CONTEXT_FAULT : Fld := ⟨0x1000008, 0x0, 1, 2, 2, .w1c, 0x0⟩
def F.WHS_EVENT_MAP_GAP : Fld := ⟨0x1000008, 0x0, 1, 1, 1, .w1c, 0x0⟩
def F.WHS_EVENT_ROGUE : Fld := ⟨0x1000008, 0x0, 1, 0, 0, .w1c, 0x0⟩
/-! WHS_EVENT_EVCNT, at 0x100000C (R207, R458). -/
def F.WHS_EVENT_EVCNT_ROGUE : Fld := ⟨0x100000C, 0x0, 1, 7, 0, .ro, 0x0⟩
def F.WHS_EVENT_EVCNT_MAP_GAP : Fld := ⟨0x100000C, 0x0, 1, 15, 8, .ro, 0x0⟩
def F.WHS_EVENT_EVCNT_CONTEXT_FAULT : Fld := ⟨0x100000C, 0x0, 1, 23, 16, .ro, 0x0⟩
def F.WHS_EVENT_EVCNT_LINK_LOSS : Fld := ⟨0x100000C, 0x0, 1, 31, 24, .ro, 0x0⟩
/-! WHS_SHUT_INFO, at 0x1000010 (R207, R458). -/
def F.WHS_SHUT_INFO_LANES : Fld := ⟨0x1000010, 0x0, 1, 23, 16, .ro, 0x0⟩  -- DESIGN CHOICE: per store or per part, log entry 6
def F.WHS_SHUT_INFO_CLASS : Fld := ⟨0x1000010, 0x0, 1, 11, 8, .ro, 0x0⟩  -- DESIGN CHOICE: per store or per part, log entry 6
def F.WHS_SHUT_INFO_COUNT : Fld := ⟨0x1000010, 0x0, 1, 7, 0, .ro, 0x0⟩  -- DESIGN CHOICE: per store or per part, log entry 6
/-! WHS_SHUT_STAMP_LO, at 0x1000014 (R207, R458). -/
def F.WHS_SHUT_STAMP_LO_STAMP : Fld := ⟨0x1000014, 0x0, 1, 31, 0, .ro, 0x0⟩  -- DESIGN CHOICE: per store or per part, log entry 6
/-! WHS_SHUT_STAMP_HI, at 0x1000018 (R207, R458). -/
def F.WHS_SHUT_STAMP_HI_STAMP : Fld := ⟨0x1000018, 0x0, 1, 31, 0, .ro, 0x0⟩  -- DESIGN CHOICE: per store or per part, log entry 6
/-! WHS_SELFTEST, at 0x100001C (R207, R458). -/
def F.WHS_SELFTEST_RUNS : Fld := ⟨0x100001C, 0x0, 1, 31, 16, .ro, 0x0⟩
def F.WHS_SELFTEST_FAIL_STEP : Fld := ⟨0x100001C, 0x0, 1, 15, 8, .ro, 0x0⟩
def F.WHS_SELFTEST_RESULT : Fld := ⟨0x100001C, 0x0, 1, 1, 0, .ro, 0x3⟩
/-! WHS_TIME_DIFF, at 0x1000020 (R207, R458). -/
def F.WHS_TIME_DIFF_VALID : Fld := ⟨0x1000020, 0x0, 1, 31, 31, .ro, 0x0⟩
def F.WHS_TIME_DIFF_DIFF : Fld := ⟨0x1000020, 0x0, 1, 15, 0, .ro, 0x0⟩
/-! WHS_WAKE_INFO, at 0x1000024 (R207, R458). -/
def F.WHS_WAKE_INFO_VALID : Fld := ⟨0x1000024, 0x0, 1, 31, 31, .ro, 0x0⟩
def F.WHS_WAKE_INFO_CAUSE : Fld := ⟨0x1000024, 0x0, 1, 26, 24, .ro, 0x0⟩
def F.WHS_WAKE_INFO_DARK_MS : Fld := ⟨0x1000024, 0x0, 1, 23, 0, .ro, 0x0⟩
/-! WHS_CH_STATUS, at 0x1001000 + 0x40 n, n 0 to 7 (R207, R458). -/
def F.WHS_CH_STATUS_ASSIGNED : Fld := ⟨0x1001000, 0x40, 8, 31, 31, .ro, 0x0⟩
def F.WHS_CH_STATUS_ENGINE : Fld := ⟨0x1001000, 0x40, 8, 30, 30, .ro, 0x0⟩
def F.WHS_CH_STATUS_HOLD : Fld := ⟨0x1001000, 0x40, 8, 29, 29, .ro, 0x0⟩
def F.WHS_CH_STATUS_PERM : Fld := ⟨0x1001000, 0x40, 8, 26, 24, .ro, 0x0⟩
def F.WHS_CH_STATUS_CTX_SEQ : Fld := ⟨0x1001000, 0x40, 8, 15, 0, .ro, 0x0⟩
/-! WHS_CH_EYE, at 0x1001004 + 0x40 n, n 0 to 7 (R207, R458). -/
def F.WHS_CH_EYE_LIMIT : Fld := ⟨0x1001004, 0x40, 8, 11, 0, .rw, 0x0⟩
/-! WHS_CH_PMON, at 0x1001008 + 0x40 n, n 0 to 7 (R207, R458). -/
def F.WHS_CH_PMON_MAX : Fld := ⟨0x1001008, 0x40, 8, 27, 16, .rc, 0x0⟩
def F.WHS_CH_PMON_LAST : Fld := ⟨0x1001008, 0x40, 8, 11, 0, .ro, 0x0⟩
/-! WHS_CH_LIGHT, at 0x100100C + 0x40 n, n 0 to 7 (R207, R458). -/
def F.WHS_CH_LIGHT_THRESH : Fld := ⟨0x100100C, 0x40, 8, 11, 0, .rw, 0x80⟩
/-! WHS_CH_COUNT, at 0x1001010 + 0x40 n, n 0 to 7 (R207, R458). -/
def F.WHS_CH_COUNT_MAP_GAP : Fld := ⟨0x1001010, 0x40, 8, 31, 24, .rc, 0x0⟩
def F.WHS_CH_COUNT_CTX_RETRY : Fld := ⟨0x1001010, 0x40, 8, 23, 16, .rc, 0x0⟩
/-! STR_CFG, at 0x0600000 (R239). -/
def F.STR_CFG_DS_MAX : Fld := ⟨0x600000, 0x0, 1, 29, 16, .rw, 0x2600⟩
def F.STR_CFG_RESTEEP_SHARE : Fld := ⟨0x600000, 0x0, 1, 11, 8, .rw, 0x4⟩
/-! STR_STATUS, at 0x0600004 (R239). -/
def F.STR_STATUS_GEN : Fld := ⟨0x600004, 0x0, 1, 31, 24, .ro, 0x0⟩
def F.STR_STATUS_BANK1 : Fld := ⟨0x600004, 0x0, 1, 19, 18, .ro, 0x0⟩
def F.STR_STATUS_BANK0 : Fld := ⟨0x600004, 0x0, 1, 17, 16, .ro, 0x1⟩
def F.STR_STATUS_DRAIN : Fld := ⟨0x600004, 0x0, 1, 12, 0, .ro, 0x0⟩
/-! STR_EVENT, at 0x0600008 (R239). -/
def F.STR_EVENT_RULE_MEM : Fld := ⟨0x600008, 0x0, 1, 3, 3, .w1c, 0x0⟩
def F.STR_EVENT_RESTEEP_FULL : Fld := ⟨0x600008, 0x0, 1, 2, 2, .w1c, 0x0⟩
def F.STR_EVENT_LEN_CONFLICT : Fld := ⟨0x600008, 0x0, 1, 1, 1, .w1c, 0x0⟩
def F.STR_EVENT_DEPTH_EXCEEDED : Fld := ⟨0x600008, 0x0, 1, 0, 0, .w1c, 0x0⟩
/-! STR_EVENT_EVCNT, at 0x060000C (R239). -/
def F.STR_EVENT_EVCNT_DEPTH_EXCEEDED : Fld := ⟨0x60000C, 0x0, 1, 7, 0, .ro, 0x0⟩
def F.STR_EVENT_EVCNT_LEN_CONFLICT : Fld := ⟨0x60000C, 0x0, 1, 15, 8, .ro, 0x0⟩
def F.STR_EVENT_EVCNT_RESTEEP_FULL : Fld := ⟨0x60000C, 0x0, 1, 23, 16, .ro, 0x0⟩
def F.STR_EVENT_EVCNT_RULE_MEM : Fld := ⟨0x60000C, 0x0, 1, 31, 24, .ro, 0x0⟩
/-! STR_PKTS_US, at 0x0600010 (R239). -/
def F.STR_PKTS_US_COUNT : Fld := ⟨0x600010, 0x0, 1, 31, 0, .rc, 0x0⟩
/-! STR_PKTS_DS, at 0x0600014 (R239). -/
def F.STR_PKTS_DS_COUNT : Fld := ⟨0x600014, 0x0, 1, 31, 0, .rc, 0x0⟩
/-! STR_PASS2, at 0x0600018 (R239). -/
def F.STR_PASS2_COUNT : Fld := ⟨0x600018, 0x0, 1, 31, 0, .rc, 0x0⟩
/-! STR_SIZE_DROP, at 0x060001C (R239). -/
def F.STR_SIZE_DROP_OVERSIZE : Fld := ⟨0x60001C, 0x0, 1, 31, 16, .rc, 0x0⟩
def F.STR_SIZE_DROP_UNDERSIZE : Fld := ⟨0x60001C, 0x0, 1, 15, 0, .rc, 0x0⟩
/-! STR_LEN, at 0x0600020 (R239). -/
def F.STR_LEN_LEN_DROP : Fld := ⟨0x600020, 0x0, 1, 31, 16, .rc, 0x0⟩
def F.STR_LEN_LEN_PASS : Fld := ⟨0x600020, 0x0, 1, 15, 0, .rc, 0x0⟩
/-! STR_DEPTH, at 0x0600024 (R239). -/
def F.STR_DEPTH_DEPTH_EXCEEDED : Fld := ⟨0x600024, 0x0, 1, 31, 16, .rc, 0x0⟩
def F.STR_DEPTH_RESTEEP_FULL : Fld := ⟨0x600024, 0x0, 1, 15, 0, .rc, 0x0⟩
/-! STR_NO_QUEUE, at 0x0600028 (R239). -/
def F.STR_NO_QUEUE_FRAMES : Fld := ⟨0x600028, 0x0, 1, 31, 0, .rc, 0x0⟩
/-! STR_BAD_RECORD, at 0x060002C (R239). -/
def F.STR_BAD_RECORD_RECORD : Fld := ⟨0x60002C, 0x0, 1, 31, 16, .ro, 0x0⟩
def F.STR_BAD_RECORD_BYTE : Fld := ⟨0x60002C, 0x0, 1, 15, 0, .ro, 0x0⟩
/-! STR_RQ_DEPTH, at 0x0600040 + 0x4 n, n 0 to 15 (R239). -/
def F.STR_RQ_DEPTH_PEAK : Fld := ⟨0x600040, 0x4, 16, 24, 16, .rc, 0x0⟩
def F.STR_RQ_DEPTH_FRAMES : Fld := ⟨0x600040, 0x4, 16, 8, 0, .ro, 0x0⟩
/-! STR_PDROP, at 0x0600100 + 0x4 n, n 0 to 63 (R239). -/
def F.STR_PDROP_FRAMES : Fld := ⟨0x600100, 0x4, 64, 31, 0, .rc, 0x0⟩
/-! TBL_CFG, at 0x0700000 (R264). -/
def F.TBL_CFG_MAX_MOVES : Fld := ⟨0x700000, 0x0, 1, 7, 0, .rw, 0x20⟩
/-! TBL_STATUS, at 0x0700004 (R264). -/
def F.TBL_STATUS_READY : Fld := ⟨0x700004, 0x0, 1, 31, 31, .ro, 0x0⟩
def F.TBL_STATUS_ENTRIES : Fld := ⟨0x700004, 0x0, 1, 21, 0, .ro, 0x0⟩
/-! TBL_EVENT, at 0x0700008 (R264). -/
def F.TBL_EVENT_AGE_GAP : Fld := ⟨0x700008, 0x0, 1, 3, 3, .w1c, 0x0⟩
def F.TBL_EVENT_ARRAY_MEM : Fld := ⟨0x700008, 0x0, 1, 2, 2, .w1c, 0x0⟩
def F.TBL_EVENT_STASH_FULL : Fld := ⟨0x700008, 0x0, 1, 1, 1, .w1c, 0x0⟩
def F.TBL_EVENT_UNCORR : Fld := ⟨0x700008, 0x0, 1, 0, 0, .w1c, 0x0⟩
/-! TBL_EVENT_EVCNT, at 0x070000C (R264). -/
def F.TBL_EVENT_EVCNT_UNCORR : Fld := ⟨0x70000C, 0x0, 1, 7, 0, .ro, 0x0⟩
def F.TBL_EVENT_EVCNT_STASH_FULL : Fld := ⟨0x70000C, 0x0, 1, 15, 8, .ro, 0x0⟩
def F.TBL_EVENT_EVCNT_ARRAY_MEM : Fld := ⟨0x70000C, 0x0, 1, 23, 16, .ro, 0x0⟩
def F.TBL_EVENT_EVCNT_AGE_GAP : Fld := ⟨0x70000C, 0x0, 1, 31, 24, .ro, 0x0⟩
/-! TBL_HASH_SEED_LO, at 0x0700010 (R264). -/
def F.TBL_HASH_SEED_LO_SEED : Fld := ⟨0x700010, 0x0, 1, 31, 0, .rw, 0x0⟩
/-! TBL_HASH_SEED_HI, at 0x0700014 (R264). -/
def F.TBL_HASH_SEED_HI_SEED : Fld := ⟨0x700014, 0x0, 1, 31, 0, .rw, 0x0⟩
/-! TBL_STASH, at 0x0700018 (R264). -/
def F.TBL_STASH_PEAK : Fld := ⟨0x700018, 0x0, 1, 28, 16, .rc, 0x0⟩
def F.TBL_STASH_ENTRIES : Fld := ⟨0x700018, 0x0, 1, 12, 0, .ro, 0x0⟩
/-! TBL_AGE_CFG, at 0x0700020 (R264). -/
def F.TBL_AGE_CFG_EN : Fld := ⟨0x700020, 0x0, 1, 31, 31, .rw, 0x1⟩
def F.TBL_AGE_CFG_AGE_EPOCHS : Fld := ⟨0x700020, 0x0, 1, 30, 16, .rw, 0x12C⟩
def F.TBL_AGE_CFG_EPOCH_MS : Fld := ⟨0x700020, 0x0, 1, 15, 0, .rw, 0x3E8⟩
/-! TBL_AGE_STATUS, at 0x0700024 (R264). -/
def F.TBL_AGE_STATUS_GAP : Fld := ⟨0x700024, 0x0, 1, 16, 16, .ro, 0x0⟩
def F.TBL_AGE_STATUS_EPOCH : Fld := ⟨0x700024, 0x0, 1, 15, 0, .ro, 0x0⟩
/-! TBL_AGE_PASSES, at 0x0700028 (R264). -/
def F.TBL_AGE_PASSES_PASSES : Fld := ⟨0x700028, 0x0, 1, 31, 0, .ro, 0x0⟩
/-! TBL_AGED, at 0x070002C (R264). -/
def F.TBL_AGED_DELETES : Fld := ⟨0x70002C, 0x0, 1, 31, 0, .rc, 0x0⟩
/-! TBL_AGE_REPRIEVE, at 0x0700030 (R264). -/
def F.TBL_AGE_REPRIEVE_REPRIEVE : Fld := ⟨0x700030, 0x0, 1, 31, 16, .rc, 0x0⟩
def F.TBL_AGE_REPRIEVE_ABANDON : Fld := ⟨0x700030, 0x0, 1, 15, 0, .rc, 0x0⟩
/-! TBL_LEARN_CFG, at 0x0700040 (R264). -/
def F.TBL_LEARN_CFG_EN : Fld := ⟨0x700040, 0x0, 1, 31, 31, .rw, 0x0⟩
def F.TBL_LEARN_CFG_AGED_EN : Fld := ⟨0x700040, 0x0, 1, 30, 30, .rw, 0x1⟩
def F.TBL_LEARN_CFG_RING : Fld := ⟨0x700040, 0x0, 1, 26, 24, .rw, 0x0⟩
def F.TBL_LEARN_CFG_WINDOW_US : Fld := ⟨0x700040, 0x0, 1, 15, 0, .rw, 0x3E8⟩
/-! TBL_LEARN_STATUS, at 0x0700044 (R264). -/
def F.TBL_LEARN_STATUS_IN_USE : Fld := ⟨0x700044, 0x0, 1, 12, 0, .ro, 0x0⟩
/-! TBL_LEARN_COUNT, at 0x0700048 (R264). -/
def F.TBL_LEARN_COUNT_LOST : Fld := ⟨0x700048, 0x0, 1, 31, 24, .rc, 0x0⟩
def F.TBL_LEARN_COUNT_FULL : Fld := ⟨0x700048, 0x0, 1, 23, 16, .rc, 0x0⟩
def F.TBL_LEARN_COUNT_SUPPRESSED : Fld := ⟨0x700048, 0x0, 1, 15, 0, .rc, 0x0⟩
/-! TBL_HITS, at 0x0700050 (R264). -/
def F.TBL_HITS_COUNT : Fld := ⟨0x700050, 0x0, 1, 31, 0, .rc, 0x0⟩
/-! TBL_MISSES, at 0x0700054 (R264). -/
def F.TBL_MISSES_COUNT : Fld := ⟨0x700054, 0x0, 1, 31, 0, .rc, 0x0⟩
/-! TBL_ERR, at 0x0700058 (R264). -/
def F.TBL_ERR_UNCORR : Fld := ⟨0x700058, 0x0, 1, 31, 16, .rc, 0x0⟩
def F.TBL_ERR_FMT : Fld := ⟨0x700058, 0x0, 1, 15, 0, .rc, 0x0⟩
/-! TBL_KFMT, at 0x0700100 + 0x8 n, n 0 to 15 (R264). -/
def F.TBL_KFMT_EN : Fld := ⟨0x700100, 0x8, 16, 31, 31, .rw, 0x0⟩
def F.TBL_KFMT_LEARN : Fld := ⟨0x700100, 0x8, 16, 30, 30, .rw, 0x0⟩
def F.TBL_KFMT_MISS_DROP : Fld := ⟨0x700100, 0x8, 16, 29, 29, .rw, 0x0⟩
def F.TBL_KFMT_DIR : Fld := ⟨0x700100, 0x8, 16, 28, 27, .rw, 0x2⟩
def F.TBL_KFMT_P4 : Fld := ⟨0x700100, 0x8, 16, 24, 20, .rw, 0x0⟩
def F.TBL_KFMT_P3 : Fld := ⟨0x700100, 0x8, 16, 19, 15, .rw, 0x0⟩
def F.TBL_KFMT_P2 : Fld := ⟨0x700100, 0x8, 16, 14, 10, .rw, 0x0⟩
def F.TBL_KFMT_P1 : Fld := ⟨0x700100, 0x8, 16, 9, 5, .rw, 0x0⟩
def F.TBL_KFMT_P0 : Fld := ⟨0x700100, 0x8, 16, 4, 0, .rw, 0x0⟩
/-! TBL_KFMT_BMASK, at 0x0700104 + 0x8 n, n 0 to 15 (R264). -/
def F.TBL_KFMT_BMASK_BMASK : Fld := ⟨0x700104, 0x8, 16, 19, 0, .rw, 0xFFFFF⟩
/-! TBL_TCW_OP, at 0x0700200 (R264). -/
def F.TBL_TCW_OP_GO : Fld := ⟨0x700200, 0x0, 1, 31, 31, .wo, 0x0⟩
def F.TBL_TCW_OP_SLOT : Fld := ⟨0x700200, 0x0, 1, 25, 4, .rw, 0x0⟩
def F.TBL_TCW_OP_OP : Fld := ⟨0x700200, 0x0, 1, 3, 0, .rw, 0x0⟩
/-! TBL_TCW_STATUS, at 0x0700204 (R264). -/
def F.TBL_TCW_STATUS_BUSY : Fld := ⟨0x700204, 0x0, 1, 31, 31, .ro, 0x0⟩
def F.TBL_TCW_STATUS_COLLIDE : Fld := ⟨0x700204, 0x0, 1, 30, 30, .w1c, 0x0⟩
def F.TBL_TCW_STATUS_CODE : Fld := ⟨0x700204, 0x0, 1, 23, 16, .ro, 0x0⟩
/-! TBL_TCW_STATUS_EVCNT, at 0x0700208 (R264). -/
def F.TBL_TCW_STATUS_EVCNT_COLLIDE : Fld := ⟨0x700208, 0x0, 1, 7, 0, .ro, 0x0⟩
/-! TBL_TCW_RESULT, at 0x070020C (R264). -/
def F.TBL_TCW_RESULT_RESULT : Fld := ⟨0x70020C, 0x0, 1, 31, 0, .ro, 0x0⟩
/-! TBL_TCW_INFO, at 0x0700210 (R264). -/
def F.TBL_TCW_INFO_FRESH : Fld := ⟨0x700210, 0x0, 1, 31, 16, .ro, 0x0⟩
def F.TBL_TCW_INFO_MOVES : Fld := ⟨0x700210, 0x0, 1, 15, 8, .ro, 0x0⟩
def F.TBL_TCW_INFO_STASH : Fld := ⟨0x700210, 0x0, 1, 1, 1, .ro, 0x0⟩
def F.TBL_TCW_INFO_FOUND : Fld := ⟨0x700210, 0x0, 1, 0, 0, .ro, 0x0⟩
/-! TBL_TCW_STAGE, at 0x0700220 + 0x4 n, n 0 to 7 (R264). -/
def F.TBL_TCW_STAGE_ENTRY : Fld := ⟨0x700220, 0x4, 8, 31, 0, .rw, 0x0⟩
/-! TMG_CFG, at 0x0800000 (R297). -/
def F.TMG_CFG_TAIL_US : Fld := ⟨0x800000, 0x0, 1, 15, 8, .rw, 0x32⟩
def F.TMG_CFG_FC_EN : Fld := ⟨0x800000, 0x0, 1, 2, 2, .rw, 0x0⟩
def F.TMG_CFG_SAMPLER_EN : Fld := ⟨0x800000, 0x0, 1, 1, 1, .rw, 0x1⟩
def F.TMG_CFG_KETTLE_EN : Fld := ⟨0x800000, 0x0, 1, 0, 0, .rw, 0x0⟩
/-! TMG_STATUS, at 0x0800004 (R297). -/
def F.TMG_STATUS_SPILL_STOPPED : Fld := ⟨0x800004, 0x0, 1, 2, 2, .ro, 0x0⟩
def F.TMG_STATUS_HELD : Fld := ⟨0x800004, 0x0, 1, 1, 1, .ro, 0x0⟩
def F.TMG_STATUS_KETTLE_ACTIVE : Fld := ⟨0x800004, 0x0, 1, 0, 0, .ro, 0x0⟩
/-! TMG_EVENT, at 0x0800008 (R297). -/
def F.TMG_EVENT_CAL_LATE : Fld := ⟨0x800008, 0x0, 1, 4, 4, .w1c, 0x0⟩
def F.TMG_EVENT_CELL_MEM : Fld := ⟨0x800008, 0x0, 1, 3, 3, .w1c, 0x0⟩
def F.TMG_EVENT_KETTLE_UNCORR : Fld := ⟨0x800008, 0x0, 1, 2, 2, .w1c, 0x0⟩
def F.TMG_EVENT_KETTLE_FULL : Fld := ⟨0x800008, 0x0, 1, 1, 1, .w1c, 0x0⟩
def F.TMG_EVENT_POOL_LOW : Fld := ⟨0x800008, 0x0, 1, 0, 0, .w1c, 0x0⟩
/-! TMG_EVENT_EVCNT, at 0x080000C (R297). -/
def F.TMG_EVENT_EVCNT_POOL_LOW : Fld := ⟨0x80000C, 0x0, 1, 7, 0, .ro, 0x0⟩
def F.TMG_EVENT_EVCNT_KETTLE_FULL : Fld := ⟨0x80000C, 0x0, 1, 15, 8, .ro, 0x0⟩
def F.TMG_EVENT_EVCNT_KETTLE_UNCORR : Fld := ⟨0x80000C, 0x0, 1, 23, 16, .ro, 0x0⟩
def F.TMG_EVENT_EVCNT_CELL_MEM : Fld := ⟨0x80000C, 0x0, 1, 31, 24, .ro, 0x0⟩
/-! TMG_POOL0, at 0x0800010 (R297). -/
def F.TMG_POOL0_LOW_PCT : Fld := ⟨0x800010, 0x0, 1, 31, 24, .rw, 0xA⟩
def F.TMG_POOL0_SIZE : Fld := ⟨0x800010, 0x0, 1, 17, 0, .rw, 0x19800⟩
/-! TMG_POOL1, at 0x0800014 (R297). -/
def F.TMG_POOL1_LOW_PCT : Fld := ⟨0x800014, 0x0, 1, 31, 24, .rw, 0xA⟩
def F.TMG_POOL1_SIZE : Fld := ⟨0x800014, 0x0, 1, 17, 0, .rw, 0x19800⟩
/-! TMG_POOL2, at 0x0800018 (R297). -/
def F.TMG_POOL2_LOW_PCT : Fld := ⟨0x800018, 0x0, 1, 31, 24, .rw, 0xA⟩
def F.TMG_POOL2_SIZE : Fld := ⟨0x800018, 0x0, 1, 17, 0, .rw, 0x1000⟩
/-! TMG_POOL3, at 0x080001C (R297). -/
def F.TMG_POOL3_LOW_PCT : Fld := ⟨0x80001C, 0x0, 1, 31, 24, .rw, 0xA⟩
def F.TMG_POOL3_SIZE : Fld := ⟨0x80001C, 0x0, 1, 17, 0, .rw, 0x4000⟩
/-! TMG_POOL_USE, at 0x0800020 + 0x4 n, n 0 to 3 (R297). -/
def F.TMG_POOL_USE_IN_USE : Fld := ⟨0x800020, 0x4, 4, 17, 0, .ro, 0x0⟩
/-! TMG_KETTLE_BASE_LO, at 0x0800030 (R297). -/
def F.TMG_KETTLE_BASE_LO_ADDR : Fld := ⟨0x800030, 0x0, 1, 31, 30, .rw, 0x0⟩
/-! TMG_KETTLE_BASE_HI, at 0x0800034 (R297). -/
def F.TMG_KETTLE_BASE_HI_ADDR : Fld := ⟨0x800034, 0x0, 1, 31, 0, .rw, 0x0⟩
/-! TMG_KETTLE_SIZE, at 0x0800038 (R297). -/
def F.TMG_KETTLE_SIZE_GB : Fld := ⟨0x800038, 0x0, 1, 7, 0, .rw, 0x0⟩
/-! TMG_KETTLE_USE, at 0x080003C (R297). -/
def F.TMG_KETTLE_USE_PAGES : Fld := ⟨0x80003C, 0x0, 1, 25, 0, .ro, 0x0⟩
/-! TMG_CAL_STATUS, at 0x0800040 (R297). -/
def F.TMG_CAL_STATUS_LATE_CNT : Fld := ⟨0x800040, 0x0, 1, 31, 24, .ro, 0x0⟩
def F.TMG_CAL_STATUS_BACKLOG : Fld := ⟨0x800040, 0x0, 1, 14, 0, .ro, 0x0⟩
/-! TMG_SAMPLE_CFG, at 0x0800044 (R297). -/
def F.TMG_SAMPLE_CFG_SAMPLE_US : Fld := ⟨0x800044, 0x0, 1, 31, 16, .rw, 0x64⟩
def F.TMG_SAMPLE_CFG_DEPTH_SHIFT : Fld := ⟨0x800044, 0x0, 1, 11, 8, .rw, 0x0⟩
def F.TMG_SAMPLE_CFG_DELAY_SHIFT : Fld := ⟨0x800044, 0x0, 1, 4, 0, .rw, 0xA⟩
/-! TMG_FC_CFG, at 0x0800048 (R297). -/
def F.TMG_FC_CFG_XOFF : Fld := ⟨0x800048, 0x0, 1, 31, 16, .rw, 0x1000⟩
def F.TMG_FC_CFG_XON : Fld := ⟨0x800048, 0x0, 1, 15, 0, .rw, 0xC00⟩
/-! TMG_FC_STATUS, at 0x080004C (R297). -/
def F.TMG_FC_STATUS_XOFF : Fld := ⟨0x80004C, 0x0, 1, 31, 0, .ro, 0x0⟩
/-! TMG_DROP_US, at 0x0800050 (R297). -/
def F.TMG_DROP_US_THRESH : Fld := ⟨0x800050, 0x0, 1, 31, 16, .rc, 0x0⟩
def F.TMG_DROP_US_NO_BUFFER : Fld := ⟨0x800050, 0x0, 1, 15, 0, .rc, 0x0⟩
/-! TMG_DROP_DS, at 0x0800054 (R297). -/
def F.TMG_DROP_DS_THRESH : Fld := ⟨0x800054, 0x0, 1, 31, 16, .rc, 0x0⟩
def F.TMG_DROP_DS_NO_BUFFER : Fld := ⟨0x800054, 0x0, 1, 15, 0, .rc, 0x0⟩
/-! TMG_KETTLE_ERR, at 0x0800058 (R297). -/
def F.TMG_KETTLE_ERR_UNCORR : Fld := ⟨0x800058, 0x0, 1, 31, 16, .rc, 0x0⟩
def F.TMG_KETTLE_ERR_FROZEN_DROP : Fld := ⟨0x800058, 0x0, 1, 15, 0, .rc, 0x0⟩
/-! TMG_CH_ENQ, at 0x0800060 + 0x4 n, n 0 to 3 (R297). -/
def F.TMG_CH_ENQ_UNITS : Fld := ⟨0x800060, 0x4, 4, 31, 0, .ro, 0x0⟩
/-! MEM_DDR_CFG, at 0x0900000 (R335). -/
def F.MEM_DDR_CFG_TRAIN : Fld := ⟨0x900000, 0x0, 1, 31, 31, .wo, 0x0⟩
def F.MEM_DDR_CFG_DUAL : Fld := ⟨0x900000, 0x0, 1, 30, 30, .rw, 0x1⟩
def F.MEM_DDR_CFG_DENSITY : Fld := ⟨0x900000, 0x0, 1, 27, 26, .rw, 0x0⟩
def F.MEM_DDR_CFG_RANKS : Fld := ⟨0x900000, 0x0, 1, 25, 25, .rw, 0x0⟩
def F.MEM_DDR_CFG_HASH : Fld := ⟨0x900000, 0x0, 1, 24, 24, .rw, 0x1⟩
def F.MEM_DDR_CFG_SET : Fld := ⟨0x900000, 0x0, 1, 0, 0, .rw, 0x0⟩
/-! MEM_DDR_STATUS, at 0x0900004 (R335). -/
def F.MEM_DDR_STATUS_CAP_GB : Fld := ⟨0x900004, 0x0, 1, 23, 16, .ro, 0x0⟩
def F.MEM_DDR_STATUS_VALID_B : Fld := ⟨0x900004, 0x0, 1, 9, 9, .ro, 0x0⟩
def F.MEM_DDR_STATUS_VALID_A : Fld := ⟨0x900004, 0x0, 1, 8, 8, .ro, 0x0⟩
def F.MEM_DDR_STATUS_ACTIVE_SET : Fld := ⟨0x900004, 0x0, 1, 4, 4, .ro, 0x0⟩
/-! MEM_QDR_CFG, at 0x0900008 (R335). -/
def F.MEM_QDR_CFG_TRAIN : Fld := ⟨0x900008, 0x0, 1, 31, 31, .wo, 0x0⟩
def F.MEM_QDR_CFG_PARITY_EN : Fld := ⟨0x900008, 0x0, 1, 0, 0, .rw, 0x1⟩
/-! MEM_QDR_STATUS, at 0x090000C (R335). -/
def F.MEM_QDR_STATUS_TRAIN_STEP : Fld := ⟨0x90000C, 0x0, 1, 11, 8, .ro, 0x0⟩
def F.MEM_QDR_STATUS_STATE : Fld := ⟨0x90000C, 0x0, 1, 2, 0, .ro, 0x0⟩
/-! MEM_EVENT, at 0x0900010 (R335). -/
def F.MEM_EVENT_FROZEN : Fld := ⟨0x900010, 0x0, 1, 3, 3, .w1c, 0x0⟩
def F.MEM_EVENT_CHRONIC : Fld := ⟨0x900010, 0x0, 1, 2, 2, .w1c, 0x0⟩
def F.MEM_EVENT_UNCORR : Fld := ⟨0x900010, 0x0, 1, 1, 1, .w1c, 0x0⟩
def F.MEM_EVENT_CORRECTED : Fld := ⟨0x900010, 0x0, 1, 0, 0, .w1c, 0x0⟩
/-! MEM_EVENT_EVCNT, at 0x0900014 (R335). -/
def F.MEM_EVENT_EVCNT_CORRECTED : Fld := ⟨0x900014, 0x0, 1, 7, 0, .ro, 0x0⟩
def F.MEM_EVENT_EVCNT_UNCORR : Fld := ⟨0x900014, 0x0, 1, 15, 8, .ro, 0x0⟩
def F.MEM_EVENT_EVCNT_CHRONIC : Fld := ⟨0x900014, 0x0, 1, 23, 16, .ro, 0x0⟩
def F.MEM_EVENT_EVCNT_FROZEN : Fld := ⟨0x900014, 0x0, 1, 31, 24, .ro, 0x0⟩
/-! MEM_REFETCH_CFG, at 0x0900018 (R335). -/
def F.MEM_REFETCH_CFG_MAX : Fld := ⟨0x900018, 0x0, 1, 1, 0, .rw, 0x2⟩
/-! MEM_QOS_CFG, at 0x090001C (R335). -/
def F.MEM_QOS_CFG_SPARE_EN : Fld := ⟨0x90001C, 0x0, 1, 31, 31, .rw, 0x1⟩
def F.MEM_QOS_CFG_PERIOD : Fld := ⟨0x90001C, 0x0, 1, 23, 16, .rw, 0xC⟩
def F.MEM_QOS_CFG_SETTLE_US : Fld := ⟨0x90001C, 0x0, 1, 15, 0, .rw, 0x3E8⟩
/-! MEM_ENGINE_BASE_LO, at 0x0900020 (R335). -/
def F.MEM_ENGINE_BASE_LO_ADDR : Fld := ⟨0x900020, 0x0, 1, 31, 28, .rw, 0x1⟩
/-! MEM_ENGINE_BASE_HI, at 0x0900024 (R335). -/
def F.MEM_ENGINE_BASE_HI_ADDR : Fld := ⟨0x900024, 0x0, 1, 31, 0, .rw, 0x0⟩
/-! MEM_TRACK_STATUS, at 0x0900028 (R335). -/
def F.MEM_TRACK_STATUS_IN_USE : Fld := ⟨0x900028, 0x0, 1, 22, 16, .ro, 0x0⟩
def F.MEM_TRACK_STATUS_CHRONIC : Fld := ⟨0x900028, 0x0, 1, 6, 0, .ro, 0x0⟩
/-! MEM_RINSE_CFG, at 0x090002C (R335). -/
def F.MEM_RINSE_CFG_DDR_EN : Fld := ⟨0x90002C, 0x0, 1, 31, 31, .rw, 0x1⟩
def F.MEM_RINSE_CFG_QDR_EN : Fld := ⟨0x90002C, 0x0, 1, 30, 30, .rw, 0x1⟩
def F.MEM_RINSE_CFG_DDR_PASS_MIN : Fld := ⟨0x90002C, 0x0, 1, 26, 16, .rw, 0x3C⟩
def F.MEM_RINSE_CFG_QDR_PASS_S : Fld := ⟨0x90002C, 0x0, 1, 15, 0, .rw, 0x3C⟩
/-! MEM_RINSE_STATUS, at 0x0900030 (R335). -/
def F.MEM_RINSE_STATUS_DDR_PASSES : Fld := ⟨0x900030, 0x0, 1, 31, 24, .ro, 0x0⟩
def F.MEM_RINSE_STATUS_QDR_PASSES : Fld := ⟨0x900030, 0x0, 1, 23, 16, .ro, 0x0⟩
def F.MEM_RINSE_STATUS_DDR_PCT : Fld := ⟨0x900030, 0x0, 1, 15, 8, .ro, 0x0⟩
def F.MEM_RINSE_STATUS_QDR_PCT : Fld := ⟨0x900030, 0x0, 1, 7, 0, .ro, 0x0⟩
/-! MEM_QDR_COUNT, at 0x0900034 (R335). -/
def F.MEM_QDR_COUNT_REPLAYS : Fld := ⟨0x900034, 0x0, 1, 31, 24, .rc, 0x0⟩
def F.MEM_QDR_COUNT_UNCORR : Fld := ⟨0x900034, 0x0, 1, 23, 16, .rc, 0x0⟩
def F.MEM_QDR_COUNT_CORR : Fld := ⟨0x900034, 0x0, 1, 15, 0, .rc, 0x0⟩
/-! MEM_REG0, at 0x0900040 (R335). -/
def F.MEM_REG0_LINES : Fld := ⟨0x900040, 0x0, 1, 31, 16, .rw, 0xC80⟩
def F.MEM_REG0_CARRY : Fld := ⟨0x900040, 0x0, 1, 15, 0, .rw, 0x640⟩
/-! MEM_REG1, at 0x0900044 (R335). -/
def F.MEM_REG1_LINES : Fld := ⟨0x900044, 0x0, 1, 31, 16, .rw, 0xC80⟩
def F.MEM_REG1_CARRY : Fld := ⟨0x900044, 0x0, 1, 15, 0, .rw, 0x640⟩
/-! MEM_REG2, at 0x0900048 (R335). -/
def F.MEM_REG2_LINES : Fld := ⟨0x900048, 0x0, 1, 31, 16, .rw, 0x200⟩
def F.MEM_REG2_CARRY : Fld := ⟨0x900048, 0x0, 1, 15, 0, .rw, 0x100⟩
/-! MEM_REG3, at 0x090004C (R335). -/
def F.MEM_REG3_LINES : Fld := ⟨0x90004C, 0x0, 1, 31, 16, .rw, 0x40⟩
def F.MEM_REG3_CARRY : Fld := ⟨0x90004C, 0x0, 1, 15, 0, .rw, 0x0⟩
/-! MEM_REG4, at 0x0900050 (R335). -/
def F.MEM_REG4_LINES : Fld := ⟨0x900050, 0x0, 1, 31, 16, .rw, 0x40⟩
def F.MEM_REG4_CARRY : Fld := ⟨0x900050, 0x0, 1, 15, 0, .rw, 0x0⟩
/-! MEM_REG5, at 0x0900054 (R335). -/
def F.MEM_REG5_LINES : Fld := ⟨0x900054, 0x0, 1, 31, 16, .rw, 0x40⟩
def F.MEM_REG5_CARRY : Fld := ⟨0x900054, 0x0, 1, 15, 0, .rw, 0x40⟩
/-! MEM_TGT0, at 0x0900060 (R335). -/
def F.MEM_TGT0_TARGET : Fld := ⟨0x900060, 0x0, 1, 15, 0, .rw, 0x1000⟩
/-! MEM_TGT1, at 0x0900064 (R335). -/
def F.MEM_TGT1_TARGET : Fld := ⟨0x900064, 0x0, 1, 15, 0, .rw, 0x400⟩
/-! MEM_TGT2, at 0x0900068 (R335). -/
def F.MEM_TGT2_TARGET : Fld := ⟨0x900068, 0x0, 1, 15, 0, .rw, 0x800⟩
/-! MEM_TGT3, at 0x090006C (R335). -/
def F.MEM_TGT3_TARGET : Fld := ⟨0x90006C, 0x0, 1, 15, 0, .rw, 0xFFFF⟩
/-! MEM_TGT4, at 0x0900070 (R335). -/
def F.MEM_TGT4_TARGET : Fld := ⟨0x900070, 0x0, 1, 15, 0, .rw, 0x2000⟩
/-! MEM_TGT5, at 0x0900074 (R335). -/
def F.MEM_TGT5_TARGET : Fld := ⟨0x900074, 0x0, 1, 15, 0, .rw, 0x1000⟩
/-! MEM_TIMA0, at 0x0900080 (R335). -/
def F.MEM_TIMA0_RATE : Fld := ⟨0x900080, 0x0, 1, 31, 30, .rw, 0x3⟩
def F.MEM_TIMA0_CL : Fld := ⟨0x900080, 0x0, 1, 29, 24, .rw, 0x34⟩
def F.MEM_TIMA0_CWL : Fld := ⟨0x900080, 0x0, 1, 23, 18, .rw, 0x32⟩
def F.MEM_TIMA0_TRCD : Fld := ⟨0x900080, 0x0, 1, 17, 12, .rw, 0x34⟩
def F.MEM_TIMA0_TRP : Fld := ⟨0x900080, 0x0, 1, 11, 6, .rw, 0x34⟩
/-! MEM_TIMA1, at 0x0900084 (R335). -/
def F.MEM_TIMA1_TRAS : Fld := ⟨0x900084, 0x0, 1, 31, 24, .rw, 0x67⟩
def F.MEM_TIMA1_TRC : Fld := ⟨0x900084, 0x0, 1, 23, 16, .rw, 0x9B⟩
def F.MEM_TIMA1_TFAW : Fld := ⟨0x900084, 0x0, 1, 15, 8, .rw, 0x28⟩
def F.MEM_TIMA1_TWR : Fld := ⟨0x900084, 0x0, 1, 7, 0, .rw, 0x60⟩
/-! MEM_TIMA2, at 0x0900088 (R335). -/
def F.MEM_TIMA2_TRFC1 : Fld := ⟨0x900088, 0x0, 1, 31, 20, .rw, 0x3B0⟩
def F.MEM_TIMA2_TRFCSB : Fld := ⟨0x900088, 0x0, 1, 19, 8, .rw, 0x1A0⟩
def F.MEM_TIMA2_TRRD_L : Fld := ⟨0x900088, 0x0, 1, 7, 0, .rw, 0x10⟩
/-! MEM_TIMA3, at 0x090008C (R335). -/
def F.MEM_TIMA3_TREFI : Fld := ⟨0x90008C, 0x0, 1, 31, 16, .rw, 0x30C0⟩
def F.MEM_TIMA3_TWTR_L : Fld := ⟨0x90008C, 0x0, 1, 15, 8, .rw, 0x20⟩
def F.MEM_TIMA3_TWTR_S : Fld := ⟨0x90008C, 0x0, 1, 7, 0, .rw, 0x8⟩
/-! MEM_TIMB0, at 0x0900090 (R335). -/
def F.MEM_TIMB0_RATE : Fld := ⟨0x900090, 0x0, 1, 31, 30, .rw, 0x0⟩
def F.MEM_TIMB0_CL : Fld := ⟨0x900090, 0x0, 1, 29, 24, .rw, 0x1A⟩
def F.MEM_TIMB0_CWL : Fld := ⟨0x900090, 0x0, 1, 23, 18, .rw, 0x18⟩
def F.MEM_TIMB0_TRCD : Fld := ⟨0x900090, 0x0, 1, 17, 12, .rw, 0x1A⟩
def F.MEM_TIMB0_TRP : Fld := ⟨0x900090, 0x0, 1, 11, 6, .rw, 0x1A⟩
/-! MEM_TIMB1, at 0x0900094 (R335). -/
def F.MEM_TIMB1_TRAS : Fld := ⟨0x900094, 0x0, 1, 31, 24, .rw, 0x34⟩
def F.MEM_TIMB1_TRC : Fld := ⟨0x900094, 0x0, 1, 23, 16, .rw, 0x4E⟩
def F.MEM_TIMB1_TFAW : Fld := ⟨0x900094, 0x0, 1, 15, 8, .rw, 0x14⟩
def F.MEM_TIMB1_TWR : Fld := ⟨0x900094, 0x0, 1, 7, 0, .rw, 0x30⟩
/-! MEM_TIMB2, at 0x0900098 (R335). -/
def F.MEM_TIMB2_TRFC1 : Fld := ⟨0x900098, 0x0, 1, 31, 20, .rw, 0x1D8⟩
def F.MEM_TIMB2_TRFCSB : Fld := ⟨0x900098, 0x0, 1, 19, 8, .rw, 0xD0⟩
def F.MEM_TIMB2_TRRD_L : Fld := ⟨0x900098, 0x0, 1, 7, 0, .rw, 0x8⟩
/-! MEM_TIMB3, at 0x090009C (R335). -/
def F.MEM_TIMB3_TREFI : Fld := ⟨0x90009C, 0x0, 1, 31, 16, .rw, 0x1860⟩
def F.MEM_TIMB3_TWTR_L : Fld := ⟨0x90009C, 0x0, 1, 15, 8, .rw, 0x10⟩
def F.MEM_TIMB3_TWTR_S : Fld := ⟨0x90009C, 0x0, 1, 7, 0, .rw, 0x4⟩
/-! MEM_CH_CFG, at 0x0901000 + 0x40 n, n 0 to 3 (R335). -/
def F.MEM_CH_CFG_PARITY_MODE : Fld := ⟨0x901000, 0x40, 4, 31, 31, .rw, 0x0⟩
def F.MEM_CH_CFG_FREEZE_TRAFFIC : Fld := ⟨0x901000, 0x40, 4, 30, 30, .rw, 0x0⟩
def F.MEM_CH_CFG_FREEZE_REFRESH : Fld := ⟨0x901000, 0x40, 4, 29, 29, .rw, 0x1⟩
def F.MEM_CH_CFG_QOS_FORCE : Fld := ⟨0x901000, 0x40, 4, 25, 24, .rw, 0x0⟩
def F.MEM_CH_CFG_REPLAY_MAX : Fld := ⟨0x901000, 0x40, 4, 19, 16, .rw, 0x3⟩
def F.MEM_CH_CFG_ALERT_WIN : Fld := ⟨0x901000, 0x40, 4, 7, 0, .rw, 0x30⟩
/-! MEM_CH_STATUS, at 0x0901004 + 0x40 n, n 0 to 3 (R335). -/
def F.MEM_CH_STATUS_RETRY : Fld := ⟨0x901004, 0x40, 4, 22, 16, .ro, 0x0⟩
def F.MEM_CH_STATUS_TRAIN_STEP : Fld := ⟨0x901004, 0x40, 4, 11, 8, .ro, 0x0⟩
def F.MEM_CH_STATUS_QOS : Fld := ⟨0x901004, 0x40, 4, 5, 5, .ro, 0x0⟩
def F.MEM_CH_STATUS_LOST : Fld := ⟨0x901004, 0x40, 4, 4, 4, .ro, 0x0⟩
def F.MEM_CH_STATUS_STATE : Fld := ⟨0x901004, 0x40, 4, 2, 0, .ro, 0x0⟩
/-! MEM_CH_COUNT, at 0x0901008 + 0x40 n, n 0 to 3 (R335). -/
def F.MEM_CH_COUNT_REPLAYS : Fld := ⟨0x901008, 0x40, 4, 31, 24, .rc, 0x0⟩
def F.MEM_CH_COUNT_UNCORR : Fld := ⟨0x901008, 0x40, 4, 23, 16, .rc, 0x0⟩
def F.MEM_CH_COUNT_CORR : Fld := ⟨0x901008, 0x40, 4, 15, 0, .rc, 0x0⟩
/-! MEM_CH_COUNT2, at 0x090100C + 0x40 n, n 0 to 3 (R335). -/
def F.MEM_CH_COUNT2_RMW : Fld := ⟨0x90100C, 0x40, 4, 31, 16, .rc, 0x0⟩
def F.MEM_CH_COUNT2_LATE : Fld := ⟨0x90100C, 0x40, 4, 15, 8, .rc, 0x0⟩
def F.MEM_CH_COUNT2_RETRY_FULL : Fld := ⟨0x90100C, 0x40, 4, 7, 0, .rc, 0x0⟩
/-! MEM_CH_FRZ_STAMP_LO, at 0x0901010 + 0x40 n, n 0 to 3 (R335). -/
def F.MEM_CH_FRZ_STAMP_LO_STAMP : Fld := ⟨0x901010, 0x40, 4, 31, 0, .ro, 0x0⟩
/-! MEM_CH_FRZ_STAMP_HI, at 0x0901014 + 0x40 n, n 0 to 3 (R335). -/
def F.MEM_CH_FRZ_STAMP_HI_STAMP : Fld := ⟨0x901014, 0x40, 4, 31, 0, .ro, 0x0⟩
/-! HPM_CFG, at 0x0A00000 (R361, lanes R110). -/
def F.HPM_CFG_MODE : Fld := ⟨0xA00000, 0x0, 1, 9, 8, .rw, 0x3⟩
def F.HPM_CFG_PORT_EN : Fld := ⟨0xA00000, 0x0, 1, 3, 0, .rw, 0x0⟩
/-! HPM_STATUS, at 0x0A00004 (R361, lanes R110). -/
def F.HPM_STATUS_LISTEN : Fld := ⟨0xA00004, 0x0, 1, 15, 8, .ro, 0x0⟩
def F.HPM_STATUS_UP : Fld := ⟨0xA00004, 0x0, 1, 3, 0, .ro, 0x0⟩
/-! HPM_EVENT, at 0x0A00008 (R361, lanes R110). -/
def F.HPM_EVENT_WAKE : Fld := ⟨0xA00008, 0x0, 1, 2, 2, .w1c, 0x0⟩
def F.HPM_EVENT_PORT_DOWN : Fld := ⟨0xA00008, 0x0, 1, 1, 1, .w1c, 0x0⟩
def F.HPM_EVENT_PORT_UP : Fld := ⟨0xA00008, 0x0, 1, 0, 0, .w1c, 0x0⟩
/-! HPM_EVENT_EVCNT, at 0x0A0000C (R361, lanes R110). -/
def F.HPM_EVENT_EVCNT_PORT_UP : Fld := ⟨0xA0000C, 0x0, 1, 7, 0, .ro, 0x0⟩
def F.HPM_EVENT_EVCNT_PORT_DOWN : Fld := ⟨0xA0000C, 0x0, 1, 15, 8, .ro, 0x0⟩
def F.HPM_EVENT_EVCNT_WAKE : Fld := ⟨0xA0000C, 0x0, 1, 23, 16, .ro, 0x0⟩
/-! HPM_P_CFG, at 0x0A01000 + 0x100 n, n 0 to 3 (R361, lanes R110). -/
def F.HPM_P_CFG_MAX_FRAME : Fld := ⟨0xA01000, 0x100, 4, 29, 16, .rw, 0x2600⟩
def F.HPM_P_CFG_TS_EN : Fld := ⟨0xA01000, 0x100, 4, 4, 4, .rw, 0x0⟩
def F.HPM_P_CFG_TX_FC : Fld := ⟨0xA01000, 0x100, 4, 3, 3, .rw, 0x0⟩
def F.HPM_P_CFG_FC_MODE : Fld := ⟨0xA01000, 0x100, 4, 1, 0, .rw, 0x0⟩
/-! HPM_P_MAC_LO, at 0x0A01004 + 0x100 n, n 0 to 3 (R361, lanes R110). -/
def F.HPM_P_MAC_LO_MAC : Fld := ⟨0xA01004, 0x100, 4, 31, 0, .rw, 0x0⟩
/-! HPM_P_MAC_HI, at 0x0A01008 + 0x100 n, n 0 to 3 (R361, lanes R110). -/
def F.HPM_P_MAC_HI_MAC : Fld := ⟨0xA01008, 0x100, 4, 15, 0, .rw, 0x0⟩
/-! HPM_P_PFC_MAP, at 0x0A0100C + 0x100 n, n 0 to 3 (R361, lanes R110). -/
def F.HPM_P_PFC_MAP_MAP : Fld := ⟨0xA0100C, 0x100, 4, 23, 0, .rw, 0xFAC688⟩
/-! HPM_P_FC_TX, at 0x0A01010 + 0x100 n, n 0 to 3 (R361, lanes R110). -/
def F.HPM_P_FC_TX_TX_QUANTA : Fld := ⟨0xA01010, 0x100, 4, 31, 16, .rw, 0xFFFF⟩
def F.HPM_P_FC_TX_REFRESH : Fld := ⟨0xA01010, 0x100, 4, 15, 0, .rw, 0x8000⟩
/-! HPM_P_FC_STATUS, at 0x0A01014 + 0x100 n, n 0 to 3 (R361, lanes R110). -/
def F.HPM_P_FC_STATUS_TX_XOFF : Fld := ⟨0xA01014, 0x100, 4, 23, 16, .ro, 0x0⟩
def F.HPM_P_FC_STATUS_RX_PRI : Fld := ⟨0xA01014, 0x100, 4, 15, 8, .ro, 0x0⟩
def F.HPM_P_FC_STATUS_PAUSED : Fld := ⟨0xA01014, 0x100, 4, 7, 0, .ro, 0x0⟩
/-! HPM_P_SIZE_DROP, at 0x0A01018 + 0x100 n, n 0 to 3 (R361, lanes R110). -/
def F.HPM_P_SIZE_DROP_TX_OVER : Fld := ⟨0xA01018, 0x100, 4, 31, 24, .rc, 0x0⟩
def F.HPM_P_SIZE_DROP_OVERSIZE : Fld := ⟨0xA01018, 0x100, 4, 15, 8, .rc, 0x0⟩
def F.HPM_P_SIZE_DROP_UNDERSIZE : Fld := ⟨0xA01018, 0x100, 4, 7, 0, .rc, 0x0⟩
/-! HPM_P_TS_ADJ, at 0x0A0101C + 0x100 n, n 0 to 3 (R361, lanes R110). -/
def F.HPM_P_TS_ADJ_RX_ADJ : Fld := ⟨0xA0101C, 0x100, 4, 31, 16, .rw, 0x0⟩
def F.HPM_P_TS_ADJ_TX_ADJ : Fld := ⟨0xA0101C, 0x100, 4, 15, 0, .rw, 0x0⟩
/-! HPM_P_PTP_CFG, at 0x0A01020 + 0x100 n, n 0 to 3 (R361, lanes R110). -/
def F.HPM_P_PTP_CFG_UDP6 : Fld := ⟨0xA01020, 0x100, 4, 18, 18, .rw, 0x0⟩
def F.HPM_P_PTP_CFG_UDP4 : Fld := ⟨0xA01020, 0x100, 4, 17, 17, .rw, 0x0⟩
def F.HPM_P_PTP_CFG_L2 : Fld := ⟨0xA01020, 0x100, 4, 16, 16, .rw, 0x1⟩
def F.HPM_P_PTP_CFG_MSG : Fld := ⟨0xA01020, 0x100, 4, 3, 0, .rw, 0xF⟩
/-! HPM_P_WAKE_CFG, at 0x0A01024 + 0x100 n, n 0 to 3 (R361, lanes R110). -/
def F.HPM_P_WAKE_CFG_WAKE_ON_LINK : Fld := ⟨0xA01024, 0x100, 4, 9, 9, .rw, 0x0⟩
def F.HPM_P_WAKE_CFG_LISTEN_EN : Fld := ⟨0xA01024, 0x100, 4, 8, 8, .rw, 0x0⟩
def F.HPM_P_WAKE_CFG_PATTERNS : Fld := ⟨0xA01024, 0x100, 4, 7, 0, .ro, 0x0⟩
/-! HPM_P_WAKE_INFO, at 0x0A01028 + 0x100 n, n 0 to 3 (R361, lanes R110). -/
def F.HPM_P_WAKE_INFO_VALID : Fld := ⟨0xA01028, 0x100, 4, 31, 31, .ro, 0x0⟩
def F.HPM_P_WAKE_INFO_LINK : Fld := ⟨0xA01028, 0x100, 4, 16, 16, .ro, 0x0⟩
def F.HPM_P_WAKE_INFO_PATTERN : Fld := ⟨0xA01028, 0x100, 4, 13, 11, .ro, 0x0⟩
/-! HPM_SD_CFG, at 0x0A08000 + 0x40 n, n 0 to 7 (R361, lanes R110). -/
def F.HPM_SD_CFG_TX_PRESET : Fld := ⟨0xA08000, 0x40, 8, 6, 4, .rw, 0x1⟩
def F.HPM_SD_CFG_RX_ADAPT : Fld := ⟨0xA08000, 0x40, 8, 3, 3, .rw, 0x1⟩
def F.HPM_SD_CFG_LT_EN : Fld := ⟨0xA08000, 0x40, 8, 2, 2, .rw, 0x0⟩
def F.HPM_SD_CFG_AN_EN : Fld := ⟨0xA08000, 0x40, 8, 1, 1, .rw, 0x0⟩
/-! HPM_SD_TXFFE, at 0x0A08004 + 0x40 n, n 0 to 7 (R361, lanes R110). -/
def F.HPM_SD_TXFFE_C1 : Fld := ⟨0xA08004, 0x40, 8, 31, 24, .rw, 0xF8⟩
def F.HPM_SD_TXFFE_C0 : Fld := ⟨0xA08004, 0x40, 8, 23, 16, .rw, 0x34⟩
def F.HPM_SD_TXFFE_CM1 : Fld := ⟨0xA08004, 0x40, 8, 15, 8, .rw, 0xFC⟩
def F.HPM_SD_TXFFE_CM2 : Fld := ⟨0xA08004, 0x40, 8, 7, 0, .rw, 0x0⟩
/-! HPM_SD_STATUS, at 0x0A08008 + 0x40 n, n 0 to 7 (R361, lanes R110). -/
def F.HPM_SD_STATUS_SKEW : Fld := ⟨0xA08008, 0x40, 8, 15, 8, .ro, 0x0⟩
def F.HPM_SD_STATUS_CDR_LOCK : Fld := ⟨0xA08008, 0x40, 8, 5, 5, .ro, 0x0⟩
def F.HPM_SD_STATUS_AM_LOCK : Fld := ⟨0xA08008, 0x40, 8, 4, 4, .ro, 0x0⟩
def F.HPM_SD_STATUS_STATE : Fld := ⟨0xA08008, 0x40, 8, 2, 0, .ro, 0x0⟩
/-! HPM_SD_EVENT, at 0x0A0800C + 0x40 n, n 0 to 7 (R361, lanes R110). -/
def F.HPM_SD_EVENT_AN_RESTART : Fld := ⟨0xA0800C, 0x40, 8, 3, 3, .w1c, 0x0⟩
def F.HPM_SD_EVENT_TRAIN_FAIL : Fld := ⟨0xA0800C, 0x40, 8, 2, 2, .w1c, 0x0⟩
def F.HPM_SD_EVENT_DESKEW_FAIL : Fld := ⟨0xA0800C, 0x40, 8, 1, 1, .w1c, 0x0⟩
def F.HPM_SD_EVENT_LINK_DOWN : Fld := ⟨0xA0800C, 0x40, 8, 0, 0, .w1c, 0x0⟩
/-! HPM_SD_EVENT_EVCNT, at 0x0A08010 + 0x40 n, n 0 to 7 (R361, lanes R110). -/
def F.HPM_SD_EVENT_EVCNT_LINK_DOWN : Fld := ⟨0xA08010, 0x40, 8, 7, 0, .ro, 0x0⟩
def F.HPM_SD_EVENT_EVCNT_DESKEW_FAIL : Fld := ⟨0xA08010, 0x40, 8, 15, 8, .ro, 0x0⟩
def F.HPM_SD_EVENT_EVCNT_TRAIN_FAIL : Fld := ⟨0xA08010, 0x40, 8, 23, 16, .ro, 0x0⟩
def F.HPM_SD_EVENT_EVCNT_AN_RESTART : Fld := ⟨0xA08010, 0x40, 8, 31, 24, .ro, 0x0⟩
/-! HPM_SD_PRBS_ERR, at 0x0A08014 + 0x40 n, n 0 to 7 (R361, lanes R110). -/
def F.HPM_SD_PRBS_ERR_ERRORS : Fld := ⟨0xA08014, 0x40, 8, 31, 0, .rc, 0x0⟩
/-! CPH_CFG, at 0x0B00000 (R384). -/
def F.CPH_CFG_WARN64 : Fld := ⟨0xB00000, 0x0, 1, 29, 24, .rw, 0x28⟩
def F.CPH_CFG_WARN32 : Fld := ⟨0xB00000, 0x0, 1, 20, 16, .rw, 0x1E⟩
/-! CPH_STATUS, at 0x0B00004 (R384). -/
def F.CPH_STATUS_KEYBUS_OK : Fld := ⟨0xB00004, 0x0, 1, 16, 16, .ro, 0x0⟩
def F.CPH_STATUS_SA_ON : Fld := ⟨0xB00004, 0x0, 1, 9, 0, .ro, 0x0⟩
/-! CPH_EVENT, at 0x0B00008 (R384). -/
def F.CPH_EVENT_PON_KEY : Fld := ⟨0xB00008, 0x0, 1, 3, 3, .w1c, 0x0⟩
def F.CPH_EVENT_CUT_FAIL : Fld := ⟨0xB00008, 0x0, 1, 2, 2, .w1c, 0x0⟩
def F.CPH_EVENT_PN_EXHAUSTED : Fld := ⟨0xB00008, 0x0, 1, 1, 1, .w1c, 0x0⟩
def F.CPH_EVENT_PN_WARN : Fld := ⟨0xB00008, 0x0, 1, 0, 0, .w1c, 0x0⟩
/-! CPH_EVENT_EVCNT, at 0x0B0000C (R384). -/
def F.CPH_EVENT_EVCNT_PN_WARN : Fld := ⟨0xB0000C, 0x0, 1, 7, 0, .ro, 0x0⟩
def F.CPH_EVENT_EVCNT_PN_EXHAUSTED : Fld := ⟨0xB0000C, 0x0, 1, 15, 8, .ro, 0x0⟩
def F.CPH_EVENT_EVCNT_CUT_FAIL : Fld := ⟨0xB0000C, 0x0, 1, 23, 16, .ro, 0x0⟩
def F.CPH_EVENT_EVCNT_PON_KEY : Fld := ⟨0xB0000C, 0x0, 1, 31, 24, .ro, 0x0⟩
/-! CPH_PON_LIFE, at 0x0B00010 (R384). -/
def F.CPH_PON_LIFE_LIFE : Fld := ⟨0xB00010, 0x0, 1, 31, 0, .rw, 0x1000000⟩
/-! CPH_PON_CH_COUNT, at 0x0B01000 + 0x20 n, n 0 to 7 (R384). -/
def F.CPH_PON_CH_COUNT_NO_KEY : Fld := ⟨0xB01000, 0x20, 8, 31, 24, .rc, 0x0⟩
def F.CPH_PON_CH_COUNT_BAD_INDEX : Fld := ⟨0xB01000, 0x20, 8, 23, 16, .rc, 0x0⟩
def F.CPH_PON_CH_COUNT_CLEAR_REFUSED : Fld := ⟨0xB01000, 0x20, 8, 15, 8, .rc, 0x0⟩
def F.CPH_PON_CH_COUNT_SPENT : Fld := ⟨0xB01000, 0x20, 8, 7, 0, .rc, 0x0⟩
/-! CPH_PON_CH_KEY, at 0x0B01004 + 0x20 n, n 0 to 7 (R384). -/
def F.CPH_PON_CH_KEY_SPENT : Fld := ⟨0xB01004, 0x20, 8, 4, 4, .ro, 0x0⟩
def F.CPH_PON_CH_KEY_HELD : Fld := ⟨0xB01004, 0x20, 8, 3, 2, .ro, 0x0⟩
def F.CPH_PON_CH_KEY_UP_INDEX : Fld := ⟨0xB01004, 0x20, 8, 1, 0, .ro, 0x0⟩
/-! CPH_P_CFG, at 0x0B02000 + 0x40 n, n 0 to 3 (R384). -/
def F.CPH_P_CFG_VALIDATE : Fld := ⟨0xB02000, 0x40, 4, 3, 2, .rw, 0x2⟩
def F.CPH_P_CFG_TX_SCI : Fld := ⟨0xB02000, 0x40, 4, 1, 1, .rw, 0x1⟩
def F.CPH_P_CFG_PROTECT : Fld := ⟨0xB02000, 0x40, 4, 0, 0, .rw, 0x0⟩
/-! CPH_P_TXSA, at 0x0B02004 + 0x40 n, n 0 to 3 (R384). -/
def F.CPH_P_TXSA_VALID : Fld := ⟨0xB02004, 0x40, 4, 31, 31, .ro, 0x0⟩
def F.CPH_P_TXSA_SA : Fld := ⟨0xB02004, 0x40, 4, 8, 0, .ro, 0x0⟩
/-! CPH_P_BYPASS, at 0x0B02008 + 0x40 n, n 0 to 3 (R384). -/
def F.CPH_P_BYPASS_ETYPE1 : Fld := ⟨0xB02008, 0x40, 4, 31, 16, .rw, 0x0⟩
def F.CPH_P_BYPASS_ETYPE0 : Fld := ⟨0xB02008, 0x40, 4, 15, 0, .rw, 0x888E⟩
/-! CPH_P_RX_COUNT, at 0x0B0200C + 0x40 n, n 0 to 3 (R384). -/
def F.CPH_P_RX_COUNT_ICV_FAIL : Fld := ⟨0xB0200C, 0x40, 4, 31, 24, .rc, 0x0⟩
def F.CPH_P_RX_COUNT_CUT_FAIL : Fld := ⟨0xB0200C, 0x40, 4, 23, 16, .rc, 0x0⟩
def F.CPH_P_RX_COUNT_REPLAY : Fld := ⟨0xB0200C, 0x40, 4, 15, 8, .rc, 0x0⟩
def F.CPH_P_RX_COUNT_NO_SA : Fld := ⟨0xB0200C, 0x40, 4, 7, 0, .rc, 0x0⟩
/-! CPH_P_RX_COUNT2, at 0x0B02010 + 0x40 n, n 0 to 3 (R384). -/
def F.CPH_P_RX_COUNT2_BAD_TAG : Fld := ⟨0xB02010, 0x40, 4, 31, 24, .rc, 0x0⟩
def F.CPH_P_RX_COUNT2_UNTAGGED : Fld := ⟨0xB02010, 0x40, 4, 23, 16, .rc, 0x0⟩
def F.CPH_P_RX_COUNT2_SV_NO_BUFFER : Fld := ⟨0xB02010, 0x40, 4, 15, 8, .rc, 0x0⟩
/-! CPH_P_TX_COUNT, at 0x0B02014 + 0x40 n, n 0 to 3 (R384). -/
def F.CPH_P_TX_COUNT_PN_DROP : Fld := ⟨0xB02014, 0x40, 4, 31, 16, .rc, 0x0⟩
def F.CPH_P_TX_COUNT_NO_SA : Fld := ⟨0xB02014, 0x40, 4, 15, 0, .rc, 0x0⟩
/-! CDY_STATUS, at 0x1100000 (R385). -/
def F.CDY_STATUS_DIK_VALID : Fld := ⟨0x1100000, 0x0, 1, 31, 31, .ro, 0x1⟩  -- DESIGN CHOICE: per store or per part, log entry 6
def F.CDY_STATUS_IMAGE_KEY_VALID : Fld := ⟨0x1100000, 0x0, 1, 30, 30, .ro, 0x1⟩  -- DESIGN CHOICE: per store or per part, log entry 6
def F.CDY_STATUS_LOADED : Fld := ⟨0x1100000, 0x0, 1, 28, 16, .ro, 0x0⟩
def F.CDY_STATUS_BOUND : Fld := ⟨0x1100000, 0x0, 1, 12, 0, .ro, 0x0⟩
/-! CDY_EVENT, at 0x1100004 (R385). -/
def F.CDY_EVENT_UNWRAP_FAIL : Fld := ⟨0x1100004, 0x0, 1, 2, 2, .w1c, 0x0⟩
def F.CDY_EVENT_BUS_FAULT : Fld := ⟨0x1100004, 0x0, 1, 1, 1, .w1c, 0x0⟩
def F.CDY_EVENT_SLOT_MEM : Fld := ⟨0x1100004, 0x0, 1, 0, 0, .w1c, 0x0⟩
/-! CDY_EVENT_EVCNT, at 0x1100008 (R385). -/
def F.CDY_EVENT_EVCNT_SLOT_MEM : Fld := ⟨0x1100008, 0x0, 1, 7, 0, .ro, 0x0⟩
def F.CDY_EVENT_EVCNT_BUS_FAULT : Fld := ⟨0x1100008, 0x0, 1, 15, 8, .ro, 0x0⟩
def F.CDY_EVENT_EVCNT_UNWRAP_FAIL : Fld := ⟨0x1100008, 0x0, 1, 23, 16, .ro, 0x0⟩
/-! CDY_DIK_KCV, at 0x110000C (R385). -/
def F.CDY_DIK_KCV_KCV : Fld := ⟨0x110000C, 0x0, 1, 23, 0, .ro, 0x0⟩  -- DESIGN CHOICE: per store or per part, log entry 6
/-! TIM_CFG, at 0x0C00000 (R404). -/
def F.TIM_CFG_SRC : Fld := ⟨0xC00000, 0x0, 1, 17, 16, .rw, 0x0⟩
def F.TIM_CFG_STEP_EN : Fld := ⟨0xC00000, 0x0, 1, 8, 8, .rw, 0x1⟩
def F.TIM_CFG_PPS_EN : Fld := ⟨0xC00000, 0x0, 1, 0, 0, .rw, 0x0⟩
/-! TIM_STATUS, at 0x0C00004 (R404). -/
def F.TIM_STATUS_TRIG_ARMED : Fld := ⟨0xC00004, 0x0, 1, 31, 24, .ro, 0x0⟩
def F.TIM_STATUS_SPEC : Fld := ⟨0xC00004, 0x0, 1, 12, 12, .ro, 0x0⟩
def F.TIM_STATUS_SERVO_LIMIT : Fld := ⟨0xC00004, 0x0, 1, 11, 11, .ro, 0x0⟩
def F.TIM_STATUS_SLEWING : Fld := ⟨0xC00004, 0x0, 1, 10, 10, .ro, 0x0⟩
def F.TIM_STATUS_PPS_SQUELCHED : Fld := ⟨0xC00004, 0x0, 1, 9, 9, .ro, 0x1⟩
def F.TIM_STATUS_REF_STALE : Fld := ⟨0xC00004, 0x0, 1, 8, 8, .ro, 0x1⟩
def F.TIM_STATUS_TOD_VALID : Fld := ⟨0xC00004, 0x0, 1, 7, 7, .ro, 0x0⟩
def F.TIM_STATUS_SRC_USED : Fld := ⟨0xC00004, 0x0, 1, 6, 5, .ro, 0x0⟩
def F.TIM_STATUS_TSTATE : Fld := ⟨0xC00004, 0x0, 1, 1, 0, .ro, 0x2⟩
/-! TIM_EVENT, at 0x0C00008 (R404). -/
def F.TIM_EVENT_CAP_OVERRUN : Fld := ⟨0xC00008, 0x0, 1, 3, 3, .w1c, 0x0⟩
def F.TIM_EVENT_TRIG_MISSED : Fld := ⟨0xC00008, 0x0, 1, 2, 2, .w1c, 0x0⟩
def F.TIM_EVENT_TRIG_LATE : Fld := ⟨0xC00008, 0x0, 1, 1, 1, .w1c, 0x0⟩
def F.TIM_EVENT_TOD_STEP : Fld := ⟨0xC00008, 0x0, 1, 0, 0, .w1c, 0x0⟩
/-! TIM_EVENT_EVCNT, at 0x0C0000C (R404). -/
def F.TIM_EVENT_EVCNT_TOD_STEP : Fld := ⟨0xC0000C, 0x0, 1, 7, 0, .ro, 0x0⟩
def F.TIM_EVENT_EVCNT_TRIG_LATE : Fld := ⟨0xC0000C, 0x0, 1, 15, 8, .ro, 0x0⟩
def F.TIM_EVENT_EVCNT_TRIG_MISSED : Fld := ⟨0xC0000C, 0x0, 1, 23, 16, .ro, 0x0⟩
def F.TIM_EVENT_EVCNT_CAP_OVERRUN : Fld := ⟨0xC0000C, 0x0, 1, 31, 24, .ro, 0x0⟩
/-! TIM_SERVO_CFG, at 0x0C00010 (R404). -/
def F.TIM_SERVO_CFG_KI_SHIFT : Fld := ⟨0xC00010, 0x0, 1, 23, 20, .rw, 0x4⟩
def F.TIM_SERVO_CFG_KP_SHIFT : Fld := ⟨0xC00010, 0x0, 1, 19, 16, .rw, 0x1⟩
def F.TIM_SERVO_CFG_HOLD_SAMPLES : Fld := ⟨0xC00010, 0x0, 1, 7, 0, .rw, 0x8⟩
/-! TIM_SERVO_STEP, at 0x0C00014 (R404). -/
def F.TIM_SERVO_STEP_STEP_NS : Fld := ⟨0xC00014, 0x0, 1, 31, 0, .rw, 0x3E8⟩
/-! TIM_SERVO_MAX, at 0x0C00018 (R404). -/
def F.TIM_SERVO_MAX_MAX_PPB : Fld := ⟨0xC00018, 0x0, 1, 19, 0, .rw, 0x186A0⟩
/-! TIM_SLEW, at 0x0C0001C (R404). -/
def F.TIM_SLEW_SLEW_PPB : Fld := ⟨0xC0001C, 0x0, 1, 19, 0, .rw, 0x2710⟩
/-! TIM_SERVO_FREQ, at 0x0C00020 (R404). -/
def F.TIM_SERVO_FREQ_Y : Fld := ⟨0xC00020, 0x0, 1, 31, 0, .ro, 0x0⟩
/-! TIM_SERVO_INT, at 0x0C00024 (R404). -/
def F.TIM_SERVO_INT_INT : Fld := ⟨0xC00024, 0x0, 1, 31, 0, .ro, 0x0⟩
/-! TIM_SERVO_ERR, at 0x0C00028 (R404). -/
def F.TIM_SERVO_ERR_ERR : Fld := ⟨0xC00028, 0x0, 1, 31, 0, .ro, 0x0⟩
/-! TIM_HOLD_PPB, at 0x0C0002C (R404). -/
def F.TIM_HOLD_PPB_HOLD_PPB : Fld := ⟨0xC0002C, 0x0, 1, 19, 0, .rw, 0x4E20⟩
/-! TIM_UNC, at 0x0C00030 (R404). -/
def F.TIM_UNC_UNC : Fld := ⟨0xC00030, 0x0, 1, 31, 0, .ro, 0xFFFFFFFF⟩
/-! TIM_PPS_CFG, at 0x0C00034 (R404). -/
def F.TIM_PPS_CFG_HOLD_SQUELCH : Fld := ⟨0xC00034, 0x0, 1, 30, 30, .rw, 0x0⟩
def F.TIM_PPS_CFG_WIDTH_US : Fld := ⟨0xC00034, 0x0, 1, 19, 0, .rw, 0x64⟩
/-! TIM_CH_ASYM, at 0x0C00040 + 0x4 n, n 0 to 7 (R404). -/
def F.TIM_CH_ASYM_ALPHA : Fld := ⟨0xC00040, 0x4, 8, 31, 0, .rw, 0x80000000⟩
/-! TIM_CH_RXOPT, at 0x0C00060 + 0x4 n, n 0 to 7 (R404). -/
def F.TIM_CH_RXOPT_RXOPT : Fld := ⟨0xC00060, 0x4, 8, 15, 0, .rw, 0x0⟩
/-! TIM_TRIG_STATUS, at 0x0C00100 + 0x10 n, n 0 to 7 (R404). -/
def F.TIM_TRIG_STATUS_ARMED : Fld := ⟨0xC00100, 0x10, 8, 31, 31, .ro, 0x0⟩
def F.TIM_TRIG_STATUS_LATE : Fld := ⟨0xC00100, 0x10, 8, 30, 30, .ro, 0x0⟩
def F.TIM_TRIG_STATUS_HOLDOVER : Fld := ⟨0xC00100, 0x10, 8, 29, 29, .ro, 0x0⟩
/-! TIM_TRIG_COUNT, at 0x0C00104 + 0x10 n, n 0 to 7 (R404). -/
def F.TIM_TRIG_COUNT_MISSED : Fld := ⟨0xC00104, 0x10, 8, 31, 16, .rc, 0x0⟩
def F.TIM_TRIG_COUNT_FIRED : Fld := ⟨0xC00104, 0x10, 8, 15, 0, .rc, 0x0⟩
/-! TIM_CAP_CFG, at 0x0C00200 + 0x20 n, n 0 to 3 (R404). -/
def F.TIM_CAP_CFG_NOTIFY : Fld := ⟨0xC00200, 0x20, 4, 8, 8, .rw, 0x1⟩
def F.TIM_CAP_CFG_EDGE : Fld := ⟨0xC00200, 0x20, 4, 1, 0, .rw, 0x0⟩
/-! TIM_CAP_STAMP_LO, at 0x0C00204 + 0x20 n, n 0 to 3 (R404). -/
def F.TIM_CAP_STAMP_LO_STAMP : Fld := ⟨0xC00204, 0x20, 4, 31, 0, .ro, 0x0⟩
/-! TIM_CAP_STAMP_HI, at 0x0C00208 + 0x20 n, n 0 to 3 (R404). -/
def F.TIM_CAP_STAMP_HI_STAMP : Fld := ⟨0xC00208, 0x20, 4, 31, 0, .ro, 0x0⟩
/-! TIM_CAP_INFO, at 0x0C0020C + 0x20 n, n 0 to 3 (R404). -/
def F.TIM_CAP_INFO_FRACTION : Fld := ⟨0xC0020C, 0x20, 4, 15, 12, .ro, 0x0⟩
def F.TIM_CAP_INFO_TSTATE : Fld := ⟨0xC0020C, 0x20, 4, 9, 8, .ro, 0x0⟩
def F.TIM_CAP_INFO_RISING : Fld := ⟨0xC0020C, 0x20, 4, 4, 4, .ro, 0x0⟩
def F.TIM_CAP_INFO_VALID : Fld := ⟨0xC0020C, 0x20, 4, 0, 0, .ro, 0x0⟩
/-! TIM_CAP_OVR, at 0x0C00210 + 0x20 n, n 0 to 3 (R404). -/
def F.TIM_CAP_OVR_OVERRUN : Fld := ⟨0xC00210, 0x20, 4, 7, 0, .rc, 0x0⟩
/-! PRT_CFG, at 0x0D00000 (R420). -/
def F.PRT_CFG_EN : Fld := ⟨0xD00000, 0x0, 1, 31, 31, .rw, 0x0⟩
def F.PRT_CFG_WORKING : Fld := ⟨0xD00000, 0x0, 1, 8, 8, .rw, 0x0⟩
def F.PRT_CFG_SB_FAULT_CLR : Fld := ⟨0xD00000, 0x0, 1, 0, 0, .wo, 0x0⟩
/-! PRT_HB_CFG, at 0x0D00004 (R420). -/
def F.PRT_HB_CFG_KA_MS : Fld := ⟨0xD00004, 0x0, 1, 31, 24, .rw, 0xA⟩
def F.PRT_HB_CFG_MISS_KA : Fld := ⟨0xD00004, 0x0, 1, 15, 8, .rw, 0x3⟩
def F.PRT_HB_CFG_MISS_PSYNC : Fld := ⟨0xD00004, 0x0, 1, 7, 0, .rw, 0x3⟩
/-! PRT_WTR, at 0x0D00008 (R420). -/
def F.PRT_WTR_WTR_S : Fld := ⟨0xD00008, 0x0, 1, 15, 0, .rw, 0x12C⟩
/-! PRT_SB_CFG, at 0x0D0000C (R420). -/
def F.PRT_SB_CFG_PRERANGE : Fld := ⟨0xD0000C, 0x0, 1, 31, 31, .rw, 0x1⟩
def F.PRT_SB_CFG_RUP : Fld := ⟨0xD0000C, 0x0, 1, 17, 0, .rw, 0x10000⟩
/-! PRT_STATUS, at 0x0D00010 (R420). -/
def F.PRT_STATUS_SB_READY : Fld := ⟨0xD00010, 0x0, 1, 23, 20, .ro, 0x0⟩
def F.PRT_STATUS_SB_UP_FAULT : Fld := ⟨0xD00010, 0x0, 1, 18, 18, .ro, 0x0⟩
def F.PRT_STATUS_SF_B : Fld := ⟨0xD00010, 0x0, 1, 17, 17, .ro, 0x0⟩
def F.PRT_STATUS_SF_A : Fld := ⟨0xD00010, 0x0, 1, 16, 16, .ro, 0x0⟩
def F.PRT_STATUS_REQ_SRC : Fld := ⟨0xD00010, 0x0, 1, 13, 12, .ro, 0x0⟩
def F.PRT_STATUS_REQ : Fld := ⟨0xD00010, 0x0, 1, 11, 8, .ro, 0x0⟩
def F.PRT_STATUS_ACTIVE : Fld := ⟨0xD00010, 0x0, 1, 4, 4, .ro, 0x0⟩
def F.PRT_STATUS_STATE : Fld := ⟨0xD00010, 0x0, 1, 2, 0, .ro, 0x0⟩
/-! PRT_EVENT, at 0x0D00014 (R420). -/
def F.PRT_EVENT_EXERCISE_FAIL : Fld := ⟨0xD00014, 0x0, 1, 3, 3, .w1c, 0x0⟩
def F.PRT_EVENT_PATH_RESTORED : Fld := ⟨0xD00014, 0x0, 1, 2, 2, .w1c, 0x0⟩
def F.PRT_EVENT_PATH_FAIL : Fld := ⟨0xD00014, 0x0, 1, 1, 1, .w1c, 0x0⟩
def F.PRT_EVENT_SWITCH : Fld := ⟨0xD00014, 0x0, 1, 0, 0, .w1c, 0x0⟩
/-! PRT_EVENT_EVCNT, at 0x0D00018 (R420). -/
def F.PRT_EVENT_EVCNT_SWITCH : Fld := ⟨0xD00018, 0x0, 1, 7, 0, .ro, 0x0⟩
def F.PRT_EVENT_EVCNT_PATH_FAIL : Fld := ⟨0xD00018, 0x0, 1, 15, 8, .ro, 0x0⟩
def F.PRT_EVENT_EVCNT_PATH_RESTORED : Fld := ⟨0xD00018, 0x0, 1, 23, 16, .ro, 0x0⟩
def F.PRT_EVENT_EVCNT_EXERCISE_FAIL : Fld := ⟨0xD00018, 0x0, 1, 31, 24, .ro, 0x0⟩
/-! PRT_WTR_LEFT, at 0x0D0001C (R420). -/
def F.PRT_WTR_LEFT_SECONDS : Fld := ⟨0xD0001C, 0x0, 1, 15, 0, .ro, 0x0⟩
/-! PRT_GAP, at 0x0D00020 (R420). -/
def F.PRT_GAP_LC : Fld := ⟨0xD00020, 0x0, 1, 19, 0, .ro, 0x0⟩
/-! PRT_COUNT, at 0x0D00024 (R420). -/
def F.PRT_COUNT_SWITCHES : Fld := ⟨0xD00024, 0x0, 1, 31, 16, .rc, 0x0⟩
def F.PRT_COUNT_EXERCISES : Fld := ⟨0xD00024, 0x0, 1, 15, 8, .rc, 0x0⟩
def F.PRT_COUNT_EX_FAILED : Fld := ⟨0xD00024, 0x0, 1, 7, 0, .rc, 0x0⟩
/-! PRT_CH_EQD_ADJ, at 0x0D00040 + 0x4 n, n 0 to 3 (R420). -/
def F.PRT_CH_EQD_ADJ_ADJ : Fld := ⟨0xD00040, 0x4, 4, 23, 0, .rw, 0x0⟩
/-! INF_CFG, at 0x0E00000 (R440). -/
def F.INF_CFG_AUTO : Fld := ⟨0xE00000, 0x0, 1, 3, 0, .rw, 0x7⟩
/-! INF_TRACE_CFG, at 0x0E00004 (R440). -/
def F.INF_TRACE_CFG_LANES : Fld := ⟨0xE00004, 0x0, 1, 23, 16, .rw, 0x0⟩
def F.INF_TRACE_CFG_AVG : Fld := ⟨0xE00004, 0x0, 1, 15, 8, .rw, 0x40⟩
def F.INF_TRACE_CFG_SPACING : Fld := ⟨0xE00004, 0x0, 1, 2, 0, .rw, 0x0⟩
/-! INF_C_STATUS, at 0x0E01000 + 0x40 n, n 0 to 3 (R440). -/
def F.INF_C_STATUS_PC : Fld := ⟨0xE01000, 0x40, 4, 28, 16, .ro, 0x0⟩
def F.INF_C_STATUS_TURN : Fld := ⟨0xE01000, 0x40, 4, 12, 8, .ro, 0x0⟩
def F.INF_C_STATUS_STATE : Fld := ⟨0xE01000, 0x40, 4, 2, 0, .ro, 0x0⟩
/-! INF_C_EVENT, at 0x0E01004 + 0x40 n, n 0 to 3 (R440). -/
def F.INF_C_EVENT_FAULT : Fld := ⟨0xE01004, 0x40, 4, 3, 3, .w1c, 0x0⟩
def F.INF_C_EVENT_STREAM_OVR : Fld := ⟨0xE01004, 0x40, 4, 2, 2, .w1c, 0x0⟩
def F.INF_C_EVENT_SSAT : Fld := ⟨0xE01004, 0x40, 4, 1, 1, .w1c, 0x0⟩
def F.INF_C_EVENT_GOV : Fld := ⟨0xE01004, 0x40, 4, 0, 0, .w1c, 0x0⟩
/-! INF_C_EVENT_EVCNT, at 0x0E01008 + 0x40 n, n 0 to 3 (R440). -/
def F.INF_C_EVENT_EVCNT_GOV : Fld := ⟨0xE01008, 0x40, 4, 7, 0, .ro, 0x0⟩
def F.INF_C_EVENT_EVCNT_SSAT : Fld := ⟨0xE01008, 0x40, 4, 15, 8, .ro, 0x0⟩
def F.INF_C_EVENT_EVCNT_STREAM_OVR : Fld := ⟨0xE01008, 0x40, 4, 23, 16, .ro, 0x0⟩
def F.INF_C_EVENT_EVCNT_FAULT : Fld := ⟨0xE01008, 0x40, 4, 31, 24, .ro, 0x0⟩
/-! INF_C_GOV, at 0x0E0100C + 0x40 n, n 0 to 3 (R440). -/
def F.INF_C_GOV_VALID : Fld := ⟨0xE0100C, 0x40, 4, 31, 31, .ro, 0x0⟩
def F.INF_C_GOV_ADDR : Fld := ⟨0xE0100C, 0x40, 4, 30, 18, .ro, 0x0⟩
def F.INF_C_GOV_DEPTH : Fld := ⟨0xE0100C, 0x40, 4, 17, 16, .ro, 0x0⟩
def F.INF_C_GOV_ITER : Fld := ⟨0xE0100C, 0x40, 4, 15, 0, .ro, 0x0⟩
/-! INF_C_IN, at 0x0E01010 + 0x40 n, n 0 to 3 (R440). -/
def F.INF_C_IN_SRC0 : Fld := ⟨0xE01010, 0x40, 4, 5, 0, .rw, 0x0⟩
def F.INF_C_IN_SRC1 : Fld := ⟨0xE01010, 0x40, 4, 13, 8, .rw, 0x0⟩
def F.INF_C_IN_SRC2 : Fld := ⟨0xE01010, 0x40, 4, 21, 16, .rw, 0x0⟩
def F.INF_C_IN_SRC3 : Fld := ⟨0xE01010, 0x40, 4, 29, 24, .rw, 0x0⟩
/-! INF_C_ENTRY, at 0x0E01014 + 0x40 n, n 0 to 3 (R440). -/
def F.INF_C_ENTRY_ENTRY : Fld := ⟨0xE01014, 0x40, 4, 12, 0, .rw, 0x0⟩
/-! INF_C_OVR, at 0x0E01018 + 0x40 n, n 0 to 3 (R440). -/
def F.INF_C_OVR_TAP_DISC : Fld := ⟨0xE01018, 0x40, 4, 31, 28, .rc, 0x0⟩
def F.INF_C_OVR_IN3 : Fld := ⟨0xE01018, 0x40, 4, 23, 18, .rc, 0x0⟩
def F.INF_C_OVR_IN2 : Fld := ⟨0xE01018, 0x40, 4, 17, 12, .rc, 0x0⟩
def F.INF_C_OVR_IN1 : Fld := ⟨0xE01018, 0x40, 4, 11, 6, .rc, 0x0⟩
def F.INF_C_OVR_IN0 : Fld := ⟨0xE01018, 0x40, 4, 5, 0, .rc, 0x0⟩
/-! PWR_SIMMER_CFG, at 0x0F00000 (R458). -/
def F.PWR_SIMMER_CFG_EN : Fld := ⟨0xF00000, 0x0, 1, 31, 31, .rw, 0x0⟩
def F.PWR_SIMMER_CFG_MODES : Fld := ⟨0xF00000, 0x0, 1, 30, 28, .rw, 0x0⟩
def F.PWR_SIMMER_CFG_HOST_WAKE : Fld := ⟨0xF00000, 0x0, 1, 27, 27, .rw, 0x1⟩
def F.PWR_SIMMER_CFG_IDLE_MS : Fld := ⟨0xF00000, 0x0, 1, 26, 16, .rw, 0x64⟩
def F.PWR_SIMMER_CFG_DARK_GUARD : Fld := ⟨0xF00000, 0x0, 1, 15, 8, .rw, 0x2⟩
def F.PWR_SIMMER_CFG_ENTRY_MS : Fld := ⟨0xF00000, 0x0, 1, 7, 0, .rw, 0xA⟩
/-! PWR_SIMMER_LVL, at 0x0F00004 (R458). -/
def F.PWR_SIMMER_LVL_US_WAKE : Fld := ⟨0xF00004, 0x0, 1, 31, 16, .rw, 0x1⟩
/-! PWR_WATCH_CFG, at 0x0F00008 (R458). -/
def F.PWR_WATCH_CFG_SAMPLE_FRAMES : Fld := ⟨0xF00008, 0x0, 1, 27, 24, .rw, 0x2⟩
def F.PWR_WATCH_CFG_MISS_WAKE : Fld := ⟨0xF00008, 0x0, 1, 23, 20, .rw, 0x3⟩
def F.PWR_WATCH_CFG_PERIOD_MS : Fld := ⟨0xF00008, 0x0, 1, 15, 0, .rw, 0x32⟩
/-! PWR_SIMMER_TIME, at 0x0F0000C (R458). -/
def F.PWR_SIMMER_TIME_LOWPOWER_MS : Fld := ⟨0xF0000C, 0x0, 1, 31, 16, .ro, 0x0⟩
def F.PWR_SIMMER_TIME_AWARE_MS : Fld := ⟨0xF0000C, 0x0, 1, 15, 0, .ro, 0x0⟩
/-! PWR_STATUS, at 0x0F00010 (R458). -/
def F.PWR_STATUS_STATE : Fld := ⟨0xF00010, 0x0, 1, 31, 28, .ro, 0x0⟩
def F.PWR_STATUS_MODE : Fld := ⟨0xF00010, 0x0, 1, 25, 24, .ro, 0x0⟩
def F.PWR_STATUS_ALLOW : Fld := ⟨0xF00010, 0x0, 1, 23, 20, .ro, 0x0⟩
def F.PWR_STATUS_HOLD : Fld := ⟨0xF00010, 0x0, 1, 10, 10, .ro, 0x0⟩
def F.PWR_STATUS_RX_DARK : Fld := ⟨0xF00010, 0x0, 1, 9, 9, .ro, 0x0⟩
def F.PWR_STATUS_DARK : Fld := ⟨0xF00010, 0x0, 1, 8, 8, .ro, 0x0⟩
def F.PWR_STATUS_SAMPLE_CH : Fld := ⟨0xF00010, 0x0, 1, 2, 0, .ro, 0x0⟩
/-! PWR_EVENT, at 0x0F00014 (R458). -/
def F.PWR_EVENT_SAMPLE_MISS : Fld := ⟨0xF00014, 0x0, 1, 3, 3, .w1c, 0x0⟩
def F.PWR_EVENT_WAKE_TIMEOUT : Fld := ⟨0xF00014, 0x0, 1, 2, 2, .w1c, 0x0⟩
def F.PWR_EVENT_REFUSED : Fld := ⟨0xF00014, 0x0, 1, 1, 1, .w1c, 0x0⟩
def F.PWR_EVENT_STATE_CHANGE : Fld := ⟨0xF00014, 0x0, 1, 0, 0, .w1c, 0x0⟩
/-! PWR_EVENT_EVCNT, at 0x0F00018 (R458). -/
def F.PWR_EVENT_EVCNT_STATE_CHANGE : Fld := ⟨0xF00018, 0x0, 1, 7, 0, .ro, 0x0⟩
def F.PWR_EVENT_EVCNT_REFUSED : Fld := ⟨0xF00018, 0x0, 1, 15, 8, .ro, 0x0⟩
def F.PWR_EVENT_EVCNT_WAKE_TIMEOUT : Fld := ⟨0xF00018, 0x0, 1, 23, 16, .ro, 0x0⟩
def F.PWR_EVENT_EVCNT_SAMPLE_MISS : Fld := ⟨0xF00018, 0x0, 1, 31, 24, .ro, 0x0⟩
/-! PWR_WAKE_SRC, at 0x0F0001C (R458). -/
def F.PWR_WAKE_SRC_VALID : Fld := ⟨0xF0001C, 0x0, 1, 31, 31, .ro, 0x0⟩
def F.PWR_WAKE_SRC_SRC : Fld := ⟨0xF0001C, 0x0, 1, 27, 24, .ro, 0x0⟩
def F.PWR_WAKE_SRC_MODE : Fld := ⟨0xF0001C, 0x0, 1, 21, 20, .ro, 0x0⟩
def F.PWR_WAKE_SRC_SAMPLES : Fld := ⟨0xF0001C, 0x0, 1, 15, 0, .ro, 0x0⟩
/-! PWR_WAKE_STAMP_LO, at 0x0F00020 (R458). -/
def F.PWR_WAKE_STAMP_LO_STAMP : Fld := ⟨0xF00020, 0x0, 1, 31, 0, .ro, 0x0⟩
/-! PWR_WAKE_STAMP_HI, at 0x0F00024 (R458). -/
def F.PWR_WAKE_STAMP_HI_STAMP : Fld := ⟨0xF00024, 0x0, 1, 31, 0, .ro, 0x0⟩
/-! PWR_LAST_REFUSE, at 0x0F00028 (R458). -/
def F.PWR_LAST_REFUSE_VALID : Fld := ⟨0xF00028, 0x0, 1, 31, 31, .ro, 0x0⟩
def F.PWR_LAST_REFUSE_ABORT : Fld := ⟨0xF00028, 0x0, 1, 30, 30, .ro, 0x0⟩
def F.PWR_LAST_REFUSE_UNIT : Fld := ⟨0xF00028, 0x0, 1, 29, 24, .ro, 0x0⟩
def F.PWR_LAST_REFUSE_REASON : Fld := ⟨0xF00028, 0x0, 1, 23, 16, .ro, 0x0⟩
def F.PWR_LAST_REFUSE_MODE : Fld := ⟨0xF00028, 0x0, 1, 9, 8, .ro, 0x0⟩
/-! PWR_DOM_STATUS, at 0x0F0002C (R458). -/
def F.PWR_DOM_STATUS_STATES : Fld := ⟨0xF0002C, 0x0, 1, 27, 0, .ro, 0xAAAAAAA⟩
/-! PWR_REFUSE_CNT, at 0x0F00030 + 0x4 n, n 0 to 4 (R458). -/
def F.PWR_REFUSE_CNT_U0 : Fld := ⟨0xF00030, 0x4, 5, 7, 0, .rc, 0x0⟩
def F.PWR_REFUSE_CNT_U1 : Fld := ⟨0xF00030, 0x4, 5, 15, 8, .rc, 0x0⟩
def F.PWR_REFUSE_CNT_U2 : Fld := ⟨0xF00030, 0x4, 5, 23, 16, .rc, 0x0⟩
def F.PWR_REFUSE_CNT_U3 : Fld := ⟨0xF00030, 0x4, 5, 31, 24, .rc, 0x0⟩
/-! PWR_DOM_CFG, at 0x0F00080 + 0x4 n, n 0 to 13 (R458). -/
def F.PWR_DOM_CFG_MODE : Fld := ⟨0xF00080, 0x4, 14, 31, 31, .rw, 0x0⟩
def F.PWR_DOM_CFG_DEPTH : Fld := ⟨0xF00080, 0x4, 14, 30, 30, .rw, 0x0⟩
def F.PWR_DOM_CFG_IDLE_US : Fld := ⟨0xF00080, 0x4, 14, 15, 0, .rw, 0x3E8⟩
/-! LFG_CFG, at 0x1200000 (R88). -/
def F.LFG_CFG_MIRROR_EN : Fld := ⟨0x1200000, 0x0, 1, 16, 16, .rw, 0x1⟩
def F.LFG_CFG_LAG_LIMIT : Fld := ⟨0x1200000, 0x0, 1, 15, 0, .rw, 0x1000⟩
/-! LFG_STATUS, at 0x1200004 (R88). -/
def F.LFG_STATUS_LAGGING : Fld := ⟨0x1200004, 0x0, 1, 26, 26, .ro, 0x0⟩
def F.LFG_STATUS_MIRROR_GAP : Fld := ⟨0x1200004, 0x0, 1, 25, 25, .ro, 0x0⟩
def F.LFG_STATUS_VOLATILE_ONLY : Fld := ⟨0x1200004, 0x0, 1, 24, 24, .ro, 0x0⟩  -- DESIGN CHOICE: per store or per part, log entry 6
def F.LFG_STATUS_SPARES : Fld := ⟨0x1200004, 0x0, 1, 20, 16, .ro, 0x10⟩  -- DESIGN CHOICE: per store or per part, log entry 6
def F.LFG_STATUS_USABLE : Fld := ⟨0x1200004, 0x0, 1, 8, 0, .ro, 0x100⟩  -- DESIGN CHOICE: per store or per part, log entry 6
/-! LFG_EVENT, at 0x1200008 (R88). -/
def F.LFG_EVENT_MIRROR_GAP : Fld := ⟨0x1200008, 0x0, 1, 3, 3, .w1c, 0x0⟩
def F.LFG_EVENT_MIRROR_STOPPED : Fld := ⟨0x1200008, 0x0, 1, 2, 2, .w1c, 0x0⟩
def F.LFG_EVENT_CAPACITY_SHRUNK : Fld := ⟨0x1200008, 0x0, 1, 1, 1, .w1c, 0x0⟩
def F.LFG_EVENT_SECTOR_RETIRED : Fld := ⟨0x1200008, 0x0, 1, 0, 0, .w1c, 0x0⟩
/-! LFG_EVENT_EVCNT, at 0x120000C (R88). -/
def F.LFG_EVENT_EVCNT_SECTOR_RETIRED : Fld := ⟨0x120000C, 0x0, 1, 7, 0, .ro, 0x0⟩
def F.LFG_EVENT_EVCNT_CAPACITY_SHRUNK : Fld := ⟨0x120000C, 0x0, 1, 15, 8, .ro, 0x0⟩
def F.LFG_EVENT_EVCNT_MIRROR_STOPPED : Fld := ⟨0x120000C, 0x0, 1, 23, 16, .ro, 0x0⟩
def F.LFG_EVENT_EVCNT_MIRROR_GAP : Fld := ⟨0x120000C, 0x0, 1, 31, 24, .ro, 0x0⟩
/-! LFG_NV_SEQ_LO, at 0x1200010 (R88). -/
def F.LFG_NV_SEQ_LO_SEQ : Fld := ⟨0x1200010, 0x0, 1, 31, 0, .ro, 0x0⟩  -- DESIGN CHOICE: per store or per part, log entry 6
/-! LFG_NV_SEQ_HI, at 0x1200014 (R88). -/
def F.LFG_NV_SEQ_HI_SEQ : Fld := ⟨0x1200014, 0x0, 1, 31, 0, .ro, 0x0⟩  -- DESIGN CHOICE: per store or per part, log entry 6
/-! LFG_OLDEST_SEQ_LO, at 0x1200018 (R88). -/
def F.LFG_OLDEST_SEQ_LO_SEQ : Fld := ⟨0x1200018, 0x0, 1, 31, 0, .ro, 0x0⟩  -- DESIGN CHOICE: per store or per part, log entry 6
/-! LFG_OLDEST_SEQ_HI, at 0x120001C (R88). -/
def F.LFG_OLDEST_SEQ_HI_SEQ : Fld := ⟨0x120001C, 0x0, 1, 31, 0, .ro, 0x0⟩  -- DESIGN CHOICE: per store or per part, log entry 6
/-! LFG_BOOT, at 0x1200020 (R88). -/
def F.LFG_BOOT_WRAPS : Fld := ⟨0x1200020, 0x0, 1, 31, 16, .ro, 0x0⟩  -- DESIGN CHOICE: per store or per part, log entry 6
def F.LFG_BOOT_BOOT : Fld := ⟨0x1200020, 0x0, 1, 15, 0, .ro, 0x0⟩  -- DESIGN CHOICE: per store or per part, log entry 6

/-- The fields of the HIF block (R88). -/
def RegMap.hif : List Fld :=
  [F.HIF_CTRL_DB_CHECK, F.HIF_CTRL_RINGS_EN, F.HIF_CTRL_RUN, F.HIF_STATUS_BME, F.HIF_STATUS_QUIESCED, F.HIF_STATUS_STAGE, F.HIF_EVENT_PUNT_DROP, F.HIF_EVENT_EVT_LOST, F.HIF_EVENT_SAUCER_FULL, F.HIF_EVENT_BAR_ERROR, F.HIF_EVENT_ENGINE_RESTART, F.HIF_EVENT_CFG_REFUSED, F.HIF_EVENT_MAGIC_MISMATCH, F.HIF_EVENT_BAD_INDEX, F.HIF_EVENT_EVCNT0_BAD_INDEX, F.HIF_EVENT_EVCNT0_MAGIC_MISMATCH, F.HIF_EVENT_EVCNT0_CFG_REFUSED, F.HIF_EVENT_EVCNT0_ENGINE_RESTART, F.HIF_DB_BASE_LO_ADDR, F.HIF_DB_BASE_HI_ADDR] ++
  [F.HIF_DB_MAGIC_MAGIC, F.HIF_POLL_CFG_INTERVAL, F.HIF_NUDGE_POLL, F.HIF_ERR_LOC_ERR_LOC, F.HIF_IMG_ADDR_LO_ADDR, F.HIF_IMG_ADDR_HI_ADDR, F.HIF_IMG_CTRL_LOAD, F.HIF_IMG_CTRL_LEN, F.HIF_IMG_STATUS_MAJOR, F.HIF_IMG_STATUS_MINOR, F.HIF_IMG_STATUS_PATCH, F.HIF_IMG_STATUS_ERROR, F.HIF_SAUCER_BASE_LO_ADDR, F.HIF_SAUCER_BASE_HI_ADDR, F.HIF_DISPATCH_CFG_SAUCER_EN, F.HIF_DISPATCH_CFG_AGE_LIMIT, F.HIF_ENGINE_STATUS_RUNNING0, F.HIF_ENGINE_STATUS_RESTARTS0, F.HIF_ENGINE_STATUS_RUNNING1, F.HIF_ENGINE_STATUS_RESTARTS1] ++
  [F.HIF_ENGINE_STATUS_RUNNING2, F.HIF_ENGINE_STATUS_RESTARTS2, F.HIF_ENGINE_STATUS_RUNNING3, F.HIF_ENGINE_STATUS_RESTARTS3, F.HIF_JRN_HEAD_LO_SEQ, F.HIF_JRN_HEAD_HI_SEQ, F.HIF_EVT_ROUTE0_ROUTES, F.HIF_EVT_ROUTE1_ROUTES, F.HIF_EVENT_EVCNT1_BAR_ERROR, F.HIF_EVENT_EVCNT1_SAUCER_FULL, F.HIF_EVENT_EVCNT1_EVT_LOST, F.HIF_EVENT_EVCNT1_PUNT_DROP, F.HIF_READY_DEPTH_ONCHIP, F.HIF_READY_DEPTH_SAUCER, F.HIF_CMD_BASE_LO_ADDR, F.HIF_CMD_BASE_HI_ADDR, F.HIF_CMD_CFG_EN, F.HIF_CMD_CFG_PRIO, F.HIF_CMD_CFG_CPL, F.HIF_CMD_CFG_VEC] ++
  [F.HIF_CMD_CFG_LOG2_SIZE, F.HIF_CMD_STATUS_IDLE, F.HIF_CMD_STATUS_STOPPED, F.HIF_CMD_STATUS_LOST, F.HIF_CMD_STATUS_INDEX, F.HIF_CPL_BASE_LO_ADDR, F.HIF_CPL_BASE_HI_ADDR, F.HIF_CPL_CFG_EN, F.HIF_CPL_CFG_PRIO, F.HIF_CPL_CFG_CPL, F.HIF_CPL_CFG_VEC, F.HIF_CPL_CFG_LOG2_SIZE, F.HIF_CPL_STATUS_IDLE, F.HIF_CPL_STATUS_STOPPED, F.HIF_CPL_STATUS_LOST, F.HIF_CPL_STATUS_INDEX, F.HIF_EVT_BASE_LO_ADDR, F.HIF_EVT_BASE_HI_ADDR, F.HIF_EVT_CFG_EN, F.HIF_EVT_CFG_PRIO] ++
  [F.HIF_EVT_CFG_CPL, F.HIF_EVT_CFG_VEC, F.HIF_EVT_CFG_LOG2_SIZE, F.HIF_EVT_STATUS_IDLE, F.HIF_EVT_STATUS_STOPPED, F.HIF_EVT_STATUS_LOST, F.HIF_EVT_STATUS_INDEX, F.HIF_PUNT_BASE_LO_ADDR, F.HIF_PUNT_BASE_HI_ADDR, F.HIF_PUNT_CFG_EN, F.HIF_PUNT_CFG_PRIO, F.HIF_PUNT_CFG_CPL, F.HIF_PUNT_CFG_VEC, F.HIF_PUNT_CFG_LOG2_SIZE, F.HIF_PUNT_STATUS_IDLE, F.HIF_PUNT_STATUS_STOPPED, F.HIF_PUNT_STATUS_LOST, F.HIF_PUNT_STATUS_INDEX, F.HIF_INJ_BASE_LO_ADDR, F.HIF_INJ_BASE_HI_ADDR] ++
  [F.HIF_INJ_CFG_EN, F.HIF_INJ_CFG_PRIO, F.HIF_INJ_CFG_CPL, F.HIF_INJ_CFG_VEC, F.HIF_INJ_CFG_LOG2_SIZE, F.HIF_INJ_STATUS_IDLE, F.HIF_INJ_STATUS_STOPPED, F.HIF_INJ_STATUS_LOST, F.HIF_INJ_STATUS_INDEX, F.HIF_VEC_MOD_HOLDOFF, F.HIF_VEC_MOD_COUNT]
/-- The fields of the LTB block (R45). -/
def RegMap.ltb : List Fld :=
  [F.LTB_CTRL_FORCE_LOCAL, F.LTB_TC_CFG_PRIO, F.LTB_TC_CFG_AUTO_CHANGE, F.LTB_TC_CFG_TC, F.LTB_PLL_CFG_SLEW_PPB, F.LTB_PLL_CFG_LOCK_FRAMES, F.LTB_PLL_CFG_BW, F.LTB_REJOIN_CFG_STEP_EN, F.LTB_REJOIN_CFG_SLEW_LIMIT, F.LTB_STATUS_TC_ACTIVE, F.LTB_STATUS_PLL_LOCK, F.LTB_STATUS_PLL_REF, F.LTB_STATUS_COASTING, F.LTB_STATUS_SLEWING, F.LTB_STATUS_STATE, F.LTB_EVENT_WAKE_RECONCILED, F.LTB_EVENT_TC_CHANGE, F.LTB_EVENT_STEP, F.LTB_EVENT_STATE_CHANGE, F.LTB_EVENT_EVCNT_STATE_CHANGE] ++
  [F.LTB_EVENT_EVCNT_STEP, F.LTB_EVENT_EVCNT_TC_CHANGE, F.LTB_EVENT_EVCNT_WAKE_RECONCILED, F.LTB_EPOCH_CAUSE, F.LTB_EPOCH_EPOCH, F.LTB_STAMP_LO_STAMP, F.LTB_STAMP_HI_STAMP, F.LTB_SFC_LO_SFC, F.LTB_SFC_HI_SFC, F.LTB_STEP_DELTA_LO_DELTA, F.LTB_STEP_DELTA_HI_DELTA, F.LTB_HOLD_FRAMES_FRAMES, F.LTB_CH_OFS_VALID, F.LTB_CH_OFS_TIMING, F.LTB_CH_OFS_SKEW_EXCEEDED, F.LTB_CH_OFS_OFS, F.LTB_SLEEP_CFG_UNC_EXT, F.LTB_SLEEP_CFG_UNC_INT, F.LTB_SLEEP_CFG_SRC, F.LTB_SLEEP_TRIM_INT_VALID] ++
  [F.LTB_SLEEP_TRIM_INT_TRIM, F.LTB_SLEEP_TRIM_EXT_VALID, F.LTB_SLEEP_TRIM_EXT_TRIM, F.LTB_WAKE_ELAPSED_LO_ELAPSED, F.LTB_WAKE_ELAPSED_HI_ELAPSED, F.LTB_WAKE_INFO_UNC, F.LTB_WAKE_INFO_EXT_STOPPED, F.LTB_WAKE_INFO_SRC_CHANGED, F.LTB_WAKE_INFO_BASIS]
/-- The fields of the LLN block (R110). -/
def RegMap.lln : List Fld :=
  [F.LLN_RX_CFG_ACQ_TIMEOUT, F.LLN_RX_CFG_CTLE_START, F.LLN_RX_CFG_ADAPT, F.LLN_RX_CFG_EN, F.LLN_RX_STATUS_CTLE, F.LLN_RX_STATUS_SIG_DET, F.LLN_RX_STATUS_CDR_LOCK, F.LLN_RX_STATUS_STATE, F.LLN_RX_EVENT_ACQ_RETRY, F.LLN_RX_EVENT_SIG_LOSS, F.LLN_RX_EVENT_CDR_LOSS, F.LLN_RX_EVENT_EVCNT_CDR_LOSS, F.LLN_RX_EVENT_EVCNT_SIG_LOSS, F.LLN_RX_EVENT_EVCNT_ACQ_RETRY, F.LLN_RX_FFE0_T0, F.LLN_RX_FFE0_T1, F.LLN_RX_FFE0_T2, F.LLN_RX_FFE0_T3, F.LLN_RX_FFE1_T4, F.LLN_RX_FFE1_T5] ++
  [F.LLN_RX_FFE1_T6, F.LLN_RX_FFE1_T7, F.LLN_RX_FFE2_T8, F.LLN_RX_FFE2_T9, F.LLN_RX_FFE2_T10, F.LLN_RX_FFE2_T11, F.LLN_RX_FFE3_T12, F.LLN_RX_FFE3_T13, F.LLN_RX_FFE3_T14, F.LLN_RX_DFE_D1, F.LLN_RX_DFE_D2, F.LLN_RX_DFE_D3, F.LLN_RX_PRBS_ERR_ERRORS, F.LLN_TX_CFG_LEAD, F.LLN_TX_CFG_LAG, F.LLN_TX_CFG_RATE_EN, F.LLN_TX_CFG_EN, F.LLN_TX_EMPH_POST, F.LLN_TX_EMPH_PRE, F.LLN_TX_EMPH_AMPL] ++
  [F.LLN_TX_STATUS_TXDIS_SENSED, F.LLN_TX_STATUS_PLL_LOCK, F.LLN_TX_STATUS_RATE, F.LLN_TX_STATUS_STATE, F.LLN_TX_EVENT_TRUNCATED, F.LLN_TX_EVENT_SHUT_SKIP, F.LLN_TX_EVENT_RATE_SKIP, F.LLN_TX_EVENT_LATE_SKIP, F.LLN_TX_EVENT_EVCNT_LATE_SKIP, F.LLN_TX_EVENT_EVCNT_RATE_SKIP, F.LLN_TX_EVENT_EVCNT_SHUT_SKIP, F.LLN_TX_EVENT_EVCNT_TRUNCATED, F.LLN_TX_BURSTS_BURSTS, F.LLN_TX_SKIP_TRUNC, F.LLN_TX_SKIP_SHUT, F.LLN_TX_SKIP_RATE, F.LLN_TX_SKIP_LATE, F.LLN_TX_SKIP2_STATE]
/-- The fields of the DSF block (R147). -/
def RegMap.dsf : List Fld :=
  [F.DSF_CFG_REASM_MAX, F.DSF_HUNT_CFG_PSYNC_TOL, F.DSF_HUNT_CFG_MISS_LIMIT, F.DSF_DEF_CFG_LOS_CLR_FR, F.DSF_DEF_CFG_LOS_SET_US, F.DSF_LOF_STATUS_LOF, F.DSF_LOF_STATUS_EVCNT_LOF, F.DSF_BOND_CFG_STALL_US, F.DSF_BOND_CFG_EN, F.DSF_BOND_STATUS_SKEW, F.DSF_BOND_STATUS_MSTATE, F.DSF_BOND_EVENT_LATE, F.DSF_BOND_EVENT_OVERFLOW, F.DSF_BOND_EVENT_SUSPEND, F.DSF_BOND_EVENT_EVCNT_SUSPEND, F.DSF_BOND_EVENT_EVCNT_OVERFLOW, F.DSF_BOND_EVENT_EVCNT_LATE, F.DSF_BOND_HELD_UNITS, F.DSF_PRC_CFG_EN, F.DSF_PRC_CFG_PORT_ID] ++
  [F.DSF_PRC_STATUS_RDI_B, F.DSF_PRC_STATUS_AIS_B, F.DSF_PRC_STATUS_CODE_B, F.DSF_PRC_STATUS_RDI_A, F.DSF_PRC_STATUS_AIS_A, F.DSF_PRC_STATUS_CODE_A, F.DSF_PRC_EVENT_CONFLICT, F.DSF_PRC_EVENT_BAD_MSG, F.DSF_PRC_EVENT_ACCEPT_B, F.DSF_PRC_EVENT_ACCEPT_A, F.DSF_PRC_EVENT_EVCNT_ACCEPT_A, F.DSF_PRC_EVENT_EVCNT_ACCEPT_B, F.DSF_PRC_EVENT_EVCNT_BAD_MSG, F.DSF_PRC_EVENT_EVCNT_CONFLICT, F.DSF_PM_CFG_PHASE, F.DSF_PM_SES_THRESH, F.DSF_CH_CFG_ITER_MAX, F.DSF_CH_CFG_FEC_SHORT, F.DSF_CH_STATUS_CANDIDATES, F.DSF_CH_STATUS_LOF] ++
  [F.DSF_CH_STATUS_LOS, F.DSF_CH_STATUS_FEC_IN_USE, F.DSF_CH_STATUS_STATE, F.DSF_CH_EVENT_HUNT_OVF, F.DSF_CH_EVENT_SFC_MISMATCH, F.DSF_CH_EVENT_LOF_DECL, F.DSF_CH_EVENT_LOS_DECL, F.DSF_CH_EVENT_EVCNT_LOS_DECL, F.DSF_CH_EVENT_EVCNT_LOF_DECL, F.DSF_CH_EVENT_EVCNT_SFC_MISMATCH, F.DSF_CH_EVENT_EVCNT_HUNT_OVF, F.DSF_CH_CW_COUNT, F.DSF_CH_CW_CORR_COUNT, F.DSF_CH_CW_UNCORR_COUNT, F.DSF_CH_BITS_CORR_COUNT, F.DSF_CH_ITER_CW_AT_MAX, F.DSF_CH_ITER_PEAK, F.DSF_CH_HEC_HEC_UNCORR, F.DSF_CH_HEC_HEC_CORR, F.DSF_CH_XGEM_DISC_UNKNOWN_PORT] ++
  [F.DSF_CH_XGEM_DISC_ERRORED, F.DSF_CH_XGEM_DISC_LATE, F.DSF_CH_XGEM_DISC_EMPTY]
/-- The fields of the ACT block (R171). -/
def RegMap.act : List Fld :=
  [F.ACT_CFG_RAND_MAX_US, F.ACT_STATUS_PATH, F.ACT_STATUS_PARKED, F.ACT_STATUS_ASSOC, F.ACT_TIMER_CFG0_TO1, F.ACT_TIMER_CFG0_TO2, F.ACT_TIMER_CFG1_TO3, F.ACT_TIMER_CFG1_TO4, F.ACT_TIMER_CFG1_TO5, F.ACT_PARK_CFG_EN, F.ACT_PARK_CFG_MIN_ACTIVE, F.ACT_PARK_CFG_WINDOW, F.ACT_PARK_CFG_AGREE_MS, F.ACT_PARK_LOAD_HIGH_PCT, F.ACT_PARK_LOAD_LOW_PCT, F.ACT_SERIAL_LO_SERIAL, F.ACT_SERIAL_HI_SERIAL, F.ACT_CH_STATUS_ESTOP, F.ACT_CH_STATUS_PARK_PENDING, F.ACT_CH_STATUS_TUNE_PENDING] ++
  [F.ACT_CH_STATUS_MEMBER, F.ACT_CH_STATUS_ONU_ID, F.ACT_CH_STATUS_ALLOCS, F.ACT_CH_STATUS_STATE, F.ACT_CH_EQD_VALID, F.ACT_CH_EQD_EQD, F.ACT_CH_CAL_CAL, F.ACT_CH_EVENT_ALLOC_FULL, F.ACT_CH_EVENT_NACK_SENT, F.ACT_CH_EVENT_TIMER_EXPIRED, F.ACT_CH_EVENT_STATE_CHANGE, F.ACT_CH_EVENT_EVCNT_STATE_CHANGE, F.ACT_CH_EVENT_EVCNT_TIMER_EXPIRED, F.ACT_CH_EVENT_EVCNT_NACK_SENT, F.ACT_CH_EVENT_EVCNT_ALLOC_FULL, F.ACT_CH_COUNT_PLOAM_BAD, F.ACT_CH_COUNT_EQD_SKIP, F.ACT_CH_COUNT_RNG_SENT, F.ACT_CH_COUNT_SN_SENT]
/-- The fields of the UBE block (R206). -/
def RegMap.ube : List Fld :=
  [F.UBE_CFG_FRAG_MIN, F.UBE_CFG_FILL_LEAD, F.UBE_STATUS_MODE, F.UBE_EVENT_FRAG_DROP, F.UBE_EVENT_LATE_FILL, F.UBE_EVENT_OVERLAP, F.UBE_EVENT_MAP_HEC, F.UBE_EVENT_EVCNT_MAP_HEC, F.UBE_EVENT_EVCNT_OVERLAP, F.UBE_EVENT_EVCNT_LATE_FILL, F.UBE_EVENT_EVCNT_FRAG_DROP, F.UBE_CH_STATUS_PLANNED, F.UBE_CH_STATUS_PROF_VALID, F.UBE_CH_STATUS_MODE, F.UBE_CH_PROF0_VALID, F.UBE_CH_PROF0_RATE, F.UBE_CH_PROF0_FEC, F.UBE_CH_PROF0_DEL_BYTES, F.UBE_CH_PROF0_PRE_BITS, F.UBE_CH_PROF1_VALID] ++
  [F.UBE_CH_PROF1_RATE, F.UBE_CH_PROF1_FEC, F.UBE_CH_PROF1_DEL_BYTES, F.UBE_CH_PROF1_PRE_BITS, F.UBE_CH_PROF2_VALID, F.UBE_CH_PROF2_RATE, F.UBE_CH_PROF2_FEC, F.UBE_CH_PROF2_DEL_BYTES, F.UBE_CH_PROF2_PRE_BITS, F.UBE_CH_PROF3_VALID, F.UBE_CH_PROF3_RATE, F.UBE_CH_PROF3_FEC, F.UBE_CH_PROF3_DEL_BYTES, F.UBE_CH_PROF3_PRE_BITS, F.UBE_CH_BURSTS_BURSTS, F.UBE_CH_DISC_HEC, F.UBE_CH_DISC_STATE, F.UBE_CH_DISC_OVERLAP, F.UBE_CH_DISC_PROFILE, F.UBE_CH_DISC2_LATE_FILL] ++
  [F.UBE_CH_DISC2_FRAG_DROP, F.UBE_CH_DISC2_RANGE, F.UBE_CH_LOSS_FRAMES, F.UBE_CH_PAYLOAD_UNITS]
/-- The fields of the STR block (R239). -/
def RegMap.str : List Fld :=
  [F.STR_CFG_DS_MAX, F.STR_CFG_RESTEEP_SHARE, F.STR_STATUS_GEN, F.STR_STATUS_BANK1, F.STR_STATUS_BANK0, F.STR_STATUS_DRAIN, F.STR_EVENT_RULE_MEM, F.STR_EVENT_RESTEEP_FULL, F.STR_EVENT_LEN_CONFLICT, F.STR_EVENT_DEPTH_EXCEEDED, F.STR_EVENT_EVCNT_DEPTH_EXCEEDED, F.STR_EVENT_EVCNT_LEN_CONFLICT, F.STR_EVENT_EVCNT_RESTEEP_FULL, F.STR_EVENT_EVCNT_RULE_MEM, F.STR_PKTS_US_COUNT, F.STR_PKTS_DS_COUNT, F.STR_PASS2_COUNT, F.STR_SIZE_DROP_OVERSIZE, F.STR_SIZE_DROP_UNDERSIZE, F.STR_LEN_LEN_DROP] ++
  [F.STR_LEN_LEN_PASS, F.STR_DEPTH_DEPTH_EXCEEDED, F.STR_DEPTH_RESTEEP_FULL, F.STR_NO_QUEUE_FRAMES, F.STR_BAD_RECORD_RECORD, F.STR_BAD_RECORD_BYTE, F.STR_RQ_DEPTH_PEAK, F.STR_RQ_DEPTH_FRAMES, F.STR_PDROP_FRAMES]
/-- The fields of the TBL block (R264). -/
def RegMap.tbl : List Fld :=
  [F.TBL_CFG_MAX_MOVES, F.TBL_STATUS_READY, F.TBL_STATUS_ENTRIES, F.TBL_EVENT_AGE_GAP, F.TBL_EVENT_ARRAY_MEM, F.TBL_EVENT_STASH_FULL, F.TBL_EVENT_UNCORR, F.TBL_EVENT_EVCNT_UNCORR, F.TBL_EVENT_EVCNT_STASH_FULL, F.TBL_EVENT_EVCNT_ARRAY_MEM, F.TBL_EVENT_EVCNT_AGE_GAP, F.TBL_HASH_SEED_LO_SEED, F.TBL_HASH_SEED_HI_SEED, F.TBL_STASH_PEAK, F.TBL_STASH_ENTRIES, F.TBL_AGE_CFG_EN, F.TBL_AGE_CFG_AGE_EPOCHS, F.TBL_AGE_CFG_EPOCH_MS, F.TBL_AGE_STATUS_GAP, F.TBL_AGE_STATUS_EPOCH] ++
  [F.TBL_AGE_PASSES_PASSES, F.TBL_AGED_DELETES, F.TBL_AGE_REPRIEVE_REPRIEVE, F.TBL_AGE_REPRIEVE_ABANDON, F.TBL_LEARN_CFG_EN, F.TBL_LEARN_CFG_AGED_EN, F.TBL_LEARN_CFG_RING, F.TBL_LEARN_CFG_WINDOW_US, F.TBL_LEARN_STATUS_IN_USE, F.TBL_LEARN_COUNT_LOST, F.TBL_LEARN_COUNT_FULL, F.TBL_LEARN_COUNT_SUPPRESSED, F.TBL_HITS_COUNT, F.TBL_MISSES_COUNT, F.TBL_ERR_UNCORR, F.TBL_ERR_FMT, F.TBL_KFMT_EN, F.TBL_KFMT_LEARN, F.TBL_KFMT_MISS_DROP, F.TBL_KFMT_DIR] ++
  [F.TBL_KFMT_P4, F.TBL_KFMT_P3, F.TBL_KFMT_P2, F.TBL_KFMT_P1, F.TBL_KFMT_P0, F.TBL_KFMT_BMASK_BMASK, F.TBL_TCW_OP_GO, F.TBL_TCW_OP_SLOT, F.TBL_TCW_OP_OP, F.TBL_TCW_STATUS_BUSY, F.TBL_TCW_STATUS_COLLIDE, F.TBL_TCW_STATUS_CODE, F.TBL_TCW_STATUS_EVCNT_COLLIDE, F.TBL_TCW_RESULT_RESULT, F.TBL_TCW_INFO_FRESH, F.TBL_TCW_INFO_MOVES, F.TBL_TCW_INFO_STASH, F.TBL_TCW_INFO_FOUND, F.TBL_TCW_STAGE_ENTRY]
/-- The fields of the TMG block (R297). -/
def RegMap.tmg : List Fld :=
  [F.TMG_CFG_TAIL_US, F.TMG_CFG_FC_EN, F.TMG_CFG_SAMPLER_EN, F.TMG_CFG_KETTLE_EN, F.TMG_STATUS_SPILL_STOPPED, F.TMG_STATUS_HELD, F.TMG_STATUS_KETTLE_ACTIVE, F.TMG_EVENT_CAL_LATE, F.TMG_EVENT_CELL_MEM, F.TMG_EVENT_KETTLE_UNCORR, F.TMG_EVENT_KETTLE_FULL, F.TMG_EVENT_POOL_LOW, F.TMG_EVENT_EVCNT_POOL_LOW, F.TMG_EVENT_EVCNT_KETTLE_FULL, F.TMG_EVENT_EVCNT_KETTLE_UNCORR, F.TMG_EVENT_EVCNT_CELL_MEM, F.TMG_POOL0_LOW_PCT, F.TMG_POOL0_SIZE, F.TMG_POOL1_LOW_PCT, F.TMG_POOL1_SIZE] ++
  [F.TMG_POOL2_LOW_PCT, F.TMG_POOL2_SIZE, F.TMG_POOL3_LOW_PCT, F.TMG_POOL3_SIZE, F.TMG_POOL_USE_IN_USE, F.TMG_KETTLE_BASE_LO_ADDR, F.TMG_KETTLE_BASE_HI_ADDR, F.TMG_KETTLE_SIZE_GB, F.TMG_KETTLE_USE_PAGES, F.TMG_CAL_STATUS_LATE_CNT, F.TMG_CAL_STATUS_BACKLOG, F.TMG_SAMPLE_CFG_SAMPLE_US, F.TMG_SAMPLE_CFG_DEPTH_SHIFT, F.TMG_SAMPLE_CFG_DELAY_SHIFT, F.TMG_FC_CFG_XOFF, F.TMG_FC_CFG_XON, F.TMG_FC_STATUS_XOFF, F.TMG_DROP_US_THRESH, F.TMG_DROP_US_NO_BUFFER, F.TMG_DROP_DS_THRESH] ++
  [F.TMG_DROP_DS_NO_BUFFER, F.TMG_KETTLE_ERR_UNCORR, F.TMG_KETTLE_ERR_FROZEN_DROP, F.TMG_CH_ENQ_UNITS]
/-- The fields of the MEM block (R335). -/
def RegMap.mem : List Fld :=
  [F.MEM_DDR_CFG_TRAIN, F.MEM_DDR_CFG_DUAL, F.MEM_DDR_CFG_DENSITY, F.MEM_DDR_CFG_RANKS, F.MEM_DDR_CFG_HASH, F.MEM_DDR_CFG_SET, F.MEM_DDR_STATUS_CAP_GB, F.MEM_DDR_STATUS_VALID_B, F.MEM_DDR_STATUS_VALID_A, F.MEM_DDR_STATUS_ACTIVE_SET, F.MEM_QDR_CFG_TRAIN, F.MEM_QDR_CFG_PARITY_EN, F.MEM_QDR_STATUS_TRAIN_STEP, F.MEM_QDR_STATUS_STATE, F.MEM_EVENT_FROZEN, F.MEM_EVENT_CHRONIC, F.MEM_EVENT_UNCORR, F.MEM_EVENT_CORRECTED, F.MEM_EVENT_EVCNT_CORRECTED, F.MEM_EVENT_EVCNT_UNCORR] ++
  [F.MEM_EVENT_EVCNT_CHRONIC, F.MEM_EVENT_EVCNT_FROZEN, F.MEM_REFETCH_CFG_MAX, F.MEM_QOS_CFG_SPARE_EN, F.MEM_QOS_CFG_PERIOD, F.MEM_QOS_CFG_SETTLE_US, F.MEM_ENGINE_BASE_LO_ADDR, F.MEM_ENGINE_BASE_HI_ADDR, F.MEM_TRACK_STATUS_IN_USE, F.MEM_TRACK_STATUS_CHRONIC, F.MEM_RINSE_CFG_DDR_EN, F.MEM_RINSE_CFG_QDR_EN, F.MEM_RINSE_CFG_DDR_PASS_MIN, F.MEM_RINSE_CFG_QDR_PASS_S, F.MEM_RINSE_STATUS_DDR_PASSES, F.MEM_RINSE_STATUS_QDR_PASSES, F.MEM_RINSE_STATUS_DDR_PCT, F.MEM_RINSE_STATUS_QDR_PCT, F.MEM_QDR_COUNT_REPLAYS, F.MEM_QDR_COUNT_UNCORR] ++
  [F.MEM_QDR_COUNT_CORR, F.MEM_REG0_LINES, F.MEM_REG0_CARRY, F.MEM_REG1_LINES, F.MEM_REG1_CARRY, F.MEM_REG2_LINES, F.MEM_REG2_CARRY, F.MEM_REG3_LINES, F.MEM_REG3_CARRY, F.MEM_REG4_LINES, F.MEM_REG4_CARRY, F.MEM_REG5_LINES, F.MEM_REG5_CARRY, F.MEM_TGT0_TARGET, F.MEM_TGT1_TARGET, F.MEM_TGT2_TARGET, F.MEM_TGT3_TARGET, F.MEM_TGT4_TARGET, F.MEM_TGT5_TARGET, F.MEM_TIMA0_RATE] ++
  [F.MEM_TIMA0_CL, F.MEM_TIMA0_CWL, F.MEM_TIMA0_TRCD, F.MEM_TIMA0_TRP, F.MEM_TIMA1_TRAS, F.MEM_TIMA1_TRC, F.MEM_TIMA1_TFAW, F.MEM_TIMA1_TWR, F.MEM_TIMA2_TRFC1, F.MEM_TIMA2_TRFCSB, F.MEM_TIMA2_TRRD_L, F.MEM_TIMA3_TREFI, F.MEM_TIMA3_TWTR_L, F.MEM_TIMA3_TWTR_S, F.MEM_TIMB0_RATE, F.MEM_TIMB0_CL, F.MEM_TIMB0_CWL, F.MEM_TIMB0_TRCD, F.MEM_TIMB0_TRP, F.MEM_TIMB1_TRAS] ++
  [F.MEM_TIMB1_TRC, F.MEM_TIMB1_TFAW, F.MEM_TIMB1_TWR, F.MEM_TIMB2_TRFC1, F.MEM_TIMB2_TRFCSB, F.MEM_TIMB2_TRRD_L, F.MEM_TIMB3_TREFI, F.MEM_TIMB3_TWTR_L, F.MEM_TIMB3_TWTR_S, F.MEM_CH_CFG_PARITY_MODE, F.MEM_CH_CFG_FREEZE_TRAFFIC, F.MEM_CH_CFG_FREEZE_REFRESH, F.MEM_CH_CFG_QOS_FORCE, F.MEM_CH_CFG_REPLAY_MAX, F.MEM_CH_CFG_ALERT_WIN, F.MEM_CH_STATUS_RETRY, F.MEM_CH_STATUS_TRAIN_STEP, F.MEM_CH_STATUS_QOS, F.MEM_CH_STATUS_LOST, F.MEM_CH_STATUS_STATE] ++
  [F.MEM_CH_COUNT_REPLAYS, F.MEM_CH_COUNT_UNCORR, F.MEM_CH_COUNT_CORR, F.MEM_CH_COUNT2_RMW, F.MEM_CH_COUNT2_LATE, F.MEM_CH_COUNT2_RETRY_FULL, F.MEM_CH_FRZ_STAMP_LO_STAMP, F.MEM_CH_FRZ_STAMP_HI_STAMP]
/-- The fields of the HPM block (R361, lanes R110). -/
def RegMap.hpm : List Fld :=
  [F.HPM_CFG_MODE, F.HPM_CFG_PORT_EN, F.HPM_STATUS_LISTEN, F.HPM_STATUS_UP, F.HPM_EVENT_WAKE, F.HPM_EVENT_PORT_DOWN, F.HPM_EVENT_PORT_UP, F.HPM_EVENT_EVCNT_PORT_UP, F.HPM_EVENT_EVCNT_PORT_DOWN, F.HPM_EVENT_EVCNT_WAKE, F.HPM_P_CFG_MAX_FRAME, F.HPM_P_CFG_TS_EN, F.HPM_P_CFG_TX_FC, F.HPM_P_CFG_FC_MODE, F.HPM_P_MAC_LO_MAC, F.HPM_P_MAC_HI_MAC, F.HPM_P_PFC_MAP_MAP, F.HPM_P_FC_TX_TX_QUANTA, F.HPM_P_FC_TX_REFRESH, F.HPM_P_FC_STATUS_TX_XOFF] ++
  [F.HPM_P_FC_STATUS_RX_PRI, F.HPM_P_FC_STATUS_PAUSED, F.HPM_P_SIZE_DROP_TX_OVER, F.HPM_P_SIZE_DROP_OVERSIZE, F.HPM_P_SIZE_DROP_UNDERSIZE, F.HPM_P_TS_ADJ_RX_ADJ, F.HPM_P_TS_ADJ_TX_ADJ, F.HPM_P_PTP_CFG_UDP6, F.HPM_P_PTP_CFG_UDP4, F.HPM_P_PTP_CFG_L2, F.HPM_P_PTP_CFG_MSG, F.HPM_P_WAKE_CFG_WAKE_ON_LINK, F.HPM_P_WAKE_CFG_LISTEN_EN, F.HPM_P_WAKE_CFG_PATTERNS, F.HPM_P_WAKE_INFO_VALID, F.HPM_P_WAKE_INFO_LINK, F.HPM_P_WAKE_INFO_PATTERN, F.HPM_SD_CFG_TX_PRESET, F.HPM_SD_CFG_RX_ADAPT, F.HPM_SD_CFG_LT_EN] ++
  [F.HPM_SD_CFG_AN_EN, F.HPM_SD_TXFFE_C1, F.HPM_SD_TXFFE_C0, F.HPM_SD_TXFFE_CM1, F.HPM_SD_TXFFE_CM2, F.HPM_SD_STATUS_SKEW, F.HPM_SD_STATUS_CDR_LOCK, F.HPM_SD_STATUS_AM_LOCK, F.HPM_SD_STATUS_STATE, F.HPM_SD_EVENT_AN_RESTART, F.HPM_SD_EVENT_TRAIN_FAIL, F.HPM_SD_EVENT_DESKEW_FAIL, F.HPM_SD_EVENT_LINK_DOWN, F.HPM_SD_EVENT_EVCNT_LINK_DOWN, F.HPM_SD_EVENT_EVCNT_DESKEW_FAIL, F.HPM_SD_EVENT_EVCNT_TRAIN_FAIL, F.HPM_SD_EVENT_EVCNT_AN_RESTART, F.HPM_SD_PRBS_ERR_ERRORS]
/-- The fields of the CPH block (R384). -/
def RegMap.cph : List Fld :=
  [F.CPH_CFG_WARN64, F.CPH_CFG_WARN32, F.CPH_STATUS_KEYBUS_OK, F.CPH_STATUS_SA_ON, F.CPH_EVENT_PON_KEY, F.CPH_EVENT_CUT_FAIL, F.CPH_EVENT_PN_EXHAUSTED, F.CPH_EVENT_PN_WARN, F.CPH_EVENT_EVCNT_PN_WARN, F.CPH_EVENT_EVCNT_PN_EXHAUSTED, F.CPH_EVENT_EVCNT_CUT_FAIL, F.CPH_EVENT_EVCNT_PON_KEY, F.CPH_PON_LIFE_LIFE, F.CPH_PON_CH_COUNT_NO_KEY, F.CPH_PON_CH_COUNT_BAD_INDEX, F.CPH_PON_CH_COUNT_CLEAR_REFUSED, F.CPH_PON_CH_COUNT_SPENT, F.CPH_PON_CH_KEY_SPENT, F.CPH_PON_CH_KEY_HELD, F.CPH_PON_CH_KEY_UP_INDEX] ++
  [F.CPH_P_CFG_VALIDATE, F.CPH_P_CFG_TX_SCI, F.CPH_P_CFG_PROTECT, F.CPH_P_TXSA_VALID, F.CPH_P_TXSA_SA, F.CPH_P_BYPASS_ETYPE1, F.CPH_P_BYPASS_ETYPE0, F.CPH_P_RX_COUNT_ICV_FAIL, F.CPH_P_RX_COUNT_CUT_FAIL, F.CPH_P_RX_COUNT_REPLAY, F.CPH_P_RX_COUNT_NO_SA, F.CPH_P_RX_COUNT2_BAD_TAG, F.CPH_P_RX_COUNT2_UNTAGGED, F.CPH_P_RX_COUNT2_SV_NO_BUFFER, F.CPH_P_TX_COUNT_PN_DROP, F.CPH_P_TX_COUNT_NO_SA]
/-- The fields of the TIM block (R404). -/
def RegMap.tim : List Fld :=
  [F.TIM_CFG_SRC, F.TIM_CFG_STEP_EN, F.TIM_CFG_PPS_EN, F.TIM_STATUS_TRIG_ARMED, F.TIM_STATUS_SPEC, F.TIM_STATUS_SERVO_LIMIT, F.TIM_STATUS_SLEWING, F.TIM_STATUS_PPS_SQUELCHED, F.TIM_STATUS_REF_STALE, F.TIM_STATUS_TOD_VALID, F.TIM_STATUS_SRC_USED, F.TIM_STATUS_TSTATE, F.TIM_EVENT_CAP_OVERRUN, F.TIM_EVENT_TRIG_MISSED, F.TIM_EVENT_TRIG_LATE, F.TIM_EVENT_TOD_STEP, F.TIM_EVENT_EVCNT_TOD_STEP, F.TIM_EVENT_EVCNT_TRIG_LATE, F.TIM_EVENT_EVCNT_TRIG_MISSED, F.TIM_EVENT_EVCNT_CAP_OVERRUN] ++
  [F.TIM_SERVO_CFG_KI_SHIFT, F.TIM_SERVO_CFG_KP_SHIFT, F.TIM_SERVO_CFG_HOLD_SAMPLES, F.TIM_SERVO_STEP_STEP_NS, F.TIM_SERVO_MAX_MAX_PPB, F.TIM_SLEW_SLEW_PPB, F.TIM_SERVO_FREQ_Y, F.TIM_SERVO_INT_INT, F.TIM_SERVO_ERR_ERR, F.TIM_HOLD_PPB_HOLD_PPB, F.TIM_UNC_UNC, F.TIM_PPS_CFG_HOLD_SQUELCH, F.TIM_PPS_CFG_WIDTH_US, F.TIM_CH_ASYM_ALPHA, F.TIM_CH_RXOPT_RXOPT, F.TIM_TRIG_STATUS_ARMED, F.TIM_TRIG_STATUS_LATE, F.TIM_TRIG_STATUS_HOLDOVER, F.TIM_TRIG_COUNT_MISSED, F.TIM_TRIG_COUNT_FIRED] ++
  [F.TIM_CAP_CFG_NOTIFY, F.TIM_CAP_CFG_EDGE, F.TIM_CAP_STAMP_LO_STAMP, F.TIM_CAP_STAMP_HI_STAMP, F.TIM_CAP_INFO_FRACTION, F.TIM_CAP_INFO_TSTATE, F.TIM_CAP_INFO_RISING, F.TIM_CAP_INFO_VALID, F.TIM_CAP_OVR_OVERRUN]
/-- The fields of the PRT block (R420). -/
def RegMap.prt : List Fld :=
  [F.PRT_CFG_EN, F.PRT_CFG_WORKING, F.PRT_CFG_SB_FAULT_CLR, F.PRT_HB_CFG_KA_MS, F.PRT_HB_CFG_MISS_KA, F.PRT_HB_CFG_MISS_PSYNC, F.PRT_WTR_WTR_S, F.PRT_SB_CFG_PRERANGE, F.PRT_SB_CFG_RUP, F.PRT_STATUS_SB_READY, F.PRT_STATUS_SB_UP_FAULT, F.PRT_STATUS_SF_B, F.PRT_STATUS_SF_A, F.PRT_STATUS_REQ_SRC, F.PRT_STATUS_REQ, F.PRT_STATUS_ACTIVE, F.PRT_STATUS_STATE, F.PRT_EVENT_EXERCISE_FAIL, F.PRT_EVENT_PATH_RESTORED, F.PRT_EVENT_PATH_FAIL] ++
  [F.PRT_EVENT_SWITCH, F.PRT_EVENT_EVCNT_SWITCH, F.PRT_EVENT_EVCNT_PATH_FAIL, F.PRT_EVENT_EVCNT_PATH_RESTORED, F.PRT_EVENT_EVCNT_EXERCISE_FAIL, F.PRT_WTR_LEFT_SECONDS, F.PRT_GAP_LC, F.PRT_COUNT_SWITCHES, F.PRT_COUNT_EXERCISES, F.PRT_COUNT_EX_FAILED, F.PRT_CH_EQD_ADJ_ADJ]
/-- The fields of the INF block (R440). -/
def RegMap.inf : List Fld :=
  [F.INF_CFG_AUTO, F.INF_TRACE_CFG_LANES, F.INF_TRACE_CFG_AVG, F.INF_TRACE_CFG_SPACING, F.INF_C_STATUS_PC, F.INF_C_STATUS_TURN, F.INF_C_STATUS_STATE, F.INF_C_EVENT_FAULT, F.INF_C_EVENT_STREAM_OVR, F.INF_C_EVENT_SSAT, F.INF_C_EVENT_GOV, F.INF_C_EVENT_EVCNT_GOV, F.INF_C_EVENT_EVCNT_SSAT, F.INF_C_EVENT_EVCNT_STREAM_OVR, F.INF_C_EVENT_EVCNT_FAULT, F.INF_C_GOV_VALID, F.INF_C_GOV_ADDR, F.INF_C_GOV_DEPTH, F.INF_C_GOV_ITER, F.INF_C_IN_SRC0] ++
  [F.INF_C_IN_SRC1, F.INF_C_IN_SRC2, F.INF_C_IN_SRC3, F.INF_C_ENTRY_ENTRY, F.INF_C_OVR_TAP_DISC, F.INF_C_OVR_IN3, F.INF_C_OVR_IN2, F.INF_C_OVR_IN1, F.INF_C_OVR_IN0]
/-- The fields of the PWR block (R458). -/
def RegMap.pwr : List Fld :=
  [F.PWR_SIMMER_CFG_EN, F.PWR_SIMMER_CFG_MODES, F.PWR_SIMMER_CFG_HOST_WAKE, F.PWR_SIMMER_CFG_IDLE_MS, F.PWR_SIMMER_CFG_DARK_GUARD, F.PWR_SIMMER_CFG_ENTRY_MS, F.PWR_SIMMER_LVL_US_WAKE, F.PWR_WATCH_CFG_SAMPLE_FRAMES, F.PWR_WATCH_CFG_MISS_WAKE, F.PWR_WATCH_CFG_PERIOD_MS, F.PWR_SIMMER_TIME_LOWPOWER_MS, F.PWR_SIMMER_TIME_AWARE_MS, F.PWR_STATUS_STATE, F.PWR_STATUS_MODE, F.PWR_STATUS_ALLOW, F.PWR_STATUS_HOLD, F.PWR_STATUS_RX_DARK, F.PWR_STATUS_DARK, F.PWR_STATUS_SAMPLE_CH, F.PWR_EVENT_SAMPLE_MISS] ++
  [F.PWR_EVENT_WAKE_TIMEOUT, F.PWR_EVENT_REFUSED, F.PWR_EVENT_STATE_CHANGE, F.PWR_EVENT_EVCNT_STATE_CHANGE, F.PWR_EVENT_EVCNT_REFUSED, F.PWR_EVENT_EVCNT_WAKE_TIMEOUT, F.PWR_EVENT_EVCNT_SAMPLE_MISS, F.PWR_WAKE_SRC_VALID, F.PWR_WAKE_SRC_SRC, F.PWR_WAKE_SRC_MODE, F.PWR_WAKE_SRC_SAMPLES, F.PWR_WAKE_STAMP_LO_STAMP, F.PWR_WAKE_STAMP_HI_STAMP, F.PWR_LAST_REFUSE_VALID, F.PWR_LAST_REFUSE_ABORT, F.PWR_LAST_REFUSE_UNIT, F.PWR_LAST_REFUSE_REASON, F.PWR_LAST_REFUSE_MODE, F.PWR_DOM_STATUS_STATES, F.PWR_REFUSE_CNT_U0] ++
  [F.PWR_REFUSE_CNT_U1, F.PWR_REFUSE_CNT_U2, F.PWR_REFUSE_CNT_U3, F.PWR_DOM_CFG_MODE, F.PWR_DOM_CFG_DEPTH, F.PWR_DOM_CFG_IDLE_US]
/-- The fields of the WHS block (R207, R458). -/
def RegMap.whs : List Fld :=
  [F.WHS_CFG_SHUT_ALL, F.WHS_CFG_PERIODIC, F.WHS_CFG_EYE_N, F.WHS_CFG_TOL_LC, F.WHS_CFG_DEB, F.WHS_STATUS_TXDIS, F.WHS_STATUS_ROGUE, F.WHS_STATUS_RELEASE_SEEN, F.WHS_STATUS_LINK_OK, F.WHS_STATUS_DARK, F.WHS_STATUS_LATCH_STORED, F.WHS_STATUS_TSTATE, F.WHS_STATUS_STATE, F.WHS_EVENT_LINK_LOSS, F.WHS_EVENT_CONTEXT_FAULT, F.WHS_EVENT_MAP_GAP, F.WHS_EVENT_ROGUE, F.WHS_EVENT_EVCNT_ROGUE, F.WHS_EVENT_EVCNT_MAP_GAP, F.WHS_EVENT_EVCNT_CONTEXT_FAULT] ++
  [F.WHS_EVENT_EVCNT_LINK_LOSS, F.WHS_SHUT_INFO_LANES, F.WHS_SHUT_INFO_CLASS, F.WHS_SHUT_INFO_COUNT, F.WHS_SHUT_STAMP_LO_STAMP, F.WHS_SHUT_STAMP_HI_STAMP, F.WHS_SELFTEST_RUNS, F.WHS_SELFTEST_FAIL_STEP, F.WHS_SELFTEST_RESULT, F.WHS_TIME_DIFF_VALID, F.WHS_TIME_DIFF_DIFF, F.WHS_WAKE_INFO_VALID, F.WHS_WAKE_INFO_CAUSE, F.WHS_WAKE_INFO_DARK_MS, F.WHS_CH_STATUS_ASSIGNED, F.WHS_CH_STATUS_ENGINE, F.WHS_CH_STATUS_HOLD, F.WHS_CH_STATUS_PERM, F.WHS_CH_STATUS_CTX_SEQ, F.WHS_CH_EYE_LIMIT] ++
  [F.WHS_CH_PMON_MAX, F.WHS_CH_PMON_LAST, F.WHS_CH_LIGHT_THRESH, F.WHS_CH_COUNT_MAP_GAP, F.WHS_CH_COUNT_CTX_RETRY]
/-- The fields of the CDY block (R385). -/
def RegMap.cdy : List Fld :=
  [F.CDY_STATUS_DIK_VALID, F.CDY_STATUS_IMAGE_KEY_VALID, F.CDY_STATUS_LOADED, F.CDY_STATUS_BOUND, F.CDY_EVENT_UNWRAP_FAIL, F.CDY_EVENT_BUS_FAULT, F.CDY_EVENT_SLOT_MEM, F.CDY_EVENT_EVCNT_SLOT_MEM, F.CDY_EVENT_EVCNT_BUS_FAULT, F.CDY_EVENT_EVCNT_UNWRAP_FAIL, F.CDY_DIK_KCV_KCV]
/-- The fields of the LFG block (R88). -/
def RegMap.lfg : List Fld :=
  [F.LFG_CFG_MIRROR_EN, F.LFG_CFG_LAG_LIMIT, F.LFG_STATUS_LAGGING, F.LFG_STATUS_MIRROR_GAP, F.LFG_STATUS_VOLATILE_ONLY, F.LFG_STATUS_SPARES, F.LFG_STATUS_USABLE, F.LFG_EVENT_MIRROR_GAP, F.LFG_EVENT_MIRROR_STOPPED, F.LFG_EVENT_CAPACITY_SHRUNK, F.LFG_EVENT_SECTOR_RETIRED, F.LFG_EVENT_EVCNT_SECTOR_RETIRED, F.LFG_EVENT_EVCNT_CAPACITY_SHRUNK, F.LFG_EVENT_EVCNT_MIRROR_STOPPED, F.LFG_EVENT_EVCNT_MIRROR_GAP, F.LFG_NV_SEQ_LO_SEQ, F.LFG_NV_SEQ_HI_SEQ, F.LFG_OLDEST_SEQ_LO_SEQ, F.LFG_OLDEST_SEQ_HI_SEQ, F.LFG_BOOT_WRAPS] ++
  [F.LFG_BOOT_BOOT]
/-- The fields of the block with the unit code `u` (R7); none for a reserved code. -/
def RegMap.ofUnit (u : Nat) : List Fld :=
  match u with
  | 0 => RegMap.hif
  | 1 => RegMap.ltb
  | 2 => RegMap.lln
  | 3 => RegMap.dsf
  | 4 => RegMap.act
  | 5 => RegMap.ube
  | 6 => RegMap.str
  | 7 => RegMap.tbl
  | 8 => RegMap.tmg
  | 9 => RegMap.mem
  | 10 => RegMap.hpm
  | 11 => RegMap.cph
  | 12 => RegMap.tim
  | 13 => RegMap.prt
  | 14 => RegMap.inf
  | 15 => RegMap.pwr
  | 16 => RegMap.whs
  | 17 => RegMap.cdy
  | 18 => RegMap.lfg
  | _ => []

/-- Every field of BAR0, in the order of the unit codes (R480). -/
def RegMap.all : List Fld := (List.range 19).flatMap RegMap.ofUnit

end Sys2Proof.Machine
end

