-- ==== Sys2Proof/Machine/SMap.lean ====
section
/-!
DEFINITION. Sys2Proof/Machine/SMap.lean: sparse storage. A table, a register file or a memory of the hardware is a list
of (number, entry) pairs with the numbers strictly rising; what is not listed is at the table's stated default.
-/
namespace Sys2Proof.Machine

/-- Sparse storage keyed by number, in one canonical form (`SMap.wf`). -/
abbrev SMap (α : Type) := List (Nat × α)

/-- The entry listed under a number, if any. -/
def SMap.find {α : Type} : SMap α → Nat → Option α
  | [], _ => none
  | (k, v) :: t, n => if k = n then some v else SMap.find t n

/-- The entry listed under a number, or the default of an unlisted one. -/
def SMap.get {α : Type} (m : SMap α) (n : Nat) (d : α) : α := (SMap.find m n).getD d

/-- Write an entry, keeping the numbers rising. -/
def SMap.insert {α : Type} : SMap α → Nat → α → SMap α
  | [], n, a => [(n, a)]
  | (k, v) :: t, n, a =>
    if n < k then (n, a) :: (k, v) :: t
    else if n = k then (n, a) :: t
    else (k, v) :: SMap.insert t n a

/-- Remove the entry of a number. -/
def SMap.erase {α : Type} : SMap α → Nat → SMap α
  | [], _ => []
  | (k, v) :: t, n => if k = n then SMap.erase t n else (k, v) :: SMap.erase t n

/-- Write an entry, or remove it when it equals what an unlisted number reads as. -/
def SMap.put {α : Type} [DecidableEq α] (m : SMap α) (n : Nat) (a d : α) : SMap α :=
  if a = d then SMap.erase m n else SMap.insert m n a

/-- The canonical form: numbers strictly rising. -/
def SMap.wf {α : Type} (m : SMap α) : Bool := decide (m.Pairwise (fun a b => a.1 < b.1))

end Sys2Proof.Machine
end

