-- ==== Sys2Proof/Machine/State.lean ====
section
/-!
DEFINITION. Sys2Proof/Machine/State.lean: the state of the block, as plain data. Every register of BAR0 has its one home in
`regs` (field by field, R480); what the spec names beside the registers stands in one structure per unit. `pending` is
the queue of waiting commands, first in, first out.
-/
namespace Sys2Proof.Machine

/-- Reasons a step can stop with a fault. No meaning of this model stops: the spec gives every row of the table an effect. -/
inductive Fault where
  /-- Raised by no meaning. Safe: it is never answered. -/
  | unused
  deriving DecidableEq, Repr

/-- Reasons a command has no meaning. -/
inductive Refusal where
  /-- Raised by the arm of a command that is not modelled yet, naming the row. Safe: nothing is claimed of it. -/
  | notModelled (mnemonic : String)
  deriving DecidableEq, Repr

/-- The register file: field number to instance to value, listing only what differs from its reset value. -/
abbrev RegFile := SMap (SMap Nat)

/-- A write the terminal makes to host memory (completions, events, punt entries, result buffers), in order. -/
structure HostWrite where
  addr : Nat
  words : List Nat
  deriving DecidableEq, Repr

/-! HIF and LFG (R46 to R88, R485 to R489). -/

/-- A ring's indices (R52): `head` is the terminal's own 32-bit index, `tail` the host's last accepted index, `reserved`
the completion entries reserved and not yet written (R60). -/
structure RingSt where
  head : Nat
  tail : Nat
  reserved : Nat
  deriving DecidableEq, Repr

/-- What an MSI-X vector owes the host (R74): entries of the rings that raise it accumulated since it was last raised for them, and the line-cycle count of the
first of them. -/
structure VecSt where
  owed : Nat
  since : Nat
  deriving DecidableEq, Repr

/-- The PCIe function (R2, R46): device and revision IDs, class code, the two BARs in bytes, MSI-X vectors, largest payload, largest read request in force, and
whether it has 10-bit tags, function-level reset and advanced error reporting; the MSI-X table (four words an entry, listing the entries that differ from the reset one: address and data 0, masked; log entry 37) and the pending bits in BAR2. -/
structure PciFn where
  device : Nat
  revision : Nat
  class_ : Nat
  bar0 : Nat
  bar2 : Nat
  vectors : Nat
  payload : Nat
  readRequest : Nat
  tags10 : Bool
  flr : Bool
  aer : Bool
  table : SMap (List Nat)
  pba : SMap Nat
  deriving DecidableEq, Repr

/-- The PCIe function of a part (R2, R46). -/
def pciOf (p : Part) : PciFn :=
  ⟨match p with | .lk9540 => 0x9540 | .lk9520 => 0x9520, 0xB1, 0x028000, 33554432, 65536, 64, 512, 4096, true, true, true, [], []⟩

/-- How a fetched command ended (R59, R61). -/
structure Done where
  status : Nat
  result : Nat
  seq : Nat
  saucerLost : Bool
  deriving DecidableEq, Repr

/-- A fetched command that has not retired, in ring order (R67). `inj` marks an inject descriptor, `started` that the
dispatcher has started it, `drop` that its reserved completion is discarded because the completion ring's EN was cleared
(R488). -/
structure Flight where
  inj : Bool
  desc : Desc
  started : Bool
  drop : Bool
  done : Option Done
  deriving DecidableEq, Repr

/-- An entry of a ready list (R63): a fetched descriptor, or an internal task of a service engine. -/
inductive Entry where
  | cmd (inj : Bool) (desc : Desc)
  | task (engine : Nat) (code : Nat)
  deriving DecidableEq, Repr

/-- A journal record (R79, R80), with the WRAPS its boot runs under (R81). `payload` is bytes 36 to 59 as six little-endian words. -/
structure Record where
  wraps : Nat
  boot : Nat
  count : Nat
  stamp : Nat
  type : Nat
  tstate : Nat
  epoch : Nat
  src : Nat
  opcode : Nat
  tag : Nat
  status : Nat
  flags : Nat
  result : Nat
  index : Nat
  payload : List Nat
  deriving DecidableEq, Repr

/-- A service engine beside its HIF_ENGINE_STATUS fields (R58, R68, R69): restarts since cold reset, the program counter at the latest one, and tasks that wait for
room in the list of priority 0. -/
structure Engine where
  restarts : Nat
  pc : Nat
  waiting : List Nat
  deriving DecidableEq, Repr

/-- The host interface beside its registers: the PCIe function (R46); rings by 32 × kind + number with the terminal-written index as the doorbell page last shows
it (R54), and the vectors (R74); the ready lists and the Saucer by priority (R63, R65) with the position the next entry to spill takes (R301) and the line-cycle count at which each list's head came to its place (R64); commands in flight;
engines (R69); posted punt buffers by ring (R72); the high registers latched (R13); data returned to the latest read, writes made to host memory and vectors raised, in
order; a poll asked for by a nudge and the line-cycle count of the latest poll (R54); and the image DMA in progress, address and length (R48). -/
structure Hif where
  part : Part
  pci : PciFn
  linkUp : Bool
  imageLoaded : Bool
  regsJournalled : Bool
  rings : SMap RingSt
  shown : SMap Nat
  vecs : SMap VecSt
  ready : SMap (List Entry)
  headSince : SMap Nat
  saucer : SMap (List Entry)
  spillNo : SMap Nat
  flight : List Flight
  engines : SMap Engine
  posted : SMap (List (Nat × Nat))
  hiLatch : SMap Nat
  readData : List Nat
  hostWrites : List HostWrite
  msix : List Nat
  pollAsked : Bool
  lastPoll : Nat
  imgDma : Option (Nat × Nat)
  deriving DecidableEq, Repr

/-- A command that has ended and whose record waits for the mirror to catch up (R82, R83). -/
structure Ended where
  desc : Desc
  status : Nat
  result : Nat
  deriving DecidableEq, Repr

/-- The journal (R77 to R86): `volatile` is the main-die ring, newest first; its first `unmirrored` records are not yet in the
store; `held` the ended commands whose records wait while the mirror lags (R82); `missed` the SEQs of records overwritten unmirrored that a completion still waits
on (R84); `nv` is the store, newest first; `gap` marks an unmirrored record overwritten while the mirror was off (R486). `sectors` are the sectors the journal
uses in their circular order, `place` the one being written with `fill` journal records in it after its header record (R85). -/
structure Lfg where
  volatile : List Record
  unmirrored : Nat
  count : Nat
  held : List Ended
  missed : List Nat
  gap : Bool
  nv : List Record
  nvBoot : Nat
  nvWraps : Nat
  usable : Nat
  spares : Nat
  sectors : List Nat
  place : Nat
  fill : Nat
  resetCause : Nat
  deriving DecidableEq, Repr

/-! LTB (R24 to R45). -/

/-- What is recorded of a sleep (R38, R40): the stamp S0, the superframe counter, the time state and the sleep count at which the core clock stopped;
the source that ran then (true: external), each change of source with the sleep count at the switch point and the source from then on, the number of
stops of the external source in it, and whether the keeping die lost power in it (R39). -/
structure SleepRec where
  stamp : Nat
  sfc : Nat
  tstate : Nat
  count : Nat
  ext : Bool
  switches : List (Nat × Bool)
  extStops : Nat
  lost : Bool
  deriving DecidableEq, Repr

/-- A step decided and not yet taken (R37): the delta, the frame of the pre-step grid at whose cycle 0 it takes effect, and the timing channel it was decided on. -/
structure PendStep where
  delta : Int
  frame : Nat
  tc : Nat
  deriving DecidableEq, Repr

/-- The line time base beside its registers: the stamp (R24), the line cycles counted by the core clock, the superframe counter of the timing channel (R26),
the anchor (R27), each channel's last anchored offset (R36) and its offset as measured at its latest arrival (R27, R30), the run of on-time arrivals (R28), a
step decided and not yet taken (R37), the slew in progress with what the PLL may have moved the grid by so far, in 10^-9 lc (R36), a requested timing channel (R35), the PLL
bandwidth in force (0 100 Hz, 1 1 kHz, 2 10 kHz), the running sleep source, the sleep ticks counted while the core clock was stopped, the record of a sleep (R38,
R40), and whether the external source stopped since the previous wake (R40). -/
structure Ltb where
  frame : Nat
  cycle : Nat
  lc : Nat
  sfc : Nat
  anchor : Int
  anchored : SMap Int
  raw : SMap (Option Int)
  goodRun : Nat
  prevArrival : Option Nat
  lockReady : Bool
  pendStep : Option PendStep
  slew : Int
  slewAcc : Nat
  pendTc : Option Nat
  bw : Nat
  extSrc : Bool
  ticks : Nat
  sleep : Option SleepRec
  extStop : Bool
  deriving DecidableEq, Repr


/-! PWR (R441 to R458). -/

/-- A demand made of a domain that is not ON (R444): kind 0 read, 1 write, 2 command, 3 hardware; `lc` the
line-cycle count it was made at. -/
structure Demand where
  dom : Nat
  slice : Nat
  kind : Nat
  addr : Nat
  value : Nat
  inj : Bool
  desc : Option Desc
  lc : Nat
  deriving DecidableEq, Repr

/-- Power control beside its registers: the state of every domain or slice (key 8 n + slice; 0 OFF, 1 RET, 2 ON, 3 WAKING,
R442), the stalled demands in arrival order (R444, R445), the PLOAM messages kept by the sample comparator (R451), consecutive sample
misses (R450), samples since the entry to WATCH, the latest wake source, the commands that wait for HELD (R456), the modes the head end permits by channel
number (R447, R448); the line-cycle count and the sleep count at which the Simmer state was entered (R450), the line-cycle count at which the bound upstream queues last
held data or an entry was refused (R448), the sleep count of the next sample point and the frame headers the sample has examined (R451), and the line-cycle count from which
each domain or slice has been idle (R443). -/
structure Pwr where
  dom : SMap Nat
  stalled : List Demand
  keptPloam : List Nat
  misses : Nat
  samples : Nat
  wakeSrc : Nat
  waiters : List Desc
  allow : SMap Nat
  since : Nat
  sinceTicks : Nat
  heldLc : Nat
  nextSample : Nat
  examined : Nat
  idleFrom : SMap Nat
  deriving DecidableEq, Repr


/-! DSF (R111 to R147). -/

/-- A candidate of the hunt (R113): the line cycle it was entered, its bit alignment, and the SFC its own structure gave where
the HEC passed. -/
structure Candidate where
  at_ : Nat
  align : Nat
  sfc : Option Nat
  deriving DecidableEq, Repr

/-- A fragment as CPH takes it (R124, R367): its key index, the SFC of the frame its header begins in and the header's offset there, from which the counter block is
built, and its bytes. -/
structure Frag where
  keyIdx : Nat
  sfc : Nat
  offset : Nat
  bytes : Nat
  deriving DecidableEq, Repr

/-- An SDU under reassembly on a Port-ID (R123): bytes held, the channel, key index and options of its first fragment, whether the rest is being discarded, and the
fragments held. -/
structure Reasm where
  bytes : Nat
  chan : Nat
  keyIdx : Nat
  options : Nat
  limit : Nat
  discard : Bool
  frags : List Frag
  deriving DecidableEq, Repr

/-- An XGEM frame after delineation (R121, R125): channel, table entry, key and offset of its header, length, key index,
options, last-fragment flag, whether a codeword it lies in was uncorrectable, and the latest byte of its payload. -/
structure Xgem where
  chan : Nat
  entry : Nat
  port : Nat
  keyLc : Nat
  offset : Nat
  pli : Nat
  keyIdx : Nat
  options : Nat
  lf : Bool
  errored : Bool
  deriving DecidableEq, Repr

/-- An SDU handed to CPH and the Strainer (R124), with the fragments it came in. -/
structure Sdu where
  port : Nat
  entry : Nat
  chan : Nat
  keyIdx : Nat
  options : Nat
  bytes : Nat
  stamp : Nat
  frags : List Frag
  deriving DecidableEq, Repr

/-- A performance bin (R141, R143): start and end stamps, flags, line seconds, 18 counters. -/
structure Bin where
  start : Nat
  stop : Nat
  flags : Nat
  seconds : Nat
  counters : List Nat
  deriving DecidableEq, Repr

/-- A channel's performance history (R139, R142) with what the line second in progress has seen, and the counters of the current 15-minute bin whose PM_TCA was
written. -/
structure Pm where
  cur : Bin
  closed : List Bin
  day : Bin
  prevDay : Option Bin
  secLos : Bool
  secLof : Bool
  secErr : Bool
  secUncorr : Nat
  tca : List Nat
  deriving DecidableEq, Repr

/-- Framing of one channel beside its registers (R112 to R117): candidates, expected SFC, consecutive misses, runs of zero
syndrome under both shortening settings, the frame whose header was lost (R121), the latest third structure with its HEC
outcome (R116), the position P of its delineation (R125) with the line-cycle count it last advanced at (R127), the count of the latest expected PSBd (R114), and an
arrival not yet reported to LTB: its line-cycle count and its SFC (R112, R115). -/
structure Framing where
  cands : List Candidate
  expSfc : Nat
  misses : Nat
  run1 : Nat
  run2 : Nat
  lostFrame : Option Nat
  third : Nat
  thirdOk : Bool
  pos : Nat
  posLc : Nat
  lastPs : Nat
  arr : Option (Nat × Nat)
  deriving DecidableEq, Repr

/-- An entry of the Port-ID table (R122, R144). -/
structure PortEntry where
  port : Nat
  bonded : Bool
  mask : Nat
  deriving DecidableEq, Repr

/-- A message of the protection request channel (R136): channel, frame, validity, code, target, argument. -/
structure PrcMsg where
  chan : Nat
  frame : Nat
  valid : Bool
  code : Nat
  target : Nat
  arg : Nat
  deriving DecidableEq, Repr

/-- The filter of one path (R138): the message of the run, its length, its latest frame, and whether the run was accepted. -/
structure PrcRun where
  code : Nat
  target : Nat
  arg : Nat
  len : Nat
  frame : Nat
  accepted : Bool
  deriving DecidableEq, Repr

/-- Downstream framing beside its registers. `held` is the bonding reorder buffer in key order, `released` the place of the latest
released frame (R126), `parkAt` the frame from which a member parks (R127), `out` the SDUs handed on, `thresholds` the
PM thresholds (R144), `limits` what was written in the line second in progress against each per-second limit (R139), `losses` the places in the bonded order where a header or SYNC was lost (R123), `bondOn`
DSF_BOND_CFG.EN as in effect (R130). -/
structure Dsf where
  chans : SMap Framing
  ports : SMap PortEntry
  reasm : SMap Reasm
  held : List Xgem
  released : Option (Nat × Nat × Nat)
  parkAt : SMap Nat
  out : List Sdu
  prcMsgs : List PrcMsg
  prcRuns : SMap PrcRun
  pm : SMap Pm
  thresholds : SMap Nat
  limits : SMap Nat
  losses : List (Nat × Nat × Nat)
  bondOn : Bool
  lastSecond : Option Nat
  deriving DecidableEq, Repr

/-! ACT (R148 to R171). -/

/-- A message for a channel's next PLOAMu field. -/
inductive Ploamu where
  | ack
  | nack
  | registration
  | serialNumber (delay : Nat)
  | tuneResponse (ack : Bool) (reason : Nat)
  | parkRequest (park : Bool)
  | sleepRequest (mode : Nat)
  | awakeRequest
  | keyReport (index : Nat) (check : Nat)
  deriving DecidableEq, Repr

/-- A parking exchange in progress (R164): channel, park or unpark, own initiative or the host's command, and the line-cycle count it began at. -/
structure Exchange where
  chan : Nat
  park : Bool
  own : Bool
  desc : Option Desc
  start : Nat
  deriving DecidableEq, Repr

/-- A tuning accepted on a source channel (R161, R162). -/
structure Tuning where
  target : Nat
  frame : Nat
  deriving DecidableEq, Repr

/-- Activation of one channel beside its registers: Alloc-IDs (R158), the running timer (R151, 0 for none) and the line-cycle count it expires at, the frame a
parking or an unparking is agreed for (R149), whether own initiative asked for it, the linear line cycle at which the grants for frame Fp - 1 are served, the parked mark
kept through O6, the tuning in progress, the source a target channel took its context from, and the last frame's burst reference B in delay units with its frame
(R154). -/
structure ActCh where
  allocs : List Nat
  timer : Nat
  due : Nat
  parkAt : Option Nat
  unparkAt : Option Nat
  own : Bool
  parkDue : Option Int
  parked : Bool
  tuning : Option Tuning
  tunedFrom : Option Nat
  refFrame : Nat
  ref : Int
  refEqd : Nat
  deriving DecidableEq, Repr

/-- A load window of R163: the line-cycle count it began at, its length in units of 10 ms, and the bytes each channel's queues had taken by then. -/
structure LoadWindow where
  start : Nat
  units : Nat
  bytes : List Nat
  deriving DecidableEq, Repr

/-- Activation beside its registers: the registration ID (R167), the exchange in progress and those that timed out (R164), the
channels whose next own request waits a further window (R164), and the load window in progress (R163). -/
structure Act where
  chans : SMap ActCh
  regId : List Nat
  exchange : Option Exchange
  timedOut : List Exchange
  waiting : List Nat
  window : Option LoadWindow
  deriving DecidableEq, Repr


/-! UBE and the Whistle (R172 to R207, R489). -/

/-- A channel's context (R187), with the first frame from whose map it applies. -/
structure Ctx where
  seq : Nat
  first : Nat
  perm : Nat
  onu : Nat
  allocs : List Nat
  eqd : Nat
  cal : Nat
  profs : List (Option Profile)
  lead : Nat
  lag : Nat
  rand : Nat
  deriving DecidableEq, Repr

/-- An XGEM frame of a burst (R181): the byte of the burst's content its header begins at, the Port-ID table entry with its XGEM Port-ID, the key index in its header
(0 for clear), payload bytes, whether it ends its SDU, and whether CPH replaced it with an idle frame (R370). -/
structure UpXgem where
  pos : Nat
  entry : Nat
  port : Nat
  keyIdx : Nat
  len : Nat
  last : Bool
  idle : Bool
  deriving DecidableEq, Repr

/-- One allocation of a burst (R176 to R183): Alloc-ID, content in bytes, whether a DBRu is asked for, the report, the bytes still free, and the XGEM frames
dequeued. -/
structure AllocPart where
  alloc : Nat
  bytes : Nat
  dbru : Bool
  report : Nat
  room : Nat
  frames : List UpXgem
  deriving DecidableEq, Repr

/-- A burst (R176 to R178). `start` is the linear line time of its first bit's line cycle, `len` its length in line cycles, `phase` 1
PLANNED, 2 FILLING, 3 HANDED, 4 in the lane with BEN risen. LEAD and LAG are those in force for its frame (R98), FILL_LEAD that of its planning (R206); `onu` the
ONU-ID of its header and `key` the key index it began its fill with (R181, R369). -/
structure Burst where
  frame : Nat
  start : Int
  fine : Nat
  len : Nat
  rate : Nat
  lead : Nat
  lag : Nat
  fillLead : Nat
  eqd : Nat
  profile : Nat
  phase : Nat
  onu : Nat
  key : Option Nat
  response : Option Ploamu
  parts : List AllocPart
  ploamu : Option (Option Ploamu)
  wantPloamu : Bool
  deriving DecidableEq, Repr

/-- Bursts of one channel beside its registers: pending bursts in order, the planned BEN fall and EqD of the latest burst
(R157, R180), whether a continuing allocation would join the latest burst, or belongs to a burst that is discarded (with whether an EqD change is why), fragment
remainders by Alloc-ID: bytes and Port-ID table entry (R182), service engine 0's upstream messages (R181), payload bytes not yet counted in a whole unit, and the burst
profiles (R175). -/
structure UbeCh where
  bursts : List Burst
  lastFall : Option (Int × Nat)
  joinable : Bool
  dropping : Option Bool
  rem : SMap (Nat × Nat)
  ploams : List Ploamu
  payBytes : Nat
  profs : SMap Profile
  deriving DecidableEq, Repr

/-- A WHS event kept on the keeping die (R489). `seq` is the SEQ of its FAULT record once handed over. -/
structure Kept where
  code : Nat
  loc : Option Nat
  stamp : Nat
  d6 : Nat
  d7 : Nat
  seq : Option Nat
  deriving DecidableEq, Repr

/-- The Whistle's RW fields in force (R207). -/
structure WhsCfg where
  shutAll : Nat
  periodic : Nat
  eyeN : Nat
  tol : Nat
  deb : Nat
  limits : List Nat
  thresh : List Nat
  deriving DecidableEq, Repr

/-- One channel at the Whistle: contexts newest first, a context fault in force, contexts still to be exchanged (R188), windows and map-gap holds as (first, last)
linear line cycles, whether a structure of the map in progress has opened a window that a continuing one would extend (R190), the expected line cycle of the latest
strobe (R191), the arrival strobe, classes of violation in progress, the end of the latest violating emission, and the runs of
samples above and not above the limit (R193, R195). -/
structure WhsCh where
  ctxs : List Ctx
  fault : Bool
  stale : Bool
  windows : List (Int × Int)
  holds : List (Int × Int)
  joinable : Bool
  expect : Option Int
  strobe : Option (Nat × Int)
  emitUntil : Option Int
  darkOn : Bool
  sweepOn : Bool
  eyeOn : Bool
  eyeRun : Nat
  eyeQuiet : Nat
  deriving DecidableEq, Repr

/-- The latch kept in the non-volatile store (R195, R197). -/
structure Latch where
  rogue : Nat
  lanes : Nat
  cls : Nat
  count : Nat
  stamp : Nat
  deriving DecidableEq, Repr

/-- The Whistle beside its registers. `latch` is the stored latch while it is set, `lastViolation` the line-cycle count at which a violation was last present
(R198), `drift` by how much its own line count differs from LTB's stamp (R186, R192), `repeatAt` the sleep count at which the periodic repeats last ran or ARMED began
(R199), `waiters` the WHS_SELFTEST commands that wait for the test's end (R202), `kept` the events of R489,
`darkFrom` the sleep count at which the dark signal was asserted (R458). -/
structure Whs where
  chans : SMap WhsCh
  latch : Option Latch
  force : WhsCfg
  lastViolation : Option Nat
  diverged : Bool
  drift : Int
  repeatAt : Nat
  waiters : List Desc
  kept : List Kept
  darkFrom : Nat
  deriving DecidableEq, Repr

/-- Emphasis and swing of a transmit lane (LLN_TXn_EMPH). -/
structure Emph where
  post : Nat
  pre : Nat
  ampl : Nat
  deriving DecidableEq, Repr

/-- A transmit lane beside its registers: BEN, the burst in it, the planned linear line cycle of the latest BEN fall and the latest rate
(R96), the pattern generator and the loop (R104), and the emphasis in force since the latest BEN rise (R98). A lane between its last bit and BEN fall shows DARK
with BEN high. -/
structure TxLane where
  ben : Bool
  burst : Option Burst
  lastFall : Option Int
  lastRate : Option Nat
  generator : Nat
  loop : Nat
  emph : Emph
  deriving DecidableEq, Repr

/-- A receive lane beside its registers: kept equaliser values to start from (R92), the pattern checker with the line-cycle count it was set at (R108), the loop, and
the counts at which the state was entered, or the sweep restarted (R90), and at which SIG_DET last changed (R131). -/
structure RxLane where
  kept : Bool
  checker : Nat
  checkFrom : Nat
  loop : Nat
  since : Nat
  sigSince : Nat
  deriving DecidableEq, Repr

/-- A host lane beside its registers: pattern generator and checker with the line-cycle count they were set at (R108), the loop, the count its state was entered
at (R101), HPM_SDn_CFG in force, laid out as the register (R110), and whether its receiver's adaptation is frozen (RX_ADAPT). -/
structure HostLane where
  generator : Nat
  checker : Nat
  checkFrom : Nat
  loop : Nat
  since : Nat
  cfg : Nat
  frozen : Bool
  deriving DecidableEq, Repr

/-- A transaction on a management bus (R106): path, read, device address, register, and the data written. -/
structure OsaReq where
  path : Nat
  read : Bool
  device : Nat
  reg : Nat
  data : Nat
  deriving DecidableEq, Repr

/-- LLN holds its lanes, and the transactions it made for OSA_ACCESS, in order. The devices of the optical subassembly buses are outside the block (R106). -/
structure Lln where
  rx : SMap RxLane
  tx : SMap TxLane
  host : SMap HostLane
  osa : List OsaReq
  deriving DecidableEq, Repr


/-! The Caddy and CPH (R362 to R385). -/

/-- A key slot (R362): 0 EMPTY, 1 LOADED, 2 BOUND; the key, whether it has 256 bits, the salt, the PN floor (R379). -/
structure Slot where
  st : Nat
  key : Nat
  long : Bool
  salt : Option Nat
  floor : Nat
  deriving DecidableEq, Repr

/-- CPH's use of one PON key upstream (R370): lifetime in frames, first and highest frame encrypted under it, spent; and whether
its transfer to CPH failed (R364). -/
structure PonKey where
  life : Nat
  first : Option Nat
  highest : Option Nat
  spent : Bool
  failed : Bool
  deriving DecidableEq, Repr

/-- A secure association (R372, R381). `pn` is the next PN of a transmit SA and the highest verified PN of a receive SA, `lowest` the lowest
acceptable PN, `reserved` the end of the block of PNs reserved from the Caddy (R379). -/
structure Sa where
  st : Nat
  dir : Nat
  conf : Nat
  storeVerify : Bool
  suite : Nat
  an : Nat
  port : Nat
  slot : Nat
  confOff : Nat
  sci : Nat
  pn : Nat
  lowest : Nat
  ssci : Nat
  window : Nat
  replay : Bool
  failed : Bool
  warned : Bool
  reserved : Nat
  frames : Nat
  octets : Nat
  discards : Nat
  deriving DecidableEq, Repr

/-- CPH beside its registers: SAs, PON keys by slot number, the Port-ID key table (R368; bit 0 DS_REQ, 1 GROUP, 2 UP_ENC), and by channel the key index the head end
is to use and the frame it named for it (R366, R369). -/
structure Cph where
  sas : SMap Sa
  pon : SMap PonKey
  ports : SMap Nat
  named : SMap (Nat × Nat)
  deriving DecidableEq, Repr


/-! PRT (R405 to R420). -/

/-- One path's heartbeats (R406, R407): the line-cycle counts of its two latest arrivals and whether a protection message came in the period in progress, consecutive missed and
present units of each, and the remote request in force (code, target, argument; R408). -/
structure PathHb where
  arrivals : List Nat
  alive : Bool
  missPs : Nat
  missKa : Nat
  okPs : Nat
  okKa : Nat
  remote : Option (Nat × Nat × Nat)
  deriving DecidableEq, Repr

/-- Path protection beside its registers: both paths, local requests by code (target, duration), channels held by the switch gap
(R412), the line-cycle count at the decision, F1, whether F1 has passed, the new path and the cause of the switch, the exercise in progress with its duration in
ms and the line-cycle count it began at, its failure (R416), the WTR timer's start and length (R413), PRT_REQUEST commands waiting for a decision (R418), units still
to be left unjudged (R407). -/
structure Prt where
  paths : SMap PathHb
  localReqs : SMap (Nat × Nat)
  held : Nat
  gapFrom : Nat
  f1 : Nat
  passed : Bool
  newPath : Nat
  cause : Nat
  exercise : Option (Nat × Nat)
  exFail : Nat
  wtrFrom : Nat
  wtrLen : Nat
  waiters : List Desc
  skipPs : Nat
  skipKa : Nat
  psLc : Option Nat
  kaFrom : Nat
  deriving DecidableEq, Repr


/-! STR (R208 to R239). -/

/-- A rule (R216): 512-bit value and mask, tag value and mask, valid, hit count, the four action words. -/
structure Rule where
  value : Nat
  mask : Nat
  tagValue : Nat
  tagMask : Nat
  valid : Bool
  hits : Nat
  action : List Nat
  deriving DecidableEq, Repr

/-- A parse profile (R223). `points` are the sixteen point bytes, `dflt` the default action's four words. -/
structure ParseProf where
  points : List Nat
  dflt : List Nat
  l3Kind : Nat
  l3Off : Nat
  l2Off : Nat
  policy : Nat
  padMax : Nat
  deriving DecidableEq, Repr

/-- A selector group (R211): offset, default profile, entries (value, mask, profile byte). -/
structure Selector where
  offset : Nat
  dflt : Nat
  entries : List (Nat × Nat × Nat)
  deriving DecidableEq, Repr

/-- A rule bank (R227): rules, profiles, selector groups, both ingress maps, Resteep definitions (EN, STRIP, profile). A rule whose row is uncorrectable becomes invalid (R222). -/
structure Bank where
  rules : SMap Rule
  profs : SMap ParseProf
  sels : SMap Selector
  ingressUp : SMap Nat
  ingressDown : SMap Nat
  resteep : SMap (Bool × Nat × Nat)
  deriving DecidableEq, Repr

/-- The decision on a frame (R217), as the Strainer chose it and TBL changed it (R247). -/
structure Decision where
  disp : Nat
  cls : Nat
  colour : Nat
  tc : Nat
  queue : Option Nat
  meter : Option Nat
  tblEn : Bool
  tblKey : Nat
  rq : Nat
  ring : Nat
  deriving DecidableEq, Repr

/-- A frame on its way to the Strainer and through it (R211 to R214, R224, R232). `src` is its ingress map entry, `m1` the port of R257 in
[14:0], `chan` the host port or downstream channel of R72, `sa` the secure association it was verified under, `headLen` the length
of M0, `len` its length; `place` 0 waiting, 1 in Resteep queue `rq`, 2 TBL, 3 TMG, 4 punt; `checks` the length checks still to be made
(profile and strip), `last` whether its last byte has passed; `tag` and `key` those of the latest pass; `policy` 0 none, 2 continued as
LENGTH_CONFLICT, `errored` the errored-frame indication of R376; `ready` the line cycle in which the later of its decision and its last byte came (R268). -/
structure Frm where
  id : Nat
  dir : Nat
  inj : Bool
  src : Nat
  m1 : Nat
  chan : Nat
  port : Nat
  options : Nat
  keyIdx : Nat
  sa : Option Nat
  bytes : List Nat
  headLen : Nat
  len : Nat
  stamp : Nat
  gen : Nat
  group : Nat
  pass : Nat
  place : Nat
  rq : Nat
  prof : Nat
  tag : Nat
  key : Nat
  rule : Nat
  dec : Decision
  checks : List (ParseProf × Nat)
  policy : Nat
  last : Bool
  errored : Bool
  ready : Nat
  deriving DecidableEq, Repr

/-- The Strainer beside its registers: the two banks, the frames waiting from the upstream and inject sources, the frames in hand, the next
frame number, which of the last sixteen slots Resteep queues took (newest first), the round-robin places, the swap that waits
for its drain with the line-cycle count it took effect at. -/
structure Str where
  bank0 : Bank
  bank1 : Bank
  up : List Frm
  inj : List Frm
  flight : List Frm
  nextId : Nat
  slots : List Bool
  rrSrc : Nat
  rrRq : Nat
  swap : Option Desc
  swapLc : Nat
  deriving DecidableEq, Repr


/-! TBL (R240 to R264). -/

/-- A table entry (R240); `valid` is the VALID bit the line holds. -/
structure TblEntry where
  key : Nat
  fmt : Nat
  valid : Bool
  flags : Nat
  dispo : Nat
  cls : Nat
  queue : Nat
  meter : Nat
  port : Nat
  counter : Nat
  deriving DecidableEq, Repr

/-- A QDR-IV line of the table (R241): the entry of bytes 0 to 31 and the CRC-32 of bytes 32 to 35. -/
structure TblLine where
  entry : TblEntry
  crc : Nat
  deriving DecidableEq, Repr

/-- A learn filter entry (R258): key, format, set, first port and stamp, CONTESTED, the linear time it expires at. -/
structure LearnEntry where
  key : Nat
  fmt : Nat
  set : Nat
  port : Nat
  stamp : Nat
  contested : Bool
  expires : Int
  deriving DecidableEq, Repr

/-- TBL beside its registers: QDR-IV lines, fingerprints, freshness stamps by slot (stash ways from 0x200000 on), flow counters (frames, bytes),
learn filter, the line-cycle count at which the current epoch began and the EPOCH_MS it began with (R260), the failed lookups since the latest
ENTRY_UNCORRECTABLE event (R249); the scanner's next slot, the deletes it issued (slot, fingerprint and stamp read) and its clamps (slot, stamp
read), oldest first (R261). -/
structure Tbl where
  lines : SMap TblLine
  fps : SMap Nat
  fresh : SMap Nat
  stash : SMap TblEntry
  flows : SMap (Nat × Nat)
  filter : List LearnEntry
  epochLc : Int
  epochMs : Nat
  uncorrSince : Nat
  scan : Nat
  deletes : List (Nat × Nat × Nat)
  clamps : List (Nat × Nat)
  deriving DecidableEq, Repr


/-! TMG (R265 to R297). -/

/-- A frame held by TMG (R268, R277): length, colour, TC, class, ingress (R257), the calendar count of its link (none once a
wake with basis NONE made it untimed, R291), the pool its cells come from, its 64-byte lines not yet written to the Kettle while it
is in a tail page, its bytes. `spoiled` marks a frame with a byte in a failed line or cell (R279). -/
structure QFrm where
  len : Nat
  colour : Nat
  tc : Nat
  cls : Nat
  ingress : Nat
  at_ : Option Nat
  pool : Nat
  lines : Nat
  spoiled : Bool
  bytes : List Nat
  deriving DecidableEq, Repr

/-- A Kettle page of a queue (R277): page number, the frames that end in it, whether a further frame begins in it. -/
structure KPage where
  page : Nat
  frames : List QFrm
  opens : Bool
  deriving DecidableEq, Repr

/-- A queue's setting (DW5 to DW14 of QUEUE_SET, R292). -/
structure QCfg where
  shapeEn : Bool
  chan : Nat
  parent : Nat
  tc : Nat
  weight : Nat
  quota : Nat
  yelPct : Nat
  redPct : Nat
  refill : Nat
  onchipMax : Nat
  pir : Nat
  burst : Nat
  adj : Nat
  entry : Nat
  deriving DecidableEq, Repr

/-- A queue (R265, R278, R281, R292, R295): state 0 OFF, 1 ACTIVE, 2 DRAINING, its three segments, the shaper's E_base (16 fraction bits)
and last charged length, the counters, the peak in bytes. -/
structure Queue where
  st : Nat
  cfg : QCfg
  head : List QFrm
  middle : List KPage
  tail : List QFrm
  tailLc : Nat
  eBase : Nat
  lastLen : Nat
  enq : Nat
  deq : Nat
  drops : SMap Nat
  peak : Nat
  deriving DecidableEq, Repr

/-- A group (R266, R292). -/
structure Group where
  en : Bool
  port : Nat
  tc : Nat
  weight : Nat
  pir : Nat
  burst : Nat
  adj : Nat
  eBase : Nat
  lastLen : Nat
  deriving DecidableEq, Repr

/-- A port's TC setting (R292). -/
structure PortTc where
  strict : Nat
  weights : List Nat
  deriving DecidableEq, Repr

/-- A meter (R273, R274): tokens with 16 fraction bits, the calendar count of the latest update, frames of each colour. -/
structure Meter where
  en : Bool
  mode : Nat
  aware : Bool
  r1 : Nat
  r2 : Nat
  b1 : Nat
  b2 : Nat
  adj : Nat
  t1 : Nat
  t2 : Nat
  last : Nat
  green : Nat
  yellow : Nat
  red : Nat
  deriving DecidableEq, Repr

/-- A calendar entry (R282): entity, e with 16 fraction bits, place 0 fine ring, 1 coarse ring, 2 far list. -/
structure CalEntry where
  ent : Nat
  e : Nat
  place : Nat
  deriving DecidableEq, Repr

/-- A child of a virtual-time node (R285): start, finish, and whether it is selectable. -/
structure VtChild where
  start : Nat
  finish : Nat
  awake : Bool
  deriving DecidableEq, Repr

/-- A sampler slot (R290, R291): enabled, direction, queue, both histograms, peak, untimed. -/
structure Watch where
  en : Bool
  dir : Nat
  queue : Nat
  depth : List Nat
  delay : List Nat
  peak : Nat
  untimed : Nat
  deriving DecidableEq, Repr

/-- TMG beside its registers: queues (65,536 × direction + number), groups, ports, meters, the calendar in order of placement and what its count stands
ahead of the line-cycle count (R284), virtual times of nodes and their children, sampler slots, retired Kettle pages and those to be retired when
freed (R314), pools below their threshold (R296), bytes admitted into bound queues by channel (R267), QUEUE_FLUSH commands that
wait for a frozen channel with the frames discarded so far (R295); the line cycle of the latest calendar release and the releases in it (R283), the
number of the latest far-list scan (R282), the line cycle of the latest depth sample (R290). -/
structure Tmg where
  queues : SMap Queue
  groups : SMap Group
  ports : SMap PortTc
  meters : SMap Meter
  cal : List CalEntry
  calAhead : Nat
  nodes : SMap Nat
  kids : SMap VtChild
  watches : SMap Watch
  retired : List Nat
  retiring : List Nat
  low : List Nat
  chBytes : SMap Nat
  flushes : List (Desc × Nat)
  relLc : Nat
  relCnt : Nat
  farScan : Nat
  sampleLc : Nat
  deriving DecidableEq, Repr


/-! MEM (R298 to R335). -/

/-- A DDR5 line (R300, R301): KIND, META bytes 5 to 15 as one number, the 64 data bytes (those after the last listed are zero), and the CRC-32C of sideband bytes
0 to 3. -/
structure Line where
  kind : Nat
  info : Nat
  data : List Nat
  crc : Nat
  deriving DecidableEq, Repr

/-- A retry-buffer entry (R315): the command, the line cycle it was issued in, and the window it retires after. -/
structure RetryEntry where
  req : MemReq
  issued : Nat
  win : Nat
  deriving DecidableEq, Repr

/-- A request that waits for service (R322): the command, the line cycle it arrived in, and its client's TARGET at arrival. -/
structure WaitReq where
  req : MemReq
  arrived : Nat
  target : Nat
  deriving DecidableEq, Repr

/-- A tracker entry (R313). -/
structure Track where
  itf : Nat
  line : Nat
  count : Nat
  first : Nat
  last : Nat
  chronic : Bool
  deriving DecidableEq, Repr

/-- A freeze snapshot (R318, R330): cause, consecutive replays, ERR_LOC, stamp, the entries, the line-cycle count of the alert or freeze. -/
structure Snap where
  cause : Nat
  replays : Nat
  loc : Nat
  stamp : Nat
  entries : List RetryEntry
  lc : Nat
  deriving DecidableEq, Repr

/-- A Rinse pass in progress (R327 to R329): start stamp, the line cycle it started in, its pass time in line cycles, corrected and uncorrectable reads. -/
structure RinsePass where
  start : Nat
  from_ : Nat
  len : Nat
  corrected : Nat
  uncorr : Nat
  deriving DecidableEq, Repr

/-- A Rinse pass summary (R329) as its sixteen words. -/
abbrev Summary := List Nat

/-- A DDR5 channel beside its registers: retry buffer oldest first, requests that wait for service in order of arrival, entries of a replay not yet retired,
consecutive replays, latest snapshot, the line cycle at which latency-target mode after an entry to SERVICE ends, whether refresh ran while frozen, the
regulator's budgets by client, and the client served last (R315 to R322). -/
structure MemCh where
  retry : List RetryEntry
  waiting : List WaitReq
  replayLeft : Nat
  replays : Nat
  snap : Option Snap
  settleEnd : Option Nat
  refreshed : Bool
  budget : SMap Nat
  rr : Nat
  deriving DecidableEq, Repr

/-- MEM beside its registers: DDR5 lines that differ from KIND ZERO with a valid CRC, channels, whether INIT has been done since cold reset, tracker, Rinse passes in
progress and the latest summaries by interface, pass numbers, slots of the QDR-IV writes in the group's retry buffer, whether QDR-IV address parity is in force, a
MEM_FREQ whose channels retrain with the line-cycle count it began at, whether the training in progress was begun by TRAIN, the timings in use as loaded from the active
set (R306), and the line cycle and length of the regulator period in progress (R322). -/
structure Mem where
  lines : SMap Line
  chans : SMap MemCh
  inited : Bool
  tracks : SMap Track
  passes : SMap RinsePass
  summaries : SMap (List Summary)
  passNo : SMap Nat
  qdrWrites : List Nat
  qdrParity : Bool
  freq : Option Desc
  freqFrom : Nat
  full : Bool
  timings : List Nat
  regLc : Nat
  regLen : Nat
  deriving DecidableEq, Repr


/-! HPM (R336 to R361). -/

/-- A wake pattern (R353). -/
structure WakePat where
  mask : List Nat
  check : Nat
  minLen : Nat
  deriving DecidableEq, Repr

/-- A frame in a port's transmit buffer (R346): TC, wire length after protection, PTP content (message type, domain, sequence number) where its stamp is taken. -/
structure TxFrm where
  tc : Nat
  len : Nat
  ptp : Option (Nat × Nat × Nat)
  deriving DecidableEq, Repr

/-- A host port beside its registers: counters of R356 by index, transmit buffer, receive pause timers by priority (8 the single timer of PAUSE) as the
line-cycle count they run to, the count a TC became paused at, the latest generated flow-control frame (opcode, enables, quanta by priority) and the count it was sent at (R348), wake patterns, and DW6 and DW7
of the wake to report (R360). -/
structure HPort where
  counters : SMap Nat
  tx : List TxFrm
  timers : SMap Nat
  pausedFrom : Option Nat
  ctrl : List Nat
  ctrlLc : Nat
  patterns : SMap WakePat
  wakeNote : Option (Nat × Nat)
  deriving DecidableEq, Repr

/-! TIM (R386 to R404). -/

/-- A trigger (R397): NOTIFY, active low, start stamp and fraction, width, period and count; the first occurrence not yet fired or
missed, and the line-cycle count the pulse in progress ends at. -/
structure Trig where
  notify : Bool
  low : Bool
  start : Nat
  frac : Nat
  width : Nat
  period : Nat
  count : Nat
  next : Nat
  high : Option Nat
  deriving DecidableEq, Repr

/-- TIM beside its registers, times of day and Φ in units of 2^-16 ns: the relation (R387), Φ as it stood at a line-cycle count, the PON slew still to be
made, whether a relation was ever loaded; D (fraction of 2^32 DU) with the Teqd, ALPHA, RXOPT, channel and EqD it was computed from (R388, R390); the ToD epoch;
interval and line-cycle count of the latest sample (R391); the count HOLDOVER was entered at; whether fires are flagged since first lock (R393); triggers; the latest
captured edge and the number of captures of each input (R399); and the count a pulse of PPS_OUT ends at. -/
structure Tim where
  sRef : Nat
  tRef : Int
  phi : Int
  phiLc : Nat
  slewLeft : Int
  held : Bool
  d : Int
  teqd : Nat
  alpha : Nat
  rxopt : Int
  chan : Nat
  eqd : Nat
  epoch : Nat
  sampleUs : Nat
  sampleLc : Nat
  holdFrom : Option Nat
  fresh : Bool
  trigs : SMap Trig
  caps : SMap (Int × Nat)
  pps : Option (Nat × Nat)
  deriving DecidableEq, Repr


/-! INF (R421 to R440). -/

/-- A loop in progress (R433): first instruction of its body, the address after its body, count, iteration index. -/
structure CoreLoop where
  first : Nat
  stop : Nat
  count : Nat
  iter : Nat
  deriving DecidableEq, Repr

/-- A write to an accumulator (R434): the core cycle it was issued in, the value, whether MAC, MSB or MUL wrote it. -/
structure AccWrite where
  cycle : Nat
  value : Int
  mac : Bool
  deriving DecidableEq, Repr

/-- A load still in flight (R423, R434): the register by its physical place (0 to 31 the v ring, then the designator), the value, the core cycle
from which it is readable. -/
structure CoreLoad where
  reg : Nat
  value : Nat
  due : Nat
  deriving DecidableEq, Repr

/-- An Infuser core (R421 to R435): state 0 HALTED, 1 RUNNING, 2 WAITING, 3 FAULT, 4 OFF; whether it was RUNNING or WAITING when its domain powered
down; the address next to issue; registers by physical place (0 to 31 the v ring, 0x20 to 0x2F s0 to s15, 0x30 BE, 0x32 STAT, 0x33 TURN); loads
in flight; both accumulators as their writes, newest first; the count of core cycles; loops, innermost first; both memories; the input FIFOs by
input; partly written tap sets by lane and bus requests by path (R432); sets dropped since the latest STREAM_OVR event (R439); and the line-cycle count from
which the next instruction may issue (R421, R434). -/
structure Core where
  st : Nat
  wasOn : Bool
  pc : Nat
  regs : SMap Nat
  loads : List CoreLoad
  a0 : List AccWrite
  a1 : List AccWrite
  cycle : Nat
  loops : List CoreLoop
  prog : SMap Nat
  data : SMap Nat
  fifos : SMap (List Nat)
  taps : SMap (List Nat)
  bus : SMap Nat
  dropped : Nat
  due : Nat
  deriving DecidableEq, Repr

/-- The Infuser beside its registers: its cores, and the management bus requests it has sent and not had a response to, in order (R431, R432): path, request word, the
data of a write; by lane the traces being sampled, oldest first: the linear line time and the line-cycle count of BEN rise and SPACING as it stood there; and by lane the
line-cycle count of the latest sample set (R431). -/
structure Inf where
  cores : SMap Core
  requests : List (Nat × Nat × Option Nat)
  traces : SMap (List (Int × Nat × Nat))
  setLc : SMap Nat
  deriving DecidableEq, Repr

/-! Package (R460 to R479). -/

/-- The package's inputs and outputs that no register shows: straps 0 to 3 as last sampled (R462), main-die and keeping-die rails present (R464 to
R466), PERST_N low (R467), and the thermal outputs driven low (R477). -/
structure Pins where
  strap0 : Bool
  strap1 : Bool
  strap2 : Bool
  strap3 : Bool
  mainPower : Bool
  keepPower : Bool
  perstLow : Bool
  alertLow : Bool
  tripLow : Bool
  deriving DecidableEq, Repr

/-- The state of the block. `regs` holds every register of BAR0; `pending` is the queue of waiting commands; `freeCount` counts the
free values taken (the model's own field, log entry 3). -/
structure State where
  regs : RegFile
  freeCount : Nat
  pending : List Instr
  hif : Hif
  lfg : Lfg
  ltb : Ltb
  pwr : Pwr
  dsf : Dsf
  act : Act
  ube : SMap UbeCh
  whs : Whs
  lln : Lln
  cdy : SMap Slot
  cph : Cph
  prt : Prt
  str : Str
  tbl : Tbl
  tmg : Tmg
  mem : Mem
  hpm : SMap HPort
  tim : Tim
  inf : Inf
  pins : Pins
  deriving DecidableEq, Repr

/-- A bank with every rule invalid and every setting 0 (R227, log entry 5). -/
def Bank.reset : Bank := ⟨[], [], [], [], [], []⟩

/-- The Whistle's RW fields at reset (R207). -/
def WhsCfg.reset : WhsCfg := ⟨1, 1, 4, 2, 3, [0, 0, 0, 0, 0, 0, 0, 0], [0x80, 0x80, 0x80, 0x80, 0x80, 0x80, 0x80, 0x80]⟩

/-- The block right after reset (R480: every register at its reset value; R47, R188, R442). -/
def State.reset : State where
  regs := []
  freeCount := 0
  pending := []
  hif := ⟨.lk9540, pciOf .lk9540, false, false, false, [], [], [], [], [], [], [], [], [], [], [], [], [], [], false, 0, none⟩
  lfg := ⟨[], 0, 0, [], [], false, [], 0, 0, 256, 16, List.range 240, 0, 0, 1⟩
  ltb := ⟨0, 0, 0, 0, 0, [], [], 0, none, false, none, 0, 0, none, 1, false, 0, none, false⟩
  pwr := ⟨[], [], [], 0, 0, 0, [], [], 0, 0, 0, 0, 0, []⟩
  dsf := ⟨[], [], [], [], none, [], [], [], [], [], [], [], [], true, none⟩
  act := ⟨[], [], none, [], [], none⟩
  ube := []
  whs := ⟨[], none, WhsCfg.reset, none, false, 0, 0, [], [], 0⟩
  lln := ⟨[], [], [], []⟩
  cdy := []
  cph := ⟨[], [], [], []⟩
  prt := ⟨[], [], 0, 0, 0, false, 0, 0, none, 0, 0, 0, [], 0, 0, none, 0⟩
  str := ⟨Bank.reset, Bank.reset, [], [], [], 0, [], 0, 0, none, 0⟩
  tbl := ⟨[], [], [], [], [], [], 0, 1000, 0, 0, [], []⟩
  tmg := ⟨[], [], [], [], [], 0, [], [], [], [], [], [], [], [], 0, 0, 0, 0⟩
  mem := ⟨[], [], false, [], [], [], [], [], true, none, 0, false, [], 0, 12⟩
  hpm := []
  tim := ⟨0, 0, 0, 0, 0, false, 0, 0, 0, 0, 0, 0, 0, 0, 0, none, false, [], [], none⟩
  inf := ⟨[], [], [], []⟩
  pins := ⟨false, false, false, false, true, true, false, false, false⟩

end Sys2Proof.Machine
end

