-- ==== Sys2Proof/Machine/Flags.lean ====
section
/-!
DEFINITION. Sys2Proof/Machine/Flags.lean: reading and writing register fields, status bits with their event counts (R10, R15),
saturating counters and free values.
-/
namespace Sys2Proof.Machine

/-- The value of field `f` of instance `i` (R10): what is listed, or the reset value. -/
def State.fld (s : State) (f : Fld) (i : Nat) : Nat :=
  (SMap.get (SMap.get s.regs f.id []) i f.rst)

/-- Hardware writes field `f` of instance `i`; only the field's own width is kept. -/
def State.setFld (s : State) (f : Fld) (i v : Nat) : State :=
  { s with regs := SMap.put s.regs f.id (SMap.put (SMap.get s.regs f.id []) i (v % 2 ^ f.width) f.rst) [] }

/-- A hardware set of status bit `ev` with its 8-bit event count `cnt`, which wraps (R15). -/
def State.raise (s : State) (ev cnt : Fld) (i : Nat) : State :=
  (s.setFld ev i 1).setFld cnt i (s.fld cnt i + 1)

/-- A counter that stops at its greatest value. -/
def State.satAdd (s : State) (f : Fld) (i n : Nat) : State :=
  s.setFld f i (min (s.fld f i + n) f.top)

/-- A counter that wraps. -/
def State.wrapAdd (s : State) (f : Fld) (i n : Nat) : State :=
  s.setFld f i (s.fld f i + n)

/-- A field that keeps the greatest value since its last read. -/
def State.peak (s : State) (f : Fld) (i v : Nat) : State :=
  s.setFld f i (max (s.fld f i) v)

/-- The next free value and the state with the counter advanced (log entry 3). -/
def State.takeFree (s : State) : Nat × State :=
  (Config.free s.freeCount, { s with freeCount := s.freeCount + 1 })

/-- The unit's registers return to their reset values: every field stored in the unit's block is dropped (R480). -/
def State.resetBlock (s : State) (u : Nat) : State :=
  { s with regs := s.regs.filter (fun p => p.1 / (32 * 0x100000) != u) }

/-- A field of one state machine as a test. -/
def State.is (s : State) (f : Fld) (i v : Nat) : Bool := s.fld f i == v

end Sys2Proof.Machine
end

