-- ==== Sys2Proof/Machine/Ops.lean ====
section
/-!
DEFINITION. Sys2Proof/Machine/Ops.lean: operations every unit shares: line stamps (R24 to R26), the journal (R77 to R80), the
rings of the host (R51 to R60), events (R70, R71, R489), punt entries (R72) and the end of a command (R61, R62).
-/
namespace Sys2Proof.Machine

/-! Line stamps. -/

/-- Line cycles in a frame (R25). -/
def frameLc : Nat := 155520

/-- The 64-bit line stamp (R24). -/
def State.stamp (s : State) : Nat := s.ltb.frame * 2 ^ 18 + s.ltb.cycle

/-- The linear line time of a stamp (R26). -/
def stampLin (st : Nat) : Nat := (st / 2 ^ 18) * frameLc + st % 2 ^ 18

/-- The stamp of a frame count and a cycle. -/
def stampOf (frame cycle : Nat) : Nat := (frame % 2 ^ 46) * 2 ^ 18 + cycle

/-- `stamp_add` of R26: a stamp moved by a signed number of line cycles. -/
def stampAdd (st : Nat) (n : Int) : Nat :=
  let c : Int := ((st % 2 ^ 18 : Nat) : Int) + n
  let f : Int := ((st / 2 ^ 18 : Nat) : Int) + c / 155520
  (f % (2 : Int) ^ 46).toNat * 2 ^ 18 + (c % 155520).toNat

/-- The signed number of line cycles from stamp `b` to stamp `a`, frames compared modulo 2^46 (R26). -/
def stampDiff (a b : Nat) : Int :=
  signed 46 (unsigned 46 (((a / 2 ^ 18 : Nat) : Int) - ((b / 2 ^ 18 : Nat) : Int))) * 155520
    + ((a % 2 ^ 18 : Nat) : Int) - ((b % 2 ^ 18 : Nat) : Int)

/-- Stamp `a` is at or before stamp `b` (R26). -/
def stampLe (a b : Nat) : Bool := decide (stampDiff a b ≤ 0)

/-- Line cycles in a number of microseconds: 1,244.16 per microsecond. -/
def usLc (us : Nat) : Nat := us * 124416 / 100

/-- The time state of R31: 0 LOCKED, 1 HOLDOVER, 2 UNKNOWN. -/
def State.tstate (s : State) : Nat := s.fld F.LTB_STATUS_STATE 0

/-- LTB_EPOCH as a register word. -/
def State.epochWord (s : State) : Nat := s.fld F.LTB_EPOCH_CAUSE 0 * 2 ^ 16 + s.fld F.LTB_EPOCH_EPOCH 0

/-! ERR_LOC (R5, R6): a fault resolved to a unit, or to a tile of it. -/

/-- The die bit of a unit code (R8). -/
def dieOf (unit : Nat) : Nat := if unit < 0x10 then 0 else 1

/-- ERR_LOC with tile, macro and row given (R5); below a field that is not resolved every field holds all ones (R6). -/
def errLoc (unit tile mac row : Nat) : Nat :=
  let t := min tile 0xFF
  let m := if t = 0xFF then 0xFF else min mac 0xFF
  let r := if m = 0xFF then 0x1FF else min row 0x1FF
  dieOf unit * 2 ^ 31 + unit * 2 ^ 25 + t * 2 ^ 17 + m * 2 ^ 9 + r

/-- ERR_LOC resolved to the unit only. -/
def errUnit (unit : Nat) : Nat := errLoc unit 0xFF 0xFF 0x1FF

/-- ERR_LOC resolved to a tile only. -/
def errTile (unit tile : Nat) : Nat := errLoc unit tile 0xFF 0x1FF

/-! The journal. -/

/-- The 64-bit SEQ of a record (R79). -/
def Record.seq (r : Record) : Nat := r.boot * 2 ^ 48 + r.count

/-- The little-endian bytes of a number. -/
def leBytes : Nat → Nat → List Nat
  | 0, _ => []
  | k + 1, n => n % 256 :: leBytes k (n / 256)

/-- A string of bytes as a number, first byte most significant. -/
def beNum (l : List Nat) : Nat := l.foldl (fun a b => a * 256 + b) 0

/-- A string of bytes as a number, first byte least significant. -/
def leNum (l : List Nat) : Nat := l.foldr (fun b a => a * 256 + b) 0

/-- One byte of CRC-32C, bit by bit (reflected polynomial 0x82F63B78). -/
def crcByte (crc b : Nat) : Nat :=
  (List.range 8).foldl (fun c _ => if c % 2 = 1 then (c / 2) ^^^ 0x82F63B78 else c / 2) (crc ^^^ b)

/-- CRC-32C of a string of bytes (R79). -/
def crc32c (bs : List Nat) : Nat := (bs.foldl crcByte 0xFFFFFFFF) ^^^ 0xFFFFFFFF

/-- One byte of the CRC-32 of IEEE 802.3, bit by bit (reflected polynomial 0xEDB88320). -/
def ieeeByte (crc b : Nat) : Nat :=
  (List.range 8).foldl (fun c _ => if c % 2 = 1 then (c / 2) ^^^ 0xEDB88320 else c / 2) (crc ^^^ b)

/-- The CRC-32 of IEEE 802.3 of a string of bytes (R241). -/
def crc32 (bs : List Nat) : Nat := (bs.foldl ieeeByte 0xFFFFFFFF) ^^^ 0xFFFFFFFF

/-- Bytes 0 to 59 of a record (R79). -/
def Record.body (r : Record) : List Nat :=
  leBytes 8 r.seq ++ leBytes 8 r.stamp ++
    [r.type % 256, r.tstate % 4, r.epoch % 256, r.src % 256] ++
    leBytes 2 r.opcode ++ leBytes 2 r.tag ++ [r.status % 256, r.flags % 256, 0, 0] ++
    leBytes 4 r.result ++ leBytes 4 r.index ++
    ((List.range 6).map (fun k => leBytes 4 (r.payload.getD k 0))).flatten

/-- The 64 bytes of a record, CRC included (R79). -/
def Record.bytes (r : Record) : List Nat := r.body ++ leBytes 4 (crc32c r.body)

/-- The 16 words of a record. -/
def Record.words (r : Record) : List Nat :=
  (List.range 16).map fun k =>
    r.bytes.getD (4 * k) 0 + 256 * r.bytes.getD (4 * k + 1) 0 + 65536 * r.bytes.getD (4 * k + 2) 0
      + 16777216 * r.bytes.getD (4 * k + 3) 0

/-- The mirror runs: LFG_CFG.MIRROR_EN is 1 and LFG_STATUS.VOLATILE_ONLY is 0 (R86, R486). -/
def State.mirrorOn (s : State) : Bool :=
  s.fld F.LFG_CFG_MIRROR_EN 0 == 1 && s.fld F.LFG_STATUS_VOLATILE_ONLY 0 == 0

/-- LAG_LIMIT in force: below 256 is treated as 256, above 32,768 as 32,768 (LFG_CFG). -/
def State.lagLimit (s : State) : Nat := max (min (s.fld F.LFG_CFG_LAG_LIMIT 0) 32768) 256

/-- LFG_STATUS.LAGGING follows the number of unmirrored records while the mirror runs (R82, R486). -/
def State.updLagging (s : State) : State :=
  s.setFld F.LFG_STATUS_LAGGING 0 (b2n (s.mirrorOn && decide (s.lagLimit ≤ s.lfg.unmirrored)))

/-- A DURABLE completion that waits on a record remembers that it was overwritten unmirrored (R84). -/
def State.rememberMissed (s : State) (old : Option Record) : State :=
  match old with
  | some r =>
    if s.hif.flight.any (fun f => f.desc.durable && (match f.done with | some dn => dn.seq == r.seq | none => false)) then
      { s with lfg := { s.lfg with missed := r.seq :: s.lfg.missed } }
    else s
  | none => s

/-- The unmirrored record `old` is overwritten: MIRROR_GAP is set at once while the mirror runs (R82), once at the resume while MIRROR_EN is 0 (R486), and its status
bit alone in volatile-only running (R86, R88). -/
def State.overwriteUnmirrored (s : State) (old : Option Record) : State :=
  let s1 := s.rememberMissed old
  if s1.mirrorOn then
    (s1.raise F.LFG_EVENT_MIRROR_GAP F.LFG_EVENT_EVCNT_MIRROR_GAP 0).setFld F.LFG_STATUS_MIRROR_GAP 0 1
  else if s1.fld F.LFG_CFG_MIRROR_EN 0 = 0 then { s1 with lfg := { s1.lfg with gap := true } }
  else s1.setFld F.LFG_STATUS_MIRROR_GAP 0 1

/-- Put a record into the volatile ring of 65,536 (R78, R82). -/
def State.pushRecord (s : State) (r : Record) : State :=
  let s1 : State := { s with lfg := { s.lfg with
    volatile := (r :: s.lfg.volatile).take 65536
    count := s.lfg.count + 1
    unmirrored := min (s.lfg.unmirrored + 1) 65536 } }
  let s2 := if s.lfg.unmirrored < 65536 then s1 else s1.overwriteUnmirrored s.lfg.volatile[65535]?
  ((s2.setFld F.HIF_JRN_HEAD_LO_SEQ 0 r.seq).setFld F.HIF_JRN_HEAD_HI_SEQ 0 (r.seq / 2 ^ 32)).updLagging

/-- The record a commit writes now (R79). -/
def State.recordNow (s : State) (type src opcode tag status flags result index : Nat) (payload : List Nat) : Record :=
  { wraps := s.fld F.LFG_BOOT_WRAPS 0, boot := s.fld F.LFG_BOOT_BOOT 0, count := s.lfg.count, stamp := s.stamp, type := type, tstate := s.tstate,
    epoch := s.fld F.LTB_EPOCH_EPOCH 0 % 256, src := src, opcode := opcode, tag := tag, status := status,
    flags := flags, result := result, index := index, payload := payload }

/-- Commit a record that no descriptor caused. -/
def State.commit (s : State) (type src : Nat) (payload : List Nat) : State :=
  s.pushRecord (s.recordNow type src 0 0 0 0 0 0 payload)

/-- SEQ of the next record to be committed. -/
def State.nextSeq (s : State) : Nat := s.fld F.LFG_BOOT_BOOT 0 * 2 ^ 48 + s.lfg.count

/-- A STAGE record (R80). -/
def State.stageRecord (s : State) (src old new cause imgStatus : Nat) : State :=
  s.commit 4 src [old, new, cause, imgStatus, 0, 0]

/-- LTB_EPOCH takes its next value with a cause, and a TIME record is committed (R44, R77, R80). -/
def State.bumpEpoch (s : State) (cause delta : Nat) : State :=
  let s1 := (s.setFld F.LTB_EPOCH_CAUSE 0 cause).wrapAdd F.LTB_EPOCH_EPOCH 0 1
  s1.commit 9 0x24 [s1.epochWord, cause, delta % 2 ^ 32, delta / 2 ^ 32 % 2 ^ 32, 0, 0]

/-! Rings. -/

/-- The fields of a ring's registers by kind: 0 command, 1 completion, 2 event, 3 punt, 4 inject (R58, R88). -/
def ringEn : Nat → Fld
  | 0 => F.HIF_CMD_CFG_EN | 1 => F.HIF_CPL_CFG_EN | 2 => F.HIF_EVT_CFG_EN | 3 => F.HIF_PUNT_CFG_EN | _ => F.HIF_INJ_CFG_EN
def ringPrio : Nat → Fld
  | 0 => F.HIF_CMD_CFG_PRIO | 1 => F.HIF_CPL_CFG_PRIO | 2 => F.HIF_EVT_CFG_PRIO | 3 => F.HIF_PUNT_CFG_PRIO | _ => F.HIF_INJ_CFG_PRIO
def ringCpl : Nat → Fld
  | 0 => F.HIF_CMD_CFG_CPL | 1 => F.HIF_CPL_CFG_CPL | 2 => F.HIF_EVT_CFG_CPL | 3 => F.HIF_PUNT_CFG_CPL | _ => F.HIF_INJ_CFG_CPL
def ringVec : Nat → Fld
  | 0 => F.HIF_CMD_CFG_VEC | 1 => F.HIF_CPL_CFG_VEC | 2 => F.HIF_EVT_CFG_VEC | 3 => F.HIF_PUNT_CFG_VEC | _ => F.HIF_INJ_CFG_VEC
def ringLog : Nat → Fld
  | 0 => F.HIF_CMD_CFG_LOG2_SIZE | 1 => F.HIF_CPL_CFG_LOG2_SIZE | 2 => F.HIF_EVT_CFG_LOG2_SIZE | 3 => F.HIF_PUNT_CFG_LOG2_SIZE
  | _ => F.HIF_INJ_CFG_LOG2_SIZE
def ringBaseLo : Nat → Fld
  | 0 => F.HIF_CMD_BASE_LO_ADDR | 1 => F.HIF_CPL_BASE_LO_ADDR | 2 => F.HIF_EVT_BASE_LO_ADDR | 3 => F.HIF_PUNT_BASE_LO_ADDR
  | _ => F.HIF_INJ_BASE_LO_ADDR
def ringBaseHi : Nat → Fld
  | 0 => F.HIF_CMD_BASE_HI_ADDR | 1 => F.HIF_CPL_BASE_HI_ADDR | 2 => F.HIF_EVT_BASE_HI_ADDR | 3 => F.HIF_PUNT_BASE_HI_ADDR
  | _ => F.HIF_INJ_BASE_HI_ADDR
def ringStopped : Nat → Fld
  | 0 => F.HIF_CMD_STATUS_STOPPED | 1 => F.HIF_CPL_STATUS_STOPPED | 2 => F.HIF_EVT_STATUS_STOPPED | 3 => F.HIF_PUNT_STATUS_STOPPED
  | _ => F.HIF_INJ_STATUS_STOPPED
def ringLost : Nat → Fld
  | 0 => F.HIF_CMD_STATUS_LOST | 1 => F.HIF_CPL_STATUS_LOST | 2 => F.HIF_EVT_STATUS_LOST | 3 => F.HIF_PUNT_STATUS_LOST
  | _ => F.HIF_INJ_STATUS_LOST

/-- The indices of ring `n` of a kind. -/
def State.ring (s : State) (kind n : Nat) : RingSt := SMap.get s.hif.rings (kind * 32 + n) ⟨0, 0, 0⟩

/-- Write the indices of a ring. -/
def State.setRing (s : State) (kind n : Nat) (r : RingSt) : State :=
  { s with hif := { s.hif with rings := SMap.put s.hif.rings (kind * 32 + n) r ⟨0, 0, 0⟩ } }

/-- Entries a ring holds (R51). -/
def State.ringSize (s : State) (kind n : Nat) : Nat := 2 ^ s.fld (ringLog kind) n

/-- The ring address. -/
def State.ringBase (s : State) (kind n : Nat) : Nat := s.fld (ringBaseHi kind) n * 2 ^ 32 + s.fld (ringBaseLo kind) n * 2 ^ 12

/-- Enabled and not stopped (R488). -/
def State.ringOpen (s : State) (kind n : Nat) : Bool := s.fld (ringEn kind) n == 1 && s.fld (ringStopped kind) n == 0

/-- Distance from index `b` to index `a`, both free-running 32-bit counts (R52). -/
def idxDist (a b : Nat) : Nat := (a + 2 ^ 32 - b % 2 ^ 32) % 2 ^ 32

/-- PHASE of the entry at an index: 1 on the first pass, inverted on each later pass (R59). -/
def phaseAt (index size : Nat) : Nat := 1 - (index / size) % 2

/-- The host can be reached: Bus Master Enable is 1 and the link is up (R87). -/
def State.hostUp (s : State) : Bool := s.fld F.HIF_STATUS_BME 0 == 1 && s.hif.linkUp

/-- A write to host memory. DESIGN CHOICE (log entry 104; R87 names only completions, events and punts): a command's result buffer is written, and a vector raised, also
while Bus Master Enable is 0 or the link is down. -/
def State.dma (s : State) (addr : Nat) (ws : List Nat) : State :=
  { s with hif := { s.hif with hostWrites := s.hif.hostWrites ++ [⟨addr, ws⟩] } }

/-- What a vector owes (R74). -/
def State.vec (s : State) (v : Nat) : VecSt := SMap.get s.hif.vecs v ⟨0, 0⟩

def State.setVec (s : State) (v : Nat) (x : VecSt) : State :=
  { s with hif := { s.hif with vecs := SMap.put s.hif.vecs v x ⟨0, 0⟩ } }

/-- One entry accumulates toward a vector (R74). -/
def State.oweVec (s : State) (v : Nat) : State :=
  s.setVec v (if (s.vec v).owed = 0 then ⟨1, s.ltb.lc⟩ else { s.vec v with owed := (s.vec v).owed + 1 })

/-- Write the next entry of a ring the terminal writes (R55). -/
def State.putEntry (s : State) (kind n entryBytes : Nat) (ws : List Nat) : State :=
  let r := s.ring kind n
  let a := s.ringBase kind n + (r.head % s.ringSize kind n) * entryBytes
  (s.dma a ws).setRing kind n { r with head := (r.head + 1) % 2 ^ 32 }

/-- Write the next entry of a ring the terminal writes, and count it toward the ring's vector (R55, R74). -/
def State.writeEntry (s : State) (kind n entryBytes : Nat) (ws : List Nat) : State :=
  (s.putEntry kind n entryBytes ws).oweVec (s.fld (ringVec kind) n)

/-! Events. -/

/-- The event ring of a unit (R71). -/
def State.evtRing (s : State) (unit : Nat) : Nat :=
  if unit < 10 then bits (s.fld F.HIF_EVT_ROUTE0_ROUTES 0) (3 * unit + 2) (3 * unit)
  else bits (s.fld F.HIF_EVT_ROUTE1_ROUTES 0) (3 * (unit - 10) + 2) (3 * (unit - 10))

/-- An event is discarded and counted (R71, R87, R488). -/
def State.loseEvent (s : State) (n : Nat) : State :=
  (s.wrapAdd (ringLost 2) n 1).raise F.HIF_EVENT_EVT_LOST F.HIF_EVENT_EVCNT1_EVT_LOST 0

/-- Write an event record to its ring, or discard it where the ring is full or closed or the host is gone (R70, R71). -/
def State.postEvent (s : State) (unit code : Nat) (loc : Option Nat) (stamp seq d6 d7 : Nat) : State :=
  let n := s.evtRing unit
  let r := s.ring 2 n
  if s.hostUp && s.ringOpen 2 n && decide (idxDist r.head r.tail < s.ringSize 2 n) then
    s.writeEntry 2 n 32
      [phaseAt r.head (s.ringSize 2 n) * 2 ^ 31 + (if loc.isSome then 2 ^ 22 else 0) + unit * 2 ^ 16 + code,
       loc.getD 0, stamp % 2 ^ 32, stamp / 2 ^ 32, seq % 2 ^ 32, seq / 2 ^ 32,
       d6, d7]
  else s.loseEvent n

/-- A fault event: the FAULT record first, then the event record with its SEQ (R71, R80). -/
def State.faultEventAt (s : State) (unit code loc stamp d6 d7 : Nat) : State :=
  let seq := s.nextSeq
  let s1 := s.commit 5 (if unit < 0x10 then 0x24 else 0x23) [2 ^ 22 + unit * 2 ^ 16 + code, loc, d6, d7, 0, 0]
  s1.postEvent unit code (some loc) stamp seq d6 d7

/-- A fault event of a unit, with DW6 and DW7. -/
def State.faultEvent (s : State) (unit code loc d6 d7 : Nat) : State :=
  s.faultEventAt unit code loc s.stamp d6 d7

/-- A notification: LOC 0, not journalled (R70, R71). -/
def State.notify (s : State) (unit code d6 d7 : Nat) : State :=
  s.postEvent unit code none s.stamp 0 d6 d7

/-! Punt. -/

/-- A punted frame or learn record is dropped and counted (R72, R488). -/
def State.losePunt (s : State) (n : Nat) : State :=
  (s.wrapAdd (ringLost 3) n 1).raise F.HIF_EVENT_PUNT_DROP F.HIF_EVENT_EVCNT1_PUNT_DROP 0

/-- Write back the next posted punt entry with a frame or learn record of `len` bytes whose content is `ws`, or drop it
where no buffer is posted, the buffer is too short, the ring is closed or the host is gone (R72, R87, R488). -/
def State.punt (s : State) (n len rule cls colour ingress stamp : Nat) (ws : List Nat) : State :=
  match SMap.get s.hif.posted n [] with
  | (addr, blen) :: rest =>
    if s.hostUp && s.ringOpen 3 n && decide (len ≤ blen) then
      let r := s.ring 3 n
      let s1 := (s.dma addr ws).writeEntry 3 n 64
        [addr % 2 ^ 32, addr / 2 ^ 32, blen, phaseAt r.head (s.ringSize 3 n) * 2 ^ 31 + len,
         rule * 2 ^ 16 + cls * 2 ^ 8 + colour, ingress, stamp % 2 ^ 32, stamp / 2 ^ 32, 0, 0, 0, 0, 0, 0, 0, 0]
      { s1 with hif := { s1.hif with posted := SMap.put s1.hif.posted n rest [] } }
    else s.losePunt n
  | [] => s.losePunt n

/-! The end of a command. -/

/-- Status codes of R61. -/
def stOk : Nat := 0
def stBadArg : Nat := 1
def stStateRefused : Nat := 2
def stBusy : Nat := 3
def stExhausted : Nat := 4
def stWakeTimeout : Nat := 5
def stMemUncorr : Nat := 6
def stBadOpcode : Nat := 7
def stKeyProtected : Nat := 8
def stFault : Nat := 9

/-- RESULT of STATE_REFUSED (R61). -/
def refusedWord (machine inst st : Nat) : Nat := machine * 2 ^ 24 + inst * 2 ^ 16 + st

/-- Record how a fetched command ended. A command that no COMMAND_FETCH brought in is entered as fetched (log entry 4). -/
def markDone (inj : Bool) (d : Desc) (dn : Done) : List Flight → List Flight
  | [] => [⟨inj, d, true, false, some dn⟩]
  | f :: fs =>
    if f.inj == inj && f.desc.ring == d.ring && f.desc.index == d.index && f.done.isNone then { f with done := some dn } :: fs
    else f :: markDone inj d dn fs

/-- The COMMAND record of a command of a command ring is committed (R62, R79, R80) and the command waits to retire (R67). -/
def State.commitCmd (s : State) (d : Desc) (status result : Nat) : State :=
  let seq := s.nextSeq
  let s1 := s.pushRecord (s.recordNow 1 d.ring d.opcode d.tag status 0 result d.index
    ((List.range 6).map (fun k => d.dw (5 + k))))
  { s1 with hif := { s1.hif with flight := markDone false d ⟨status, result, seq, false⟩ s1.hif.flight } }

/-- A command of a command ring ends with a status and a RESULT. While LFG_STATUS.LAGGING is 1 its record waits, so that no more than LAG_LIMIT records of executed
commands are unmirrored (R82, R83). -/
def State.finish (s : State) (d : Desc) (status result : Nat) : State :=
  if s.fld F.LFG_STATUS_LAGGING 0 = 1 then { s with lfg := { s.lfg with held := s.lfg.held ++ [⟨d, status, result⟩] } }
  else s.commitCmd d status result

/-- The records that waited are committed in the order their commands ended, until the mirror lags again (R82, R83). -/
def State.commitHeld (s : State) : List Ended → State
  | [] => { s with lfg := { s.lfg with held := [] } }
  | e :: es =>
    if s.fld F.LFG_STATUS_LAGGING 0 = 1 then { s with lfg := { s.lfg with held := e :: es } }
    else (s.commitCmd e.desc e.status e.result).commitHeld es

/-- An inject descriptor ends; nothing is journalled (R62, R73). -/
def State.finishInject (s : State) (d : Desc) (status result : Nat) : State :=
  { s with hif := { s.hif with flight := markDone true d ⟨status, result, 0, false⟩ s.hif.flight } }

/-- A command that failed a check changes nothing and ends with that status (R61). -/
def State.refuse (s : State) (d : Desc) (status result : Nat) : State := s.finish d status result

/-- The row of a command acts on a descriptor that names that command (R57, R58): `op` is its OPCODE, and `also` what of the arguments tells the row from one with the
same OPCODE. On any other descriptor nothing changes (log entry 4). -/
def State.asCommand (s : State) (d : Desc) (op : Nat) (also : Bool) (t : State) : State := if d.opcode = op ∧ also = true then t else s

/-- Write words to the command's host buffer. -/
def State.toBuf (s : State) (d : Desc) (ws : List Nat) : State := s.dma d.bufAddr ws

/-- A lane or channel number exists on this part: the LK9520 has channels 0 and 1 of each path (R3). -/
def State.hasChannel (s : State) (c : Nat) : Bool :=
  decide (c < 8) && (s.hif.part == .lk9540 || decide (c % 4 < 2))

/-- The inter-die link is in service. -/
def State.linkOk (s : State) : Bool := s.fld F.WHS_STATUS_LINK_OK 0 == 1

end Sys2Proof.Machine
end

