-- ==== Sys2Proof/Machine/WhsEvt.lean ====
section
/-!
DEFINITION. Sys2Proof/Machine/WhsEvt.lean: events of the Whistle (R205): written at once while the inter-die link is in service,
and otherwise kept on the keeping die and handed over when it returns (R489).
-/
namespace Sys2Proof.Machine

/-- The Whistle's line count runs: the forwarded reference reaches the keeping die (R186, R38). -/
def State.whsCounts (s : State) : Bool := s.linkOk && s.ltb.sleep.isNone

/-- The Whistle's line stamp, that of its own line count, or 0 while that is not running (R186, R489). -/
def State.whsStamp (s : State) : Nat := if s.whsCounts then stampAdd s.stamp s.whs.drift else 0

/-- A WHS event (R205): a fault event where it carries an ERR_LOC, else a notification. With the link out of service it is kept, up
to 256 in order of raising (R489). -/
def State.whsEventAt (s : State) (code : Nat) (loc : Option Nat) (stamp d6 d7 : Nat) : State :=
  if s.linkOk then
    match loc with
    | some l => s.faultEventAt 0x10 code l stamp d6 d7
    | none => s.postEvent 0x10 code none stamp 0 d6 d7
  else if s.whs.kept.length < 256 then
    { s with whs := { s.whs with kept := s.whs.kept ++ [⟨code, loc, stamp, d6, d7, none⟩] } }
  else s

def State.whsEvent (s : State) (code : Nat) (loc : Option Nat) (d6 d7 : Nat) : State := s.whsEventAt code loc s.whsStamp d6 d7

/-- Journal the fault events among the kept ones, in order (R71, R489). -/
def journalKept (s : State) : List Kept → State × List Kept
  | [] => (s, [])
  | k :: ks =>
    match k.loc, k.seq with
    | some l, none =>
      let r := journalKept (s.commit 5 0x23 [2 ^ 22 + 0x10 * 2 ^ 16 + k.code, l, k.d6, k.d7, 0, 0]) ks
      (r.1, { k with seq := some s.nextSeq } :: r.2)
    | _, _ =>
      let r := journalKept s ks
      (r.1, k :: r.2)

/-- Every kept event goes to its event ring once RINGS_EN is 1 (R489). -/
def State.writeKept (s : State) : State :=
  if s.linkOk && s.fld F.HIF_CTRL_RINGS_EN 0 == 1 then
    let s1 := s.whs.kept.foldl (fun t k => t.postEvent 0x10 k.code k.loc k.stamp (k.seq.getD 0) k.d6 k.d7) s
    { s1 with whs := { s1.whs with kept := [] } }
  else s

/-- The link returns: the kept fault events are journalled, then every kept event is written as soon as RINGS_EN allows (R489). -/
def State.handOver (s : State) : State :=
  let r := journalKept s s.whs.kept
  State.writeKept { r.1 with whs := { r.1.whs with kept := r.2 } }

end Sys2Proof.Machine
end

