-- ==== Sys2Proof/Machine/Views.lean ====
section
/-!
DEFINITION. Sys2Proof/Machine/Views.lean: what status registers show of the state held elsewhere, and the accessors that takes: UBE's modes
(R174), permissions (R188, R189), key slots, standby readiness (R410), pools and the Kettle, Resteep queues, DDR5 channels, ports, ToD, cores.
-/
namespace Sys2Proof.Machine

/-- Both dies are powered and no thermal trip holds the main die in reset, so the inter-die link can be in service (R466, R477). -/
def State.diesUp (s : State) : Bool := s.pins.mainPower && s.pins.keepPower && !s.pins.tripLow

/-- The sleep count: ticks of 32,768 Hz, counted in sleep one by one and awake at 37,968.75 lc each (R40). -/
def State.sleepCount (s : State) : Nat := s.ltb.ticks + s.ltb.lc * 4 / 151875

/-- PON is the source in force (R391). -/
def State.ponSource (s : State) : Bool :=
  match s.fld F.TIM_CFG_SRC 0 with
  | 0 => true
  | 1 => false
  | _ => s.tstate == 0 && s.fld F.TIM_STATUS_REF_STALE 0 == 0

/-- What HOLDOVER has added to the uncertainty (R393). -/
def State.uncGrowth (s : State) : Nat :=
  match s.tim.holdFrom with
  | some t => (s.ltb.lc - t) * 125000 * s.fld F.TIM_HOLD_PPB_HOLD_PPB 0 / (155520 * 1000000000)
  | none => 0

/-- TIM_UNC now, saturating. -/
def State.uncNow (s : State) : Nat := min (2 ^ 32 - 1) (s.fld F.TIM_UNC_UNC 0 + s.uncGrowth)

/-- The lanes of a host port in the configuration MODE: 0b00 1x400GBASE-R on 8 lanes, 0b01 2x200GBASE-R on 4 lanes each, 0b10
4x100GBASE-R on 2 lanes each, 0b11 none (R336). -/
def portLanes (mode port : Nat) : List Nat :=
  match mode with
  | 0 => if port = 0 then [0, 1, 2, 3, 4, 5, 6, 7] else []
  | 1 => if port < 2 then (List.range 4).map (fun l => 4 * port + l) else []
  | 2 => if port < 4 then [2 * port, 2 * port + 1] else []
  | _ => []

/-- The lanes of a port now. -/
def State.lanesOf (s : State) (port : Nat) : List Nat := portLanes (s.fld F.HPM_CFG_MODE 0) port

/-- The state of a port's lanes (R101): 0 DOWN, 1 AN, 2 TRAIN, 3 ALIGN, 4 UP, 5 LOOP. -/
def State.portState (s : State) (port : Nat) : Nat :=
  match s.lanesOf port with
  | [] => 0
  | l :: _ => s.fld F.HPM_SD_STATUS_STATE l

/-- A receive lane (R90). -/
def rxLaneEmpty : RxLane := ⟨false, 0, 0, 0, 0, 0⟩
def State.rxLane (s : State) (n : Nat) : RxLane := SMap.get s.lln.rx n rxLaneEmpty

/-- The channel number of member k on the active path. -/
def State.chanOf (s : State) (k : Nat) : Nat := 4 * (s.fld F.ACT_STATUS_PATH 0 - 1) + k % 4

/-- Do `f` at most `cap` times in a line second of R139 for the key (unit × 65,536 + code × 256 + cause). -/
def State.perSecond (s : State) (key cap : Nat) (f : State → State) : State :=
  let n := SMap.get s.dsf.limits key 0
  if n < cap then f { s with dsf := { s.dsf with limits := SMap.put s.dsf.limits key (n + 1) 0 } } else s

/-- A port is up: its lanes are in 4 UP (R336). -/
def State.portUp (s : State) (p : Nat) : Bool := s.portState p == 4

/-- HPM_STATUS.UP as the lanes stand. -/
def State.portsUp (s : State) : Nat := (List.range 4).foldl (fun w p => w + b2n (s.portUp p) * 2 ^ p) 0

/-- The channel of an address (R299). -/
def State.ddrChan (s : State) (a : Nat) : Nat :=
  if s.fld F.MEM_DDR_CFG_HASH 0 = 1 then bits a 13 12 ^^^ bits a 21 20 ^^^ bits a 29 28 else bits a 13 12

def State.kettleBase (s : State) : Nat := s.fld F.TMG_KETTLE_BASE_HI_ADDR 0 * 2 ^ 32 + s.fld F.TMG_KETTLE_BASE_LO_ADDR 0 * 2 ^ 30

def State.kettleSize (s : State) : Nat := min 128 (s.fld F.TMG_KETTLE_SIZE_GB 0) * 2 ^ 30

/-- A channel's state (R303): 0 OFF, 1 TRAINING, 2 SERVICE, 3 REPLAY, 4 FROZEN, 5 SELF_REFRESH, 6 TEST. -/
def State.chSt (s : State) (n : Nat) : Nat := s.fld F.MEM_CH_STATUS_STATE n

/-- In service: SERVICE or REPLAY (R303). -/
def State.chInService (s : State) (n : Nat) : Bool := s.chSt n == 2 || s.chSt n == 3

def memChEmpty : MemCh := ⟨[], [], 0, 0, none, none, true, [], 5⟩

def State.memCh (s : State) (n : Nat) : MemCh := SMap.get s.mem.chans n memChEmpty

/-- The arbitration mode in force (R322): 1 latency-target, in TRAINING, REPLAY and TEST and while settling, unless forced. -/
def State.qosMode (s : State) (n : Nat) : Nat :=
  match s.fld F.MEM_CH_CFG_QOS_FORCE n with
  | 1 => 0
  | 2 => 1
  | _ => b2n (s.chSt n == 1 || s.chSt n == 3 || s.chSt n == 6 || (s.chSt n == 2 && (s.memCh n).settleEnd.isSome))

/-- Progress of the Rinse pass of an interface in percent of its pass time (R327; DEDUCED, log entry 75: it reads at an even rate). -/
def State.rinsePct (s : State) (itf : Nat) : Nat :=
  match SMap.find s.mem.passes itf with
  | some p => min 100 ((s.ltb.lc - p.from_) * 100 / max 1 p.len)
  | none => 0

/-- MEM_TRACK_STATUS as the tracker stands. -/
def State.chronics (s : State) : Nat := (s.mem.tracks.filter (fun p => p.2.chronic)).length

/-! Key slots (R362, R363). -/

def slotEmpty : Slot := ⟨0, 0, false, none, 0⟩

/-- What a slot holds when nothing has filled it: the two slots fixed at manufacture hold the part's keys (log entry 125), the others are EMPTY (R362). -/
def slotAtRest (n : Nat) : Slot := if n = 0x03F ∨ n = 0x040 then ⟨1, Config.partKey n % 2 ^ 256, true, none, 0⟩ else slotEmpty

/-- A key slot. -/
def State.slot (s : State) (n : Nat) : Slot := SMap.get s.cdy n (slotAtRest n)

/-- A slot is LOADED or BOUND. -/
def State.slotHeld (s : State) (n : Nat) : Bool := (s.slot n).st != 0

/-- CDY_STATUS counts: slots LOADED or BOUND, slots BOUND. -/
def State.slotsLoaded (s : State) : Nat :=
  (s.cdy.filter (fun p => p.1 != 0x03F && p.1 != 0x040 && p.2.st != 0)).length + b2n (s.slotHeld 0x03F) + b2n (s.slotHeld 0x040)

/-- The check value of the device import key (R363): the top 24 bits of the zero block under it, 0 where the part no longer holds it. -/
def State.dikKcv (s : State) : Nat := if s.slotHeld 0x040 then Config.keyCheck (s.slot 0x040).key 256 / 2 ^ 104 % 2 ^ 24 else 0

def State.slotsBound (s : State) : Nat := (s.cdy.filter (fun p => p.2.st == 2)).length

/-- The state of a channel, coded per R150. -/
def State.act_st (s : State) (c : Nat) : Nat := s.fld F.ACT_CH_STATUS_STATE c

/-- A channel's activation beside its registers. -/
def actChEmpty : ActCh := ⟨[], 0, 0, none, none, false, none, false, none, none, 0, 0, 0⟩

def State.actCh (s : State) (c : Nat) : ActCh := SMap.get s.act.chans c actChEmpty

/-- A channel's bursts. -/
def ubeChEmpty : UbeCh := ⟨[], none, false, none, [], [], 0, []⟩

def State.ubeCh (s : State) (c : Nat) : UbeCh := SMap.get s.ube c ubeChEmpty

def State.setUbeCh (s : State) (c : Nat) (x : UbeCh) : State := { s with ube := SMap.put s.ube c x ubeChEmpty }

/-- A channel at the Whistle. -/
def whsChEmpty : WhsCh := ⟨[], false, true, [], [], false, none, none, none, false, false, false, 0, 0⟩

def State.whsCh (s : State) (c : Nat) : WhsCh := SMap.get s.whs.chans c whsChEmpty

/-- The mode a state calls for: 0 OFF, 1 SN, 2 REG, 3 RUN. -/
def modeOfState (st : Nat) : Nat :=
  if st = 0x23 then 1 else if st = 0x40 ∨ st = 0x90 then 2 else if st = 0x51 ∨ st = 0x52 then 3 else 0

/-- TX_DISABLE of a lane is asserted, as the Whistle reports it. -/
def State.txDisabled (s : State) (c : Nat) : Bool := bit (s.fld F.WHS_STATUS_TXDIS 0) c

/-- A channel is HELD: time UNKNOWN, TX_DISABLE asserted or the link to the Whistle out, the dark signal, or the switch gap. -/
def State.ubeHeld (s : State) (c : Nat) : Bool :=
  s.tstate == 2 || s.txDisabled c || !s.linkOk || s.fld F.PWR_STATUS_DARK 0 == 1 || bit s.prt.held c

/-- UBE_CHn_STATUS.MODE (R174): HELD wins. -/
def State.ubeMode (s : State) (c : Nat) : Nat := if s.ubeHeld c then 4 else modeOfState (s.act_st c)

/-- MODE as the registers show it: 0 until the main die has begun to boot, the reset value of R206 (log entry 27). -/
def State.shownMode (s : State) (c : Nat) : Nat := if s.fld F.HIF_STATUS_STAGE 0 = 0 then 0 else s.ubeMode c

/-- A map-gap hold of R191 is in force: the line count has reached its span. -/
def State.gapHold (s : State) (c : Nat) : Bool := (s.whsCh c).holds.any (fun h => decide (h.1 ≤ (stampLin s.stamp : Int)))

/-- WHS_CHn_STATUS.HOLD: a hold under R188 or R191 is in force; 0 in INIT, the reset value of R207 (log entry 27). -/
def State.shownHold (s : State) (c : Nat) : Nat :=
  if s.fld F.WHS_STATUS_STATE 0 = 0 then 0 else b2n (s.gapHold c || (s.whsCh c).stale || (s.whsCh c).fault)

/-- UBE_CHn_STATUS.PLANNED: bursts in PLANNED, FILLING or HANDED (R178). -/
def State.planned (s : State) (c : Nat) : Nat := min 255 ((s.ubeCh c).bursts.filter (fun b => b.phase < 4)).length

/-- HIF_ENGINE_STATUS.RUNNING of an engine (R58, R68). -/
def engRunning : Nat → Fld
  | 0 => F.HIF_ENGINE_STATUS_RUNNING0 | 1 => F.HIF_ENGINE_STATUS_RUNNING1 | 2 => F.HIF_ENGINE_STATUS_RUNNING2 | _ => F.HIF_ENGINE_STATUS_RUNNING3

/-- A PLOAM message that fails its integrity check is discarded and counted (R152). -/
def State.ploamBad (s : State) (c : Nat) : State := s.satAdd F.ACT_CH_COUNT_PLOAM_BAD c 1

/-- The terminal's serial number (R148, ACT_SERIAL_HI and ACT_SERIAL_LO). -/
def State.serial (s : State) : Nat := s.fld F.ACT_SERIAL_HI_SERIAL 0 * 2 ^ 32 + s.fld F.ACT_SERIAL_LO_SERIAL 0

/-- A message that arrives on a channel is addressed to it (R149): to its ONU-ID, or before one is held to the terminal's serial number (log entry 121). -/
def State.addressed (s : State) (c : Nat) : PloamTo → Bool
  | .onu n => n == s.fld F.ACT_CH_STATUS_ONU_ID c && n != 0x3FF
  | .serial n => s.fld F.ACT_CH_STATUS_ONU_ID c == 0x3FF && n == s.serial

/-- Service engine 0 takes a message from its queue (R68, R152): one that fails its check is counted, one in process as the engine restarts is lost, and any other
acts where it is addressed to the channel. -/
def State.ploam (s : State) (c : Nat) (m : Ploam) (f : State → State) : State :=
  if s.fld (engRunning 0) 0 = 0 ∨ m.lost then s
  else if !m.mic then s.ploamBad c
  else if s.addressed c m.dest then f s
  else s

/-- A message joins service engine 0's upstream queue for the channel (R181). -/
def State.sendPloam (s : State) (c : Nat) (m : Ploamu) : State :=
  s.setUbeCh c { s.ubeCh c with ploams := (s.ubeCh c).ploams ++ [m] }

/-- The committed context for the map of frame k: the newest one named for k or earlier, else the oldest. -/
def ctxAt (k : Nat) : List Ctx → Option Ctx
  | [] => none
  | [c] => some c
  | c :: cs => if stampLe (stampOf c.first 0) (stampOf k 0) then some c else ctxAt k cs

/-- The context in force for frame k on both dies (R187). -/
def State.ctxFor (s : State) (c k : Nat) : Option Ctx := ctxAt k (s.whsCh c).ctxs

/-- The frame whose map the Whistle processes on a channel (R187): that of the latest arrival strobe, or where strobes have ceased that of the line count. -/
def State.mapFrame (s : State) (c : Nat) : Nat :=
  match (s.whsCh c).strobe with
  | some (k, a) => if (stampLin s.stamp : Int) - a ≤ 2 * 155520 then k else s.ltb.frame
  | none => s.ltb.frame

/-- The context in force at the Whistle now. -/
def State.ctxNow (s : State) (c : Nat) : Option Ctx := s.ctxFor c (s.mapFrame c)

/-- WHS_CHn_STATUS.PERM (R188, R189): NONE under a context fault or until contexts are exchanged again. -/
def State.whsPerm (s : State) (c : Nat) : Nat :=
  if (s.whsCh c).fault || (s.whsCh c).stale then 0
  else match s.ctxNow c with
    | some x => x.perm
    | none => 0

/-- The active path, 0 A or 1 B. -/
def State.activePath (s : State) : Nat := s.fld F.ACT_STATUS_PATH 0 - 1

/-- Every enabled channel's SB_READY bit is 1 (R410, R416). -/
def State.sbReady (s : State) : Nat :=
  if s.fld F.ACT_STATUS_PATH 0 = 0 then 0 else
  (List.range 4).foldl (fun m k => m + b2n (s.act_st (4 * (1 - s.activePath) + k) == 0x54) * 2 ^ k) 0

/-- The calendar's own free-running count, in line cycles (R282, R284). -/
def State.calNow (s : State) : Nat := s.ltb.lc + s.tmg.calAhead

/-- Size of a pool. -/
def poolSizeF : Nat → Fld
  | 0 => F.TMG_POOL0_SIZE | 1 => F.TMG_POOL1_SIZE | 2 => F.TMG_POOL2_SIZE | _ => F.TMG_POOL3_SIZE

def State.poolUse (s : State) (k : Nat) : Nat := s.fld F.TMG_POOL_USE_IN_USE k

def State.poolFree (s : State) (k : Nat) : Nat := s.fld (poolSizeF k) 0 - s.poolUse k

/-- Pages of the Kettle region. -/
def State.kettlePages (s : State) : Nat := s.kettleSize / 4096

/-- The pages in use, by number. -/
def State.pagesUsed (s : State) : List Nat :=
  (s.tmg.queues.map (fun p => p.2.middle.map KPage.page)).flatten

/-- Address of a page. -/
def State.pageAddr (s : State) (n : Nat) : Nat := s.kettleBase + n * 4096

/-- The channel of a page. -/
def State.pageChan (s : State) (n : Nat) : Nat := s.ddrChan (s.pageAddr n)

/-- A page may be allocated: free, not retired, its channel in service (R278, R280, R303, R314). -/
def State.pageFree (s : State) (used : List Nat) (n : Nat) : Bool :=
  !(used.contains n) && !(s.tmg.retired.contains n) && s.chInService (s.pageChan n)

/-- The lowest page that may be allocated, among the first of the region: with u pages in use and r retired, one of the first
4 × (u + r + 1) + 4 lies in each channel. -/
def State.freePage (s : State) : Option Nat :=
  let used := s.pagesUsed
  (List.range (min s.kettlePages (4 * (used.length + s.tmg.retired.length + 1) + 4))).find? (fun n => s.pageFree used n)

/-- Spill is possible (R278). -/
def State.canSpill (s : State) : Bool :=
  s.fld F.TMG_CFG_KETTLE_EN 0 == 1 && (List.range 4).any (fun n => s.chInService n) && s.freePage.isSome &&
    decide (0 < s.poolFree 3)

/-- TMG_KETTLE_USE.PAGES and TMG_STATUS as the queues stand. -/
def State.pageCount (s : State) : Nat := s.pagesUsed.length

/-- A queue's next page lies in a frozen channel under HOLD and its head is empty (R280). -/
def State.queueHeld (s : State) (q : Queue) : Bool :=
  q.head.isEmpty && (match q.middle with
    | pg :: _ => s.chSt (s.pageChan pg.page) == 4 && s.fld F.MEM_CH_CFG_FREEZE_TRAFFIC (s.pageChan pg.page) == 0
    | [] => false)

/-- Downstream direction of a key. -/
def keyDir (k : Nat) : Nat := k / 65536

/-- An upstream queue is bound: its channel of the active path holds the Alloc-ID, and its Port-ID table entry is enabled on that
channel. -/
def State.bound (s : State) (q : Queue) : Bool :=
  (s.actCh (s.chanOf q.cfg.chan)).allocs.contains q.cfg.parent &&
    (match SMap.find s.dsf.ports q.cfg.entry with
      | some e => bit e.mask q.cfg.chan
      | none => false)

/-- E of an entry: e rounded up to a line cycle. -/
def CalEntry.due (x : CalEntry) : Nat := (x.e + 65535) / 65536

/-- Entries due and not yet released (R283). -/
def State.calBacklog (s : State) : Nat := (s.tmg.cal.filter (fun x => decide (x.due ≤ s.calNow))).length

def State.gen (s : State) : Nat := s.fld F.STR_STATUS_GEN 0

/-- Unfinished frames of the draining generation (R229): those in Resteep queues that do not carry the generation in force. -/
def State.unfinished (s : State) : Nat := (s.str.flight.filter (fun f => f.place == 1 && f.gen != s.gen)).length

/-- Frames held in Resteep queue k. -/
def State.rqDepth (s : State) (k : Nat) : Nat := (s.str.flight.filter (fun f => f.place == 1 && f.rq == k)).length

/-- TIM_STATUS.SPEC (R394). -/
def State.todSpec (s : State) : Bool :=
  s.tstate == 0 && s.fld F.LTB_STATUS_SLEWING 0 == 0 && s.fld F.LTB_STATUS_COASTING 0 == 0 && s.fld F.TIM_STATUS_TOD_VALID 0 == 1 &&
    s.fld F.TIM_STATUS_REF_STALE 0 == 0 && s.ponSource && s.fld F.TIM_STATUS_SLEWING 0 == 0

def coreEmpty : Core := ⟨0, false, 0, [], [], [], [], 0, [], [], [], [], [], [], 0, 0⟩

def State.core (s : State) (n : Nat) : Core := SMap.get s.inf.cores n coreEmpty

def coreTurn (c : Core) : Nat := SMap.get c.regs 0x33 0

end Sys2Proof.Machine
end

