-- ==== Sys2Proof/Machine/Demand.lean ====
section
/-!
DEFINITION. Sys2Proof/Machine/Demand.lean: power domains as every unit sees them (R441 to R445, R453): the state of a domain or
slice, the domain an access falls in, and a demand made of a domain that is not ON.
-/
namespace Sys2Proof.Machine

/-- Domains with four slices (R441): RXA, RXB, TXA, TXB, HPM. -/
def domSliced (n : Nat) : Bool := n == 2 || n == 3 || n == 4 || n == 5 || n == 10

/-- The state of domain `n`, slice `sl` (0 for a domain without slices): 0 OFF, 1 RET, 2 ON, 3 WAKING (R442). -/
def State.dom (s : State) (n sl : Nat) : Nat := SMap.get s.pwr.dom (8 * n + sl) 2

/-- Write the state of a domain or slice. -/
def State.setDom (s : State) (n sl v : Nat) : State :=
  { s with pwr := { s.pwr with dom := SMap.put s.pwr.dom (8 * n + sl) v 2 } }

/-- The slices of a domain. -/
def domSlices (n : Nat) : List Nat := if domSliced n then [0, 1, 2, 3] else [0]

/-- Set every slice of a domain. -/
def State.setDomAll (s : State) (n v : Nat) : State := (domSlices n).foldl (fun t sl => t.setDom n sl v) s

/-- How awake a state is: ON before WAKING before RET before OFF. -/
def domRank (v : Nat) : Nat := if v == 2 then 3 else if v == 3 then 2 else v

/-- What PWR_DOM_STATUS shows of a domain: its most awake slice. -/
def State.domShown (s : State) (n : Nat) : Nat :=
  (domSlices n).foldl (fun best sl => if domRank best < domRank (s.dom n sl) then s.dom n sl else best) 0

/-- PWR_DOM_STATUS as a word. -/
def State.domStatus (s : State) : Nat :=
  (List.range 14).foldl (fun w n => w + s.domShown n * 2 ^ (2 * n)) 0

/-- The host port a host lane serves in the configuration MODE (R336, R338): one port of eight lanes, two of four, four of
two. -/
def portOfLane (mode lane : Nat) : Nat :=
  match mode with
  | 0 => 0
  | 1 => lane / 4
  | _ => lane / 2

/-- The domain and slice of a BAR0 address, where it lies in a domain other than AON (R441). Keeping-die blocks and blocks
held in AON have none. PRT is taken as AON (DESIGN CHOICE, log entry 9). -/
def State.domOfAddr (s : State) (addr : Nat) : Option (Nat × Nat) :=
  let o := addr % 0x100000
  match addr / 0x100000 with
  | 2 => if o < 0x2000 then (if o < 0x1000 then none else
            let n := (o - 0x1000) / 0x40; if n < 8 then some (2 + n / 4, n % 4) else none)
         else let n := (o - 0x2000) / 0x40; if n < 8 then some (4 + n / 4, n % 4) else none
  | 3 => if o < 0x1000 then some (6, 0) else
           let n := (o - 0x1000) / 0x40; if n < 8 then some (2 + n / 4, n % 4) else some (6, 0)
  | 4 => some (6, 0)
  | 5 => some (6, 0)
  | 6 => some (7, 0)
  | 7 => some (7, 0)
  | 8 => some (8, 0)
  | 9 => some (9, 0)
  | 10 => if o < 0x1000 then none
          else if o < 0x8000 then (let n := (o - 0x1000) / 0x100; if n < 4 then some (10, n) else none)
          else (let n := (o - 0x8000) / 0x40
                if n < 8 then some (10, portOfLane (s.fld F.HPM_CFG_MODE 0) n) else none)
  | 11 => some (11, 0)
  | 12 => some (12, 0)
  | 14 => some (13, 0)
  | _ => none

/-- The domain a command's unit needs (R441, R444), by opcode: lane commands need the slice of their lane, port commands that
of their port, the rest their unit's domain. -/
def State.domOfCmd (s : State) (d : Desc) : Option (Nat × Nat) :=
  match d.opcode / 2 ^ 10 with
  | 2 =>
    if d.opcode = 0x0803 then none
    else
      let n := bits (d.dw 5) 6 4
      if bit (d.dw 5) 0 then some (10, portOfLane (s.fld F.HPM_CFG_MODE 0) n) else some (2 + n / 4, n % 4)
  | 3 => some (6, 0)
  | 4 => some (6, 0)
  | 5 => some (6, 0)
  | 6 => some (7, 0)
  | 7 => some (7, 0)
  | 8 => some (8, 0)
  | 9 => some (9, 0)
  | 10 => some (10, d.dw 5 % 4)
  | 11 => some (11, 0)
  | 12 => some (12, 0)
  | 14 => some (13, 0)
  | _ => none

/-- The domain is ready for a demand. -/
def State.domOn (s : State) : Option (Nat × Nat) → Bool
  | none => true
  | some (n, sl) => s.dom n sl == 2

/-- A demand on a domain that is not ON: the demand stalls and the domain starts to wake (R444). A demand on a domain already
waking shares that wake and queues behind (R445). -/
def State.demand (s : State) (dm : Demand) : State :=
  let s1 := if s.dom dm.dom dm.slice == 2 then s else s.setDom dm.dom dm.slice 3
  { s1 with pwr := { s1.pwr with stalled := s1.pwr.stalled ++ [dm] } }

/-- A hardware request of a unit in a domain or slice (R444). -/
def State.hwDemand (s : State) (n sl : Nat) : State :=
  if s.dom n sl == 2 then s else s.demand ⟨n, sl, 3, 0, 0, false, none, s.ltb.lc⟩

/-- The Simmer state of R450. -/
def State.simmer (s : State) : Nat := s.fld F.PWR_STATUS_STATE 0

/-- Simmer holds the main die in low power: DOZE, SLEEP, WATCH or SAMPLE. -/
def State.lowPower (s : State) : Bool := 4 ≤ s.simmer && s.simmer ≤ 7

/-- The state change of the Simmer controller, with its status bit and its SIMMER_STATE notification (R450, R457). -/
def State.simmerTo (s : State) (new src : Nat) : State :=
  let old := s.simmer
  if old = new then s else
  let s1 : State := { s with pwr := { s.pwr with since := s.ltb.lc, sinceTicks := s.sleepCount } }
  ((s1.setFld F.PWR_STATUS_STATE 0 new).raise F.PWR_EVENT_STATE_CHANGE F.PWR_EVENT_EVCNT_STATE_CHANGE 0).notify 0x0F 0x0001
    (old + new * 16 + src * 256) s.pwr.samples

/-- The channels of the active path in O5.1. -/
def State.simmerChans (s : State) : List Nat :=
  if s.fld F.ACT_STATUS_PATH 0 = 0 then []
  else ((List.range 4).map s.chanOf).filter (fun c => s.act_st c == 0x51)

/-- A channel's queue of upstream messages without a sleep request. -/
def State.dropSleepReq (s : State) (c : Nat) : State :=
  s.setUbeCh c { s.ubeCh c with ploams := (s.ubeCh c).ploams.filter (fun m => match m with | .sleepRequest _ => false | _ => true) }

/-- Entry to HELD from ENTERING, WAKING or AWARE: the awake request goes in each channel's next PLOAMu (R449, R450), and no mode is on. -/
def State.toHeld (s : State) (src : Nat) : State :=
  let s1 := (s.simmerChans).foldl (fun t c => (t.dropSleepReq c).sendPloam c .awakeRequest) s
  (s1.setFld F.PWR_STATUS_MODE 0 0).simmerTo 1 src

/-- The stamp of an entry to HELD from WAKING or AWARE (PWR_WAKE_STAMP). -/
def State.wakeStamp (s : State) : State :=
  (s.setFld F.PWR_WAKE_STAMP_LO_STAMP 0 s.stamp).setFld F.PWR_WAKE_STAMP_HI_STAMP 0 (s.stamp / 2 ^ 32)

/-- A wake from low power begins: its source is recorded (R455), and every domain starts its wake (R452). -/
def State.beginWake (s : State) (src : Nat) : State :=
  let s1 := (List.range 14).foldl (fun t n =>
    (domSlices n).foldl (fun u sl => if u.dom n sl == 2 then u else u.setDom n sl 3) t) s
  let s2 := (((s1.setFld F.PWR_WAKE_SRC_VALID 0 1).setFld F.PWR_WAKE_SRC_SRC 0 src).setFld F.PWR_WAKE_SRC_MODE 0
    (s1.fld F.PWR_STATUS_MODE 0)).setFld F.PWR_WAKE_SRC_SAMPLES 0 (min 65535 s1.pwr.samples)
  { s2 with pwr := { s2.pwr with wakeSrc := src } }

/-- A local wake source in low power: the controller enters WAKING (R450, R452). -/
def State.wakeFrom (s : State) (src : Nat) : State := (s.beginWake src).simmerTo 9 src

/-- An abort or a refusal of a Simmer entry, counted against one unit (R454); SIMMER_REFUSED at most once a line second (R457). -/
def State.countRefusal (s : State) (unit reason : Nat) (abort : Bool) (mode : Nat) : State :=
  let f := match unit % 4 with
    | 0 => F.PWR_REFUSE_CNT_U0
    | 1 => F.PWR_REFUSE_CNT_U1
    | 2 => F.PWR_REFUSE_CNT_U2
    | _ => F.PWR_REFUSE_CNT_U3
  let s1 := (s.satAdd f (unit / 4) 1).raise F.PWR_EVENT_REFUSED F.PWR_EVENT_EVCNT_REFUSED 0
  let s2 := ((((s1.setFld F.PWR_LAST_REFUSE_VALID 0 1).setFld F.PWR_LAST_REFUSE_ABORT 0 (b2n abort)).setFld
    F.PWR_LAST_REFUSE_UNIT 0 unit).setFld F.PWR_LAST_REFUSE_REASON 0 reason).setFld F.PWR_LAST_REFUSE_MODE 0 mode
  s2.perSecond (0x0F * 65536 + 0x200) 1 (fun t => t.notify 0x0F 0x0002 (unit + reason * 256 + b2n abort * 65536 + mode * 131072) 0)

/-- The unit an aborting wake source is counted against (R449, R455). -/
def wakeUnit (src : Nat) : Nat :=
  match src with
  | 2 => 0x03 | 3 => 0x04 | 4 => 0x08 | 5 => 0x0A | 6 => 0x00 | 7 => 0x03 | 8 => 0x10 | _ => 0x0F

/-- A number of ms in ticks of the sleep count. -/
def msTicks (ms : Nat) : Nat := ms * 32768 / 1000

/-- `ms` have passed since the Simmer state was entered, on the line cycles of the core clock, or on the sleep count, which also runs while that is stopped. -/
def State.simmerMs (s : State) (ms : Nat) : Bool := decide (s.pwr.since + ms * 1244160 ≤ s.ltb.lc)
def State.simmerSleepMs (s : State) (ms : Nat) : Bool := decide (s.pwr.sinceTicks + msTicks ms ≤ s.sleepCount)

/-- A header of the sample channel has been examined in a sample (R451). -/
def State.sampleHeader (s : State) (c : Nat) : State :=
  if s.simmer = 7 ∧ c = s.fld F.PWR_STATUS_SAMPLE_CH 0 then { s with pwr := { s.pwr with examined := s.pwr.examined + 1 } } else s

/-- The dark signal ends (R452, R455): PWR_STATUS shows it and the Whistle records the cause and its length. -/
def State.endDark (s : State) (cause : Nat) : State :=
  if s.fld F.PWR_STATUS_DARK 0 = 0 then s else
  ((((s.setFld F.PWR_STATUS_DARK 0 0).setFld F.WHS_STATUS_DARK 0 0).setFld F.WHS_WAKE_INFO_VALID 0 1).setFld
    F.WHS_WAKE_INFO_CAUSE 0 cause).setFld F.WHS_WAKE_INFO_DARK_MS 0
      (min ((s.sleepCount - s.whs.darkFrom) * 1000 / 32768) 0xFFFFFF)

/-- A wake source of R455 (codes 2 to 8) arrives: in ENTERING it aborts the entry (R449), in DOZE, SLEEP, WATCH or SAMPLE it
wakes the terminal (R450), in AWARE it returns it to HELD; elsewhere it does nothing. -/
def State.wakeSource (s : State) (src : Nat) : State :=
  if s.lowPower then s.wakeFrom src
  else if s.simmer = 3 then (s.countRefusal (wakeUnit src) src true (s.fld F.PWR_STATUS_MODE 0)).toHeld src
  else if s.simmer = 8 ∧ s.fld F.PWR_STATUS_DARK 0 = 0 then s.wakeStamp.toHeld src
  else s

/-- The Simmer controller follows EN and the channels (R450): from OFF to HELD with EN 1 and a channel in O5.1; to OFF with neither, from low
power through a wake first. -/
def State.simmerFollow (s : State) : State :=
  let on := s.fld F.PWR_SIMMER_CFG_EN 0 == 1 && !s.simmerChans.isEmpty
  let st := s.simmer
  if on then (if st = 0 then s.simmerTo 1 0 else s)
  else if st = 0 ∨ st = 9 then s
  else if s.lowPower then s.wakeFrom 0
  else if st = 8 ∧ s.fld F.PWR_STATUS_DARK 0 = 1 then s
  else ((s.simmerChans.foldl (fun t c => t.dropSleepReq c) s).setFld F.PWR_STATUS_MODE 0 0).simmerTo 0 0

/-- A write of PWR_SIMMER_CFG (R450). -/
def State.writeSimmerCfg (s : State) (v : Nat) : State :=
  (((((s.setFld F.PWR_SIMMER_CFG_EN 0 (bits v 31 31)).setFld F.PWR_SIMMER_CFG_MODES 0 (bits v 30 28)).setFld F.PWR_SIMMER_CFG_HOST_WAKE 0
    (bits v 27 27)).setFld F.PWR_SIMMER_CFG_IDLE_MS 0 (bits v 26 16)).setFld F.PWR_SIMMER_CFG_DARK_GUARD 0 (bits v 15 8)).setFld
    F.PWR_SIMMER_CFG_ENTRY_MS 0 (bits v 7 0) |>.simmerFollow

/-- Step 2 of an entry: every sleep request has been sent, and no new burst is planned (R449). -/
def State.entryQuiet (s : State) : Bool :=
  s.simmer == 3 && s.simmerChans.all (fun c => (s.ubeCh c).ploams.all (fun m => match m with | .sleepRequest _ => false | _ => true))

end Sys2Proof.Machine
end

