-- ==== Sys2Proof/Machine/Bus.lean ====
section
/-!
DEFINITION. Sys2Proof/Machine/Bus.lean: BAR0 as a whole: which fields a word holds, what a read returns (R10, R11, R13), how a
plain write lands (R10, R14), what is journalled (R481) and accesses to the keeping die (R482).
-/
namespace Sys2Proof.Machine

/-- The instance of a field that the word at a BAR0 address holds, if it holds one. -/
def Fld.instAt (f : Fld) (addr : Nat) : Option Nat :=
  if addr < f.base then none
  else if f.stride = 0 then (if addr = f.base then some 0 else none)
  else if (addr - f.base) % f.stride = 0 ∧ (addr - f.base) / f.stride < f.count then some ((addr - f.base) / f.stride)
  else none

/-- The fields of the word at a BAR0 address, with their instance. -/
def fieldsAt (addr : Nat) : List (Fld × Nat) :=
  (RegMap.ofUnit (addr / 0x100000)).filterMap (fun f => (f.instAt addr).map (fun i => (f, i)))

/-- The low registers of values wider than 32 bits, instance 0 or single (R13): HIF's bases, image address and journal head, LTB's stamp, counter and deltas, ACT's
serial number, TBL's seed, the Kettle's and the engine region's base, PWR's wake stamp, and the keeping die's latch stamp and journal SEQs. -/
def loRegs : List Nat :=
  [0x10, 0x28, 0x38, 0x48, 0x100020, 0x100028, 0x100030, 0x100070, 0x400018, 0x700010, 0x800030, 0x900020, 0xF00020, 0x1000014, 0x1200010, 0x1200018]

/-- The low registers of such values that exist once per instance (R13): ring bases, MEM's freeze stamps, the ports' MAC addresses, TIM's capture stamps. -/
def loInst (a : Nat) : Bool :=
  (decide (0x1000 ≤ a ∧ a < 0x1700) && a % 0x20 == 0) || (decide (0x901010 ≤ a ∧ a < 0x901110) && a % 0x40 == 0x10) ||
    (decide (0xA01004 ≤ a ∧ a < 0xA01404) && a % 0x100 == 4) || (decide (0xC00204 ≤ a ∧ a < 0xC00284) && a % 0x20 == 4)

/-- The high register of a value wider than 32 bits, by the address of its low register (R13). -/
def hiOf (lo : Nat) : Option Nat := if loRegs.contains lo || loInst lo then some (lo + 4) else none

/-- The address is the high register of such a pair. -/
def isHi (addr : Nat) : Bool := decide (4 ≤ addr) && hiOf (addr - 4) == some addr

/-- The inter-die link carries accesses to blocks WHS, CDY and LFG (R482). -/
def keepingAddr (addr : Nat) : Bool := decide (0x1000000 ≤ addr ∧ addr < 0x1300000)

/-- The value of a field as software sees it: a WO field reads 0 (R10), the fields that show what the state holds elsewhere
are computed from it, and the others read as stored. -/
def State.live (s : State) (f : Fld) (i : Nat) : Nat :=
  if f.acc = .wo then 0
  else match f.base / 0x100000 with
  | 0 =>
    if f = F.HIF_STATUS_QUIESCED then b2n s.hif.flight.isEmpty
    else if f = F.HIF_READY_DEPTH_ONCHIP then (SMap.get s.hif.ready i []).length
    else if f = F.HIF_READY_DEPTH_SAUCER then (SMap.get s.hif.saucer i []).length
    else if f = F.HIF_CMD_STATUS_INDEX then (s.ring 0 i).head % 2 ^ 16
    else if f = F.HIF_CPL_STATUS_INDEX then (s.ring 1 i).head % 2 ^ 16
    else if f = F.HIF_EVT_STATUS_INDEX then (s.ring 2 i).head % 2 ^ 16
    else if f = F.HIF_PUNT_STATUS_INDEX then (s.ring 3 i).head % 2 ^ 16
    else if f = F.HIF_INJ_STATUS_INDEX then (s.ring 4 i).head % 2 ^ 16
    else if f = F.HIF_CMD_STATUS_IDLE then b2n (s.hif.flight.all (fun x => x.inj || x.desc.ring != i))
    else if f = F.HIF_INJ_STATUS_IDLE then b2n (s.hif.flight.all (fun x => !x.inj || x.desc.ring != i))
    else if f = F.HIF_CPL_STATUS_IDLE then b2n ((s.ring 1 i).reserved == 0)
    else s.fld f i
  | 1 =>
    if f = F.LTB_STAMP_LO_STAMP then s.stamp % 2 ^ 32
    else if f = F.LTB_STAMP_HI_STAMP then s.stamp / 2 ^ 32
    else if f = F.LTB_SFC_LO_SFC then s.ltb.sfc % 2 ^ 32
    else if f = F.LTB_SFC_HI_SFC then s.ltb.sfc / 2 ^ 32 % 2 ^ 19
    else s.fld f i
  | 5 =>
    if f = F.UBE_CH_STATUS_MODE then s.shownMode i
    else if f = F.UBE_CH_STATUS_PLANNED then s.planned i
    else if f = F.UBE_STATUS_MODE then (List.range 8).foldl (fun w c => w + s.shownMode c * 2 ^ (3 * c)) 0
    else s.fld f i
  | 6 =>
    if f = F.STR_STATUS_DRAIN then (if s.str.swap.isSome then s.unfinished else 0)
    else if f = F.STR_RQ_DEPTH_FRAMES then s.rqDepth i
    else s.fld f i
  | 7 =>
    if f = F.TBL_STATUS_ENTRIES then s.tbl.fps.length
    else if f = F.TBL_STASH_ENTRIES then s.tbl.stash.length
    else if f = F.TBL_LEARN_STATUS_IN_USE then s.tbl.filter.length
    else s.fld f i
  | 8 =>
    if f = F.TMG_KETTLE_USE_PAGES then s.pageCount
    else if f = F.TMG_STATUS_SPILL_STOPPED then b2n (s.fld F.TMG_CFG_KETTLE_EN 0 == 1 && !s.canSpill)
    else if f = F.TMG_STATUS_HELD then b2n (s.tmg.queues.any (fun p => s.queueHeld p.2))
    else if f = F.TMG_STATUS_KETTLE_ACTIVE then b2n (s.pageCount != 0)
    else if f = F.TMG_CAL_STATUS_BACKLOG then s.calBacklog
    else s.fld f i
  | 9 =>
    if f = F.MEM_TRACK_STATUS_IN_USE then s.mem.tracks.length
    else if f = F.MEM_TRACK_STATUS_CHRONIC then s.chronics
    else if f = F.MEM_CH_STATUS_RETRY then (s.memCh i).retry.length
    else if f = F.MEM_CH_STATUS_QOS then s.qosMode i
    else if f = F.MEM_RINSE_STATUS_DDR_PCT then (List.range 4).foldl (fun a n => min a (s.rinsePct n)) 100
    else if f = F.MEM_RINSE_STATUS_QDR_PCT then s.rinsePct 4
    else s.fld f i
  | 10 => if f = F.HPM_STATUS_UP then s.portsUp else s.fld f i
  | 11 =>
    if f = F.CPH_STATUS_SA_ON then s.cph.sas.length
    else if f = F.CPH_STATUS_KEYBUS_OK then b2n s.linkOk
    else s.fld f i
  | 12 =>
    if f = F.TIM_STATUS_SPEC then b2n s.todSpec
    else if f = F.TIM_STATUS_TSTATE then s.tstate
    else if f = F.TIM_UNC_UNC then s.uncNow
    else s.fld f i
  | 13 =>
    if f = F.PRT_STATUS_SB_READY then s.sbReady
    else if f = F.PRT_STATUS_ACTIVE then s.activePath
    else if f = F.PRT_WTR_LEFT_SECONDS then
      (if s.fld F.PRT_STATUS_STATE 0 = 3 then s.prt.wtrLen - (s.ltb.lc - s.prt.wtrFrom) / 1244160000 else 0)
    else s.fld f i
  | 14 =>
    if f = F.INF_C_STATUS_PC then (s.core i).pc
    else if f = F.INF_C_STATUS_TURN then coreTurn (s.core i)
    else if f = F.INF_C_STATUS_STATE then (s.core i).st
    else s.fld f i
  | 15 =>
    if f = F.PWR_DOM_STATUS_STATES then s.domStatus
    else if f = F.PWR_STATUS_ALLOW then
      (List.range 4).foldl (fun w k => w + b2n (SMap.get s.pwr.allow (s.chanOf k) 0 != 0) * 2 ^ k) 0
    else s.fld f i
  | 16 =>
    if f = F.WHS_CH_STATUS_ASSIGNED then b2n (s.whsPerm i != 0)
    else if f = F.WHS_CH_STATUS_ENGINE then b2n (s.whsPerm i != 0)
    else if f = F.WHS_CH_STATUS_HOLD then s.shownHold i
    else if f = F.WHS_CH_STATUS_PERM then s.whsPerm i
    else if f = F.WHS_CH_STATUS_CTX_SEQ then (match s.ctxNow i with | some x => x.seq | none => 0)
    else if f = F.WHS_STATUS_TSTATE then (if s.linkOk then s.tstate else 2)
    else if f = F.WHS_STATUS_LATCH_STORED then b2n s.whs.latch.isSome
    else s.fld f i
  | 17 =>
    if f = F.CDY_STATUS_LOADED then s.slotsLoaded
    else if f = F.CDY_STATUS_BOUND then s.slotsBound
    else if f = F.CDY_STATUS_DIK_VALID then b2n (s.slotHeld 0x040)
    else if f = F.CDY_STATUS_IMAGE_KEY_VALID then b2n (s.slotHeld 0x03F)
    else if f = F.CDY_DIK_KCV_KCV then s.dikKcv
    else s.fld f i
  | _ => s.fld f i

/-- The word at an address with its fields as they stand, no latch applied. -/
def State.peek (s : State) (addr : Nat) : Nat :=
  (fieldsAt addr).foldl (fun w p => w + (s.live p.1 p.2) % 2 ^ p.1.width * 2 ^ p.1.lo) 0

/-- The value of a register at reset. -/
def resetWord (addr : Nat) : Nat :=
  (fieldsAt addr).foldl (fun w p => w + (if p.1.acc = .wo then 0 else p.1.rst) * 2 ^ p.1.lo) 0

/-- What a read of the word at an address returns: the latch for the high register of a pair (R13), 0 where no register is
(R11). -/
def State.readWord (s : State) (addr : Nat) : Nat :=
  if isHi addr then SMap.get s.hif.hiLatch addr (resetWord addr) else s.peek addr

/-- A plain write lands: RW fields take their bits, W1C bits written 1 clear, others are untouched (R10, R11). -/
def State.applyWrite (s : State) (addr v : Nat) : State :=
  (fieldsAt addr).foldl (fun t p =>
    let x := bits v p.1.hi p.1.lo
    match p.1.acc with
    | .rw => t.setFld p.1 p.2 x
    | .w1c => if x % 2 = 1 then t.setFld p.1 p.2 0 else t
    | _ => t) s

/-- The register holds an RW or WO field: it is a set-up register (R481). -/
def isSetup (addr : Nat) : Bool := (fieldsAt addr).any (fun p => p.1.acc == .rw || p.1.acc == .wo)

/-- The REG_WRITE record of a write to a set-up register, from the first entry to RUN on; HIF_NUDGE and the Table Command
Window's registers are not journalled this way (R78, R80, R481). -/
def State.journalWrite (s : State) (addr v readback : Nat) : State :=
  if s.hif.regsJournalled && isSetup addr && addr != 0x20 && !(decide (0x700200 ≤ addr ∧ addr < 0x700240))
  then s.commit 2 0x20 [addr, v, readback, 0, 0, 0] else s

/-- The REG_WRITE record with the value the register now reads. -/
def State.journalDone (s : State) (addr v : Nat) : State := s.journalWrite addr v (s.peek addr)

/-- The register belongs to a channel, lane or host port that an LK9520 does not have (R3). -/
def State.absentReg (s : State) (addr : Nat) : Bool :=
  let o := addr % 0x100000
  s.hif.part == .lk9520 &&
    (match addr / 0x100000 with
      | 2 | 3 | 4 | 5 | 16 => decide (0x1000 ≤ o) && !s.hasChannel (o % 0x1000 / 0x40)
      | 10 => if o < 0x1000 then false else if o < 0x8000 then decide (1 ≤ (o - 0x1000) / 0x100) else decide (4 ≤ (o - 0x8000) / 0x40)
      | 11 => decide (0x2040 ≤ o)
      | 12 => decide (0x40 ≤ o ∧ o < 0x80) && !s.hasChannel (o % 0x20 / 4)
      | 13 => decide (0x48 ≤ o ∧ o < 0x50)
      | _ => false)

/-- The value written selects a channel, lane or host port that an LK9520 does not have (R3): INF_TRACE_CFG.LANES.
LTB_TC_CFG.TC and HPM_CFG are judged where they are written. -/
def State.selectsAbsent (s : State) (addr v : Nat) : Bool :=
  s.hif.part == .lk9520 &&
    (match addr with
      | 0xE00004 => bits v 19 18 != 0 || bits v 23 22 != 0
      | _ => false)

/-- A host write of a register whose effect is `eff` on the state: it lands, then it is journalled (R78); one that selects an absent
resource is discarded (R3). -/
def State.landed (s : State) (addr v : Nat) (eff : State → State) : State :=
  (if s.absentReg addr || s.selectsAbsent addr v then s else eff s).journalDone addr v

/-- The fault event BAR_ERROR (R12, R482, R487). -/
def State.barError (s : State) (addr : Nat) (write : Bool) (cause : Nat) : State :=
  ((s.raise F.HIF_EVENT_BAR_ERROR F.HIF_EVENT_EVCNT1_BAR_ERROR 0).setFld F.HIF_ERR_LOC_ERR_LOC 0 (errUnit 0)).faultEvent
    0 0x00F0 (errUnit 0) addr (b2n write + cause * 256)

/-- Data returned to the host for the latest read. -/
def State.returned (s : State) (ws : List Nat) : State := { s with hif := { s.hif with readData := ws } }

/-- Whether an access to this address can be served now, and if not what becomes of it. -/
inductive Access where
  | ok
  | linkOut
  | stalled (dom slice : Nat)
  | timeout (dom slice : Nat)
  deriving DecidableEq, Repr

/-- R444, R453, R482: a keeping-die block needs the inter-die link; a main-die block needs its domain ON, and one that Simmer
holds times out at once with HOST_WAKE at 0. -/
def State.access (s : State) (addr : Nat) : Access :=
  if keepingAddr addr then (if s.linkOk then .ok else .linkOut)
  else match s.domOfAddr addr with
    | none => .ok
    | some (n, sl) =>
      if s.dom n sl == 2 then .ok
      else if s.lowPower && s.fld F.PWR_SIMMER_CFG_HOST_WAKE 0 == 0 then .timeout n sl
      else .stalled n sl

/-- The PWR event of a demand that was not served (R444, R457). -/
def State.wakeTimeoutEvent (s : State) (n sl kind : Nat) : State :=
  (s.raise F.PWR_EVENT_WAKE_TIMEOUT F.PWR_EVENT_EVCNT_WAKE_TIMEOUT 0).faultEvent 0x0F 0x00F0 (errTile 0x0F n)
    (n + (if domSliced n then sl else 15) * 16) kind

/-- A read of a register with the effect `eff` and the value `val` where it can be served. -/
def State.hostRead (s : State) (addr : Nat) (eff : State → State) : State :=
  match s.access addr with
  | .ok => (eff s).returned [s.readWord addr]
  | .linkOut => (s.barError addr false 1).returned [0xFFFFFFFF]
  | .stalled n sl =>
    let s1 := s.demand ⟨n, sl, 0, addr, 0, false, none, s.ltb.lc⟩
    if s1.lowPower then s1.wakeSource 6 else s1
  | .timeout n sl => (s.wakeTimeoutEvent n sl 0).returned [0xFFFFFFFF]

/-- A write of a register with the effect `eff` (which journals it) where it can be served; otherwise it is discarded or
stalls (R444, R453, R482). -/
def State.hostWrite (s : State) (addr v : Nat) (eff : State → State) : State :=
  match s.access addr with
  | .ok => eff s
  | .linkOut => (s.barError addr true 1).journalWrite addr v 0xFFFFFFFF
  | .stalled n sl =>
    let s1 := s.demand ⟨n, sl, 1, addr, v, false, none, s.ltb.lc⟩
    if s1.lowPower then s1.wakeSource 6 else s1
  | .timeout n sl => (s.wakeTimeoutEvent n sl 1).journalWrite addr v 0xFFFFFFFF

end Sys2Proof.Machine
end

