-- ==== Sys2Proof/Machine/TimOps.lean ====
section
/-!
DEFINITION. Sys2Proof/Machine/TimOps.lean: network time as the other units move it (R387 to R393): the relation, Φ with its slew and servo,
the source in force, staleness, uncertainty, and what a time state, a line step or an EqD does to them. Times of day are in units of 2^-16 ns.
-/
namespace Sys2Proof.Machine

/-! Φ (R387, R389, R391). -/

/-- Line cycles in units of 2^-16 ns, as a product to be divided by 155,520: one line cycle is 125,000/155,520 ns. -/
def lcUnits (n : Int) : Int := n * 125000 * 65536 / 155520

/-- y and the integral term, signed, in 1/256 ppb. -/
def State.timY (s : State) : Int := signed 32 (s.fld F.TIM_SERVO_FREQ_Y 0)
def State.timInt (s : State) : Int := signed 32 (s.fld F.TIM_SERVO_INT_INT 0)

/-- What the servo has moved Φ by in `n` line cycles. -/
def State.servoMove (s : State) (n : Nat) : Int := (n : Int) * 125000 * 65536 * s.timY / (155520 * 256 * 1000000000)

/-- What the PON slew has moved Φ by in `n` line cycles, toward what is left of it (TIM_SLEW: 0 is treated as 1). -/
def State.slewMove (s : State) (n : Nat) : Int :=
  let m : Nat := n * 125000 * 65536 * max 1 (s.fld F.TIM_SLEW_SLEW_PPB 0) / (155520 * 1000000000)
  if s.tim.slewLeft < 0 then -((min m s.tim.slewLeft.natAbs : Nat) : Int) else ((min m s.tim.slewLeft.natAbs : Nat) : Int)

/-- Φ `n` line cycles after it was last based. -/
def State.phiAfter (s : State) (n : Nat) : Int := s.tim.phi + s.servoMove n + s.slewMove n

/-- Φ now. -/
def State.phiNow (s : State) : Int := s.phiAfter (s.ltb.lc - s.tim.phiLc)

/-- Φ is brought to now, before a rate that moves it changes. -/
def State.phiBase (s : State) : State :=
  let m := s.slewMove (s.ltb.lc - s.tim.phiLc)
  { s with tim := { s.tim with phi := s.phiNow, slewLeft := s.tim.slewLeft - m, phiLc := s.ltb.lc } }

/-- ToD of a stamp with a fraction (R387). -/
def State.todOf (s : State) (st frac : Nat) : Int :=
  s.tim.tRef + (stampDiff st s.tim.sRef * 16 + frac) * 125000 * 65536 / (155520 * 16) + s.phiNow

/-- ToD `n` sixteenths from the start of the present line cycle, for a Φ (R387). -/
def State.todNear (s : State) (phi n : Int) : Int :=
  s.tim.tRef + (stampDiff s.stamp s.tim.sRef * 16 + n) * 125000 * 65536 / (155520 * 16) + phi

/-- A second in units of 2^-16 ns. -/
def secUnits : Int := 1000000000 * 65536

/-- The sixteenth of the present line cycle at which ToD crosses a whole second, where it does (R396): the last one before it is the previous line cycle's. -/
def State.ppsCross (s : State) : Option Nat :=
  let k := s.todNear s.phiNow 15 / secUnits
  if s.todNear (s.phiAfter (s.ltb.lc - s.tim.phiLc - 1)) (-1) / secUnits < k then
    (List.range 16).find? (fun f => decide (k * secUnits ≤ s.todNear s.phiNow f))
  else none

/-- Whole ns of a signed amount, saturating to 32 bits, as a word. -/
def nsWord (e : Int) : Nat := unsigned 32 (clampI (-2147483648) 2147483647 (e / 65536))

/-- ToD stepped by e with a cause: the epoch advances and TOD_STEP is written (R389, R395, R403). -/
def State.todStep (s : State) (cause : Nat) (e : Int) : State :=
  let s1 : State := { s with tim := { s.tim with epoch := (s.tim.epoch + 1) % 65536 } }
  (s1.raise F.TIM_EVENT_TOD_STEP F.TIM_EVENT_EVCNT_TOD_STEP 0).notify 0x0C 0x0001 cause (nsWord e)

/-- SRC_USED follows; a change to PON stops the servo's advance, the integral held (R391). -/
def State.timSource (s : State) : State :=
  let new := b2n (!s.ponSource)
  if s.fld F.TIM_STATUS_SRC_USED 0 = new then s
  else
    let s1 := s.setFld F.TIM_STATUS_SRC_USED 0 new
    if new = 0 then (s1.phiBase.setFld F.TIM_SERVO_FREQ_Y 0 0).setFld F.TIM_STATUS_SERVO_LIMIT 0 0 else s1

/-- An offset goes to the PON slew, or steps ToD at once (R389). Offsets of PON steer Φ while PON is the source in force (R391). -/
def State.ponOffset (s : State) (e : Int) (cause : Nat) : State :=
  let s0 := s.phiBase
  if s0.fld F.TIM_STATUS_SRC_USED 0 = 1 then s0
  else if e.natAbs ≤ s0.fld F.TIM_SERVO_STEP_STEP_NS 0 * 65536 ∨ s0.fld F.TIM_CFG_STEP_EN 0 = 0 then
    let s1 : State := { s0 with tim := { s0.tim with slewLeft := s0.tim.slewLeft + e } }
    s1.setFld F.TIM_STATUS_SLEWING 0 (b2n (decide (s1.tim.slewLeft ≠ 0)))
  else State.todStep { s0 with tim := { s0.tim with phi := s0.tim.phi + e } } cause e

/-! Staleness and uncertainty (R390, R393). -/

/-- REF_STALE is set. -/
def State.timStale (s : State) : State := (s.setFld F.TIM_STATUS_REF_STALE 0 1).timSource

/-- The uncertainty is brought to now. -/
def State.uncBase (s : State) : State :=
  { s.setFld F.TIM_UNC_UNC 0 s.uncNow with tim := { s.tim with holdFrom := s.tim.holdFrom.map (fun _ => s.ltb.lc) } }

/-- The time state has changed from `old` (R390, R393). -/
def State.timTime (s : State) (old : Nat) : State :=
  let s0 := s.uncBase
  match s0.tstate with
  | 0 =>
    let s1 : State := { s0 with tim := { s0.tim with holdFrom := none } }
    let s2 : State := if old = 2 ∧ s1.tim.held then
        { s1.setFld F.TIM_STATUS_TOD_VALID 0 1 with tim := { s1.tim with fresh := true } }
      else s1
    (if s2.fld F.TIM_STATUS_REF_STALE 0 = 0 then s2.setFld F.TIM_UNC_UNC 0 0 else s2).timSource
  | 1 => State.timStale { s0 with tim := { s0.tim with holdFrom := some s0.ltb.lc } }
  | _ =>
    let s1 : State := { s0 with tim := { s0.tim with holdFrom := none } }
    ((s1.setFld F.TIM_STATUS_TOD_VALID 0 0).setFld F.TIM_UNC_UNC 0 (2 ^ 32 - 1)).timStale

/-- A line step or wake moves lin(S) by d line cycles and not the time it stands for: Φ takes the amount that keeps ToD continuous, which is then
removed as an offset (R392). -/
def State.timStep (s : State) (d : Int) : State :=
  if s.fld F.TIM_STATUS_TOD_VALID 0 = 0 then s
  else
    let s0 := s.phiBase
    State.ponOffset { s0 with tim := { s0.tim with phi := s0.tim.phi - lcUnits d } } (lcUnits d) 3

/-- D of R388 in DU with 32 fraction bits. -/
def todD (teqd eqd alpha : Nat) (rxopt : Int) : Int := ((teqd : Int) - eqd) * alpha + (rxopt + 7840) * 2 ^ 32

/-- An amount of D in units of 2^-16 ns, rounded to the nearest: one DU is 1/49.7664 ns. -/
def duUnits (d : Int) : Int := (d * 2 * 65536 * 10000 + 497664 * 2 ^ 32) / (2 * 497664 * 2 ^ 32)

/-- The timing channel's EqD as a frame begins: one no longer VALID makes the relation stale; a changed one moves D, and ToD with it (R390). -/
def State.timEqd (s : State) : State :=
  let c := s.fld F.LTB_STATUS_TC_ACTIVE 0
  if s.fld F.ACT_CH_EQD_VALID c = 0 then s.timStale
  else
    let q := s.fld F.ACT_CH_EQD_EQD c
    if !s.tim.held || s.tim.chan != c || s.tim.eqd == q then s
    else
      let d := todD s.tim.teqd q s.tim.alpha s.tim.rxopt
      let e := duUnits d - duUnits s.tim.d
      State.ponOffset { s with tim := { s.tim with d := d, eqd := q } } e 1

/-- A channel has lost its EqD: the relation is stale if it is the timing channel (R390). -/
def State.timGone (s : State) (c : Nat) : State := if s.fld F.LTB_STATUS_TC_ACTIVE 0 = c then s.timStale else s

end Sys2Proof.Machine
end

