-- ==== Sys2Proof/Machine/Ltb.lean ====
section
/-!
DEFINITION. Sys2Proof/Machine/Ltb.lean: the line time base: arrivals and offsets (R27 to R30), the time states (R31, R32), eligible
channels (R33), changes of timing channel (R34, R35), rejoin (R36), the sleep clock (R40).
-/
namespace Sys2Proof.Machine

/-- The channel is in SYNC in DSF (R112). -/
def State.inSync (s : State) (k : Nat) : Bool := s.fld F.DSF_CH_STATUS_STATE k == 3

/-- The channel lies on the active path: ACT_STATUS.PATH is 1 for A and 2 for B, 0 for none (R148). -/
def State.onActive (s : State) (k : Nat) : Bool := s.fld F.ACT_STATUS_PATH 0 == 1 + k / 4

/-- The timing channel in use, coded [2] path, [1:0] channel, so it is the channel number 0 to 7. -/
def State.tc (s : State) : Nat := s.fld F.LTB_STATUS_TC_ACTIVE 0

/-- R33: on the active path, in SYNC, offset VALID, skew not exceeded. -/
def State.eligible (s : State) (k : Nat) : Bool :=
  s.onActive k && s.inSync k && s.fld F.LTB_CH_OFS_VALID k == 1 && s.fld F.LTB_CH_OFS_SKEW_EXCEEDED k == 0

/-- The order of automatic choice on the active path: the four channels PRIO names, then the others, lower number first (R33). -/
def State.choiceOrder (s : State) : List Nat :=
  let p := s.fld F.LTB_TC_CFG_PRIO 0
  let base := 4 * (s.fld F.ACT_STATUS_PATH 0 - 1)
  [p % 4, p / 4 % 4, p / 16 % 4, p / 64 % 4, 0, 1, 2, 3].map (fun c => base + c)

/-- The eligible channel that would be taken, other than `except` (R33). -/
def State.choice (s : State) (except : Option Nat) : Option Nat :=
  s.choiceOrder.find? (fun k => s.eligible k && except != some k)

/-- The offset of a channel as reported: 20-bit signed line cycles (LTB_CH_OFSn). -/
def State.ofs (s : State) (k : Nat) : Int := signed 20 (s.fld F.LTB_CH_OFS_OFS k)

/-- The offset of a channel as measured at its latest arrival, whatever its size (R27, R30). -/
def State.rawOfs (s : State) (k : Nat) : Option Int := SMap.get s.ltb.raw k none

/-- Report a measured offset (R27). -/
def State.setOfs (s : State) (k : Nat) (o : Int) : State :=
  let s1 := ((s.setFld F.LTB_CH_OFS_VALID k (b2n (decide (-524287 ≤ o ∧ o ≤ 524287)))).setFld F.LTB_CH_OFS_OFS k (unsigned 20 o)).setFld
    F.LTB_CH_OFS_TIMING k (b2n (s.tc == k))
  { s1 with ltb := { s1.ltb with raw := SMap.put s1.ltb.raw k (some o) none } }

/-- SKEW_EXCEEDED of one channel against the timing channel: both in SYNC and more than 311,040 lc apart, by their offsets as measured (R30). -/
def State.skewOf (s : State) (k : Nat) : State :=
  let tc := s.tc
  if k = tc then s.setFld F.LTB_CH_OFS_SKEW_EXCEEDED k 0
  else if s.inSync tc && s.inSync k then
    match s.rawOfs tc, s.rawOfs k with
    | some a, some b => s.setFld F.LTB_CH_OFS_SKEW_EXCEEDED k (b2n (decide (311040 < (a - b).natAbs)))
    | _, _ => s
  else s

/-- SKEW_EXCEEDED of every channel. -/
def State.skewAll (s : State) : State := (List.range 8).foldl (fun t k => t.skewOf k) s

/-- A performance bin at reset: time UNKNOWN and the lane disabled (R141, R142). -/
def binReset : Bin := ⟨0, 0, 12, 0, List.replicate 18 0⟩
def pmReset : Pm := ⟨binReset, [], binReset, none, false, false, false, 0, []⟩

/-- Every current bin takes a flag of R141. -/
def State.pmMark (s : State) (flag : Nat) : State :=
  (List.range 8).foldl (fun t c =>
    let p := SMap.get t.dsf.pm c pmReset
    { t with dsf := { t.dsf with
        pm := SMap.put t.dsf.pm c
          { p with cur := { p.cur with flags := p.cur.flags ||| flag }, day := { p.day with flags := p.day.flags ||| flag } } pmReset } }) s

/-- The time state changes, with its status bit; entry to UNKNOWN increments the epoch (LTB_EPOCH cause 3); TIM follows (R393). -/
def State.timeTo (s : State) (st : Nat) : State :=
  if s.tstate = st then s
  else
    let s1 := (s.setFld F.LTB_STATUS_STATE 0 st).raise F.LTB_EVENT_STATE_CHANGE F.LTB_EVENT_EVCNT_STATE_CHANGE 0
    let s2 :=
      if st = 2 then (s1.bumpEpoch 3 (2 ^ 63)).pmMark 4
      else if st = 1 then s1.pmMark 1
      else s1
    s2.timTime s.tstate

/-- The core PLL changes its reference (0 local, 1 recovered clock). Whether it reports phase lock to the new reference in this line cycle the spec does not
say: LTB_STATUS.PLL_LOCK takes a free value (R45, log entry 99). -/
def State.newRef (s : State) (v : Nat) : State :=
  if s.fld F.LTB_STATUS_PLL_REF 0 = v then s
  else
    let x := s.takeFree
    (x.2.setFld F.LTB_STATUS_PLL_REF 0 v).setFld F.LTB_STATUS_PLL_LOCK 0 (x.1 % 2)

/-- A slew in progress ends where it stands (R36). -/
def State.dropSlew (s : State) : State :=
  { s.setFld F.LTB_STATUS_SLEWING 0 0 with ltb := { s.ltb with slew := 0, slewAcc := 0 } }

/-- Entry to HOLDOVER: the local reference is taken, phase continuous, and LTB_HOLD_FRAMES restarts (R32). DESIGN CHOICE (log entry 100; R37 is silent): a slew in
progress ends where it stands, and a step decided before LOCKED was left still takes effect at its frame. -/
def State.toHoldover (s : State) : State :=
  ((((s.setFld F.LTB_STATUS_COASTING 0 0).dropSlew).newRef 0).setFld F.LTB_HOLD_FRAMES_FRAMES 0 0).timeTo 1

/-- The timing channel changes at this arrival: its offset becomes the anchor, no step, TC_CHANGE (R34); TIM's relation is stale
(R390). -/
def State.changeTc (s : State) (k : Nat) (o : Int) : State :=
  let s1 := s.setFld F.LTB_CH_OFS_TIMING s.tc 0
  let s2 := ((s1.setFld F.LTB_STATUS_TC_ACTIVE 0 k).setFld F.LTB_CH_OFS_TIMING k 1).setFld F.LTB_STATUS_COASTING 0 0
  let s3 := s2.raise F.LTB_EVENT_TC_CHANGE F.LTB_EVENT_EVCNT_TC_CHANGE 0
  State.timStale { s3 with ltb := { s3.ltb with
      anchor := o
      anchored := SMap.put s3.ltb.anchored k o 0
      goodRun := 0
      prevArrival := none
      lockReady := false
      pendTc := if s3.ltb.pendTc = some k then none else s3.ltb.pendTc } }

/-- The timing channel is lost to LOS or LOF while coasting, and AUTO_CHANGE is 0 or no other channel is eligible: HOLDOVER
(R32). Judged at the loss and again whenever a channel stops being eligible. -/
def State.ltbRecheck (s : State) : State :=
  let tc := s.tc
  if s.tstate = 0 ∧ s.fld F.LTB_STATUS_COASTING 0 = 1 ∧
      (s.fld F.DSF_CH_STATUS_LOS tc = 1 ∨ s.fld F.DSF_CH_STATUS_LOF tc = 1) ∧
      (s.fld F.LTB_TC_CFG_AUTO_CHANGE 0 = 0 ∨ s.choice (some tc) = none) then s.toHoldover else s

/-- The timing channel misses an arrival, or its lane reports loss of clock recovery: the PLL holds its frequency (R32). -/
def State.coast (s : State) : State :=
  if s.tstate = 0 then s.setFld F.LTB_STATUS_COASTING 0 1 else s

/-- R28: first lock at this arrival, `e` line cycles ago: the stamp was loaded then, the anchor is 0, the epoch increments, the state is LOCKED. -/
def State.firstLock (s : State) (k sfc e : Nat) : State :=
  let st := stampAdd (stampOf sfc 0) e
  let s1 : State := { s with ltb := { s.ltb with
    frame := st / 2 ^ 18, cycle := st % 2 ^ 18, anchor := 0, anchored := SMap.put s.ltb.anchored k 0 0, lockReady := false } }
  (((((s1.setOfs k 0).setFld F.LTB_STATUS_PLL_REF 0 1).bumpEpoch 1 0).timeTo 0).dropSlew).skewAll

/-- Arrivals of the timing channel in UNKNOWN: the run of arrivals within 1 lc of 155,520 lc after the previous one, on whatever path it is; first lock is
declared where the PLL reports phase lock, the run has LOCK_FRAMES, the channel lies on the active path and lock is permitted (R28, R32). -/
def State.countArrival (s : State) (k e : Nat) (pllLock : Bool) : State :=
  let a := s.ltb.lc - e
  let onTime := match s.ltb.prevArrival with
    | none => false
    | some p => decide (p + 155519 ≤ a ∧ a ≤ p + 155521)
  let run := if onTime then s.ltb.goodRun + 1 else 0
  { s with ltb := { s.ltb with
      prevArrival := some a
      goodRun := run
      lockReady := pllLock && s.onActive k && s.fld F.LTB_CTRL_FORCE_LOCAL 0 == 0 &&
        decide (max 1 (s.fld F.LTB_PLL_CFG_LOCK_FRAMES 0) ≤ run) } }

/-- R36: an eligible arrival in HOLDOVER, with the offset measured. A step takes effect at cycle 0 of the next frame (R37). -/
def State.rejoin (s : State) (k : Nat) (o : Int) : State :=
  let off := SMap.get s.ltb.anchored k 0
  let d := off - o
  let s1 := if k = s.tc then s else s.changeTc k off
  let s2 := ((s1.setFld F.LTB_STATUS_PLL_REF 0 1).setFld F.LTB_STATUS_COASTING 0 0).timeTo 0
  let s3 : State := { s2 with ltb := { s2.ltb with anchor := off, pendStep := none } }
  if d.natAbs ≤ s3.fld F.LTB_REJOIN_CFG_SLEW_LIMIT 0 ∨ s3.fld F.LTB_REJOIN_CFG_STEP_EN 0 = 0 then
    { s3.setFld F.LTB_STATUS_SLEWING 0 (b2n (decide (1 < d.natAbs))) with ltb := { s3.ltb with slew := d, slewAcc := 0 } }
  else { s3 with ltb := { s3.ltb with pendStep := some ⟨d, (s3.ltb.frame + 1) % 2 ^ 46, k⟩ } }

/-- The greatest rate the PLL slews the grid at, in ppb: 0 is treated as 1 (LTB_PLL_CFG.SLEW_PPB). -/
def State.slewPpb (s : State) : Nat := max 1 (s.fld F.LTB_PLL_CFG_SLEW_PPB 0)

/-- The offset at which the timing channel's next frame is due: the anchor, or while a slew brings the grid to it the offset last measured (R29, R36). -/
def State.dueOfs (s : State) : Int :=
  if s.fld F.LTB_STATUS_SLEWING 0 = 1 then (s.rawOfs s.tc).getD s.ltb.anchor else s.ltb.anchor

/-- An offset lies within 1 lc of the due one, and while a slew is in progress within what the slew moves in a frame beside (R32). -/
def State.onTime (s : State) (o : Int) : Bool :=
  decide ((o - s.dueOfs).natAbs ≤ 1 + (if s.fld F.LTB_STATUS_SLEWING 0 = 1 then s.slewPpb * 155520 / 1000000000 + 1 else 0))

/-- LTB keeps the superframe counter as delivered on the timing channel (R26). -/
def State.takeSfc (s : State) (k sfc : Nat) : State :=
  if k = s.tc then { s with ltb := { s.ltb with sfc := sfc % 2 ^ 51 } } else s

/-- The trim of the running sleep source, measured against line time while LOCKED (R40). -/
def State.takeTrim (s : State) (trim : Option Nat) : State :=
  match trim with
  | none => s
  | some v =>
    if s.tstate ≠ 0 then s
    else if s.ltb.extSrc then (s.setFld F.LTB_SLEEP_TRIM_EXT_VALID 0 1).setFld F.LTB_SLEEP_TRIM_EXT_TRIM 0 v
    else (s.setFld F.LTB_SLEEP_TRIM_INT_VALID 0 1).setFld F.LTB_SLEEP_TRIM_INT_TRIM 0 v

/-- An arrival in UNKNOWN (R28, R35). First lock, once declared, is carried out at the next arrival, whatever that arrival's phase lock or spacing is
(DESIGN CHOICE, log entry 101: R28 is silent on a loss of either between the declaration and that arrival). A requested channel is taken at its first arrival in
SYNC on the active path: before first lock no offset can be VALID (DESIGN CHOICE, log entry 15). -/
def State.unknownArrival (s : State) (k sfc e : Nat) (o : Int) (pllLock : Bool) : State :=
  if k = s.tc then
    (if s.ltb.lockReady && s.onActive k && s.fld F.LTB_CTRL_FORCE_LOCAL 0 == 0 then s.firstLock k sfc e else s.countArrival k e pllLock)
  else if s.ltb.pendTc == some k && s.onActive k then ((s.changeTc k o).skewAll).countArrival k e pllLock
  else s

/-- An arrival while LOCKED (R32, R34, R35; after a protection switch the first eligible arrival of the new path changes the timing channel, R412): the timing
channel ends COASTING where it arrives on time. -/
def State.lockedArrival (s : State) (k : Nat) (o : Int) (inTime : Bool) : State :=
  if k = s.tc then (if inTime then s.setFld F.LTB_STATUS_COASTING 0 0 else s)
  else if s.eligible k && s.ltb.pendTc == some k then (s.changeTc k o).skewAll
  else if s.eligible k && !s.onActive s.tc then (s.changeTc k o).skewAll
  else if s.eligible k && s.fld F.LTB_STATUS_COASTING 0 == 1 && s.fld F.LTB_TC_CFG_AUTO_CHANGE 0 == 1 &&
      s.choice (some s.tc) == some k then (s.changeTc k o).skewAll
  else s.ltbRecheck

/-- What LTB does at a channel's arrival (R26 to R36, R40): the arrival's line cycle lies `e` line cycles back, `sfc` is the arriving frame's superframe counter, `pllLock` says whether
the core PLL reports phase lock to its reference, `trim` the trim of the sleep source as measured now. -/
def State.ltbArrival (s : State) (k sfc e : Nat) (pllLock : Bool) (trim : Option Nat) : State :=
  let o := stampDiff (stampAdd s.stamp (-(e : Int))) (stampOf sfc 0)
  let inTime := s.onTime o
  let s1 := ((s.setOfs k o).setFld F.LTB_STATUS_PLL_LOCK 0 (b2n pllLock)).skewAll
  let s2 := match s1.tstate with
    | 2 => s1.unknownArrival k sfc e o pllLock
    | 0 => s1.lockedArrival k o inTime
    | _ =>
      if s1.eligible k && s1.fld F.LTB_CTRL_FORCE_LOCAL 0 == 0 &&
          (s1.choice none == some k || s1.ltb.pendTc == some k) then s1.rejoin k o else s1
  (s2.takeSfc k sfc).takeTrim trim

/-- The timing channel's next arrival is missed: none has come by 1 lc after the line cycle in which it was due, so the miss is found 2 lc after it (R32). The
next frame is the one after that of the latest arrival. -/
def State.arrivalLate (s : State) : Bool := decide (2 ≤ stampDiff s.stamp (stampOf (s.ltb.sfc + 1) 0) - s.dueOfs)

/-- ARRIVAL_MISSED (R32). -/
def execArrivalMissed (s : State) : Host.Outcome State Fault Refusal :=
  .next (if s.ltb.sleep.isNone && s.arrivalLate then s.coast.ltbRecheck else s)

/-- A write of LTB_CTRL (R32): FORCE_LOCAL at 1 enters HOLDOVER from LOCKED and forbids lock. -/
def State.writeLtbCtrl (s : State) (v : Nat) : State :=
  let s1 := s.setFld F.LTB_CTRL_FORCE_LOCAL 0 (bits v 0 0)
  if bit v 0 && s1.tstate == 0 then s1.toHoldover else s1

/-- FORCE_LOCAL (R32). -/
def execForceLocal (v : Word) (s : State) : Host.Outcome State Fault Refusal :=
  .next (s.hostWrite 0x100000 v.toNat (fun t => t.landed 0x100000 v.toNat (fun u => u.writeLtbCtrl v.toNat)))

/-- A write of LTB_TC_CFG (R35): a request for another channel changes nothing at once and waits for that channel's first eligible arrival. A channel
the part does not have is not selected (R3). -/
def State.writeTcCfg (s : State) (v : Nat) : State :=
  let t := bits v 2 0
  if !s.hasChannel t then s else
  let s1 := ((s.setFld F.LTB_TC_CFG_PRIO 0 (bits v 15 8)).setFld F.LTB_TC_CFG_AUTO_CHANGE 0 (bits v 3 3)).setFld
    F.LTB_TC_CFG_TC 0 t
  { s1 with ltb := { s1.ltb with pendTc := if t = s1.tc then none else some t } }

/-- TC_REQUEST (R35). -/
def execTcRequest (v : Word) (s : State) : Host.Outcome State Fault Refusal :=
  .next (s.hostWrite 0x100004 v.toNat (fun t => t.landed 0x100004 v.toNat (fun u => u.writeTcCfg v.toNat)))

/-- The slew has brought the offset to within 1 lc of the anchor: the timing channel's offset as last measured, and no sooner than SLEW_PPB lets the grid move
by d (R36). -/
def State.slewMet (s : State) : Bool :=
  match s.rawOfs s.tc with
  | some o => decide ((o - s.ltb.anchor).natAbs ≤ 1) && decide ((s.ltb.slew.natAbs - 1) * 1000000000 ≤ s.ltb.slewAcc)
  | none => false

/-- SLEW_DONE (R36). The grid slews because the core clock runs faster or slower against the head end: the stamp goes on by one in each line cycle (R25), and
the arrivals come nearer to the anchor. -/
def execSlewDone (s : State) : Host.Outcome State Fault Refusal :=
  .next (if s.fld F.LTB_STATUS_SLEWING 0 = 1 ∧ s.slewMet then s.dropSlew else s)

/-! The sleep clock (R40). -/

/-- The running sleep source changes; in a sleep the count at the switch point is recorded (R40). -/
def State.switchSource (s : State) (ext : Bool) : State :=
  if ext == s.ltb.extSrc then s
  else { s with ltb := { s.ltb with
    extSrc := ext, sleep := s.ltb.sleep.map (fun r => { r with switches := r.switches ++ [(s.sleepCount, ext)] }) } }

/-- EXT_STOPPED (R40): while SRC is 1, with no edge of the external source for 100 µs the keeping die takes the crystal-derived source at once;
SRC reads 0 and WAKE_INFO.EXT_STOPPED is set. -/
def execExtStopped (s : State) : Host.Outcome State Fault Refusal :=
  .next <|
    if s.fld F.LTB_SLEEP_CFG_SRC 0 = 0 ∨ !s.pins.keepPower then s else
    let was := s.ltb.extSrc
    let s1 := ((s.setFld F.LTB_SLEEP_CFG_SRC 0 0).setFld F.LTB_WAKE_INFO_EXT_STOPPED 0 1).switchSource false
    { s1 with ltb := { s1.ltb with
        extStop := true, sleep := s1.ltb.sleep.map (fun r => if was then { r with extStops := r.extStops + 1 } else r) } }

/-- SLEEP_SOURCE_SWITCH (R40): at the next sleep tick the running source is the one SRC names, and a switch in a sleep is
recorded. -/
def execSleepSourceSwitch (s : State) : Host.Outcome State Fault Refusal :=
  .next (if s.pins.keepPower then s.switchSource (s.fld F.LTB_SLEEP_CFG_SRC 0 == 1) else s)

/-- The segments of a sleep, from a count and a source to the present count: for each the source (true: external) and its ticks (R40). -/
def sleepSegs (from_ : Nat) (ext : Bool) (now : Nat) : List (Nat × Bool) → List (Bool × Nat)
  | [] => [(ext, now - from_)]
  | (c, e) :: rest => (ext, c - from_) :: sleepSegs c e now rest

/-- The segments of a recorded sleep. -/
def State.segsOf (s : State) (r : SleepRec) : List (Bool × Nat) := sleepSegs r.count r.ext s.sleepCount r.switches

/-- The ticks of one source in a list of segments. -/
def segTicks (ext : Bool) (l : List (Bool × Nat)) : Nat := ((l.filter (fun p => p.1 == ext)).map Prod.snd).sum

/-- Line cycles one segment of the sleep count stands for, as a fraction: ticks at 32,768 x (1 + trim x 10^-9) per second
(R40). -/
def segFraction (ticks : Nat) (trim : Int) : Nat × Nat :=
  (ticks * 1244160000 * 1000000000, 32768 * (1000000000 + trim).toNat)

/-- Elapsed line cycles of a sleep, each segment scaled by its own trim, rounded to whole line cycles (R40). -/
def sleepElapsed (ticksInt ticksExt : Nat) (trimInt trimExt : Int) : Nat :=
  let a := segFraction ticksInt trimInt
  let b := segFraction ticksExt trimExt
  let n := a.1 * b.2 + b.1 * a.2
  let m := a.2 * b.2
  (2 * n + m) / (2 * m)

/-- The uncertainty of one segment: elapsed x UNC (units of 100 ppb), rounded up, plus one sleep tick of 37,969 lc (R40). -/
def segUncertainty (ticks : Nat) (trim : Int) (unc : Nat) : Nat :=
  let f := segFraction ticks trim
  (f.1 * unc + f.2 * 10000000 - 1) / (f.2 * 10000000) + 37969

/-- The trim of a source: 0 while VALID is 0 (R40, LTB_SLEEP_TRIM_INT). -/
def State.trimInt (s : State) : Int :=
  if s.fld F.LTB_SLEEP_TRIM_INT_VALID 0 = 1 then signed 24 (s.fld F.LTB_SLEEP_TRIM_INT_TRIM 0) else 0
def State.trimExt (s : State) : Int :=
  if s.fld F.LTB_SLEEP_TRIM_EXT_VALID 0 = 1 then signed 24 (s.fld F.LTB_SLEEP_TRIM_EXT_TRIM 0) else 0

end Sys2Proof.Machine
end

