-- ==== Sys2Proof/Machine/Bond.lean ====
section
/-!
DEFINITION. Sys2Proof/Machine/Bond.lean: bonding membership (R127) and the reorder buffer's release rule (R125, R126, R128, R130).
-/
namespace Sys2Proof.Machine

/-- A channel's framing; one in OFF has seen nothing. -/
def framingEmpty : Framing := ⟨[], 0, 0, 0, 0, none, 0, false, 0, 0, 0, none⟩
def State.framing (s : State) (c : Nat) : Framing := SMap.get s.dsf.chans c framingEmpty
def State.setFraming (s : State) (c : Nat) (x : Framing) : State :=
  { s with dsf := { s.dsf with chans := SMap.put s.dsf.chans c x framingEmpty } }

/-- Membership of channel k of the active path: 0 OUT, 1 ACTIVE, 2 SUSPENDED, 3 PARKING (R127; DSF_BOND_STATUS.MSTATE). -/
def State.member (s : State) (k : Nat) : Nat := s.fld F.DSF_BOND_STATUS_MSTATE 0 / 4 ^ (k % 4) % 4
/-- DSF_BOND_STATUS.SKEW: the greatest offset difference between ACTIVE members. -/
def State.bondSkewShown (s : State) : State :=
  let os := ((List.range 4).filter (fun k => s.member k == 1)).map (fun k => s.ofs (s.chanOf k))
  match os with
  | [] => s.setFld F.DSF_BOND_STATUS_SKEW 0 0
  | o :: rest => s.setFld F.DSF_BOND_STATUS_SKEW 0 ((rest.foldl max o) - (rest.foldl min o)).toNat

/-- A member changes state, and the skew shown follows. -/
def State.setMember (s : State) (k v : Nat) : State :=
  (s.setFld F.DSF_BOND_STATUS_MSTATE 0
    (s.fld F.DSF_BOND_STATUS_MSTATE 0 - s.member k * 4 ^ (k % 4) + v % 4 * 4 ^ (k % 4))).bondSkewShown

/-- 32-byte units a held frame takes: header and payload, and one for its descriptor (R129). -/
def Xgem.units (x : Xgem) : Nat := (8 + x.pli + 31) / 32 + 1

/-- The order of R125: KEY_LC, then channel, then offset. -/
def keyBefore (a b : Nat × Nat × Nat) : Bool :=
  decide (a.1 < b.1) || (a.1 == b.1 && (decide (a.2.1 < b.2.1) || (a.2.1 == b.2.1 && decide (a.2.2 < b.2.2))))

/-- The place of a frame in that order. -/
def Xgem.place (x : Xgem) : Nat × Nat × Nat := (x.keyLc, x.chan, x.offset)

/-- Enter a frame in key order. -/
def insertHeld (x : Xgem) : List Xgem → List Xgem
  | [] => [x]
  | y :: ys => if keyBefore x.place y.place then x :: y :: ys else y :: insertHeld x ys

/-- Units in use (DSF_BOND_HELD). -/
def heldUnits (l : List Xgem) : Nat := (l.map Xgem.units).foldl (· + ·) 0

/-- A channel's position has passed a key of another channel: beyond it, or at it with the higher channel number (R126). -/
def passedBy (key chan c p : Nat) : Bool := decide (key < p) || (p == key && decide (chan < c))

/-- Every other member in ACTIVE or PARKING has passed a key of a channel (R126, R128). -/
def State.passed (s : State) (key chan : Nat) : Bool :=
  (List.range 4).all (fun k =>
    let c := s.chanOf k
    c == chan || !(s.member k == 1 || s.member k == 3) || passedBy key chan c (s.framing c).pos)

/-- A held frame may be released (R126, R128). -/
def State.releasable (s : State) (f : Xgem) : Bool := s.passed f.keyLc f.chan

/-- SUSPENDED with a cause: 1 LOS, 2 LOF, 3 stall, 4 skew (R127, R146). -/
def State.suspend (s : State) (c cause : Nat) : State :=
  if s.onActive c && s.member c == 1 then
    ((s.setMember c 2).raise F.DSF_BOND_EVENT_SUSPEND F.DSF_BOND_EVENT_EVCNT_SUSPEND 0).notify 3 0x0009 (c + cause * 256) 0
  else s

/-- SUSPENDED to ACTIVE where the channel is in SYNC with its skew inside the limit; the row that calls this has its position
advancing (R127). -/
def State.bondRejoin (s : State) (c : Nat) : State :=
  if s.onActive c && s.member c == 2 && s.inSync c && s.fld F.LTB_CH_OFS_SKEW_EXCEEDED c == 0 then s.setMember c 1 else s

/-- ACT adds a channel (R127, R159). -/
def State.bondAdd (s : State) (c : Nat) : State := if s.member c == 0 then s.setMember c 1 else s

/-- ACT parks a member from a frame (R127). -/
def State.bondPark (s : State) (c fp : Nat) : State :=
  if s.member c == 1 then
    { s.setMember c 3 with dsf := { s.dsf with parkAt := SMap.insert s.dsf.parkAt c fp } }
  else if s.member c == 2 then s.setMember c 0
  else s

/-- A park agreed but not reached is taken back: the PARKING member is ACTIVE again (R166). -/
def State.bondUnpark (s : State) (c : Nat) : State :=
  let s1 := if s.onActive c && s.member c == 3 then s.setMember c 1 else s
  { s1 with dsf := { s1.dsf with parkAt := SMap.erase s1.dsf.parkAt c } }

/-- ACT removes a member (R127). -/
def State.bondRemove (s : State) (c : Nat) : State := if s.onActive c then s.setMember c 0 else s

/-- SKEW_EXCEEDED suspends ACTIVE members (R30, R127). -/
def State.bondSkew (s : State) : State :=
  (List.range 4).foldl (fun t k =>
    let c := t.chanOf k
    if t.fld F.LTB_CH_OFS_SKEW_EXCEEDED c == 1 then t.suspend c 4 else t) s

end Sys2Proof.Machine
end

