-- ==== Sys2Proof/Machine/CdyOps.lean ====
section
/-!
DEFINITION. Sys2Proof/Machine/CdyOps.lean: the Caddy's key slots (R362 to R366) and CPH's use of them (R367 to R370), as other units
need them. Key material is state; no register, record or event carries it.
-/
namespace Sys2Proof.Machine

def State.setSlot (s : State) (n : Nat) (x : Slot) : State := { s with cdy := SMap.put s.cdy n x (slotAtRest n) }

/-- The usage of a slot in the order of R362's rows. -/
def slotUsage (n : Nat) : Nat :=
  if n < 0x010 then 0 else if n < 0x020 then 1 else if n < 0x038 then 2 else if n < 0x03F then 3
  else if n = 0x03F then 4 else if n = 0x040 then 5 else if n < 0x080 then 6 else 7

/-- The slot of channel c's unicast key of index i (1 or 2), of its group key, and of its KEK (R362). -/
def ponSlot (c i : Nat) : Nat := 2 * c + i - 1
def groupSlot (c i : Nat) : Nat := 0x010 + 2 * c + i - 1
def kekSlot (c : Nat) : Nat := 0x022 + 3 * c

def ponKeyEmpty : PonKey := ⟨0, none, none, false, false⟩
def State.ponKey (s : State) (n : Nat) : PonKey := SMap.get s.cph.pon n ponKeyEmpty
def State.setPonKey (s : State) (n : Nat) (k : PonKey) : State :=
  { s with cph := { s.cph with pon := SMap.put s.cph.pon n k ponKeyEmpty } }

/-- CPH_PON_CHn_KEY.HELD and SPENT follow the slots. -/
def State.showPon (s : State) (c : Nat) : State :=
  let u := s.fld F.CPH_PON_CH_KEY_UP_INDEX c
  (s.setFld F.CPH_PON_CH_KEY_HELD c (b2n ((s.slot (ponSlot c 1)).st != 0) + 2 * b2n ((s.slot (ponSlot c 2)).st != 0))).setFld
    F.CPH_PON_CH_KEY_SPENT c (b2n (u != 0 && (s.ponKey (ponSlot c u)).spent))

/-- The PON keys of a channel are emptied: its data, group, integrity and key-encryption keys (R362). -/
def State.dropPonKeys (s : State) (c : Nat) : State :=
  let s1 := [ponSlot c 1, ponSlot c 2, groupSlot c 1, groupSlot c 2, 0x020 + 3 * c, 0x021 + 3 * c, kekSlot c].foldl
    (fun t n => (t.setSlot n slotEmpty).setPonKey n ponKeyEmpty) s
  let s2 := { s1 with cph := { s1.cph with named := SMap.erase s1.cph.named c } }
  (s2.setFld F.CPH_PON_CH_KEY_UP_INDEX c 0).showPon c

/-- The Caddy derives a channel's integrity keys and KEK when the channel gets its ONU-ID (R362, log entry 21); the values are free. -/
def State.deriveKeys (s : State) (c : Nat) : State :=
  [0x020 + 3 * c, 0x021 + 3 * c, kekSlot c].foldl
    (fun t n => let r := t.takeFree; r.2.setSlot n ⟨1, r.1, false, none, 0⟩) s

/-- The keys of a channel move to another with its context (R162). -/
def State.moveKeys (s : State) (a b : Nat) : State :=
  let u := s.fld F.CPH_PON_CH_KEY_UP_INDEX a
  let pairs := [(ponSlot a 1, ponSlot b 1), (ponSlot a 2, ponSlot b 2), (groupSlot a 1, groupSlot b 1), (groupSlot a 2, groupSlot b 2),
    (0x020 + 3 * a, 0x020 + 3 * b), (0x021 + 3 * a, 0x021 + 3 * b), (kekSlot a, kekSlot b)]
  let s1 := pairs.foldl (fun t p => (t.setSlot p.2 (s.slot p.1)).setPonKey p.2 (s.ponKey p.1)) s
  let s2 := match SMap.find s1.cph.named a with
    | some x => { s1 with cph := { s1.cph with named := SMap.insert s1.cph.named b x } }
    | none => s1
  ((s2.setFld F.CPH_PON_CH_KEY_UP_INDEX b u).showPon b).dropPonKeys a

/-- The event PON_KEY (R383): 0 SWITCHED, 1 SPENT, 2 REFUSED. -/
def State.ponKeyEvent (s : State) (c i cause frame : Nat) : State :=
  (s.raise F.CPH_EVENT_PON_KEY F.CPH_EVENT_EVCNT_PON_KEY 0).notify 0x0B 0x0003 (c + i * 256 + cause * 4096) (frame % 2 ^ 32)

/-- BUS_FAULT (R364, R383). -/
def State.keyBusFault (s : State) (n : Nat) : State :=
  (s.raise F.CDY_EVENT_BUS_FAULT F.CDY_EVENT_EVCNT_BUS_FAULT 0).faultEvent 0x11 0x00F1 (errUnit 0x11) n 0

/-! SAs. -/

def saOff : Sa := ⟨0, 0, 0, false, 0, 0, 0, 0, 0, 0, 0, 0, 0, 0, false, false, false, 0, 0, 0, 0⟩
def State.sa (s : State) (n : Nat) : Sa := SMap.get s.cph.sas n saOff
def State.setSa (s : State) (n : Nat) (x : Sa) : State := { s with cph := { s.cph with sas := SMap.put s.cph.sas n x saOff } }

/-- The SA goes to OFF and its slot is unbound (R372). -/
def State.saToOff (s : State) (n : Nat) : State :=
  let x := s.sa n
  let s1 := s.setSa n saOff
  let other := s1.cph.sas.any (fun p => p.2.st != 0 && p.2.slot == x.slot)
  if x.st = 0 ∨ other then s1 else
  let k := s1.slot x.slot
  if k.st = 2 then s1.setSlot x.slot { k with st := 1 } else s1

/-- An SA's loss of its slot takes it OFF; the port whose SA in use it was has none (R365, R372). -/
def State.saLost (s : State) (n : Nat) : State :=
  let x := s.sa n
  let s1 := s.setSa n saOff
  if x.dir = 1 ∧ s.fld F.CPH_P_TXSA_VALID x.port = 1 ∧ s.fld F.CPH_P_TXSA_SA x.port = n then s1.setFld F.CPH_P_TXSA_VALID x.port 0 else s1

/-- A slot whose storage fails its check is emptied, SLOT_MEM is written, and what used it loses it: its SAs go OFF, or the PON key is lost to its channel (R365). -/
def State.slotFails (s : State) (n tile mac row : Nat) : State :=
  let bound := (s.slot n).st == 2
  let s1 := ((s.setSlot n slotEmpty).raise F.CDY_EVENT_SLOT_MEM F.CDY_EVENT_EVCNT_SLOT_MEM 0).faultEvent 0x11 0x00F0
    (errLoc 0x11 tile mac row) n (b2n bound)
  let s2 := s1.cph.sas.foldl (fun t p => if p.2.st != 0 && p.2.slot == n then t.saLost p.1 else t) s1
  if n < 0x020 then (s2.setPonKey n ponKeyEmpty).showPon (n % 16 / 2) else s2

/-- One transfer over the private key bus (R364): true where the key is loaded. -/
def State.fetchKey (s : State) (n : Nat) : KeyFetch → Bool × State
  | .ok => (true, s)
  | .busFault => (false, s.keyBusFault n)
  | .slotMem t m r => (false, s.slotFails n t m r)

/-- A PON key slot is bound: its key is transferred at once, or as the CPH domain wakes where that is not ON (R364, R444). -/
def State.bindKey (s : State) (n : Nat) (f : KeyFetch) : Bool × State :=
  if s.dom 11 0 == 2 then s.fetchKey n f else (true, s.hwDemand 11 0)

/-! XGEM payload (R368 to R370). -/

/-- The entry of the Port-ID key table. -/
def State.portKey (s : State) (e : Nat) : Nat := SMap.get s.cph.ports e 0

/-- A downstream XGEM frame by its key index (R368): passed, or discarded and counted on its channel. -/
def State.ponDecrypt (s : State) (c e idx : Nat) : Bool × State :=
  let k := s.portKey e
  match idx with
  | 0 => if bit k 0 then (false, s.satAdd F.CPH_PON_CH_COUNT_CLEAR_REFUSED c 1) else (true, s)
  | 3 => (false, s.satAdd F.CPH_PON_CH_COUNT_BAD_INDEX c 1)
  | i =>
    let n := if bit k 1 then groupSlot c i else ponSlot c i
    if (s.slot n).st = 0 ∨ (s.ponKey n).failed then (false, s.satAdd F.CPH_PON_CH_COUNT_NO_KEY c 1) else (true, s)

/-- A key may encrypt a burst of frame k: within its lifetime and above the highest frame encrypted under it (R370). -/
def PonKey.allows (x : PonKey) (k : Nat) : Bool :=
  !x.spent && (match x.first with | some f => decide (k < f + x.life) | none => true) &&
    (match x.highest with | some h => decide (h < k) | none => true)

/-- The upstream key of a channel at the start of a burst of frame k (R369, R370): the index to encrypt under, or none where the key is
absent or spent; a key that may not serve becomes spent, with the PON_KEY event. -/
def State.ponForBurst (s : State) (c k : Nat) : Option Nat × State :=
  let u := s.fld F.CPH_PON_CH_KEY_UP_INDEX c
  let n := ponSlot c u
  let x := s.ponKey n
  if u = 0 ∨ (s.slot n).st = 0 ∨ x.failed then (none, s)
  else if x.allows k then
    (some u, s.setPonKey n { x with first := some (x.first.getD k), highest := some k })
  else if x.spent then (none, s)
  else (none, ((s.setPonKey n { x with spent := true }).showPon c).ponKeyEvent c u 1 k)

end Sys2Proof.Machine
end

