-- ==== Sys2Proof/Machine/Ube.lean ====
section
/-!
DEFINITION. Sys2Proof/Machine/Ube.lean: upstream bursts as every unit needs them: modes (R174), contexts (R187), the withdrawal of
bursts (R178), fragment remainders (R182), upstream PLOAM messages (R181) and the planning of a burst (R173 to R180).
-/
namespace Sys2Proof.Machine

def State.setActCh (s : State) (c : Nat) (x : ActCh) : State :=
  { s with act := { s.act with chans := SMap.put s.act.chans c x actChEmpty } }

def State.setWhsCh (s : State) (c : Nat) (x : WhsCh) : State :=
  { s with whs := { s.whs with chans := SMap.put s.whs.chans c x whsChEmpty } }

/-- Linear line time now (R26). -/
def State.lin (s : State) : Int := ((stampLin s.stamp : Nat) : Int)

/-! Modes (R174). -/

/-- XGEM frames a burst has dequeued. -/
def Burst.dequeued (b : Burst) : Nat := (b.parts.map (fun p => p.frames.length)).foldl (· + ·) 0

/-- Payload bytes of one allocation: those of its XGEM frames, idle ones apart. -/
def AllocPart.payload (p : AllocPart) : Nat := (p.frames.map (fun f => if f.idle then 0 else f.len)).foldl (· + ·) 0

/-- A mode change to OFF or HELD (R178): PLANNED bursts retire and count in STATE, FILLING and HANDED ones whose BEN has not risen
are withdrawn and their frames count as lost. -/
def State.ubeFollow (s : State) (c : Nat) : State :=
  if s.ubeMode c = 0 ∨ s.ubeMode c = 4 then
    let bs := (s.ubeCh c).bursts
    let out := bs.filter (fun b => b.phase < 4)
    if out.isEmpty then s else
    let s1 := s.setUbeCh c { s.ubeCh c with bursts := bs.filter (fun b => b.phase == 4), joinable := false }
    let planned := (out.filter (fun b => b.phase == 1)).length
    let lost := ((out.filter (fun b => b.phase != 1)).map Burst.dequeued).foldl (· + ·) 0
    (s1.satAdd F.UBE_CH_DISC_STATE c planned).satAdd F.UBE_CH_LOSS_FRAMES c lost
  else s

/-- Every channel's bursts follow its mode. -/
def State.ubeFollowAll (s : State) : State := (List.range 8).foldl (fun t c => t.ubeFollow c) s

/-! Profiles (R175). -/

def profFields : Nat → Fld × Fld × Fld × Fld × Fld
  | 0 => (F.UBE_CH_PROF0_VALID, F.UBE_CH_PROF0_RATE, F.UBE_CH_PROF0_FEC, F.UBE_CH_PROF0_DEL_BYTES, F.UBE_CH_PROF0_PRE_BITS)
  | 1 => (F.UBE_CH_PROF1_VALID, F.UBE_CH_PROF1_RATE, F.UBE_CH_PROF1_FEC, F.UBE_CH_PROF1_DEL_BYTES, F.UBE_CH_PROF1_PRE_BITS)
  | 2 => (F.UBE_CH_PROF2_VALID, F.UBE_CH_PROF2_RATE, F.UBE_CH_PROF2_FEC, F.UBE_CH_PROF2_DEL_BYTES, F.UBE_CH_PROF2_PRE_BITS)
  | _ => (F.UBE_CH_PROF3_VALID, F.UBE_CH_PROF3_RATE, F.UBE_CH_PROF3_FEC, F.UBE_CH_PROF3_DEL_BYTES, F.UBE_CH_PROF3_PRE_BITS)

/-- Profile k of a channel, where one has been received. -/
def State.profile (s : State) (c k : Nat) : Option Profile := SMap.find (s.ubeCh c).profs k

/-- Load profile k of a channel: the profile itself, and what UBE_CHn_PROFk shows of it (R175, R206). -/
def State.setProfile (s : State) (c k : Nat) (p : Option Profile) : State :=
  let f := profFields k
  match p with
  | some q =>
    let t := s.setUbeCh c { s.ubeCh c with profs := SMap.insert (s.ubeCh c).profs k q }
    ((((t.setFld f.1 c 1).setFld f.2.1 c q.rate).setFld f.2.2.1 c (b2n q.fec)).setFld f.2.2.2.1 c q.delBytes).setFld f.2.2.2.2 c q.preBits
  | none =>
    let t := s.setUbeCh c { s.ubeCh c with profs := SMap.erase (s.ubeCh c).profs k }
    ((((t.setFld f.1 c 0).setFld f.2.1 c 0).setFld f.2.2.1 c 0).setFld f.2.2.2.1 c 0).setFld f.2.2.2.2 c 0

/-- UBE_CHn_STATUS.PROF_VALID follows the profiles. -/
def State.showProfiles (s : State) (c : Nat) : State :=
  s.setFld F.UBE_CH_STATUS_PROF_VALID c
    ((List.range 4).foldl (fun m k => m + b2n (s.profile c k).isSome * 2 ^ k) 0)

/-- Burst profiles are discarded (R149). -/
def State.dropProfiles (s : State) (c : Nat) : State :=
  ((List.range 4).foldl (fun t k => t.setProfile c k none) s).showProfiles c

/-- The rate of a channel's first valid profile, as a power of two of 12.4416 Gb/s (R163; log entry 20). -/
def State.profileRate (s : State) (c : Nat) : Nat :=
  match (List.range 4).filterMap (fun k => s.profile c k) with
  | [] => 0
  | p :: _ => p.rate

/-- Delay units per bit of a rate: 4, 2, 1 (R175). -/
def duPerBit (rate : Nat) : Nat := match rate with | 0 => 4 | 1 => 2 | _ => 1

/-- The overhead P of a profile in bits (R175). -/
def profOverhead (p : Profile) : Nat := p.preBits + 8 * p.delBytes

/-! Upstream PLOAM messages and fragments. -/

/-- The fragment remainders of dropped Alloc-IDs are discarded and counted (R182, R185). -/
def State.dropFragments (s : State) (c : Nat) (allocs : List Nat) : State :=
  allocs.foldl (fun t a =>
    match SMap.find (t.ubeCh c).rem a with
    | none => t
    | some (n, _) =>
      let t1 := t.setUbeCh c { t.ubeCh c with rem := SMap.erase (t.ubeCh c).rem a }
      (((t1.satAdd F.UBE_CH_DISC2_FRAG_DROP c 1).raise F.UBE_EVENT_FRAG_DROP F.UBE_EVENT_EVCNT_FRAG_DROP 0).notify 5 0x0003
        (c + a % 1024 * 65536) n)) s

/-! Contexts (R187, R189). -/

/-- The permission that follows from a channel's state (R189): 0 NONE, 1 DARK, 2 SN, 3 RANGE, 4 FULL. -/
def State.permOf (s : State) (c : Nat) : Nat :=
  let st := s.act_st c
  if st = 0 ∨ st = 0x54 ∨ !s.onActive c then 0
  else if st = 0x23 then 2
  else if st = 0x40 ∨ st = 0x90 then 3
  else if st = 0x51 ∨ st = 0x52 then 4
  else 1

/-- The context ACT holds for a channel, tagged and named (R187). -/
def State.contextNow (s : State) (c seq first : Nat) : Ctx :=
  { seq := seq, first := first, perm := s.permOf c, onu := s.fld F.ACT_CH_STATUS_ONU_ID c, allocs := (s.actCh c).allocs,
    eqd := s.fld F.ACT_CH_EQD_EQD c, cal := s.fld F.ACT_CH_CAL_CAL c, profs := (List.range 4).map (fun k => s.profile c k),
    lead := s.fld F.LLN_TX_CFG_LEAD c, lag := s.fld F.LLN_TX_CFG_LAG c, rand := s.fld F.ACT_CFG_RAND_MAX_US 0 }

/-- While the Whistle's time state is UNKNOWN or the dark signal is in force an assigned channel is treated as DARK (R189). -/
def State.permInForce (s : State) (c : Nat) : Nat :=
  if s.tstate = 2 ∨ s.fld F.PWR_STATUS_DARK 0 = 1 then min 1 (s.whsPerm c) else s.whsPerm c

/-- The Whistle releases TX_DISABLE of a lane (R189, R196). -/
def State.txReleased (s : State) (c : Nat) : Bool :=
  (s.fld F.WHS_STATUS_STATE 0 == 2 || (s.fld F.WHS_STATUS_STATE 0 == 3 && !bit (s.fld F.WHS_STATUS_ROGUE 0) c)) &&
    s.whsPerm c != 0 && !s.gapHold c && s.whs.force.limits.getD c 0 != 0

/-- TX_DISABLE of every lane takes the level the Whistle's state calls for, and UBE's modes follow (R174, R189). -/
def State.whsApply (s : State) : State :=
  (s.setFld F.WHS_STATUS_TXDIS 0
    ((List.range 8).foldl (fun m c => m + b2n (!s.txReleased c) * 2 ^ c) 0)).ubeFollowAll

/-- WHS_STATUS.RELEASE_SEEN (R198): an enabling message on a channel of the active path after the latch was set, over the link. -/
def State.releaseSeen (s : State) (c : Nat) : State :=
  if s.linkOk && s.whs.latch.isSome && s.onActive c then s.setFld F.WHS_STATUS_RELEASE_SEEN 0 1 else s

/-- PRT is in steady state: OFF, WORK or PROT (R417). -/
def State.prtSteady (s : State) : Bool := s.fld F.PRT_STATUS_STATE 0 ≤ 2

/-! Placing a burst (R176, R177, R180). -/

/-- The linear line cycle and fine offset of a time in delay units (R155). -/
def duLc (b : Int) : Int := b / 40
def duFine (b : Int) : Nat := ((b % 40).toNat * 80375 + 40000) / 80000

/-- Length in line cycles of overhead P bits and G bytes at m delay units per bit (R177). -/
def burstLen (p g m : Nat) : Nat := (p + 8 * g + (40 / m - 1)) / (40 / m)

/-- The reference of R154 for the frame whose map is processed, with EqD 0 for a serial-number response (R153). -/
def State.burstRef (s : State) (c : Nat) (sn : Bool) : Int :=
  if sn then (s.actCh c).ref - ((s.actCh c).refEqd : Int) else (s.actCh c).ref

/-- The structure is for the terminal (R172). -/
def State.forTerminal (s : State) (a : AllocStruct) : Bool :=
  decide (a.alloc ∈ (s.actCh a.chan).allocs) || (a.bcast && s.ubeMode a.chan == 1)

/-- The mode turns the structure into a burst (R174). -/
def State.modeAdmits (s : State) (a : AllocStruct) : Bool :=
  match s.ubeMode a.chan with
  | 1 => a.bcast
  | 2 => a.alloc == s.fld F.ACT_CH_STATUS_ONU_ID a.chan
  | 3 => decide (a.alloc ∈ (s.actCh a.chan).allocs)
  | _ => false

/-- The random delay of R153: uniform over 0 to ⌊RAND_MAX_US × 49,766.4⌋ delay units; the draw is a free value. -/
def State.randomDelay (s : State) (rand : Nat) : Nat × State :=
  let r := s.takeFree
  (r.1 % (rand * 497664 / 10 + 1), r.2)

/-- Join a continuing allocation to the latest burst of its channel (R180): no preamble or delimiter of its own. -/
def joinLast (e : Int) (part : AllocPart) : List Burst → List Burst
  | [] => []
  | [b] => [{ b with len := max b.len (e - b.start).toNat, parts := b.parts ++ [part] }]
  | b :: bs => b :: joinLast e part bs

/-- The burst's planned BEN fall: LAG line cycles after the line cycle of its last bit. -/
def Burst.fall (b : Burst) : Int := b.start + b.len - 1 + b.lag

/-- FILL_LEAD in force for a burst planned now: 4,096 to 32,768 (R179, R206). -/
def State.fillLead (s : State) : Nat := max 4096 (min 32768 (s.fld F.UBE_CFG_FILL_LEAD 0))

/-- The content of an allocation with the parity of its profile's FEC, in bytes (R177). -/
def codedBytes (a : AllocStruct) (p : Profile) : Nat := a.bytes + if p.fec then a.parity else 0

/-- A burst that comes too soon is discarded: after a change of EqD it is counted once in EQD_SKIP (R157), else each structure of it in OVERLAP (R173, R180). -/
def State.countSoon (s : State) (c : Nat) (eqd first : Bool) : State :=
  if eqd then (if first then s.satAdd F.ACT_CH_COUNT_EQD_SKIP c 1 else s)
  else (s.satAdd F.UBE_CH_DISC_OVERLAP c 1).raise F.UBE_EVENT_OVERLAP F.UBE_EVENT_EVCNT_OVERLAP 0

/-- The burst a structure begins (R176, R177): for a serial-number response its reference takes the random delay (R153). -/
def State.newBurst (s : State) (a : AllocStruct) (p : Profile) (x : Ctx) (delay : Nat) : Burst :=
  let c := a.chan
  let m := duPerBit p.rate
  let sn := s.ubeMode c == 1
  let bt := s.burstRef c sn + a.startDu - ((profOverhead p * m : Nat) : Int) + delay
  { frame := (s.actCh c).refFrame, start := duLc bt, fine := duFine bt, len := burstLen (profOverhead p) (codedBytes a p) m, rate := p.rate,
    lead := x.lead, lag := x.lag, fillLead := s.fillLead, eqd := (s.actCh c).refEqd, profile := a.profile, phase := 1, onu := x.onu, key := none,
    response := if sn then some (.serialNumber delay) else if s.ubeMode c == 2 then some .registration else none,
    parts := [⟨a.alloc, a.bytes, a.dbru, 0, 0, []⟩], ploamu := none, wantPloamu := a.ploamu }

/-- The structure continues the latest burst of its channel (R180). -/
def State.joins (s : State) (a : AllocStruct) : Bool :=
  let u := s.ubeCh a.chan
  a.contiguous && u.joinable && (match u.bursts.getLast? with
    | some b => b.frame == (s.actCh a.chan).refFrame && b.profile == a.profile && b.phase == 1
    | none => false)

/-- A structure that passed R173's other checks becomes a burst of its channel, or joins the latest one; a burst whose BEN rise would come too soon
after the previous BEN fall is discarded with every allocation that continues it (R157, R176 to R180). -/
def State.planBurst (s : State) (a : AllocStruct) (p : Profile) (x : Ctx) : State :=
  let c := a.chan
  let u := s.ubeCh c
  if s.joins a then
    let e := duLc (s.burstRef c false + a.startDu) + burstLen 0 (codedBytes a p) (duPerBit p.rate)
    let bs := joinLast e ⟨a.alloc, a.bytes, a.dbru, 0, 0, []⟩ u.bursts
    s.setUbeCh c { u with bursts := bs, lastFall := bs.getLast?.map (fun b => (b.fall, b.eqd)) }
  else match (if a.contiguous then u.dropping else none) with
  | some eqd => s.countSoon c eqd false
  | none =>
    let r := if s.ubeMode c == 1 then s.randomDelay x.rand else (0, s)
    let b := r.2.newBurst a p x r.1
    match u.lastFall with
    | some (f, e) =>
      if b.start - b.lead < f + 8 then
        (r.2.countSoon c (e != b.eqd) true).setUbeCh c { u with joinable := false, dropping := some (e != b.eqd) }
      else r.2.setUbeCh c { u with bursts := u.bursts ++ [b], lastFall := some (b.fall, b.eqd), joinable := s.ubeMode c == 3, dropping := none }
    | none => r.2.setUbeCh c { u with bursts := u.bursts ++ [b], lastFall := some (b.fall, b.eqd), joinable := s.ubeMode c == 3, dropping := none }

/-- A discarded structure breaks the chain of continuing allocations. -/
def State.unjoin (s : State) (c : Nat) : State := s.setUbeCh c { s.ubeCh c with joinable := false, dropping := none }

/-- UBE takes one structure (R172 to R174, R180). -/
def State.ubeStructure (s : State) (a : AllocStruct) : State :=
  let c := a.chan
  let x := s.ctxFor c (s.actCh c).refFrame
  let p := x.bind (fun y => (y.profs.getD a.profile none))
  if !a.hecOk then
    ((s.satAdd F.UBE_CH_DISC_HEC c 1).raise F.UBE_EVENT_MAP_HEC F.UBE_EVENT_EVCNT_MAP_HEC 0).unjoin c
  else if !s.forTerminal a then s
  else if s.entryQuiet then s.unjoin c
  else if !s.modeAdmits a then (s.satAdd F.UBE_CH_DISC_STATE c 1).unjoin c
  else match x, p with
    | some y, some q =>
      if !a.inFrame then (s.satAdd F.UBE_CH_DISC2_RANGE c 1).unjoin c else s.planBurst a q y
    | _, _ => (s.satAdd F.UBE_CH_DISC_PROFILE c 1).unjoin c

/-! Lane reports (R178). -/

/-- The first burst of a channel in a phase, and the others. -/
def State.pullBurst (s : State) (c phase : Nat) : Option (Burst × List Burst) :=
  pullFirst (fun b => b.phase == phase) (s.ubeCh c).bursts

/-- The first burst in a phase is replaced where it stands. -/
def swapBurst (phase : Nat) (x : Burst) : List Burst → List Burst
  | [] => []
  | b :: bs => if b.phase = phase then x :: bs else b :: swapBurst phase x bs

/-- The lane reports a burst skipped or truncated (R178). -/
def State.burstLost (s : State) (c : Nat) (b : Burst) : State := s.satAdd F.UBE_CH_LOSS_FRAMES c b.dequeued

/-- The lane reports a burst sent: it is counted, and its payload in units of 64 bytes (R178); a serial-number response and a Registration are counted by ACT (R153,
R171). -/
def State.burstSent (s : State) (c : Nat) (b : Burst) : State :=
  let n := (s.ubeCh c).payBytes + (b.parts.map AllocPart.payload).foldl (· + ·) 0
  let s1 := (s.satAdd F.UBE_CH_BURSTS_BURSTS c 1).satAdd F.UBE_CH_PAYLOAD_UNITS c (n / 64)
  let s2 := match b.response with
    | some (.serialNumber _) => s1.satAdd F.ACT_CH_COUNT_SN_SENT c 1
    | some .registration => s1.satAdd F.ACT_CH_COUNT_RNG_SENT c 1
    | _ => s1
  s2.setUbeCh c { s2.ubeCh c with payBytes := n % 64 }

/-- Bursts are relative consumers (R184): on a delta every burst in PLANNED, FILLING or HANDED moves with it. -/
def State.ubeShift (s : State) (d : Int) : State :=
  (List.range 8).foldl (fun t c =>
    let u := t.ubeCh c
    t.setUbeCh c { u with
      bursts := u.bursts.map (fun b => { b with start := b.start + d })
      lastFall := u.lastFall.map (fun p => (p.1 + d, p.2)) }) s

/-- After "delta unknown" every stamp is treated as reached (R42, R178): PLANNED bursts retire. -/
def State.ubeUnknown (s : State) : State := s.ubeFollowAll

end Sys2Proof.Machine
end

