-- ==== Sys2Proof/Machine/Act.lean ====
section
/-!
DEFINITION. Sys2Proof/Machine/Act.lean: activation of each channel (R148 to R152), ranging (R156, R157), ONU-ID and Alloc-IDs (R158),
group membership (R159, R160), tuning (R161, R162), parking (R163 to R166) and the ACT commands (R167 to R169).
-/
namespace Sys2Proof.Machine

/-- State codes of R150. -/
def stDisabled : Nat := 0x00
def stO11 : Nat := 0x11
def stO12 : Nat := 0x12
def stO23 : Nat := 0x23
def stO4 : Nat := 0x40
def stO51 : Nat := 0x51
def stO52 : Nat := 0x52
def stO5P : Nat := 0x53
def stO5S : Nat := 0x54
def stO6 : Nat := 0x60
def stO7 : Nat := 0x70
def stO81 : Nat := 0x81
def stO82 : Nat := 0x82
def stO9 : Nat := 0x90

/-- ACT_STATUS.ASSOC and PARKED follow the states of the active path's channels. -/
def State.showAssoc (s : State) : State :=
  let mask (st : Nat) : Nat := (List.range 4).foldl (fun m k => m + b2n (s.act_st (s.chanOf k) == st) * 2 ^ k) 0
  if s.fld F.ACT_STATUS_PATH 0 = 0 then (s.setFld F.ACT_STATUS_ASSOC 0 0).setFld F.ACT_STATUS_PARKED 0 0
  else (s.setFld F.ACT_STATUS_ASSOC 0 (mask stO51)).setFld F.ACT_STATUS_PARKED 0 (mask stO5P)

/-- The length of an activation timer in line cycles (R151): TO2 in ms, the others in units of 10 ms; 0 is treated as 1. -/
def State.timerLc (s : State) (t : Nat) : Nat :=
  1244160 * (match t with
    | 1 => 10 * max 1 (s.fld F.ACT_TIMER_CFG0_TO1 0)
    | 2 => max 1 (s.fld F.ACT_TIMER_CFG0_TO2 0)
    | 3 => 10 * max 1 (s.fld F.ACT_TIMER_CFG1_TO3 0)
    | 4 => 10 * max 1 (s.fld F.ACT_TIMER_CFG1_TO4 0)
    | _ => 10 * max 1 (s.fld F.ACT_TIMER_CFG1_TO5 0))

/-- The timer of a channel starts (R151); 0 stops it. It counts line cycles of the core clock, which no step of the stamp moves and which stands still in a sleep, so
that a delta moves its deadline with it (R42). -/
def State.startTimer (s : State) (c t : Nat) : State := s.setActCh c { s.actCh c with timer := t, due := s.ltb.lc + s.timerLc t }

/-- The member mask of BOND_SET: bit [28] of each channel's status (R159, ACT_CHn_STATUS.MEMBER). -/
def State.inMask (s : State) (c : Nat) : Bool := s.fld F.ACT_CH_STATUS_MEMBER c == 1

/-- The channel is in O5.1: it joins the group if its mask bit is set (R159). -/
def State.joinGroup (s : State) (c : Nat) : State :=
  if s.act_st c == stO51 && s.inMask c && s.onActive c then s.bondAdd c else s

/-- A channel changes state: the register, the status bit, the STATE_CHANGE notification with its cause (R149, R170); burst
profiles are discarded on entry to O1.1 or DISABLED; UBE's mode and Simmer follow (R174, R450); in O5.1 it joins the group (R159). -/
def State.actTo (s : State) (c new cause : Nat) : State :=
  let old := s.act_st c
  if old = new then s else
  let s1 := ((s.setFld F.ACT_CH_STATUS_STATE c new).raise F.ACT_CH_EVENT_STATE_CHANGE F.ACT_CH_EVENT_EVCNT_STATE_CHANGE c).notify
    4 0x0001 (c + old * 256 + new * 65536) cause
  let s2 := if new = stO11 ∨ new = stDisabled then s1.dropProfiles c else s1
  (((s2.showAssoc).ubeFollow c).simmerFollow).joinGroup c

/-- Entry to O1.1, which goes on to O1.2 at once where the framing is already in SYNC (R149). -/
def State.actOffline (s : State) (c cause : Nat) : State :=
  let s1 := s.actTo c stO11 cause
  if s1.inSync c then s1.actTo c stO12 cause else s1

/-- O1.2 if in SYNC, else O1.1 (R149: Deactivate_ONU-ID, release of the emergency stop). -/
def State.actRestart (s : State) (c cause : Nat) : State :=
  if s.inSync c then s.actTo c stO12 cause else s.actTo c stO11 cause

/-- Drop the ONU-ID and the Alloc-IDs (R149, R158): fragment remainders of the Alloc-IDs are dropped with them (R182). -/
def State.dropOnu (s : State) (c : Nat) : State :=
  let s1 := (s.setFld F.ACT_CH_STATUS_ONU_ID c 0x3FF).setFld F.ACT_CH_STATUS_ALLOCS c 0
  let s2 := s1.dropFragments c (s.actCh c).allocs
  s2.setActCh c { s2.actCh c with allocs := [] }

/-- Drop ONU-ID, EqD and Alloc-IDs (R149). -/
def State.dropContext (s : State) (c : Nat) : State :=
  let s1 := ((s.dropOnu c).setFld F.ACT_CH_EQD_VALID c 0).setFld F.ACT_CH_EQD_EQD c 0
  ((s1.setActCh c { s1.actCh c with parkAt := none, unparkAt := none, parkDue := none, parked := false, timer := 0 }).dropPonKeys c).timGone c

/-- A PARK_OUTCOME notification: 0 agreed, 1 refused, 2 no answer, 3 late (R170). -/
def State.parkOutcome (s : State) (c : Nat) (park own abandoned : Bool) (what frame : Nat) : State :=
  s.notify 4 0x0005 (c + b2n park * 256 + what * 512 + b2n own * 2048 + b2n abandoned * 4096) (frame % 2 ^ 32)

/-- The RESULT of a settled PARK (R167). -/
def parkResult (agreed : Bool) (how frame : Nat) : Nat := b2n agreed * 2 ^ 31 + how * 2 ^ 29 + frame % 2 ^ 29

/-- The exchange ends with an outcome, and the host's PARK completes with OK (R164, R165). After a refusal or no answer the channel's next own request waits a further
window. -/
def State.settle (s : State) (x : Exchange) (agreed abandoned : Bool) (what frame : Nat) : State :=
  let s1 : State := { s with act := { s.act with
      exchange := none,
      waiting := if !agreed && !abandoned then x.chan :: s.act.waiting else s.act.waiting } }
  let s2 := s1.parkOutcome x.chan x.park x.own abandoned what frame
  match x.desc with
  | none => s2
  | some d => s2.finish d stOk (parkResult agreed (if abandoned then 3 else what) frame)

/-- An exchange pending on a channel is abandoned (R164, R166). -/
def State.abandonOn (s : State) (c : Nat) : State :=
  match s.act.exchange with
  | some x => if x.chan = c then s.settle x false true 2 0 else s
  | none => s

/-- PARK_PENDING and the agreed frames of a channel are cleared. -/
def State.clearAgreed (s : State) (c : Nat) : State :=
  let s1 := s.setActCh c { s.actCh c with parkAt := none, unparkAt := none, parkDue := none }
  s1.setFld F.ACT_CH_STATUS_PARK_PENDING c 0

/-- A park or an unpark agreed for a frame not yet reached is abandoned (R164, R166): a member on its way out is ACTIVE again. -/
def State.abandonAgreed (s : State) (c : Nat) : State :=
  let x := s.actCh c
  if x.parkAt.isSome then ((s.parkOutcome c true x.own true 2 0).bondUnpark c).clearAgreed c
  else if x.unparkAt.isSome then (s.parkOutcome c false x.own true 2 0).clearAgreed c
  else s

/-- TUNE_OUTCOME (R170). -/
def State.tuneOutcome (s : State) (src tgt : Nat) (done : Bool) : State :=
  s.notify 4 0x0006 (src + tgt * 16 + b2n done * 256) 0

/-- A tuning fails on its target (R149, R162): the context is dropped, the target goes to DISABLED, the source restarts at O1.1. -/
def State.tuneFail (s : State) (t cause : Nat) : State :=
  match (s.actCh t).tunedFrom with
  | none => s
  | some src =>
    let s1 := s.dropContext t
    let s2 := (s1.setActCh t { s1.actCh t with tunedFrom := none }).actTo t stDisabled cause
    (s2.actOffline src cause).tuneOutcome src t false

/-- DSF has declared LOS or LOF on a channel (R149, R166). -/
def State.lods (s : State) (c : Nat) : State :=
  let st := s.act_st c
  if st = stO12 ∨ st = stO23 then s.actOffline c 2
  else if st = stO4 then ((s.dropOnu c).startTimer c 0).actOffline c 2
  else if st = stO51 ∨ st = stO52 ∨ st = stO5P then
    let s1 := (s.abandonOn c).abandonAgreed c
    let s2 := (s1.setActCh c { s1.actCh c with parked := st == stO5P, tuning := none }).startTimer c 2
    (s2.setFld F.ACT_CH_STATUS_TUNE_PENDING c 0).actTo c stO6 2
  else if st = stO82 ∨ st = stO9 then s.tuneFail c 2
  else s

/-- The channel's framing enters SYNC (R149). -/
def State.syncGained (s : State) (c : Nat) : State :=
  let st := s.act_st c
  if st = stO11 then s.actTo c stO12 4
  else if st = stO6 then
    let s1 := s.startTimer c 0
    (s1.setActCh c { s1.actCh c with parked := false }).actTo c (if (s.actCh c).parked then stO5P else stO51) 4
  else if st = stO81 then (s.startTimer c 4).actTo c stO82 6
  else s

/-- ACT_CHn waits in O1.2 for a profile whose rate is enabled while the time is not UNKNOWN (R149). -/
def State.actRecheck (s : State) (c : Nat) : State :=
  if s.act_st c = stO12 ∧ s.onActive c ∧ s.tstate ≠ 2 ∧
      (List.range 4).any (fun k => match s.profile c k with | some p => bit (s.fld F.LLN_TX_CFG_RATE_EN c) p.rate | none => false) then
    s.actTo c stO23 1
  else s

/-- A negative acknowledgement is sent (R156, R158, R161, R164). -/
def State.nack (s : State) (c : Nat) : State :=
  (s.sendPloam c .nack).raise F.ACT_CH_EVENT_NACK_SENT F.ACT_CH_EVENT_EVCNT_NACK_SENT c

/-! Pre-ranged standby (R410). -/

/-- The standby channel of a number. -/
def State.standbyChan (s : State) (k : Nat) : Nat := 4 * (2 - s.fld F.ACT_STATUS_PATH 0) + k

/-- EqD of a standby channel times 65,536 (R410). -/
def State.standbyEqd (s : State) (k : Nat) : Int :=
  let w := s.chanOf k
  let b := s.standbyChan k
  (s.fld F.ACT_CH_EQD_EQD w : Int) * 65536 - 40 * (s.ofs b - s.ofs w) * (65536 + (s.fld F.PRT_SB_CFG_RUP 0 : Int)) +
    signed 24 (s.fld F.PRT_CH_EQD_ADJ_ADJ k) * 65536

/-- PRT loads a standby channel (R410): first from O1.2, which leads to O5.S, then again in O5.S. A fraction of a delay unit is rounded one way
or the other, as a free value says. An EqD outside R156's range is not loaded. -/
def State.standbyLoad (s : State) (k : Nat) : State :=
  let w := s.chanOf k
  let b := s.standbyChan k
  let stW := s.act_st w
  let stB := s.act_st b
  if s.fld F.PRT_SB_CFG_PRERANGE 0 = 0 ∨ s.fld F.PRT_STATUS_STATE 0 = 0 ∨ s.fld F.ACT_STATUS_PATH 0 = 0 ∨
      !(stW = stO51 ∨ ((stW = stO52 ∨ stW = stO5P) ∧ stB = stO5S)) ∨ !(stB = stO12 ∨ stB = stO5S) ∨
      s.fld F.LTB_CH_OFS_VALID b = 0 ∨ s.fld F.LTB_CH_OFS_VALID w = 0 then s
  else
    let e := s.standbyEqd k
    let r := if e % 65536 = 0 then (0, s) else s.takeFree
    let eqd := e / 65536 + ((r.1 % 2 : Nat) : Int)
    if eqd < 0 ∨ 16777215 < eqd then r.2
    else
      let as := (s.actCh w).allocs
      let s1 := (((r.2.setFld F.ACT_CH_STATUS_ONU_ID b (s.fld F.ACT_CH_STATUS_ONU_ID w)).setFld F.ACT_CH_STATUS_ALLOCS b as.length).setFld
        F.ACT_CH_EQD_VALID b 1).setFld F.ACT_CH_EQD_EQD b eqd.toNat
      let s2 := s1.setActCh b { s1.actCh b with allocs := as }
      let s3 := ((List.range 4).foldl (fun t i => t.setProfile b i (s.profile w i)) s2).showProfiles b
      if stB = stO12 then (s3.deriveKeys b).actTo b stO5S 7 else s3

/-! Messages of the head end. -/

/-- ASSIGN_ONU_ID (R149, R158): in O2-3, naming the terminal's serial number; with an equalisation delay pre-assigned, Registration uses it, else 0. -/
def execAssignOnuId (c onu : Nat) (eqd : Option Nat) (m : Ploam) (s : State) : Host.Outcome State Fault Refusal :=
  .next <| s.ploam c m fun s =>
    if s.act_st c = stO23 then
      let s1 := ((s.setFld F.ACT_CH_STATUS_ONU_ID c onu).setFld F.ACT_CH_STATUS_ALLOCS c 1).setFld F.ACT_CH_EQD_EQD c (eqd.getD 0)
      let s2 := (s1.setActCh c { s1.actCh c with allocs := [onu] }).startTimer c 1
      ((s2.deriveKeys c).actTo c stO4 1).notify 4 0x0002 (c + onu * 65536) 0
    else s

/-- RANGING_TIME (R149, R156, R157): an EqD inside 0 to 16,777,215 DU is loaded; in O4 and O9 the channel becomes associated; any
other value is negatively acknowledged. The standby channel's EqD follows (R410). -/
def execRangingTime (c : Nat) (eqd : Int) (m : Ploam) (s : State) : Host.Outcome State Fault Refusal :=
  .next <| s.ploam c m fun s =>
    let st := s.act_st c
    if !(st = stO4 ∨ st = stO51 ∨ st = stO52 ∨ st = stO5P ∨ st = stO9) then s
    else if eqd < 0 ∨ 16777215 < eqd then s.nack c
    else
      let s1 := ((s.setFld F.ACT_CH_EQD_VALID c 1).setFld F.ACT_CH_EQD_EQD c eqd.toNat).notify 4 0x0003 c eqd.toNat
      let s4 :=
        if st = stO4 then (s1.startTimer c 0).actTo c stO51 1
        else if st = stO9 then
          let s2 := (s1.startTimer c 0).actTo c stO51 6
          match (s.actCh c).tunedFrom with
          | none => s2
          | some src => (s2.setActCh c { s2.actCh c with tunedFrom := none }).tuneOutcome src c true
        else s1
      if s4.onActive c then s4.standbyLoad (c % 4) else s4

/-- ASSIGN_ALLOC_ID (R158): adds an entry, at most 256 on a channel, or removes one with its fragment remainder (R182). The default Alloc-ID is held as long as the
ONU-ID. -/
def execAssignAllocId (c alloc : Nat) (add : Bool) (m : Ploam) (s : State) : Host.Outcome State Fault Refusal :=
  .next <| s.ploam c m fun s =>
    let as := (s.actCh c).allocs
    if s.fld F.ACT_CH_STATUS_ONU_ID c = 0x3FF then s
    else if add then
      if alloc ∈ as then s
      else if 256 ≤ as.length then
        ((s.nack c).raise F.ACT_CH_EVENT_ALLOC_FULL F.ACT_CH_EVENT_EVCNT_ALLOC_FULL c).notify 4 0x0007 c alloc
      else
        (s.setActCh c { s.actCh c with allocs := as ++ [alloc] }).setFld F.ACT_CH_STATUS_ALLOCS c (as.length + 1)
    else if alloc ∈ as ∧ alloc ≠ s.fld F.ACT_CH_STATUS_ONU_ID c then
      let s1 := (s.dropFragments c [alloc]).setFld F.ACT_CH_STATUS_ALLOCS c (as.length - 1)
      s1.setActCh c { s1.actCh c with allocs := as.filter (fun a => a != alloc) }
    else s

/-- States O4 to O6, O8 and O9 (R149). -/
def holdsContext (st : Nat) : Bool :=
  st == stO4 || st == stO51 || st == stO52 || st == stO5P || st == stO5S || st == stO6 || st == stO81 || st == stO82 || st == stO9

/-- The context is dropped and the member removed, with any exchange or tuning abandoned (R149, R166). -/
def State.deactivate (s : State) (c : Nat) : State :=
  let s1 := ((((s.abandonOn c).abandonAgreed c).dropContext c).bondRemove c).setFld F.ACT_CH_STATUS_TUNE_PENDING c 0
  s1.setActCh c { s1.actCh c with tuning := none, tunedFrom := none }

/-- DEACTIVATE_ONU_ID (R149). -/
def execDeactivateOnuId (c : Nat) (m : Ploam) (s : State) : Host.Outcome State Fault Refusal :=
  .next <| s.ploam c m fun s => if holdsContext (s.act_st c) then (s.deactivate c).actRestart c 1 else s

/-- EMERGENCY_STOP notification (R170). -/
def State.emergency (s : State) (c : Nat) (entered : Bool) : State := s.notify 4 0x0008 (c + b2n entered * 256) 0

/-- An intact message that enables the terminal's serial number shows in RELEASE_SEEN whatever the channel's state (R198). -/
def State.seeRelease (s : State) (c : Nat) (m : Ploam) : State :=
  if s.fld (engRunning 0) 0 = 0 ∨ m.lost ∨ !m.mic ∨ !(s.addressed c m.dest || m.dest == .serial s.serial) then s else s.releaseSeen c

/-- DISABLE_SERIAL_NUMBER (R149, R198): disabling, from O2-3 to O6, O8 and O9, enters O7 with ESTOP; enabling, in O7, releases it.
An enabling message after the Whistle's latch was set shows in RELEASE_SEEN. -/
def execDisableSerialNumber (c : Nat) (disable : Bool) (m : Ploam) (s : State) : Host.Outcome State Fault Refusal :=
  .next <| (if disable then s else s.seeRelease c m).ploam c m fun s =>
    let st := s.act_st c
    if disable then
      (if st = stO23 ∨ holdsContext st then
        (((s.deactivate c).setFld F.ACT_CH_STATUS_ESTOP c 1).actTo c stO7 1).emergency c true
       else s)
    else if st = stO7 then ((s.setFld F.ACT_CH_STATUS_ESTOP c 0).actRestart c 1).emergency c false
    else s

/-- A tuning request is accepted (R161): the source in O5.1 with nothing of a park on it, the target a DISABLED channel of the active path with both lanes enabled and no
emergency stop, downstream and upstream together. -/
def State.tunable (s : State) (c target : Nat) (both : Bool) : Bool :=
  s.act_st c == stO51 && s.fld F.ACT_CH_STATUS_PARK_PENDING c == 0 &&
    (match s.act.exchange with | some x => x.chan != c || !x.park | none => true) && s.onActive target &&
    s.act_st target == stDisabled && s.fld F.LLN_RX_CFG_EN target == 1 && s.fld F.LLN_TX_CFG_EN target == 1 &&
    s.fld F.ACT_CH_STATUS_ESTOP target == 0 && both

/-- TUNING_CONTROL (R161): accepted with an ACK, or answered with a NACK and its reason; a cancel in O5.2 ends the tuning. -/
def execTuningControl (c target rollout : Nat) (both cancel : Bool) (reason : Nat) (m : Ploam) (s : State) :
    Host.Outcome State Fault Refusal :=
  .next <| s.ploam c m fun s =>
    if cancel then
      (if s.act_st c = stO52 then
        let s1 := s.setActCh c { s.actCh c with tuning := none, timer := 0 }
        (s1.setFld F.ACT_CH_STATUS_TUNE_PENDING c 0).actTo c stO51 6
       else s)
    else if s.tunable c target both then
      let s1 := (s.setActCh c { s.actCh c with tuning := some ⟨target, rollout⟩ }).startTimer c 5
      ((s1.sendPloam c (.tuneResponse true 0)).setFld F.ACT_CH_STATUS_TUNE_PENDING c 1).actTo c stO52 6
    else (s.sendPloam c (.tuneResponse false reason)).raise F.ACT_CH_EVENT_NACK_SENT F.ACT_CH_EVENT_EVCNT_NACK_SENT c

/-- The frame whose map is processed on a channel has reached frame f. -/
def State.reached (s : State) (c f : Nat) : Bool := stampLe (stampOf f 0) (stampOf (s.actCh c).refFrame 0)

/-- ROLLOUT (R162): once the source's frames have reached the rollout frame the context moves from the source to the target. -/
def execRollout (c : Nat) (s : State) : Host.Outcome State Fault Refusal :=
  .next <|
    match (s.actCh c).tuning with
    | none => s
    | some t =>
      if s.act_st c ≠ stO52 ∨ !s.reached c t.frame then s else
      let onu := s.fld F.ACT_CH_STATUS_ONU_ID c
      let as := (s.actCh c).allocs
      let s1 := s.bondPark c t.frame
      let s2 := s1.setActCh c { s1.actCh c with allocs := [], tuning := none, timer := 0 }
      let s3 := (((s2.setFld F.ACT_CH_STATUS_ONU_ID c 0x3FF).setFld F.ACT_CH_STATUS_ALLOCS c 0).setFld
        F.ACT_CH_STATUS_TUNE_PENDING c 0).setFld F.ACT_CH_EQD_VALID c 0
      let s4 := (s3.setActCh t.target { s3.actCh t.target with allocs := as, tunedFrom := some c }).startTimer t.target 3
      let s5 := ((s4.setFld F.ACT_CH_STATUS_ONU_ID t.target onu).setFld F.ACT_CH_STATUS_ALLOCS t.target as.length).setFld
        F.ACT_CH_STATUS_MEMBER t.target (s.fld F.ACT_CH_STATUS_MEMBER c)
      let s6 := ((s5.setFld F.ACT_CH_STATUS_MEMBER c 0).setFld F.ACT_CH_EQD_EQD c 0).moveKeys c t.target
      let s7 := ((s6.timGone c).actTo c stDisabled 6).actTo t.target stO81 6
      if s7.inSync t.target then s7.syncGained t.target else s7

/-- TIMER_EXPIRED (R149, R151): the running timer of a channel expires. -/
def State.timerExpired (s : State) (c : Nat) : State :=
  let t := (s.actCh c).timer
  if t = 0 then s else
  let s1 := ((s.startTimer c 0).raise F.ACT_CH_EVENT_TIMER_EXPIRED F.ACT_CH_EVENT_EVCNT_TIMER_EXPIRED c).notify 4 0x0004
    (c + t * 256) 0
  match t with
  | 1 => if s1.act_st c = stO4 then (s1.dropOnu c).actTo c stO23 3 else s1
  | 2 => if s1.act_st c = stO6 then ((s1.dropContext c).bondRemove c).actOffline c 3 else s1
  | 5 =>
    if s1.act_st c = stO52 then
      ((s1.setActCh c { s1.actCh c with tuning := none }).setFld F.ACT_CH_STATUS_TUNE_PENDING c 0).actTo c stO51 3
    else s1
  | _ => s1.tuneFail c 3

/-- TIMER_EXPIRED (R151): a timer that runs expires at its deadline. -/
def execTimerExpired (c timer : Nat) (s : State) : Host.Outcome State Fault Refusal :=
  .next (if (s.actCh c).timer = timer ∧ (s.actCh c).due ≤ s.ltb.lc then s.timerExpired c else s)

/-! Parking (R163 to R166). -/

/-- The linear line cycle at which the channel's grants for frame Fp - 1 are served (R149), once the reference of that frame or of a later one is known: the reference of
Fp - 1 is that of the frame known, a whole number of frames earlier (DESIGN CHOICE, log entry 120). -/
def State.parkServed (s : State) (c fp : Nat) : Option Int :=
  let x := s.actCh c
  if !s.reached c ((fp + 2 ^ 46 - 1) % 2 ^ 46) then none
  else
    let late : Nat := (x.refFrame + 2 ^ 46 + 1 - fp) % 2 ^ 46
    some ((x.ref - 40 * 155520 * late + 39) / 40 + 155520 + s.fld F.LLN_TX_CFG_LAG c)

/-- PARK_ENTRY (R149): the grants for frame Fp - 1 are served. -/
def execParkEntry (c : Nat) (s : State) : Host.Outcome State Fault Refusal :=
  .next <|
    match (s.actCh c).parkDue with
    | some t => if s.act_st c = stO51 ∧ s.fld F.ACT_CH_STATUS_PARK_PENDING c = 1 ∧ t ≤ s.lin then (s.clearAgreed c).actTo c stO5P 5 else s
    | none => s

/-- UNPARK_APPLY (R149): at the map of the agreed frame the channel is associated again and rejoins the group. -/
def execUnparkApply (c : Nat) (s : State) : Host.Outcome State Fault Refusal :=
  .next <|
    match (s.actCh c).unparkAt with
    | some fu => if s.act_st c = stO5P ∧ s.reached c fu then (s.clearAgreed c).actTo c stO51 5 else s
    | none => s

/-- The frame after the one whose map is processed on a channel. -/
def State.frameAfter (s : State) (c : Nat) : Nat := ((s.actCh c).refFrame + 1) % 2 ^ 46

/-- A park is agreed for frame Fp, one earlier than the frame in which the answer arrives taken as the next frame (R149, R166). -/
def State.agreePark (s : State) (c fp : Nat) (own : Bool) : State :=
  let f := if s.reached c fp && (s.actCh c).refFrame != fp then s.frameAfter c else fp
  let s1 := s.setActCh c { s.actCh c with parkAt := some f, own := own, parkDue := s.parkServed c f }
  (s1.setFld F.ACT_CH_STATUS_PARK_PENDING c 1).bondPark c f

/-- An unpark is agreed for frame Fu, or where its map or a later one is already processed for the frame after the one processed (R149). -/
def State.agreeUnpark (s : State) (c fu : Nat) (own : Bool) : State :=
  s.setActCh c { s.actCh c with unparkAt := some (if s.reached c fu then s.frameAfter c else fu), own := own }

/-- The exchange pending has had no answer within AGREE_MS, 0 treated as 1 (R164, ACT_PARK_CFG). -/
def State.parkOverdue (s : State) (x : Exchange) : Bool := decide (x.start + 1244160 * max 1 (s.fld F.ACT_PARK_CFG_AGREE_MS 0) ≤ s.ltb.lc)

/-- An exchange overdue settles with no answer, and is kept for a late agreement (R164). -/
def State.parkExpire (s : State) : State :=
  match s.act.exchange with
  | none => s
  | some x =>
    if s.parkOverdue x then
      let s1 := s.settle x false false 2 0
      { s1 with act := { s1.act with timedOut := s1.act.timedOut.filter (fun y => y.chan != x.chan) ++ [{ x with desc := none }] } }
    else s

/-- An answer with no exchange of its channel pending (R164): negatively acknowledged, and reported where it is an agreement to an exchange that timed out. -/
def State.lateAnswer (s : State) (c frame : Nat) (agreed : Bool) : State :=
  match s.act.timedOut.find? (fun x => x.chan == c) with
  | some x =>
    if agreed then
      let s1 := (s.nack c).parkOutcome c x.park x.own false 3 frame
      { s1 with act := { s1.act with timedOut := s1.act.timedOut.filter (fun y => y.chan != c) } }
    else s.nack c
  | none => s.nack c

/-- PARK_ANSWER (R164): the head end agrees for a frame, or refuses; an answer with no exchange pending is negatively
acknowledged, and one after AGREE_MS is reported as a late agreement. -/
def execParkAnswer (c frame : Nat) (agreed : Bool) (m : Ploam) (s : State) : Host.Outcome State Fault Refusal :=
  .next <| s.ploam c m fun s =>
    let s0 := s.parkExpire
    match s0.act.exchange with
    | some x =>
      if x.chan ≠ c then s0.lateAnswer c frame agreed
      else if agreed then (if x.park then s0.agreePark c frame x.own else s0.agreeUnpark c frame x.own).settle x true false 0 frame
      else s0.settle x false false 1 0
    | none => s0.lateAnswer c frame agreed

/-- PARK_TIMEOUT (R164): no answer within AGREE_MS. -/
def execParkTimeout (s : State) : Host.Outcome State Fault Refusal := .next s.parkExpire

/-- HEAD_END_PARK (R165): the head end's own park or unpark is carried out for the frame it names, whatever MIN_ACTIVE and the
load. -/
def execHeadEndPark (c frame : Nat) (park : Bool) (m : Ploam) (s : State) : Host.Outcome State Fault Refusal :=
  .next <| s.ploam c m fun s =>
    if park then (if s.act_st c = stO51 then s.agreePark c frame false else s)
    else (if s.act_st c = stO5P then s.agreeUnpark c frame false else s)

/-- Members in O5.1. -/
def State.membersUp (s : State) : Nat :=
  ((List.range 4).filter (fun k => s.fld F.ACT_STATUS_PATH 0 != 0 && s.act_st (s.chanOf k) == stO51 && s.member k != 0)).length

/-- MIN_ACTIVE in force (ACT_PARK_CFG). -/
def State.minActive (s : State) : Nat := max 1 (min 4 (s.fld F.ACT_PARK_CFG_MIN_ACTIVE 0))

/-- An exchange starts: the request goes in the channel's next PLOAMu (R163, R165). -/
def State.startExchange (s : State) (c : Nat) (park own : Bool) (d : Option Desc) : State :=
  let s1 := s.sendPloam c (.parkRequest park)
  { s1 with act := { s1.act with exchange := some ⟨c, park, own, d, s1.ltb.lc⟩ } }

/-- The bytes each channel's queues have taken (R163, R267). -/
def State.enqueued (s : State) : List Nat := (List.range 4).map (fun k => SMap.get s.tmg.chBytes k 0)

/-- A load window begins; WINDOW is taken then, 0 as 1 (R163, ACT_PARK_CFG). -/
def State.startWindow (s : State) : State :=
  { s with act := { s.act with
      window := if s.fld F.ACT_PARK_CFG_EN 0 = 1 then some ⟨s.ltb.lc, max 1 (s.fld F.ACT_PARK_CFG_WINDOW 0), s.enqueued⟩ else none } }

/-- A write of ACT_PARK_CFG: EN at 1 begins the first window, EN at 0 ends it; an exchange pending settles all the same (R163). -/
def State.writeParkCfg (s : State) (v : Nat) : State :=
  let s1 := s.applyWrite 0x400010 v
  if s1.act.window.isSome && s1.fld F.ACT_PARK_CFG_EN 0 == 1 then s1 else s1.startWindow

/-- The load L of a window (R163): the bytes enqueued under the Alloc-IDs of the group's channels since it began. -/
def State.windowLoad (s : State) (w : LoadWindow) : Nat :=
  (((List.range 4).filter (fun k => s.inMask (s.chanOf k))).map (fun k => s.enqueued.getD k 0 - w.bytes.getD k 0)).foldl (· + ·) 0

/-- Bytes the profile rates of some channels carry in a load window: 15,552,000 per 10 ms at 12.4416 Gb/s (R163). -/
def State.windowCap (s : State) (w : LoadWindow) (ks : List Nat) : Nat :=
  (ks.map (fun k => 15552000 * 2 ^ s.profileRate (s.chanOf k) * w.units)).foldl (· + ·) 0

/-- The lowest-numbered parked channel is to be unparked, where the load calls for it (R163). -/
def State.unparkChoice (s : State) (busy : Bool) : Option (Nat × Bool) :=
  if busy then (((List.range 4).map s.chanOf).find? (fun c => s.act_st c == stO5P)).map (fun c => (c, false)) else none

/-- Engine 3's decision for a window that ended (R163): the channel to park or to unpark, if any, and which. -/
def State.parkChoice (s : State) (w : LoadWindow) : Option (Nat × Bool) :=
  let up := (List.range 4).filter (fun k => s.act_st (s.chanOf k) == stO51 && s.member k != 0)
  let low := min 100 (s.fld F.ACT_PARK_LOAD_LOW_PCT 0)
  let high := min 100 (s.fld F.ACT_PARK_LOAD_HIGH_PCT 0)
  let load := s.windowLoad w
  if high ≤ low then none
  else match (up.reverse.map s.chanOf).find? (fun c => c != s.tc && s.minActive < up.length) with
    | some c =>
      if load * 100 < low * s.windowCap w (up.filter (fun k => s.chanOf k != c)) then some (c, true) else s.unparkChoice (high * s.windowCap w up < load * 100)
    | none => s.unparkChoice (high * s.windowCap w up < load * 100)

/-- PARK_WINDOW (R163, R164): the load window has ended; service engine 3 decides, and the next window begins. Nothing is requested while an exchange is pending or PRT is not
steady, nor of a channel that has to wait one further window. -/
def execParkWindow (s : State) : Host.Outcome State Fault Refusal :=
  .next <|
    match s.act.window with
    | none => s
    | some w =>
      if s.fld (engRunning 3) 0 = 0 ∨ s.ltb.lc < w.start + 12441600 * w.units then s
      else
        let s1 := State.startWindow { s with act := { s.act with waiting := [] } }
        if s.fld F.ACT_STATUS_PATH 0 = 0 ∨ s.act.exchange.isSome ∨ !s.prtSteady then s1
        else match s.parkChoice w with
          | some (c, park) => if c ∈ s.act.waiting then s1 else s1.startExchange c park true none
          | none => s1

/-! Commands (R167, R168). -/

/-- ACT_IDENTITY (R167, R168): only with every channel DISABLED. -/
def execActIdentity (d : Desc) (s : State) : Host.Outcome State Fault Refusal :=
  .next <| s.asCommand d 0x1001 true <|
    if !d.buf ∨ d.bufLen < 36 then s.refuse d stBadArg 4
    else match (List.range 8).find? (fun c => s.act_st c != stDisabled) with
      | some c => s.refuse d stStateRefused (refusedWord 0x20 c (s.act_st c))
      | none =>
        let s1 := (s.setFld F.ACT_SERIAL_HI_SERIAL 0 (d.dw 5)).setFld F.ACT_SERIAL_LO_SERIAL 0 (d.dw 6)
        { s1 with act := { s1.act with regId := (List.range 9).map d.word } }.finish d stOk 0

/-- The active path changes with every channel of it DISABLED: the member mask goes with it (R148, R160). -/
def State.actPath (s : State) (p : Nat) : State :=
  let s1 := s.setFld F.ACT_STATUS_PATH 0 p
  (List.range 4).foldl (fun t k =>
    (t.setFld F.ACT_CH_STATUS_MEMBER (s.chanOf k) 0).setFld F.ACT_CH_STATUS_MEMBER (s1.chanOf k) (s.fld F.ACT_CH_STATUS_MEMBER (s.chanOf k))) s1

/-- ACT_STATUS.PATH returns to none when every channel is DISABLED while PRT_CFG.EN is 0 (R148). -/
def State.releasePath (s : State) : State :=
  if (List.range 8).all (fun c => s.act_st c == stDisabled) && s.fld F.PRT_CFG_EN 0 == 0 then (s.actPath 0).showAssoc else s

/-- The previous member mask of BOND_SET. -/
def State.memberMask (s : State) : Nat :=
  (List.range 4).foldl (fun m k => m + s.fld F.ACT_CH_STATUS_MEMBER (s.chanOf k) * 2 ^ k) 0

/-- BOND_SET (R160, R167). -/
def execBondSet (d : Desc) (s : State) : Host.Outcome State Fault Refusal :=
  .next <| s.asCommand d 0x1003 true <|
    let m := d.dw 5
    if 16 ≤ m then s.refuse d stBadArg 5
    else if (List.range 4).any (fun k => bit m k && !s.hasChannel k) then s.refuse d stBadArg 5
    else
      let old := s.memberMask
      let s1 := (List.range 4).foldl (fun t k =>
        let c := t.chanOf k
        let u := t.setFld F.ACT_CH_STATUS_MEMBER c (b2n (bit m k))
        if bit m k then (if bit old k then u else u.joinGroup c) else (if bit old k then u.bondRemove c else u)) s
      s1.finish d stOk old

/-- PARK (R165, R167, R168): the same exchange as own-initiative parking; it completes when the exchange settles. An exchange
already pending on the terminal gives BUSY (R166), and so does PRT out of its steady state, in which none is started (DESIGN CHOICE, log entry 122). -/
def execPark (d : Desc) (s : State) : Host.Outcome State Fault Refusal :=
  .next <| s.asCommand d 0x1004 (bit (d.dw 5) 8) <|
    let c := bits (d.dw 5) 2 0
    if !s.hasChannel c then s.refuse d stBadArg 5
    else if s.act_st c ≠ stO51 then s.refuse d stStateRefused (refusedWord 0x20 c (s.act_st c))
    else if s.act.exchange.isSome ∨ !s.prtSteady then s.refuse d stBusy 0
    else if !(s.onActive c && s.member c != 0 && s.fld F.ACT_CH_STATUS_PARK_PENDING c == 0 &&
        decide (s.minActive < s.membersUp)) then s.refuse d stStateRefused (refusedWord 0x21 (c / 4) s.membersUp)
    else s.startExchange c true false (some d)

/-- UNPARK (R165, R167, R168). -/
def execUnpark (d : Desc) (s : State) : Host.Outcome State Fault Refusal :=
  .next <| s.asCommand d 0x1004 (!bit (d.dw 5) 8) <|
    let c := bits (d.dw 5) 2 0
    if !s.hasChannel c then s.refuse d stBadArg 5
    else if s.act_st c ≠ stO5P then s.refuse d stStateRefused (refusedWord 0x20 c (s.act_st c))
    else if s.act.exchange.isSome ∨ !s.prtSteady then s.refuse d stBusy 0
    else s.startExchange c false false (some d)

/-- ACT_CHn_STATUS as a word. -/
def State.actStatusWord (s : State) (c : Nat) : Nat := s.peek (0x401000 + 0x40 * c)

/-- The stamp of a reference in delay units, and its fine offset (R155). -/
def refStamp (b : Int) : Nat := stampAdd 0 (b / 40)
def refFine (b : Int) : Nat := ((b % 40).toNat * 80375 + 40000) / 80000

/-- ACT_QUERY (R167): 32 bytes per channel. -/
def execActQuery (d : Desc) (s : State) : Host.Outcome State Fault Refusal :=
  .next <| s.asCommand d 0x1005 true <|
    if !d.buf ∨ d.bufLen < 256 then s.refuse d stBadArg 4
    else (s.toBuf d (((List.range 8).map (fun c =>
      let r := refStamp (s.actCh c).ref
      [s.actStatusWord c, s.peek (0x401004 + 0x40 * c), s.peek (0x401008 + 0x40 * c), r % 2 ^ 32, r / 2 ^ 32, 0, 0,
        0])).flatten)).finish d stOk 0

/-- Ascending order. -/
def insertAsc (x : Nat) : List Nat → List Nat
  | [] => [x]
  | y :: ys => if x < y then x :: y :: ys else y :: insertAsc x ys
def sortAsc (l : List Nat) : List Nat := l.foldl (fun acc x => insertAsc x acc) []

/-- Two 16-bit values per word, low first. -/
def pair16 : List Nat → List Nat
  | [] => []
  | [a] => [a]
  | a :: b :: t => (a + b * 65536) :: pair16 t

/-- ALLOC_READ (R167): the channel's Alloc-IDs in ascending order, then zeros to 512 bytes. -/
def execAllocRead (d : Desc) (s : State) : Host.Outcome State Fault Refusal :=
  .next <| s.asCommand d 0x1006 true <|
    let c := bits (d.dw 5) 2 0
    if !d.buf ∨ d.bufLen < 512 then s.refuse d stBadArg 4
    else if !s.hasChannel c then s.refuse d stBadArg 5
    else
      let ws := pair16 (sortAsc (s.actCh c).allocs)
      (s.toBuf d (ws ++ List.replicate (128 - ws.length) 0)).finish d stOk (s.actCh c).allocs.length

end Sys2Proof.Machine
end

