-- ==== Sys2Proof/Machine/HostLanes.lean ====
section
/-!
DEFINITION. Sys2Proof/Machine/HostLanes.lean: the host lanes' state machine (R100 to R103): all lanes of a port move together.
-/
namespace Sys2Proof.Machine

/-- A host lane at reset: HPM_SDn_CFG in force is the register's reset value (R110). -/
def hostLaneEmpty : HostLane := ⟨0, 0, 0, 0, 0, 0x18, false⟩
def State.hostLane (s : State) (n : Nat) : HostLane := SMap.get s.lln.host n hostLaneEmpty
def State.setHostLane (s : State) (n : Nat) (x : HostLane) : State :=
  { s with lln := { s.lln with host := SMap.put s.lln.host n x hostLaneEmpty } }

/-- The port's first lane, on which negotiation runs (R100). -/
def State.firstLane (s : State) (port : Nat) : Nat := (s.lanesOf port).headD 0

/-- HPM_SDn_CFG as written, laid out as the register. -/
def State.hostCfgWritten (s : State) (l : Nat) : Nat :=
  2 * s.fld F.HPM_SD_CFG_AN_EN l + 4 * s.fld F.HPM_SD_CFG_LT_EN l + 8 * s.fld F.HPM_SD_CFG_RX_ADAPT l + 16 * s.fld F.HPM_SD_CFG_TX_PRESET l

/-- What is written to HPM_SDn_CFG comes into force (R110). -/
def State.takeHostCfg (s : State) (l : Nat) : State := s.setHostLane l { s.hostLane l with cfg := s.hostCfgWritten l }

/-- LT_EN in force on a lane. -/
def State.ltEn (s : State) (l : Nat) : Bool := bit (s.hostLane l).cfg 2

/-- The initial preset in force: 1 to 3, other values as 1 (R110). -/
def State.txPreset (s : State) (l : Nat) : Nat :=
  let p := bits (s.hostLane l).cfg 6 4
  if p = 2 ∨ p = 3 then p else 1

/-- Training starts from the initial preset's coefficients (R100, R103). -/
def State.presetTaps (s : State) (l : Nat) : State :=
  let w := Config.presetCoeffs (s.txPreset l)
  (((s.setFld F.HPM_SD_TXFFE_CM2 l (bits w 7 0)).setFld F.HPM_SD_TXFFE_CM1 l (bits w 15 8)).setFld F.HPM_SD_TXFFE_C0 l (bits w 23 16)).setFld
    F.HPM_SD_TXFFE_C1 l (bits w 31 24)

/-- A lane enters a state. In DOWN nothing is locked, a loop and its patterns end, and HPM_SDn_CFG as written comes into force (R110); training starts from the preset;
with RX_ADAPT at 0 the receiver's adaptation is frozen on entry to UP. -/
def State.laneTo (s : State) (l st : Nat) : State :=
  let s1 := s.setFld F.HPM_SD_STATUS_STATE l st
  let s2 := s1.setHostLane l { s1.hostLane l with since := s.ltb.lc, frozen := st == 4 && !bit (s.hostLane l).cfg 3 }
  if st = 0 then
    (((s2.setFld F.HPM_SD_STATUS_CDR_LOCK l 0).setFld F.HPM_SD_STATUS_AM_LOCK l 0).setHostLane l
      { s2.hostLane l with generator := 0, checker := 0, loop := 0 }).takeHostCfg l
  else if st = 2 then s2.presetTaps l
  else s2

/-- Lanes move together to a state. -/
def State.lanesMove (s : State) (ls : List Nat) (st : Nat) : State := ls.foldl (fun t l => t.laneTo l st) s

/-- Every lane of a port moves to a state. -/
def State.lanesTo (s : State) (port st : Nat) : State := s.lanesMove (s.lanesOf port) st

/-- A status bit of every lane of a port. R101 says 'on every lane of the port' of LINK_DOWN alone; that AN_RESTART, TRAIN_FAIL and DESKEW_FAIL are set on every lane too
is a DESIGN CHOICE (log entry 113). -/
def State.lanesRaise (s : State) (port : Nat) (ev cnt : Fld) : State :=
  (s.lanesOf port).foldl (fun t l => t.raise ev cnt l) s

/-- A field of every lane of a port. -/
def State.lanesSet (s : State) (port : Nat) (f : Fld) (v : Nat) : State :=
  (s.lanesOf port).foldl (fun t l => t.setFld f l v) s

/-- What a port advertises in Clause 73 negotiation in the configuration MODE (R100): nothing on 1x400GBASE-R. -/
def advertised (mode : Nat) : List Ability :=
  match mode with
  | 1 => [.kr4RsFec]
  | 2 => [.kr2RsFec]
  | _ => []

/-- Negotiation applies: AN_EN in force on the port's lowest lane, and the port has an ability to advertise (R100). -/
def State.anApplies (s : State) (port : Nat) : Bool :=
  bit (s.hostLane (s.firstLane port)).cfg 1 && !(advertised (s.fld F.HPM_CFG_MODE 0)).isEmpty

/-- Past negotiation: TRAIN where LT_EN, else ALIGN. -/
def State.pastAn (s : State) (port : Nat) : State := if s.ltEn (s.firstLane port) then s.lanesTo port 2 else s.lanesTo port 3

/-- Where an enabled port starts from DOWN: AN where AN_EN applies, else TRAIN where LT_EN, else ALIGN (R100, R101). -/
def State.portStart (s : State) (port : Nat) : State := if s.anApplies port then s.lanesTo port 1 else s.pastAn port

/-- The lanes that move with a lane: those of its port, or itself alone in the reserved configuration. -/
def State.lanesWith (s : State) (n : Nat) : List Nat :=
  match (List.range 4).find? (fun p => (s.lanesOf p).contains n) with
  | some p => s.lanesOf p
  | none => [n]

/-- The state of a lane's port (R107): LOOP where any of its lanes is in a loop, which a change of MODE may have brought into the port. -/
def State.hostState (s : State) (n : Nat) : Nat :=
  if (s.lanesWith n).any (fun l => s.fld F.HPM_SD_STATUS_STATE l == 5) then 5 else s.fld F.HPM_SD_STATUS_STATE ((s.lanesWith n).headD n)

/-- An enabled port in DOWN starts. -/
def State.startIfDown (s : State) (port : Nat) : State :=
  if bit (s.fld F.HPM_CFG_PORT_EN 0) port ∧ !(s.lanesOf port).isEmpty ∧ s.hostState (s.firstLane port) = 0 then s.portStart port else s

/-- AN_RESOLVED (R100, R101): the abilities of the link partner hold one that the port advertises. -/
def execAnResolved (port : Nat) (partner : List Ability) (s : State) : Host.Outcome State Fault Refusal :=
  .next (if s.portState port = 1 ∧ (advertised (s.fld F.HPM_CFG_MODE 0)).any (fun a => partner.contains a) then s.pastAn port else s)

/-- AN_RESTART (R101): no common ability, or the timers expired; negotiation restarts. -/
def execAnRestart (port : Nat) (s : State) : Host.Outcome State Fault Refusal :=
  .next (if s.portState port != 1 then s
    else (s.lanesRaise port F.HPM_SD_EVENT_AN_RESTART F.HPM_SD_EVENT_EVCNT_AN_RESTART).lanesTo port 1)

/-- TRAIN_COMPLETE (R101, R103): training completed on every lane of the port; the trained transmit coefficients (four signed bytes per lane)
are kept. -/
def execTrainComplete (port : Nat) (coeffs : List (Nat × Nat × Nat × Nat)) (s : State) : Host.Outcome State Fault Refusal :=
  .next <|
    if s.portState port ≠ 2 ∨ coeffs.length ≠ (s.lanesOf port).length then s
    else
      let s1 := ((s.lanesOf port).zip coeffs).foldl (fun t p =>
        (((t.setFld F.HPM_SD_TXFFE_CM2 p.1 p.2.1).setFld F.HPM_SD_TXFFE_CM1 p.1 p.2.2.1).setFld F.HPM_SD_TXFFE_C0 p.1
          p.2.2.2.1).setFld F.HPM_SD_TXFFE_C1 p.1 p.2.2.2.2) s
      s1.lanesTo port 3

/-- A port falls back to DOWN with a status bit on its lanes, and restarts (R101). -/
def State.portRetry (s : State) (port : Nat) (ev cnt : Fld) : State := ((s.lanesRaise port ev cnt).lanesTo port 0).portStart port

/-- TRAIN_FAIL (R101): back to DOWN, then restart. -/
def execTrainFail (port : Nat) (s : State) : Host.Outcome State Fault Refusal :=
  .next (if s.portState port != 2 then s else s.portRetry port F.HPM_SD_EVENT_TRAIN_FAIL F.HPM_SD_EVENT_EVCNT_TRAIN_FAIL)

/-- DESKEW_FAIL (R101): `skew` in ns is measured above 200 ns, or no lane-marker lock has come within 10 ms of the entry to ALIGN. -/
def execDeskewFail (port : Nat) (skew : Option Nat) (s : State) : Host.Outcome State Fault Refusal :=
  .next <|
    let due := match skew with
      | some x => decide (200 < x)
      | none => decide ((s.hostLane (s.firstLane port)).since + 12441600 ≤ s.ltb.lc)
    if s.portState port = 3 ∧ due = true then s.portRetry port F.HPM_SD_EVENT_DESKEW_FAIL F.HPM_SD_EVENT_EVCNT_DESKEW_FAIL else s

/-! What a pattern checker counts (R108). -/

/-- A PAM4 level, 0 to 3, as its two bits under Gray coding. -/
def gray (level : Nat) : Nat := (level % 4) ^^^ (level % 4 / 2)

/-- Bits in error in a PAM4 symbol sent as one level and received as another. -/
def symbolErrors (sent got : Nat) : Nat :=
  let x := gray sent ^^^ gray got
  x % 2 + x / 2

/-- Bit errors of one line cycle: `x` gives a bit per bit in error for a pattern of two levels (1 and 2), 40 bits to the line cycle, and for a PAM4 pattern four bits a
symbol, the level sent and the level received, 171 symbols to the line cycle. -/
def lineErrors (pattern x : Nat) : Nat :=
  if pattern ≤ 2 then ((List.range 40).map (fun i => b2n (bit x i))).sum
  else ((List.range 171).map (fun i => symbolErrors (x / 16 ^ i % 4) (x / 16 ^ i / 4 % 4))).sum

/-- A checker counts from 64 lc after the pattern arrives: after it was set, where the lane's own generator sends the same pattern, or the pattern comes from outside through a
far-end loop (R104, R108). -/
def checkerRuns (checker generator loop from_ lc : Nat) : Bool := checker != 0 && (loop == 3 || generator == checker) && decide (from_ + 64 < lc)

/-- The checkers of the host lanes count one line cycle; what they find in error comes from outside the block and is a free value (log entry 115). -/
def State.checkHost (s : State) : State :=
  s.lln.host.foldl (fun t p =>
    if checkerRuns p.2.checker p.2.generator p.2.loop p.2.checkFrom t.ltb.lc then
      let x := t.takeFree
      x.2.satAdd F.HPM_SD_PRBS_ERR_ERRORS p.1 (lineErrors p.2.checker x.1)
    else t) s

end Sys2Proof.Machine
end

