-- ==== Sys2Proof/Machine/HpmOps.lean ====
section
/-!
DEFINITION. Sys2Proof/Machine/HpmOps.lean: host ports as the other units see them (R336 to R361): counters, paused TCs, the transmit
buffer, generated flow control, and the limit of an event to a number in each line second.
-/
namespace Sys2Proof.Machine

/-- A port with no frame held, no timer running and every counter 0. -/
def hportEmpty : HPort := ⟨[], [], [], none, [], 0, [], none⟩
def State.hport (s : State) (p : Nat) : HPort := SMap.get s.hpm p hportEmpty
def State.setHport (s : State) (p : Nat) (x : HPort) : State := { s with hpm := SMap.put s.hpm p x hportEmpty }

/-- A counter of R356 advances and saturates. -/
def State.portCount (s : State) (p i n : Nat) : State :=
  let h := s.hport p
  s.setHport p { h with counters := SMap.put h.counters i (min (SMap.get h.counters i 0 + n) (2 ^ 64 - 1)) 0 }

/-- The ports the present configuration provides, on this part (R3, R336, R337). -/
def State.hasPort (s : State) (p : Nat) : Bool :=
  !(s.lanesOf p).isEmpty && (s.hif.part == .lk9540 || p == 0)

/-- A port's state under R354: 0 AWAKE, 1 LISTEN, 2 WAKING. -/
def State.listen (s : State) (p : Nat) : Nat := s.fld F.HPM_STATUS_LISTEN 0 / 4 ^ p % 4
def State.setListen (s : State) (p v : Nat) : State :=
  let w := s.fld F.HPM_STATUS_LISTEN 0
  s.setFld F.HPM_STATUS_LISTEN 0 (w - w / 4 ^ p % 4 * 4 ^ p + v * 4 ^ p)

/-- A port's rate in Gb/s by MODE (R336). -/
def State.portRate (s : State) : Nat :=
  match s.fld F.HPM_CFG_MODE 0 with | 0 => 400 | 1 => 200 | _ => 100

/-- FC_MODE in force: 0b11 is NONE. -/
def State.fcMode (s : State) (p : Nat) : Nat :=
  let m := s.fld F.HPM_P_CFG_FC_MODE p
  if m = 3 then 0 else m

/-- The TC that a priority stands for (HPM_Pn_PFC_MAP). -/
def State.pfcTc (s : State) (p i : Nat) : Nat := bits (s.fld F.HPM_P_PFC_MAP_MAP p) (3 * i + 2) (3 * i)

/-- Line cycles that a quanta value lasts: ⌈q × 512 × 1.24416 / R⌉ (R345). -/
def quantaLc (q rate : Nat) : Nat := (q * 512 * 124416 + rate * 100000 - 1) / (rate * 100000)

/-- The TCs paused by the running timers (R345). -/
def State.pausedMask (s : State) (p : Nat) : Nat :=
  let h := s.hport p
  if (SMap.find h.timers 8).isSome then 0xFF
  else (List.range 8).foldl (fun m i => if (SMap.find h.timers i).isSome then m ||| 2 ^ s.pfcTc p i else m) 0

/-- A TC of a port is paused (R346). -/
def State.tcPaused (s : State) (p t : Nat) : Bool := bit (s.pausedMask p) t

/-- HPM_Pn_FC_STATUS and PAUSED_LC follow the timers (R346, R356). -/
def State.showPaused (s : State) (p : Nat) : State :=
  let h := s.hport p
  let m := s.pausedMask p
  let pri := if (SMap.find h.timers 8).isSome then 0xFF
    else (List.range 8).foldl (fun w i => w + b2n (SMap.find h.timers i).isSome * 2 ^ i) 0
  let s1 := (s.setFld F.HPM_P_FC_STATUS_PAUSED p m).setFld F.HPM_P_FC_STATUS_RX_PRI p pri
  match h.pausedFrom, decide (m ≠ 0) with
  | none, true => s1.setHport p { h with pausedFrom := some s.ltb.lc }
  | some t, false => (s1.setHport p { h with pausedFrom := none }).portCount p 38 (s.ltb.lc - t)
  | _, _ => s1

/-- Write or stop a pause timer (R345). -/
def State.loadTimer (s : State) (p i q : Nat) : State :=
  let h := s.hport p
  s.setHport p { h with
      timers :=
        if q = 0 then SMap.erase h.timers i else SMap.insert h.timers i (s.ltb.lc + quantaLc q s.portRate) }

/-- Every timer of a port stops (R346, HPM_Pn_CFG.FC_MODE). -/
def State.stopTimers (s : State) (p : Nat) : State := (s.setHport p { s.hport p with timers := [] }).showPaused p

/-! Generated flow control (R348, R349). -/

/-- The port may generate: FC_EN and TX_FC are 1, it is UP and it does not listen. -/
def State.fcGenerates (s : State) (p : Nat) : Bool :=
  s.fld F.TMG_CFG_FC_EN 0 == 1 && s.fld F.HPM_P_CFG_TX_FC p == 1 && s.portUp p && s.listen p == 0

/-- TMG's XOFF bits of a port by TC (R289). -/
def State.xoffTcs (s : State) (p : Nat) : Nat := s.fld F.TMG_FC_STATUS_XOFF 0 / 2 ^ (8 * p) % 256

/-- The priorities in XOFF as the signals stand: every priority or none under PAUSE, by PFC_MAP under PFC. -/
def State.xoffPris (s : State) (p : Nat) : Nat :=
  let x := s.xoffTcs p
  match s.fcMode p with
  | 1 => if x = 0 then 0 else 0xFF
  | 2 => (List.range 8).foldl (fun w i => w + b2n (bit x (s.pfcTc p i)) * 2 ^ i) 0
  | _ => 0

/-- One generated frame: priorities `on` with TX_QUANTA and `off` with quanta 0 (R348). -/
def State.sendControl (s : State) (p on off : Nat) : State :=
  let q := max 1 (s.fld F.HPM_P_FC_TX_TX_QUANTA p)
  if s.fcMode p = 1 then
    (s.setHport p { s.hport p with ctrl := [0x0001, 0, if on = 0 then 0 else q], ctrlLc := s.ltb.lc }).portCount p 14 1
  else
    let s1 := (s.setHport p { s.hport p with
        ctrl := [0x0101, on ||| off] ++
          (List.range 8).map (fun i => if bit on i then q else 0)
        ctrlLc := s.ltb.lc }).portCount p 15 1
    (List.range 8).foldl (fun t i => if bit (on ||| off) i then t.portCount p (30 + i) 1 else t) s1

/-- The resend interval in line cycles: REFRESH quanta, ⌊TX_QUANTA / 2⌋ where it is not below TX_QUANTA (R348, R349). -/
def State.refreshLc (s : State) (p : Nat) : Nat :=
  let q := max 1 (s.fld F.HPM_P_FC_TX_TX_QUANTA p)
  let r := s.fld F.HPM_P_FC_TX_REFRESH p
  quantaLc (if q ≤ r then q / 2 else r) s.portRate

/-- A change of the signals, or of what a port may generate, is turned into a frame (R348). -/
def State.fcUpdate (s : State) (p : Nat) : State :=
  if !s.fcGenerates p || s.fcMode p == 0 then s.setFld F.HPM_P_FC_STATUS_TX_XOFF p 0
  else
    let old := s.fld F.HPM_P_FC_STATUS_TX_XOFF p
    let new := s.xoffPris p
    if old = new then s
    else (s.sendControl p new (old - (old &&& new))).setFld F.HPM_P_FC_STATUS_TX_XOFF p new

/-! The transmit buffer (R342, R346, R350). -/

/-- A TS_CAPTURE event, its line stamp the corrected stamp of the crossing (R351, R352, R360). -/
def State.tsCapture (s : State) (p dirTx seqId mtype domain : Nat) (lin : Int) (fine : Nat) : State :=
  let st := stampOf (unsigned 46 (lin / 155520)) (lin % 155520).toNat
  (s.portCount p 41 1).postEvent 0x0A 0x0003 none st 0 (seqId * 2 ^ 16 + mtype * 2 ^ 12 + p * 2 ^ 8 + dirTx)
    (fine + s.tstate * 256 + domain * 2 ^ 16)

/-- A measured crossing moved by a board delay in picoseconds, to the nearest sixteenth of a line cycle (R351). -/
def tsAdjust (x : Sfd) (ps : Int) : Int × Nat :=
  let y := x.lin * 16 + x.fine + (ps * 1990656 + 50000000) / 100000000
  (y / 16, (y % 16).toNat)

/-- The MAC sends the waiting frames of TCs that are not paused, in order (R346). A PTP message's stamp, where one is taken, is
that of `sfd`. -/
def State.macDrain (s : State) (p : Nat) (sfd : Sfd) : State :=
  if !s.portUp p || s.listen p != 0 then s else
  let h := s.hport p
  let go := h.tx.filter (fun f => !s.tcPaused p f.tc)
  let s1 := s.setHport p { h with tx := h.tx.filter (fun f => s.tcPaused p f.tc) }
  go.foldl (fun t f =>
    let t1 := (t.portCount p 12 1).portCount p 13 f.len
    match f.ptp with
    | some (m, dom, sq) =>
      let a := tsAdjust sfd (signed 16 (t1.fld F.HPM_P_TS_ADJ_TX_ADJ p))
      t1.tsCapture p 1 sq m dom a.1 a.2
    | none => t1) s1

/-- The frames waiting in the transmit buffer are discarded and counted (R338, R354). -/
def State.dropTx (s : State) (p : Nat) : State :=
  let h := s.hport p
  (s.setHport p { h with tx := [] }).portCount p 17 h.tx.length

/-- MAX_FRAME in force (R343). -/
def State.maxFrame (s : State) (p : Nat) : Nat := max 64 (min 16000 (s.fld F.HPM_P_CFG_MAX_FRAME p))

/-- A frame from CPH joins the transmit buffer, or is discarded as oversize (R342). -/
def State.portTx (s : State) (p : Nat) (f : TxFrm) : State :=
  if s.maxFrame p < f.len then (s.portCount p 16 1).satAdd F.HPM_P_SIZE_DROP_TX_OVER p 1
  else s.setHport p { s.hport p with tx := (s.hport p).tx ++ [f] }

/-! PTP frames (R350). -/

/-- The big-endian 16-bit word at an offset of a frame; bytes past its end read 0. -/
def be16 (b : List Nat) (o : Nat) : Nat := b.getD o 0 * 256 + b.getD (o + 1) 0

/-- The offset of the length/type field after the source address or after one or two tags. -/
def etherOff (b : List Nat) : Nat :=
  let tag := fun o => be16 b o == 0x8100 || be16 b o == 0x88A8
  if tag 12 then (if tag 16 then 20 else 16) else 12

/-- The frame with the SecTAG of an integrity-only MACsec frame taken out for the examination; none where its SecTAG shows
confidentiality. The SecTAG is 8 bytes after the source address, 16 with an explicit SCI. -/
def ptpView (b : List Nat) : Option (List Nat) :=
  if be16 b 12 != 0x88E5 then some b
  else if bit (b.getD 14 0) 3 then none
  else some (b.take 12 ++ b.drop (if bit (b.getD 14 0) 5 then 28 else 20))

/-- The offset of the PTP header in a frame that HPM_Pn_PTP_CFG admits: over Ethernet, UDP over IPv4 with any IHL, UDP over
IPv6 with no extension header. -/
def State.ptpOff (s : State) (p : Nat) (b : List Nat) : Option Nat :=
  let o := etherOff b
  match be16 b o with
  | 0x88F7 => if s.fld F.HPM_P_PTP_CFG_L2 p = 1 then some (o + 2) else none
  | 0x0800 =>
    let u := o + 2 + 4 * (b.getD (o + 2) 0 % 16)
    if s.fld F.HPM_P_PTP_CFG_UDP4 p = 1 ∧ b.getD (o + 11) 0 = 17 ∧ be16 b (u + 2) = 319 then some (u + 8) else none
  | 0x86DD =>
    if s.fld F.HPM_P_PTP_CFG_UDP6 p = 1 ∧ b.getD (o + 8) 0 = 17 ∧ be16 b (o + 44) = 319 then some (o + 50) else none
  | _ => none

/-- The event message a port stamps in a frame: message type, domain, sequence number. -/
def State.ptpOf (s : State) (p : Nat) (b : List Nat) : Option (Nat × Nat × Nat) :=
  if s.fld F.HPM_P_CFG_TS_EN p = 0 then none
  else match ptpView b with
    | none => none
    | some v =>
      match s.ptpOff p v with
      | none => none
      | some o =>
        let m := v.getD o 0 % 16
        if m < 4 && bit (s.fld F.HPM_P_PTP_CFG_MSG p) m then some (m, v.getD (o + 4) 0, be16 v (o + 30)) else none

end Sys2Proof.Machine
end

