-- ==== Sys2Proof/Machine/MemOps.lean ====
section
/-!
DEFINITION. Sys2Proof/Machine/MemOps.lean: external memories as the other units see them (R298 to R314, R318, R322): fitting,
channel map, regions, channel states, corrected and uncorrectable reads, the recurrence tracker.
-/
namespace Sys2Proof.Machine

/-! DDR5 organisation. -/

/-- The installed total in GB of the fitting that DENSITY and RANKS name (R298, MEM_DDR_CFG). -/
def State.fittedGb (s : State) : Nat :=
  match s.fld F.MEM_DDR_CFG_DENSITY 0 with
  | 1 => 96
  | 2 => 128
  | _ => if s.fld F.MEM_DDR_CFG_RANKS 0 = 1 then 128 else 64

/-- The installed total in bytes (R299). -/
def State.ddrTotal (s : State) : Nat := s.fittedGb * 2 ^ 30

/-- A channel-local address: bits [13:12] removed (R299). -/
def localAddr (a : Nat) : Nat := a / 2 ^ 14 * 2 ^ 12 + a % 2 ^ 12

/-- The training area: the highest 256 KB (R299). -/
def State.inTraining (s : State) (a : Nat) : Bool := decide (s.ddrTotal - 2 ^ 18 ≤ a)

/-- The regions' bases and sizes (R299). -/
def State.saucerBase (s : State) : Nat := s.fld F.HIF_SAUCER_BASE_HI_ADDR 0 * 2 ^ 32 + s.fld F.HIF_SAUCER_BASE_LO_ADDR 0 * 2 ^ 26
def State.engineBase (s : State) : Nat := s.fld F.MEM_ENGINE_BASE_HI_ADDR 0 * 2 ^ 32 + s.fld F.MEM_ENGINE_BASE_LO_ADDR 0 * 2 ^ 28

/-- The regions in force: Saucer, Kettle, engine region, training area, as base and size (R299). -/
def State.regions (s : State) : List (Nat × Nat) :=
  [(s.saucerBase, 2 ^ 26), (s.kettleBase, s.kettleSize), (s.engineBase, 2 ^ 28), (s.ddrTotal - 2 ^ 18, 2 ^ 18)]

/-- Two regions lie apart. -/
def apart (x y : Nat × Nat) : Bool := x.2 == 0 || y.2 == 0 || decide (x.1 + x.2 ≤ y.1) || decide (y.1 + y.2 ≤ x.1)

/-- No two regions overlap and none extends beyond the installed total (R299). -/
def State.regionsOk (s : State) : Bool :=
  match s.regions with
  | [a, b, c, d] =>
    apart a b && apart a c && apart a d && apart b c && apart b d && apart c d &&
      s.regions.all (fun r => r.2 == 0 || decide (r.1 + r.2 ≤ s.ddrTotal))
  | _ => true

/-! Channel states. -/

def State.setMemCh (s : State) (n : Nat) (x : MemCh) : State :=
  { s with mem := { s.mem with chans := SMap.put s.mem.chans n x memChEmpty } }

/-- The rank of an address: 0 where one rank is fitted, else that of the fixed mapping, which is not stated (R298, R299, log entry 123). -/
def State.rankOf (s : State) (a : Nat) : Nat :=
  if s.fld F.MEM_DDR_CFG_RANKS 0 = 1 ∧ (s.fld F.MEM_DDR_CFG_DENSITY 0 = 0 ∨ s.fld F.MEM_DDR_CFG_DENSITY 0 = 3) then Config.ddrRank (localAddr a) % 2 else 0

/-- MACRO of a DDR5 fault whose device is not resolved (R302). -/
def ddrMacro (sub rank : Nat) : Nat := sub % 2 * 128 + rank % 2 * 64 + 56

/-- ERR_LOC of a DDR5 line, its device unresolved (R302). -/
def State.ddrLoc (s : State) (a : Nat) : Nat :=
  errLoc 0x09 (s.ddrChan a) (ddrMacro (bits a 6 6) (s.rankOf a)) (localAddr a / 2 ^ 26 % 512)

/-- ERR_LOC of a QDR-IV slot, its device unresolved (R302). -/
def qdrLoc (slot : Nat) : Nat := errLoc 0x09 4 (7 * 32) (slot / 4096 % 512)

/-! The recurrence tracker (R313). -/

/-- The entry of a line. -/
def State.trackOf (s : State) (itf line : Nat) : Option (Nat × Track) :=
  s.mem.tracks.find? (fun p => p.2.itf == itf && p.2.line == line)

/-- The first free entry of 64. -/
def State.freeTrack (s : State) : Option Nat := (List.range 64).find? (fun k => (SMap.find s.mem.tracks k).isNone)

/-- The entry to take over: the lowest count among those not CHRONIC, the oldest last stamp breaking a tie. -/
def State.victimTrack (s : State) : Option Nat :=
  (s.mem.tracks.foldl (fun (best : Option (Nat × Track)) p =>
    if p.2.chronic then best
    else match best with
      | none => some p
      | some b => if decide (p.2.count < b.2.count) || (p.2.count == b.2.count && !stampLe b.2.last p.2.last) then some p else some b)
    none).map Prod.fst

/-- A corrected read updates the tracker (R313). -/
def State.track (s : State) (itf line loc : Nat) : State :=
  let slot := match s.trackOf itf line with
    | some p => some (p.1, { p.2 with count := min 255 (p.2.count + 1), last := s.stamp })
    | none =>
      match s.freeTrack.orElse (fun _ => s.victimTrack) with
      | some k => some (k, ⟨itf, line, 1, s.stamp, s.stamp, false⟩)
      | none => none
  match slot with
  | none => s.perSecond (9 * 65536 + 3 * 256) 1 (fun t => t.notify 0x09 0x0003 itf line)
  | some (k, x) =>
    let now := decide (x.count = 8) && !x.chronic
    let y : Track := { x with chronic := x.chronic || now }
    let s1 : State := { s with mem := { s.mem with tracks := SMap.insert s.mem.tracks k y } }
    if now then
      (s1.raise F.MEM_EVENT_CHRONIC F.MEM_EVENT_EVCNT_CHRONIC 0).faultEvent 0x09 0x00F1 loc line itf
    else s1

/-- The end of a read whose first copy failed its outer check (R310): corrected, counted and tracked; or uncorrectable and counted. -/
def State.memReadEnds (s : State) (itf line loc : Nat) (corrected : Bool) : State :=
  if corrected then
    let s1 := if itf < 4 then s.satAdd F.MEM_CH_COUNT_CORR itf 1 else s.satAdd F.MEM_QDR_COUNT_CORR 0 1
    (s1.raise F.MEM_EVENT_CORRECTED F.MEM_EVENT_EVCNT_CORRECTED 0).track itf line loc
  else
    let s1 := if itf < 4 then s.satAdd F.MEM_CH_COUNT_UNCORR itf 1 else s.satAdd F.MEM_QDR_COUNT_UNCORR 0 1
    s1.raise F.MEM_EVENT_UNCORR F.MEM_EVENT_EVCNT_UNCORR 0

/-- Refetch attempts allowed: MAX 0 is treated as 1 (MEM_REFETCH_CFG). -/
def State.refetchMax (s : State) : Nat := max 1 (s.fld F.MEM_REFETCH_CFG_MAX 0)

/-- A line's read with the copies that failed in a row: 0 for a good first copy. Answers whether it was delivered. -/
def State.lineRead (s : State) (itf line loc fails : Nat) : Bool × State :=
  if fails = 0 then (true, s)
  else if fails ≤ s.refetchMax then (true, s.memReadEnds itf line loc true)
  else (false, s.memReadEnds itf line loc false)

/-- A QDR-IV slot's read. -/
def State.slotRead (s : State) (slot fails : Nat) : Bool × State := s.lineRead 4 slot (qdrLoc slot) fails

/-! DDR5 lines (R300, R301). -/

/-- The 64 data bytes of a line. -/
def lineBytes (data : List Nat) : List Nat := (data ++ List.replicate 64 0).take 64

/-- The CRC of the line at index `k`: over the 64 data bytes, sideband bytes 4 to 15 and the line's 8-byte address (R300). -/
def ddrCrc (k kind info : Nat) (data : List Nat) : Nat := crc32c (lineBytes data ++ kind % 16 :: leBytes 11 info ++ leBytes 8 (64 * k))

/-- The line at index `k` with a valid CRC, and that of KIND ZERO. -/
def goodDdr (k kind info : Nat) (data : List Nat) : Line := ⟨kind, info, data, ddrCrc k kind info data⟩
def zeroDdr (k : Nat) : Line := goodDdr k 0 0 []

/-- The line at index `k`, and whether its CRC is right for this address. -/
def State.ddrLine (s : State) (k : Nat) : Line := SMap.get s.mem.lines k (zeroDdr k)
def State.ddrGood (s : State) (k : Nat) : Bool := (s.ddrLine k).crc == ddrCrc k (s.ddrLine k).kind (s.ddrLine k).info (s.ddrLine k).data

/-- A write of a whole DDR5 line: KIND, META and data (R300, R301). -/
def State.ddrWrite (s : State) (a kind info : Nat) (data : List Nat) : State :=
  { s with mem := { s.mem with lines := SMap.put s.mem.lines (a / 64) (goodDdr (a / 64) kind info data) (zeroDdr (a / 64)) } }

/-- The read of the DDR5 line of an address in which `fails` copies fail in a row; a line whose stored CRC is wrong fails every copy. -/
def State.ddrRead (s : State) (a fails : Nat) : Bool × State :=
  s.lineRead (s.ddrChan a) (a / 64) (s.ddrLoc a) (if s.ddrGood (a / 64) then fails else s.refetchMax + 1)

end Sys2Proof.Machine
end

