-- ==== Sys2Proof/Machine/Hif.lean ====
section
/-!
DEFINITION. Sys2Proof/Machine/Hif.lean: the host interface: polling, fetching, dispatch and retirement (R52 to R67), the HIF
commands (R58), inject (R73), vectors (R74), service engines (R69), host loss (R87) and the mirror (R82 to R86, R486).
-/
namespace Sys2Proof.Machine

/-! Doorbell polls (R52 to R56). -/

/-- The fault event RING_STOPPED with its effects (R52, R487). Cause 0 backwards, 1 beyond the ring size, 2 overrun. -/
def State.stopRing (s : State) (kind n index cause : Nat) : State :=
  let loc := errLoc 0 0 0 (kind * 32 + n)
  (((s.setFld (ringStopped kind) n 1).raise F.HIF_EVENT_BAD_INDEX F.HIF_EVENT_EVCNT0_BAD_INDEX 0).setFld
    F.HIF_ERR_LOC_ERR_LOC 0 loc).faultEvent 0 0x00F1 loc index (kind + n * 8 + cause * 256)

/-- A producer index (command, inject or punt tail) read by a poll: it may not move backwards, nor lie more than the ring
size beyond the terminal's own index (R52). -/
def State.takeProducer (s : State) (kind n v : Nat) : State :=
  if !s.ringOpen kind n then s else
  let r := s.ring kind n
  if 2 ^ 31 ≤ idxDist v r.tail then s.stopRing kind n v 0
  else if s.ringSize kind n < idxDist v r.head then s.stopRing kind n v 1
  else s.setRing kind n { r with tail := v % 2 ^ 32 }

/-- A consumer index (completion or event head) read by a poll: it may not move backwards, nor lie more than the ring size beyond the terminal's own index, nor
pass that index, which would overrun the ring (R52). -/
def State.takeConsumer (s : State) (kind n v : Nat) : State :=
  if !s.ringOpen kind n then s else
  let r := s.ring kind n
  if 2 ^ 31 ≤ idxDist v r.tail then s.stopRing kind n v 0
  else if idxDist r.head r.tail + s.ringSize kind n < idxDist v r.tail then s.stopRing kind n v 1
  else if idxDist r.head r.tail < idxDist v r.tail then s.stopRing kind n v 2
  else s.setRing kind n { r with tail := v % 2 ^ 32 }

/-- The indices of one part of the doorbell page, in order. -/
def State.takeIndices (s : State) (producer : Bool) (kind count : Nat) (vs : List Nat) : State :=
  (List.range count).foldl (fun t n =>
    if producer then t.takeProducer kind n (vs.getD n 0) else t.takeConsumer kind n (vs.getD n 0)) s

/-- The posted punt entries of one ring that its PUNT_TAIL covers and that have not been read yet are read, in order (R55, R72): as many as the accepted index lies
beyond those posted. -/
def State.takePosted (s : State) (ps : List (Nat × Nat × Nat)) (n : Nat) : State :=
  let l := SMap.get s.hif.posted n []
  let r := s.ring 3 n
  let new := ((ps.filter (fun p => p.1 == n)).map Prod.snd).take (idxDist r.tail r.head - l.length)
  if s.ringOpen 3 n then { s with hif := { s.hif with posted := SMap.put s.hif.posted n (l ++ new) [] } } else s

/-- HIF polls in RUN with the host reachable (R54, R87; log entry 12). -/
def State.polls (s : State) : Bool := s.fld F.HIF_STATUS_STAGE 0 == 4 && s.hostUp

/-- The poll interval in ns: below 250 is treated as 250, above 1,000,000 as 1,000,000 (HIF_POLL_CFG). -/
def State.pollNs (s : State) : Nat := max 250 (min 1000000 (s.fld F.HIF_POLL_CFG_INTERVAL 0))

/-- A poll is due: a nudge asks for it, or the interval has passed since the latest one began (R54). -/
def State.pollDue (s : State) : Bool := s.hif.pollAsked || decide (s.pollNs * 124416 ≤ (s.ltb.lc - s.hif.lastPoll) * 100000)

/-- The doorbell page's address. -/
def State.dbBase (s : State) : Nat := s.fld F.HIF_DB_BASE_HI_ADDR 0 * 2 ^ 32 + s.fld F.HIF_DB_BASE_LO_ADDR 0 * 2 ^ 12

/-- The terminal writes its own index of a ring into the doorbell page where it has changed since it last did (R53, R54). -/
def State.writeHead (s : State) (kind off n : Nat) : State :=
  let h := (s.ring kind n).head
  if SMap.get s.hif.shown (kind * 32 + n) 0 = h then s
  else
    let s1 := s.dma (s.dbBase + off + 4 * n) [h]
    { s1 with hif := { s1.hif with shown := SMap.put s1.hif.shown (kind * 32 + n) h 0 } }

/-- CMD_HEAD, INJ_HEAD and PUNT_HEAD (R53). -/
def State.writeHeads (s : State) : State :=
  let s1 := (List.range 16).foldl (fun t n => t.writeHead 0 0x100 n) s
  let s2 := (List.range 8).foldl (fun t n => t.writeHead 4 0x140 n) s1
  (List.range 8).foldl (fun t n => t.writeHead 3 0x160 n) s2

/-- DOORBELL_POLL (R52 to R56): one read of the page; a MAGIC mismatch ends the poll and clears RINGS_EN; then the indices of
every open ring are checked, and the terminal writes those of its own that have changed. -/
def execDoorbellPoll (pg : DbPage) (s0 : State) : Host.Outcome State Fault Refusal :=
  .next <|
    if !s0.polls || !s0.pollDue then s0
    else
      let s : State := { s0 with hif := { s0.hif with pollAsked := false, lastPoll := s0.ltb.lc } }
      if s.fld F.HIF_CTRL_DB_CHECK 0 == 1 && pg.magic != s.fld F.HIF_DB_MAGIC_MAGIC 0 then
        (s.setFld F.HIF_CTRL_RINGS_EN 0 0).raise F.HIF_EVENT_MAGIC_MISMATCH F.HIF_EVENT_EVCNT0_MAGIC_MISMATCH 0
      else
        let s1 := ((((s.takeIndices true 0 16 pg.cmdTail).takeIndices true 4 8 pg.injTail).takeIndices false 1 16 pg.cplHead).takeIndices
          false 2 8 pg.evtHead).takeIndices true 3 8 pg.puntTail
        ((List.range 8).foldl (fun t n => t.takePosted pg.posted n) s1).writeHeads

/-- HIF_NUDGE (R54): a write of POLL starts a poll. It is never journalled (R481). -/
def execHifNudge (v : Word) (s : State) : Host.Outcome State Fault Refusal :=
  .next (if bit v.toNat 0 && s.polls then { s with hif := { s.hif with pollAsked := true } } else s)

/-! Fetching and the ready lists (R60, R63 to R66). -/

/-- DDR5 is in service for the Saucer: the channels are trained and none is frozen or off (R66, R303). -/
def State.ddrInService (s : State) : Bool := (List.range 4).all (fun n => s.fld F.MEM_CH_STATUS_STATE n == 2 || s.fld F.MEM_CH_STATUS_STATE n == 3)

/-- Entries on chip and in the Saucer at a priority. -/
def State.readyAt (s : State) (p : Nat) : List Entry := SMap.get s.hif.ready p []
def State.saucerAt (s : State) (p : Nat) : List Entry := SMap.get s.hif.saucer p []
/-- Write the on-chip list of a priority; an entry that comes to its head begins to wait there (R64). -/
def State.setReady (s : State) (p : Nat) (l : List Entry) : State :=
  { s with hif := { s.hif with
      ready := SMap.put s.hif.ready p l []
      headSince := if l.head? = (s.readyAt p).head? then s.hif.headSince else SMap.put s.hif.headSince p s.ltb.lc 0 } }

/-- Write the Saucer part of a priority. -/
def State.setSaucer (s : State) (p : Nat) (l : List Entry) : State :=
  { s with hif := { s.hif with saucer := SMap.put s.hif.saucer p l [] } }

/-- The DDR5 address of a position of a priority's Saucer part (R65, R301; DESIGN CHOICE, log entry 124: the parts lie in order of priority, positions in turn). -/
def State.spillAddr (s : State) (p pos : Nat) : Nat := s.saucerBase + (p * 131072 + pos % 131072) * 64

/-- The 64 bytes of a spilled entry: a descriptor's; those of an engine's task are its firmware's and not stated: a free value (log entry 106). -/
def Entry.bytes : Entry → List Nat
  | .cmd _ d => ((descWords d).map (leBytes 4)).flatten
  | .task k c => (List.range 64).map (fun i => Config.taskByte k c i % 256)

/-- An entry spills: the next position of its priority's part takes its line (R65, R301). -/
def State.spill (s : State) (p : Nat) (e : Entry) : State :=
  let pos := SMap.get s.hif.spillNo p 0
  let s1 := (s.setSaucer p (s.saucerAt p ++ [e])).ddrWrite (s.spillAddr p pos) 4 (p + pos % 2 ^ 64 * 256) e.bytes
  { s1 with hif := { s1.hif with spillNo := SMap.put s1.hif.spillNo p (pos + 1) 0 } }

/-- The address of the oldest spilled entry of a priority. -/
def State.oldestSpill (s : State) (p : Nat) : Nat := s.spillAddr p (SMap.get s.hif.spillNo p 0 - (s.saucerAt p).length)

/-- Where a further entry of a priority would go: on chip, into the Saucer behind what is spilled already (R65), or nowhere
(R66). -/
inductive Room where
  | chip | spill | none
  deriving DecidableEq, Repr

/-- DESIGN CHOICE (log entry 105; R65 and R66 leave it open): with entries spilled already and no further spill permitted, there is no room even where the chip has
some, since a later entry would overtake them. -/
def State.roomAt (s : State) (p : Nat) : Room :=
  if (s.saucerAt p).isEmpty && decide ((s.readyAt p).length < 1024) then .chip
  else if s.fld F.HIF_DISPATCH_CFG_SAUCER_EN 0 == 1 && s.ddrInService && decide ((s.saucerAt p).length < 131072) then .spill
  else .none

/-- Enter an entry in the list of a priority, spilling where the on-chip part is full (R65); with no room in either it is not entered, which its caller sees to. -/
def State.enterList (s : State) (p : Nat) (e : Entry) : State :=
  match s.roomAt p with
  | .chip => s.setReady p (s.readyAt p ++ [e])
  | .spill => s.spill p e
  | .none => s

/-- The priority of a ring: PRIO 0 is treated as 1 (R63). -/
def State.ringPriority (s : State) (kind n : Nat) : Nat := max 1 (s.fld (ringPrio kind) n)

/-- The completion ring of a ring has an entry free beyond those reserved, and is open (R60, R488). -/
def State.cplRoom (s : State) (kind n : Nat) : Bool :=
  let c := s.fld (ringCpl kind) n
  s.ringOpen 1 c && decide (idxDist (s.ring 1 c).head (s.ring 1 c).tail + (s.ring 1 c).reserved < s.ringSize 1 c)

/-- COMMAND_FETCH (R60, R63, R65, R66): the next descriptor of an open ring whose producer index covers it is fetched once its
completion space is reserved; it enters the ready list of its ring's priority, spilling to the Saucer where the on-chip
part is full. With no room in either, nothing is fetched and SAUCER_FULL is set. `words` are the descriptor's sixteen words and `data` the content of the buffer that
they name. -/
def execCommandFetch (inj : Bool) (n : Nat) (words : List Nat) (data : List Word) (s : State) : Host.Outcome State Fault Refusal :=
  .next <|
    let kind := if inj then 4 else 0
    let r := s.ring kind n
    let p := s.ringPriority kind n
    if !(s.polls && s.fld F.HIF_CTRL_RINGS_EN 0 == 1 && s.ringOpen kind n && r.head != r.tail && s.cplRoom kind n) then s
    else if s.roomAt p = .none then s.raise F.HIF_EVENT_SAUCER_FULL F.HIF_EVENT_EVCNT1_SAUCER_FULL 0
    else
      let d := descOf n r.head words data
      let c := s.fld (ringCpl kind) n
      let s1 := s.setRing 1 c { s.ring 1 c with reserved := (s.ring 1 c).reserved + 1 }
      let s2 := s1.setRing kind n { r with head := (r.head + 1) % 2 ^ 32 }
      let s3 : State := { s2 with hif := { s2.hif with flight := s2.hif.flight ++ [⟨inj, d, false, false, none⟩] } }
      s3.enterList p (.cmd inj d)

/-- A descriptor whose words were lost with its Saucer entry (R65): of it the ring and the index are left. -/
def lostDesc (d : Desc) : Desc :=
  { d with tag := 0, opcode := 0, durable := false, buf := false, irq := false, quiet := false, fence := false, bufAddr := 0, bufLen := 0, args := [], data := [] }

/-- A command lost from the Saucer retires with MEM_UNCORRECTABLE without executing: TAG, OPCODE and PAYLOAD read 0, SRC and
INDEX are kept, FLAGS [0] is SAUCER_LOST (R65, R79). Its DURABLE, QUIET and IRQ were in the lost words too. -/
def State.loseFromSaucer (s : State) (inj : Bool) (d : Desc) (loc : Nat) : State :=
  let seq := s.nextSeq
  let e := lostDesc d
  let s1 := if inj then s else s.pushRecord (s.recordNow 1 d.ring 0 0 stMemUncorr 1 loc d.index [0, 0, 0, 0, 0, 0])
  let fl := mapWhere (fun f => f.inj == inj && f.desc.ring == d.ring && f.desc.index == d.index) (fun f => { f with desc := e }) s1.hif.flight
  { s1 with hif := { s1.hif with flight := markDone inj e ⟨stMemUncorr, loc, if inj then 0 else seq, true⟩ fl } }

/-- SAUCER_RETURN (R65): the oldest spilled entry of a priority returns to chip as room frees, in FIFO order, while DDR5 is in service for it (R319). `fails` is how many
copies of its line fail in a row: a command whose refetch fails is lost, with the line's place in its ERR_LOC (R9, R302). A task of an engine is its engine's own and
returns (log entry 106). -/
def execSaucerReturn (p fails : Nat) (s : State) : Host.Outcome State Fault Refusal :=
  .next <|
    match s.saucerAt p with
    | [] => s
    | e :: rest =>
      if 1024 ≤ (s.readyAt p).length ∨ !s.ddrInService then s
      else
        let a := s.oldestSpill p
        let (ok, s1) := s.ddrRead a fails
        match ok, e with
        | false, .cmd inj d => (s1.setSaucer p rest).loseFromSaucer inj d (s.ddrLoc a)
        | _, _ => (s1.setSaucer p rest).setReady p (s1.readyAt p ++ [e])

/-- AGE_PROMOTION (R64): while AGE_LIMIT is non-zero, the head of a list that has waited there longer than it moves to the tail of the
list one priority higher, never into priority 0. Where that list has no room it keeps its place (DESIGN CHOICE, log entry 107: R64 is silent). -/
def execAgePromotion (p : Nat) (s : State) : Host.Outcome State Fault Refusal :=
  .next <|
    let age := s.fld F.HIF_DISPATCH_CFG_AGE_LIMIT 0
    if age = 0 ∨ p < 2 ∨ s.ltb.lc - SMap.get s.hif.headSince p 0 ≤ usLc age ∨ s.roomAt (p - 1) = .none then s
    else match s.readyAt p with
      | [] => s
      | e :: rest => (s.setReady p rest).enterList (p - 1) e

/-! Dispatch (R63, R67, R444, R453). -/

/-- The fetched commands of the same ring before one. -/
def earlierOf (inj : Bool) (d : Desc) : List Flight → List Flight
  | [] => []
  | f :: fs =>
    if f.inj == inj && f.desc.ring == d.ring then
      (if f.desc.index == d.index then [] else f :: earlierOf inj d fs)
    else earlierOf inj d fs

/-- In Simmer's low power only commands for HIF, PWR, WHS, CDY and LFG execute (R453). -/
def simmerUnit (u : Nat) : Bool := u == 0 || u == 0x0F || decide (0x10 ≤ u ∧ u ≤ 0x12)

/-- An entry can start: a FENCE waits for every earlier command of its ring, a waiting fenced command holds back the later
ones of its ring (R63), an unfinished earlier command of its ring for the same unit holds it back (R67), and Simmer holds commands of other units (R453). -/
def State.ableEntry (s : State) : Entry → Bool
  | .task _ _ => true
  | .cmd inj d =>
    let es := earlierOf inj d s.hif.flight
    (!d.fence || es.isEmpty) && es.all (fun f => !(f.desc.fence && !f.started) && (f.done.isSome || f.desc.opcode / 2 ^ 10 != d.opcode / 2 ^ 10)) &&
      (!s.lowPower || simmerUnit (d.opcode / 2 ^ 10))

/-- The highest-priority list with an entry able to start, that entry and the list without it. -/
def State.nextEntry (s : State) : List Nat → Option (Nat × Entry × List Entry)
  | [] => none
  | p :: ps =>
    match pullFirst s.ableEntry (s.readyAt p) with
    | some (e, rest) => some (p, e, rest)
    | none => s.nextEntry ps

/-- Mark a fetched command as started. -/
def State.markStarted (s : State) (inj : Bool) (d : Desc) : State :=
  { s with hif := { s.hif with
      flight :=
        mapWhere (fun f => f.inj == inj && f.desc.ring == d.ring && f.desc.index == d.index)
          (fun f => { f with started := true }) s.hif.flight } }

/-- The opcodes of the device: unit in [15:10], operation in [9:0] (R57, and each unit's opcode table). -/
def opcodeDefined (op : Nat) : Bool :=
  op ∈ [0x0000, 0x0001, 0x0002, 0x0003, 0x0004] ||
  op ∈ [0x0801, 0x0802, 0x0803] || op ∈ [0x0C01, 0x0C02, 0x0C03, 0x0C04] ||
  decide (0x1001 ≤ op ∧ op ≤ 0x1006) || decide (0x1801 ≤ op ∧ op ≤ 0x1808) || op ∈ [0x1C01, 0x1C02] ||
  decide (0x2001 ≤ op ∧ op ≤ 0x2009) || decide (0x2401 ≤ op ∧ op ≤ 0x2409) || op ∈ [0x2801, 0x2802] ||
  decide (0x2C01 ≤ op ∧ op ≤ 0x2C04) || decide (0x3001 ≤ op ∧ op ≤ 0x3004) || op == 0x3401 ||
  op ∈ [0x3801, 0x3802, 0x3803] || op ∈ [0x3C01, 0x3C02, 0x3C03] || op ∈ [0x4001, 0x4002, 0x4003] ||
  op ∈ [0x4401, 0x4402, 0x4403]

/-- Start one entry: an undefined opcode completes at once with BAD_OPCODE (R61); a command whose domain is not ON makes a
demand of it and stalls (R444); any other is started and its unit executes it. -/
def State.startEntry (s : State) : Entry → State
  | .task _ _ => s
  | .cmd inj d =>
    let s1 := s.markStarted inj d
    if inj then (if d.opcode = 0x0010 ∨ d.opcode = 0x0011 then s1 else s1.finishInject d stBadOpcode 0)
    else if !opcodeDefined d.opcode then s1.finish d stBadOpcode 0
    else match s.domOfCmd d with
      | none => s1
      | some (n, sl) =>
        if s1.dom n sl == 2 then s1 else s1.demand ⟨n, sl, 2, 0, 0, inj, some d, s1.ltb.lc⟩

/-- A command that Simmer holds in its ready list is a wake source HOST while HOST_WAKE is 1 (R453). -/
def State.hostWakes (s : State) : Bool :=
  s.lowPower && s.fld F.PWR_SIMMER_CFG_HOST_WAKE 0 == 1 &&
    (List.range 8).any (fun p => (s.readyAt p).any (fun e =>
      match e with
      | .task _ _ => false
      | .cmd _ d => !simmerUnit (d.opcode / 2 ^ 10)))

/-- A service engine's restart count and the program counter of its latest restart. -/
def State.engine (s : State) (k : Nat) : Engine := SMap.get s.hif.engines k ⟨0, 0, []⟩

def State.setEngine (s : State) (k : Nat) (e : Engine) : State :=
  { s with hif := { s.hif with engines := SMap.put s.hif.engines k e ⟨0, 0, []⟩ } }

/-- Tasks enter their list at priority 0 one by one, as far as there is room. -/
def State.enterTasks (s : State) (k : Nat) : List Nat → State
  | [] => s.setEngine k { s.engine k with waiting := [] }
  | c :: cs => if s.roomAt 0 = .none then s.setEngine k { s.engine k with waiting := c :: cs } else (s.enterList 0 (.task k c)).enterTasks k cs

/-- Tasks that waited for room in the list of priority 0 enter it (R69). -/
def State.retryTasks (s : State) : State :=
  (List.range 4).foldl (fun t k => if (t.engine k).waiting = [] then t else t.enterTasks k (t.engine k).waiting) s

/-- DISPATCH (R63): the first entry able to start, from the highest-priority list that holds one, starts. With none able and a
command held by Simmer under HOST_WAKE, the terminal wakes (R453). -/
def execDispatch (s : State) : Host.Outcome State Fault Refusal :=
  .next <|
    match s.nextEntry (List.range 8) with
    | some (p, e, rest) => ((s.setReady p rest).startEntry e).retryTasks
    | none => if s.hostWakes then s.wakeSource 6 else s

/-! Retirement (R59 to R62, R67, R74, R82, R84, R87, R488). -/

/-- The first fetched command of a ring that has not retired, and the list without it. -/
def firstOf (inj : Bool) (ring : Nat) (l : List Flight) : Option (Flight × List Flight) :=
  pullFirst (fun f => f.inj == inj && f.desc.ring == ring) l

/-- The record with this SEQ is still unmirrored. -/
def State.unmirroredSeq (s : State) (seq : Nat) : Bool :=
  (s.lfg.volatile.take s.lfg.unmirrored).any (fun r => r.seq == seq)

/-- The mirror writes records to the store: it is on and the keeping die is reached. -/
def State.mirrorRuns (s : State) : Bool := s.mirrorOn && s.linkOk

/-- An MSI-X vector is raised (R74). -/
def State.raiseVec (s : State) (v : Nat) : State := { s with hif := { s.hif with msix := s.hif.msix ++ [v] } }

/-- The completion of a command (R59). Its vector is raised at once where the descriptor set IRQ, without moderation; otherwise the entry accumulates toward it
(R74). -/
def State.complete (s : State) (f : Flight) (dn : Done) (c : Nat) (nvMiss : Bool) : State :=
  let r := s.ring 1 c
  let src := if f.inj then 0x10 + f.desc.ring else f.desc.ring
  let s1 := s.putEntry 1 c 16
    [phaseAt r.head (s.ringSize 1 c) * 2 ^ 31 + dn.status * 2 ^ 16 + (if dn.saucerLost then 0 else f.desc.tag),
     dn.seq % 2 ^ 32, dn.result,
     src * 2 ^ 27 + b2n nvMiss * 2 ^ 26 + b2n dn.saucerLost * 2 ^ 25 + f.desc.index % 2 ^ 16]
  if f.desc.irq then s1.raiseVec (s1.fld F.HIF_CPL_CFG_VEC c) else s1.oweVec (s1.fld F.HIF_CPL_CFG_VEC c)

/-- A DURABLE command's record is not in the store: still unmirrored, or overwritten unmirrored (R84). -/
def State.notMirrored (s : State) (f : Flight) (dn : Done) : Bool :=
  !f.inj && f.desc.durable && (s.unmirroredSeq dn.seq || s.lfg.missed.contains dn.seq)

/-- A done command retires (R67): its reserved space is given back, and its completion is written unless it is discarded (R87, R488) or QUIET (R57). -/
def State.retireAs (s : State) (f : Flight) (rest : List Flight) (dn : Done) : State :=
  let miss := s.notMirrored f dn
  let c := s.fld (ringCpl (if f.inj then 4 else 0)) f.desc.ring
  let s1 : State := { s with
    hif := { s.hif with flight := rest }, lfg := { s.lfg with missed := s.lfg.missed.filter (fun q => q != dn.seq) } }
  let s2 := if f.drop then s1 else s1.setRing 1 c { s1.ring 1 c with reserved := (s1.ring 1 c).reserved - 1 }
  if f.drop || !s2.hostUp || (f.desc.quiet && dn.status == stOk) then s2 else s2.complete f dn c miss

/-- RETIRE (R67): the oldest unretired command of a ring, once its record is committed, writes its completion and retires.
No command retires while LFG_STATUS.LAGGING is 1 (R82); an inject descriptor is packet traffic and does (R73). A DURABLE command waits while its record is still to be mirrored, and completes with
NV_MISS where the mirror is stopped or the record was overwritten (R84, R486). QUIET posts no completion for an OK (R57). With the host gone, or the
completion ring's EN cleared since the space was reserved, the completion is discarded (R87, R488). -/
def execRetire (inj : Bool) (ring : Nat) (s : State) : Host.Outcome State Fault Refusal :=
  .next <|
    if !inj && s.fld F.LFG_STATUS_LAGGING 0 == 1 then s else
    match firstOf inj ring s.hif.flight with
    | none => s
    | some (f, rest) =>
      match f.done with
      | none => s
      | some dn =>
        if !inj && f.desc.durable && s.unmirroredSeq dn.seq && s.mirrorOn then s else s.retireAs f rest dn

/-- The DURABLE completions of a ring that wait for their records are posted at once, with NV_MISS, as the mirror stops (R486): from the head of the ring on, as far as
commands are done. -/
def State.postDurable (s : State) (ring : Nat) : Nat → State
  | 0 => s
  | k + 1 =>
    match firstOf false ring s.hif.flight with
    | none => s
    | some (f, rest) =>
      match f.done with
      | none => s
      | some dn => if f.desc.durable && s.unmirroredSeq dn.seq then (s.retireAs f rest dn).postDurable ring k else s

/-- Those of every command ring. -/
def State.postDurables (s : State) : State := (List.range 16).foldl (fun t n => t.postDurable n t.hif.flight.length) s

/-- The moderation register in force for a ring's vector: COUNT 0 is treated as 1 (R74, HIF_VEC_MOD). -/
def State.vecCount (s : State) (v : Nat) : Nat := max 1 (s.fld F.HIF_VEC_MOD_COUNT v)

/-- HOLDOFF, in units of 100 ns and not 0, has passed since the first entry the vector has not yet signalled (R74). -/
def State.vecHeldOff (s : State) (v : Nat) : Bool :=
  s.fld F.HIF_VEC_MOD_HOLDOFF v != 0 && decide (s.fld F.HIF_VEC_MOD_HOLDOFF v * 124416 ≤ (s.ltb.lc - (s.vec v).since) * 1000)

/-- VECTOR_RAISE (R74): the vector of a completion, event or punt ring is raised when COUNT entries have accumulated toward it, or when HOLDOFF has passed since
the first entry not yet signalled. -/
def execVectorRaise (kind n : Nat) (s : State) : Host.Outcome State Fault Refusal :=
  .next <|
    let v := s.fld (ringVec kind) n
    let x := s.vec v
    if decide (0 < x.owed) && (decide (s.vecCount v ≤ x.owed) || s.vecHeldOff v) then (s.setVec v ⟨0, 0⟩).raiseVec v else s

/-! HIF commands (R58). -/

/-- NOP (R58): completes with RESULT 0. -/
def execNop (d : Desc) (s : State) : Host.Outcome State Fault Refusal := .next (s.asCommand d 0x0000 true (s.finish d stOk 0))

/-- JOURNAL_MARK (R58): the 24-byte cookie of DW5 to DW10 is the payload of the COMMAND record (R80). -/
def execJournalMark (d : Desc) (s : State) : Host.Outcome State Fault Refusal := .next (s.asCommand d 0x0001 true (s.finish d stOk 0))

/-- The key records are ordered by: (WRAPS, BOOT, count) (R81). -/
def Record.key (r : Record) : Nat := r.wraps * 2 ^ 64 + r.seq

/-- The available records in commit order, each once (R58, R81): the store, and the volatile ring unless `nvOnly`. -/
def State.available (s : State) (nvOnly : Bool) : SMap Record :=
  let m := s.lfg.nv.foldl (fun m r => SMap.insert m r.key r) []
  if nvOnly then m else s.lfg.volatile.foldl (fun m r => SMap.insert m r.key r) m

/-- JOURNAL_READ (R58): records from (START_WRAPS, START_SEQ) on, in commit order, COUNT at most. -/
def execJournalRead (d : Desc) (s : State) : Host.Outcome State Fault Refusal :=
  .next <| s.asCommand d 0x0002 true <|
    let count := d.dw 7 % 2 ^ 17
    if !d.buf then s.refuse d stBadArg 4
    else if count = 0 ∨ 65536 < count then s.refuse d stBadArg (if d.bufLen < count * 64 then 4 else 7)
    else if d.bufLen < count * 64 then s.refuse d stBadArg 4
    else
      let start := (d.dw 8 / 2 ^ 16) * 2 ^ 64 + d.dw 6 * 2 ^ 32 + d.dw 5
      let rs := ((s.available (bit (d.dw 8) 0)).filter (fun p => decide (start ≤ p.1))).take count
      (s.toBuf d (rs.map (fun p => p.2.words)).flatten).finish d stOk rs.length

/-- Rings of a kind (R51). -/
def ringCount (kind : Nat) : Nat := if kind < 2 then 16 else 8

/-- The argument checks of RING_CONTROL (R58): its own ring, a kind above 4 or a number beyond the count is BAD_ARG 5. -/
def ringControlBad (d : Desc) : Bool :=
  let kind := bits (d.dw 5) 7 5
  let n := bits (d.dw 5) 4 0
  decide (4 < kind) || decide (ringCount kind ≤ n) || (kind == 0 && n == d.ring)

/-- RING_CONTROL (R58): DW5 [8] says start or stop. A start is STATE_REFUSED on a ring whose EN is 0; else STOPPED clears and fetching resumes from the terminal's own
index. A stop sets STOPPED (R488). -/
def State.ringControl (s : State) (d : Desc) : State :=
  let kind := bits (d.dw 5) 7 5
  let n := bits (d.dw 5) 4 0
  if ringControlBad d then s.refuse d stBadArg 5
  else if bit (d.dw 5) 8 then
    (if s.fld (ringEn kind) n = 0 then s.refuse d stStateRefused (refusedWord 0x08 (kind * 32 + n) (s.fld (ringStopped kind) n * 2))
      else (s.setFld (ringStopped kind) n 0).finish d stOk 0)
  else (s.setFld (ringStopped kind) n 1).finish d stOk 0

/-- RING_START (R58): RING_CONTROL with DW5 [8] 1. -/
def execRingStart (d : Desc) (s : State) : Host.Outcome State Fault Refusal := .next (s.asCommand d 0x0003 (bit (d.dw 5) 8) (s.ringControl d))

/-- RING_STOP (R58, R488): RING_CONTROL with DW5 [8] 0. -/
def execRingStop (d : Desc) (s : State) : Host.Outcome State Fault Refusal := .next (s.asCommand d 0x0003 (!bit (d.dw 5) 8) (s.ringControl d))

/-- ENGINE_QUERY (R58): 16 bytes per engine. -/
def execEngineQuery (d : Desc) (s : State) : Host.Outcome State Fault Refusal :=
  .next <| s.asCommand d 0x0004 true <|
    if !d.buf ∨ d.bufLen < 64 then s.refuse d stBadArg 4
    else (s.toBuf d (((List.range 4).map (fun k =>
      [s.fld (engRunning k) 0, (s.engine k).restarts, (s.engine k).pc, 0])).flatten)).finish d stOk 0

/-- HIF_ENGINE_STATUS.RESTARTS of an engine. -/
def engRestarts : Nat → Fld
  | 0 => F.HIF_ENGINE_STATUS_RESTARTS0 | 1 => F.HIF_ENGINE_STATUS_RESTARTS1 | 2 => F.HIF_ENGINE_STATUS_RESTARTS2
  | _ => F.HIF_ENGINE_STATUS_RESTARTS3

/-- The commands an engine was executing retire with FAULT (R69). -/
def State.failEngineWork (s : State) (work : List Desc) (loc : Nat) : State :=
  work.foldl (fun t d => t.finish d stFault loc) s

/-- ENGINE_RESTART (R69): in order, the engine restarts from the image, the commands it was executing retire with FAULT, an ENGINE_RESTART record is committed, RESTARTS
advances and the event bit is set; its internal tasks re-enter the ready lists at priority 0. The location of the fault is the host interface's, resolved no further
(log entry 108). -/
def execEngineRestart (k pc : Nat) (work : List Desc) (tasks : List Nat) (s : State) :
    Host.Outcome State Fault Refusal :=
  .next <|
    if s.fld (engRunning k) 0 = 0 then s else
    let n := min ((s.engine k).restarts + 1) 0xFFFFFFFF
    let s1 := s.failEngineWork work (errUnit 0)
    let s2 := s1.commit 7 0x22 [k, n, pc, 0, 0, 0]
    let s3 := ((s2.satAdd (engRestarts k) 0 1).raise F.HIF_EVENT_ENGINE_RESTART F.HIF_EVENT_EVCNT0_ENGINE_RESTART 0)
    let s4 := s3.setEngine k { s3.engine k with restarts := n, pc := pc }
    s4.enterTasks k ((s4.engine k).waiting ++ tasks)

/-! Ring configuration (R88, R488). -/

/-- A ring is idle (R88): nothing of it is in flight. -/
def State.ringIdle (s : State) (kind n : Nat) : Bool :=
  match kind with
  | 0 => s.hif.flight.all (fun x => x.inj || x.desc.ring != n)
  | 1 => (s.ring 1 n).reserved == 0
  | 4 => s.hif.flight.all (fun x => !x.inj || x.desc.ring != n)
  | _ => true

/-- BAR0 address of a ring's CFG (R88). -/
def ringCfgAddr (kind n : Nat) : Nat :=
  (match kind with | 0 => 0x1008 | 1 => 0x1208 | 2 => 0x1408 | 3 => 0x1508 | _ => 0x1608) + 0x20 * n

/-- The completions whose space was reserved in a completion ring are discarded when its EN is cleared (R488). -/
def State.dropReserved (s : State) (c : Nat) : State :=
  let s1 : State := { s with hif := { s.hif with
      flight :=
        mapWhere (fun f => s.fld (ringCpl (if f.inj then 4 else 0)) f.desc.ring == c) (fun f => { f with drop := true }) s.hif.flight } }
  s1.setRing 1 c { s1.ring 1 c with reserved := 0 }

/-- The RW fields of a ring's CFG other than EN. -/
def State.setRingFields (s : State) (kind n v size : Nat) : State :=
  (((s.setFld (ringPrio kind) n (bits v 26 24)).setFld (ringCpl kind) n (bits v 23 20)).setFld (ringVec kind) n
    (bits v 13 8)).setFld (ringLog kind) n size

/-- CFG.EN takes a value (R88, R488): going to 1 it returns the index to 0 and clears STOPPED; going to 0 it keeps the index. Punt buffers posted before stay posted
(DESIGN CHOICE, log entry 109: R488 keeps them over a clear of EN, and nothing says what the return of the index to 0 does to them). -/
def State.setRingEn (s : State) (kind n en : Nat) : State :=
  let was := s.fld (ringEn kind) n
  let s1 := s.setFld (ringEn kind) n en
  if was = 0 ∧ en = 1 then (s1.setRing kind n ⟨0, 0, 0⟩).setFld (ringStopped kind) n 0
  else if was = 1 ∧ en = 0 ∧ kind = 1 then s1.dropReserved n
  else s1

/-- A write of a ring's CFG (R88, R488): fields other than EN change only while EN is 0 and IDLE is 1, and any other write to
them is discarded with CFG_REFUSED, EN taking its bit all the same; a LOG2_SIZE outside 6 to 16 keeps the old size. -/
def State.writeRingCfg (s : State) (kind n v : Nat) : State :=
  let lg := bits v 4 0
  let size := if 6 ≤ lg ∧ lg ≤ 16 then lg else s.fld (ringLog kind) n
  let changes := s.fld (ringPrio kind) n != bits v 26 24 || s.fld (ringCpl kind) n != bits v 23 20 ||
    s.fld (ringVec kind) n != bits v 13 8 || s.fld (ringLog kind) n != size
  let s1 :=
    if changes && !(s.fld (ringEn kind) n == 0 && s.ringIdle kind n) then s.raise F.HIF_EVENT_CFG_REFUSED F.HIF_EVENT_EVCNT0_CFG_REFUSED 0
    else s.setRingFields kind n v size
  s1.setRingEn kind n (bits v 31 31)

/-- RING_CFG_WRITE (R88). -/
def execRingCfgWrite (kind n : Nat) (v : Word) (s : State) : Host.Outcome State Fault Refusal :=
  .next (s.hostWrite (ringCfgAddr kind n) v.toNat (fun t => t.landed (ringCfgAddr kind n) v.toNat
    (fun u => u.writeRingCfg kind n v.toNat)))

/-! Stages and host loss (R47, R48, R49, R87). -/

/-- LOAD (R48): HIF_IMG_CTRL takes LEN; LOAD written 1 in IMAGE_WAIT starts the image DMA, elsewhere it is discarded. -/
def State.writeImgCtrl (s : State) (v : Nat) : State :=
  let s1 := s.setFld F.HIF_IMG_CTRL_LEN 0 (bits v 23 0)
  if bit v 31 && s1.fld F.HIF_STATUS_STAGE 0 == 1 then
    let a := s1.fld F.HIF_IMG_ADDR_HI_ADDR 0 * 2 ^ 32 + s1.fld F.HIF_IMG_ADDR_LO_ADDR 0 * 2 ^ 6
    ({ s1 with hif := { s1.hif with imgDma := some (a, bits v 23 0) } }.setFld F.HIF_STATUS_STAGE 0 2).stageRecord 0x20 1 2 0 0
  else s1

def execLoad (v : Word) (s : State) : Host.Outcome State Fault Refusal :=
  .next (s.hostWrite 0x30 v.toNat (fun t => t.landed 0x30 v.toNat (fun u => u.writeImgCtrl v.toNat)))

/-- HIF_IMG_STATUS as a word. -/
def State.imgStatus (s : State) : Nat :=
  s.fld F.HIF_IMG_STATUS_MAJOR 0 * 2 ^ 24 + s.fld F.HIF_IMG_STATUS_MINOR 0 * 2 ^ 16 + s.fld F.HIF_IMG_STATUS_PATCH 0 * 2 ^ 8 +
    s.fld F.HIF_IMG_STATUS_ERROR 0

/-- The end of an image load with an error code goes back to IMAGE_WAIT (R48, R49). -/
def State.imageFail (s : State) (code : Nat) : State :=
  let s0 := (s.setFld F.HIF_IMG_STATUS_ERROR 0 code).setFld F.HIF_STATUS_STAGE 0 1
  let s1 : State := { s0 with hif := { s0.hif with imgDma := none } }
  s1.stageRecord 0x24 2 1 3 s1.imgStatus

/-- The four engines start (R48). -/
def State.startEngines (s : State) : State :=
  (List.range 4).foldl (fun t k => t.setFld (engRunning k) 0 1) s

/-- The header, CRC and signature checks of R49, in the order of the error codes of HIF_IMG_STATUS.ERROR. -/
def imageError (len magic hdrLen : Nat) (crcOk sigOk dmaOk : Bool) : Nat :=
  if !dmaOk then 5
  else if magic != 0x4C444E55 then 1
  else if len != hdrLen + 96 || decide (3145728 < hdrLen) then 2
  else if !crcOk then 3
  else if !sigOk then 4
  else 0

/-- IMAGE_LOAD_END (R48, R49): with every check passed the engines start, VERSION is taken and the stage is SETUP; the loaded
image also places the Infuser's supplied programs, which is laid down with the cores (R436). -/
def State.imageLoadEnd (s : State) (magic hdrLen version : Nat) (crcOk sigOk dmaOk : Bool) : State :=
  if s.fld F.HIF_STATUS_STAGE 0 != 2 then s else
  let e := imageError (s.fld F.HIF_IMG_CTRL_LEN 0) magic hdrLen crcOk sigOk dmaOk
  if e = 0 then
    let s1 := ((((s.setFld F.HIF_IMG_STATUS_MAJOR 0 (bits version 31 24)).setFld F.HIF_IMG_STATUS_MINOR 0
      (bits version 23 16)).setFld F.HIF_IMG_STATUS_PATCH 0 (bits version 15 8)).setFld F.HIF_IMG_STATUS_ERROR 0 0).setFld
      F.HIF_STATUS_STAGE 0 3
    let s2 : State := { s1 with hif := { s1.hif with imageLoaded := true, imgDma := none } }
    s2.startEngines.stageRecord 0x24 2 3 3 s2.imgStatus
  else s.imageFail e

/-- A write of HIF_CTRL (R48, R56): RINGS_EN and DB_CHECK take their bits; RUN written 1 in SETUP enters RUN with a STAGE
record; the first entry after cold reset starts the journalling of register writes, this write included. -/
def State.writeHifCtrl (s : State) (v : Nat) : State :=
  let s1 := (s.setFld F.HIF_CTRL_RINGS_EN 0 (bits v 1 1)).setFld F.HIF_CTRL_DB_CHECK 0 (bits v 2 2)
  if bit v 0 && s1.fld F.HIF_STATUS_STAGE 0 == 3 then
    let s2 := ((s1.setFld F.HIF_STATUS_STAGE 0 4).setFld F.HIF_CTRL_RUN 0 1).stageRecord 0x20 3 4 0 0
    State.writeKept { s2 with hif := { s2.hif with regsJournalled := true } }
  else s1.writeKept

/-- RUN (R48, R77): the write of HIF_CTRL. -/
def execRun (v : Word) (s : State) : Host.Outcome State Fault Refusal :=
  .next (s.hostWrite 0x0 v.toNat (fun t => t.landed 0x0 v.toNat (fun u => u.writeHifCtrl v.toNat)))

/-- HOST_LOSS (R87): Bus Master Enable and the PCIe link take the values seen; while either is 0 the terminal fetches nothing
and its completions are discarded. The row also carries their return (log entry 13). HIF_STATUS.BME shows Bus Master Enable as the terminal sees it, which a link that is
down does not carry: it reads 0 then (DESIGN CHOICE, log entry 13). -/
def execHostLoss (bme link : Bool) (s : State) : Host.Outcome State Fault Refusal :=
  .next { s.setFld F.HIF_STATUS_BME 0 (b2n (bme && link)) with hif := { s.hif with linkUp := link } }

/-! The mirror (R82 to R86, R486). -/

/-- Records the journal part of the store holds: 1,023 in each sector it uses (R85, R86). -/
def State.storeCap (s : State) : Nat := s.lfg.sectors.length * 1023

/-- The store's registers follow the store. -/
def State.showStore (s : State) : State :=
  let newest := match s.lfg.nv with | [] => 0 | r :: _ => r.seq
  let oldest := match s.lfg.nv.getLast? with | none => 0 | some r => r.seq
  ((((s.setFld F.LFG_NV_SEQ_LO_SEQ 0 newest).setFld F.LFG_NV_SEQ_HI_SEQ 0 (newest / 2 ^ 32)).setFld F.LFG_OLDEST_SEQ_LO_SEQ 0
    oldest).setFld F.LFG_OLDEST_SEQ_HI_SEQ 0 (oldest / 2 ^ 32))

/-- The sector being written is retired in the store (R85, R86): a spare takes its place, or with none left the journal shrinks by one sector, and the oldest records
beyond what it then holds are given up (DESIGN CHOICE, log entry 110: the spec does not say which). The record goes on in the next sector. -/
def Lfg.retire (l : Lfg) : Lfg :=
  let n := l.sectors.length
  let secs := if l.spares = 0 then l.sectors.eraseIdx l.place else l.sectors.set l.place (256 - l.spares)
  let p := if l.spares = 0 then l.place else l.place + 1
  { l with
    usable := l.usable - 1, spares := l.spares - 1, sectors := secs, place := p % max 1 (if l.spares = 0 then n - 1 else n), fill := 0
    nv := l.nv.take (secs.length * 1023) }

/-- The oldest unmirrored record is written to the sector in use, after its header record and those before it; a sector holds 1,023 (R85). -/
def Lfg.store (l : Lfg) (r : Record) : Lfg :=
  let full := 1023 ≤ l.fill + 1
  { l with
    nv := (r :: l.nv).take (l.sectors.length * 1023), unmirrored := l.unmirrored - 1
    place := if full then (l.place + 1) % max 1 l.sectors.length else l.place
    fill := if full then 0 else l.fill + 1 }

/-- The registers and the STORE record of the retirement of sector `old`, which happened with `spares` spares left (R85, R86): with fewer than 32 usable sectors the
mirror stops. -/
def State.sectorRetired (s : State) (old spares : Nat) : State :=
  let s2 := (((s.setFld F.LFG_STATUS_USABLE 0 s.lfg.usable).setFld F.LFG_STATUS_SPARES 0 s.lfg.spares).raise
    F.LFG_EVENT_SECTOR_RETIRED F.LFG_EVENT_EVCNT_SECTOR_RETIRED 0)
  let s3 := if spares = 0 then s2.raise F.LFG_EVENT_CAPACITY_SHRUNK F.LFG_EVENT_EVCNT_CAPACITY_SHRUNK 0 else s2
  let s4 := if s3.lfg.usable < 32 then
      (s3.setFld F.LFG_STATUS_VOLATILE_ONLY 0 1).raise F.LFG_EVENT_MIRROR_STOPPED F.LFG_EVENT_EVCNT_MIRROR_STOPPED 0
    else s3
  s4.commit 6 0x23 [old, s4.lfg.usable, s4.lfg.spares,
    s4.fld F.LFG_STATUS_MIRROR_GAP 0 * 2 + s4.fld F.LFG_STATUS_VOLATILE_ONLY 0, 0, 0]

/-- The oldest unmirrored record. -/
def State.oldestUnmirrored (s : State) : Option Record :=
  if s.lfg.unmirrored = 0 then none else s.lfg.volatile[s.lfg.unmirrored - 1]?

/-- MIRROR_RECORD (R82, R85, R86): the oldest unmirrored record is written to the store. Where the sector does not verify it is
retired, and the record is rewritten in the next sector, unless the retirement stops the mirror. Records that waited for the mirror are committed as it catches up
(R82). -/
def execMirrorRecord (verified : Bool) (s : State) : Host.Outcome State Fault Refusal :=
  .next <|
    if !s.mirrorRuns then s else
    match s.oldestUnmirrored with
    | none => s
    | some r =>
      let s1 : State :=
        if verified then State.showStore { s with lfg := s.lfg.store r }
        else
          let l := s.lfg.retire
          let l1 := if l.usable < 32 then l else l.store r
          (State.showStore { s with lfg := l1 }).sectorRetired (s.lfg.sectors.getD s.lfg.place 0) s.lfg.spares
      let s2 := s1.updLagging
      s2.commitHeld s2.lfg.held

/-- A write of LFG_CFG (R82, R486): MIRROR_EN at 0 stops the mirror at the record boundary and clears LAGGING, and DURABLE completions that waited for their records are
posted at once; at 1 it resumes at the oldest unmirrored record, and MIRROR_GAP is set once if one was overwritten meanwhile. -/
def State.writeLfgCfg (s : State) (v : Nat) : State :=
  let s1 := ((s.setFld F.LFG_CFG_MIRROR_EN 0 (bits v 16 16)).setFld F.LFG_CFG_LAG_LIMIT 0 (bits v 15 0)).updLagging
  let s2 :=
    if s1.mirrorOn && s1.lfg.gap then
      let t := (s1.raise F.LFG_EVENT_MIRROR_GAP F.LFG_EVENT_EVCNT_MIRROR_GAP 0).setFld F.LFG_STATUS_MIRROR_GAP 0 1
      { t with lfg := { t.lfg with gap := false } }
    else if s1.fld F.LFG_CFG_MIRROR_EN 0 = 0 then s1.postDurables
    else s1
  s2.commitHeld s2.lfg.held

/-- MIRROR_EN (R486). -/
def execMirrorEn (v : Word) (s : State) : Host.Outcome State Fault Refusal :=
  .next (s.hostWrite 0x1200000 v.toNat (fun t => t.landed 0x1200000 v.toNat (fun u => u.writeLfgCfg v.toNat)))

end Sys2Proof.Machine
end

