-- ==== Sys2Proof/Machine/PrtOps.lean ====
section
/-!
DEFINITION. Sys2Proof/Machine/PrtOps.lean: path protection as other units need it: the request in force (R408, R409), the switch
decision (R412), wait to restore (R413) and the exercise (R416).
-/
namespace Sys2Proof.Machine

def pathHbEmpty : PathHb := ⟨[], false, 0, 0, 0, 0, none⟩
/-- A path's heartbeats: 0 A, 1 B. -/
def State.path (s : State) (p : Nat) : PathHb := SMap.get s.prt.paths p pathHbEmpty
def State.setPath (s : State) (p : Nat) (x : PathHb) : State :=
  { s with prt := { s.prt with paths := SMap.put s.prt.paths p x pathHbEmpty } }

/-- PRT_STATUS.STATE (R417): 0 OFF, 1 WORK, 2 PROT, 3 WTR, 4 GAP, 5 EXERCISE. -/
def State.prtState (s : State) : Nat := s.fld F.PRT_STATUS_STATE 0

/-- The working path and the protection path (R405). -/
def State.workPath (s : State) : Nat := s.fld F.PRT_CFG_WORKING 0
def State.protPath (s : State) : Nat := 1 - s.workPath

/-- Signal fail of a path (R406). -/
def State.sf (s : State) (p : Nat) : Bool := (if p = 0 then s.fld F.PRT_STATUS_SF_A 0 else s.fld F.PRT_STATUS_SF_B 0) == 1

/-- A remote request code in force on a path. -/
def State.remoteIs (s : State) (p code : Nat) : Option Nat :=
  match (s.path p).remote with
  | some (c, t, _) => if c = code then some t else none
  | none => none

/-- The target a source asks for with a code, remote before local, the active path's remote before the other's (R408); with the
source code of REQ_SRC: 1 host, 2 remote. -/
def State.asked (s : State) (code : Nat) : List (Nat × Nat) :=
  let rem := [s.activePath, 1 - s.activePath].filterMap (fun p => (s.remoteIs p code).map (fun t => (t, 2)))
  rem ++ (match SMap.find s.prt.localReqs code with | some (t, _) => [(t, 1)] | none => [])

/-- A request: its priority (REQ), the path it calls for, its source (REQ_SRC). -/
abbrev Req := Nat × Nat × Nat

/-- MANUAL_SWITCH is permitted to a path without SF, and to the protection path only without SB_UP_FAULT (R408, R416). -/
def State.manualOk (s : State) (t : Nat) : Bool :=
  decide (t < 2) && !s.sf t && !(t == s.protPath && s.fld F.PRT_STATUS_SB_UP_FAULT 0 == 1)

/-- The requests in force, highest priority first (R408). -/
def State.requests (s : State) : List Req :=
  let w := s.workPath
  let p := s.protPath
  (s.asked 0x10).map (fun x => (8, w, x.2)) ++
  (if s.sf p then [(7, w, 3)] else []) ++ ((s.asked 0x12).filter (fun x => x.1 == p)).map (fun x => (7, w, x.2)) ++
  ((s.asked 0x11).filter (fun x => decide (x.1 < 2))).map (fun x => (6, x.1, x.2)) ++
  (if s.sf w then [(5, p, 3)] else []) ++ ((s.asked 0x12).filter (fun x => x.1 == w)).map (fun x => (5, p, x.2)) ++
  ((s.asked 0x13).filter (fun x => decide (x.1 < 2) && !s.sf (1 - x.1))).map (fun x => (4, 1 - x.1, x.2)) ++
  ((s.asked 0x14).filter (fun x => s.manualOk x.1)).map (fun x => (3, x.1, x.2)) ++
  (if s.prtState = 3 then [(2, p, 0)] else []) ++
  (if s.prt.exercise.isSome then [(1, p, ((s.asked 0x15).headD (0, 0)).2)] else [])

/-- The highest-priority request, NR where there is none. -/
def State.topReq (s : State) : Req := s.requests.headD (0, s.workPath, 0)

/-- The decision of R412, at D: STATE is GAP, every channel is HELD, bursts without BEN are withdrawn, a pending parking exchange
is abandoned, and the commands that waited for a decision complete with the new STATE (R418). -/
def State.decideSwitch (s : State) (np cause : Nat) : State :=
  let s1 := s.setFld F.PRT_STATUS_STATE 0 4
  let s2 : State := { s1 with prt := { s1.prt with
    held := 0xFF, gapFrom := s1.ltb.lc, f1 := (s1.ltb.frame + 1) % 2 ^ 46, passed := false, newPath := np, cause := cause,
    wtrLen := 0, waiters := [] } }
  let s3 := s2.ubeFollowAll
  let s4 := match s3.act.exchange with
    | some x => s3.settle x false true 2 0
    | none => s3
  s.prt.waiters.foldl (fun t d => t.finish d stOk 4) s4

/-- The wait-to-restore timer starts (R413). -/
def State.startWtr (s : State) : State :=
  let s1 := (s.setFld F.PRT_STATUS_STATE 0 3).setFld F.PRT_STATUS_REQ 0 2
  { s1.setFld F.PRT_STATUS_REQ_SRC 0 0 with prt := { s1.prt with wtrFrom := s1.ltb.lc, wtrLen := s1.fld F.PRT_WTR_WTR_S 0 } }

def State.allStandby (s : State) : Bool :=
  (List.range 4).all (fun k => s.act_st (s.chanOf k) == 0 || bit s.sbReady k)

/-- An exercise may be acted on (R416): WORK, no other request in force, no SF on either path, every enabled channel ready, no
SB_UP_FAULT. -/
def State.exerciseOk (s : State) : Bool :=
  s.prtState == 1 && s.requests.isEmpty && !s.sf 0 && !s.sf 1 && s.allStandby && s.fld F.PRT_STATUS_SB_UP_FAULT 0 == 0

/-- The exercise asked for, with its duration: the remote one of the active path first (R408). A remote one outside 1 to 60,000 ms is ignored. -/
def State.exerciseAsked (s : State) : Option Nat :=
  let rem := [s.activePath, 1 - s.activePath].filterMap (fun p =>
    match (s.path p).remote with
    | some (0x15, _, a) => if 1 ≤ a ∧ a ≤ 60000 then some a else none
    | _ => none)
  match rem with
  | a :: _ => some a
  | [] => (SMap.find s.prt.localReqs 0x15).map (·.2)

/-- The exercise requests are over. -/
def State.dropExercise (s : State) : State :=
  let s1 := [0, 1].foldl (fun t p =>
    match (t.path p).remote with
    | some (0x15, _, _) => t.setPath p { t.path p with remote := none }
    | _ => t) s
  { s1 with prt := { s1.prt with exercise := none, exFail := 0, localReqs := SMap.erase s1.prt.localReqs 0x15 } }

/-- The request in force is taken, and what it calls for is carried out (R408, R409, R413, R417). With SF on both paths PRT
stays on the active path. In the gap nothing is decided (R415). -/
def State.prtTake (s : State) : State :=
  let st := s.prtState
  if st = 0 then s else
  let prev := s.fld F.PRT_STATUS_REQ 0
  let r := s.topReq
  let s1 := (s.setFld F.PRT_STATUS_REQ 0 r.1).setFld F.PRT_STATUS_REQ_SRC 0 r.2.2
  if st = 4 then s1
  else if s1.sf 0 && s1.sf 1 then s1
  else if st = 5 then
    (if r.1 ≤ 1 then s1
     else
      let s2 := s1.dropExercise
      if r.2.1 = s2.protPath then s2.setFld F.PRT_STATUS_STATE 0 2 else s2.decideSwitch r.2.1 r.1)
  else if st = 3 then
    (if 2 < r.1 then
      (if r.2.1 = s1.protPath then
        { s1.setFld F.PRT_STATUS_STATE 0 2 with prt := { s1.prt with wtrLen := 0 } }
       else s1.decideSwitch r.2.1 r.1)
     else if s1.prt.wtrLen = 0 then s1.decideSwitch s1.workPath 2
     else s1)
  else if st = 2 ∧ r.1 ≤ 1 ∧ (prev = 5 ∨ prev = 7) then s1.startWtr
  else if r.2.1 ≠ s1.activePath then s1.decideSwitch r.2.1 r.1
  else if st = 1 ∧ s1.exerciseOk then
    (match s1.exerciseAsked with
     | some dur =>
       let s2 : State := { s1 with prt := { s1.prt with exercise := some (dur, 0), exFail := 0 } }
       ((((s2.satAdd F.PRT_COUNT_EXERCISES 0 1).setFld F.PRT_STATUS_REQ 0 1).setFld F.PRT_STATUS_REQ_SRC 0
         ((s1.asked 0x15).headD (0, 0)).2)).decideSwitch s1.protPath 1
     | none => s1)
  else s1

/-- Commands that wait for a decision complete with STATE where there is none (R418). -/
def State.prtAnswer (s : State) : State :=
  if s.prtState = 4 then s
  else
    let s1 : State := { s with prt := { s.prt with waiters := [] } }
    s.prt.waiters.foldl (fun t d => t.finish d stOk t.prtState) s1

/-- The request in force is taken, and waiting commands are answered. -/
def State.prtEval (s : State) : State := s.prtTake.prtAnswer

/-- EXERCISE_OUTCOME (R419), with the duration held in ms. -/
def State.exerciseOutcome (s : State) (passed : Bool) (failure ms : Nat) : State :=
  s.notify 0x0D 0x0004 (b2n passed + failure * 256) ms

/-- Milliseconds since a line-cycle count. -/
def State.msSince (s : State) (lc : Nat) : Nat := (s.ltb.lc - lc) / 1244160

/-- The exercise fails (R416): 1 RDI, 2 ROGUE_SHUT, 3 lane skip. In state EXERCISE PRT switches back at once; during the gap that leads
to it the failure waits for the gap's end (R415). -/
def State.exerciseFails (s : State) (code : Nat) : State :=
  match s.prt.exercise with
  | none => s
  | some (_, from_) =>
    if s.prtState = 5 then
      let s1 := ((s.setFld F.PRT_STATUS_SB_UP_FAULT 0 1).raise F.PRT_EVENT_EXERCISE_FAIL F.PRT_EVENT_EVCNT_EXERCISE_FAIL 0).satAdd
        F.PRT_COUNT_EX_FAILED 0 1
      ((s1.exerciseOutcome false code (s1.msSince from_)).dropExercise).decideSwitch s1.workPath 1
    else if s.prtState = 4 ∧ s.prt.cause = 1 ∧ s.prt.newPath = s.protPath then
      { s with prt := { s.prt with exFail := if s.prt.exFail = 0 then code else s.prt.exFail } }
    else s

/-- A lane of the path in use counts a TRUNCATED, SHUT_SKIP or RATE_SKIP (R416). -/
def State.exerciseLane (s : State) (lane : Nat) : State :=
  if lane / 4 = s.protPath then s.exerciseFails 3 else s

/-- A request accepted from the protection request channel of a path (R408, R409). -/
def State.prtRemote (s : State) (p code target arg : Nat) : State :=
  if s.prtState = 0 then s
  else if code = 0x16 then
    let s1 := [0, 1].foldl (fun t q =>
      match (t.path q).remote with
      | some (c, _, _) => if c = 0x10 ∨ c = 0x11 ∨ c = 0x14 ∨ c = 0x15 ∨ q = p then t.setPath q { t.path q with remote := none } else t
      | none => t) s
    let s2 := if s1.prtState = 3 then { s1 with prt := { s1.prt with wtrLen := 0 } } else s1
    s2.prtEval
  else if 0x10 ≤ code ∧ code ≤ 0x15 then
    (if code = 0x15 ∧ (arg = 0 ∨ 60000 < arg) then s
     else (s.setPath p { s.path p with remote := some (code, target, arg) }).prtEval)
  else s

end Sys2Proof.Machine
end

