-- ==== Sys2Proof/Machine/Whs.lean ====
section
/-!
DEFINITION. Sys2Proof/Machine/Whs.lean: the Whistle (R186 to R205): contexts, windows, map gaps, violations and ROGUE_SHUT, the
self-test and the WHS commands; the bandwidth-map row, which UBE and the Whistle take together (R172, R190).
-/
namespace Sys2Proof.Machine

/-! Windows (R190) and bandwidth maps. -/

/-- Enter a window, merging those that overlap or touch (R190). -/
def addWindow (w : Int × Int) : List (Int × Int) → List (Int × Int)
  | [] => [w]
  | x :: xs =>
    if w.2 + 1 < x.1 then w :: x :: xs
    else if x.2 + 1 < w.1 then x :: addWindow w xs
    else addWindow (min w.1 x.1, max w.2 x.2) xs

/-- A line cycle lies inside a window of the channel; in UNKNOWN or in the dark there are none (R189). -/
def State.inWindow (s : State) (c : Nat) (n : Int) : Bool :=
  decide (2 ≤ s.permInForce c) && (s.whsCh c).windows.any (fun w => decide (w.1 ≤ n ∧ n ≤ w.2))

/-- Every line cycle from a to b lies outside every window. -/
def State.outside (s : State) (c : Nat) (a b : Int) : Bool :=
  s.permInForce c < 2 || (s.whsCh c).windows.all (fun w => decide (w.2 < a ∨ b < w.1))

/-- The Whistle's own reference for the frame of the latest strobe (R154, R190). -/
def whsRef (x : Ctx) (strobe : Int) (sn : Bool) : Int :=
  40 * strobe - 7840 + 1741824 - signed 16 x.cal + (if sn then 0 else (x.eqd : Int))

/-- The window engine's chain of continuing allocations (R190): whether a window has just been opened that the next one would extend. -/
def State.whsChain (s : State) (c : Nat) (on : Bool) : State := s.setWhsCh c { s.whsCh c with joinable := on }

/-- A window opens (R190): P is 0 for an allocation that continues a burst, and merges with the window before it. -/
def State.openWindow (s : State) (a : AllocStruct) (x : Ctx) (p : Profile) (strobe : Int) (perm : Nat) : State :=
  let w := s.whsCh a.chan
  let m := duPerBit p.rate
  let ovh := if a.contiguous && w.joinable then 0 else profOverhead p
  let bt := whsRef x strobe (perm == 2) + a.startDu - ((ovh * m : Nat) : Int)
  let extra := if perm = 2 then (x.rand * 497664 / 10 + 39) / 40 else 0
  let tol : Int := s.whs.force.tol
  let lo := duLc bt - x.lead - tol
  let hi := duLc bt + burstLen ovh (codedBytes a p) m - 1 + x.lag + tol + extra
  let live := w.windows.filter (fun v => decide (s.lin - 311040 ≤ v.2))
  s.setWhsCh a.chan { w with windows := addWindow (lo, hi) live, joinable := perm == 4 }

/-- The window of one structure (R190), where its HEC passes and the channel's permission admits it, from the context that applies to the strobe's frame (R187). -/
def State.whsStructure (s : State) (a : AllocStruct) : State :=
  let c := a.chan
  if !s.linkOk then s
  else if !a.hecOk then s.whsChain c false
  else match (s.whsCh c).strobe with
  | none => s
  | some (k, strobe) =>
    match s.ctxFor c k with
    | none => s
    | some x =>
      let perm := s.permInForce c
      let admits := match perm with
        | 2 => a.bcast
        | 3 => a.alloc == x.onu
        | 4 => decide (a.alloc ∈ x.allocs)
        | _ => false
      if !admits then s
      else match x.profs.getD a.profile none with
        | some p => s.openWindow a x p strobe perm
        | none => s.whsChain c false

/-- ALLOCATION_STRUCTURE (R172 to R180, R190): a structure of the map of a channel in SYNC; UBE and the Whistle each take it. -/
def execAllocationStructure (a : AllocStruct) (s : State) : Host.Outcome State Fault Refusal :=
  .next (if s.inSync a.chan then (s.whsStructure a).ubeStructure a else s)

/-! Contexts (R187, R188). -/

/-- The event CONTEXT_FAULT with its effects (R188, R205). -/
def State.contextFault (s : State) (c : Nat) (parity : Bool) (seq : Nat) : State :=
  if (s.whsCh c).fault then s else
  let loc := if parity then errLoc 0x10 0 c 0x1FF else 2 ^ 31 + 0x3F * 2 ^ 25 + 0xFF * 2 ^ 17 + 0xFF * 2 ^ 9 + 0x1FF
  let s1 := s.setWhsCh c { s.whsCh c with fault := true }
  (((s1.raise F.WHS_EVENT_CONTEXT_FAULT F.WHS_EVENT_EVCNT_CONTEXT_FAULT 0).whsEvent 3 (some loc) (c + b2n parity * 256) seq)).whsApply

/-- The first frame a new context names: the frame after the one whose map is being processed (R187). -/
def State.nextMapFrame (s : State) (c : Nat) : Nat := (s.mapFrame c + 1) % 2 ^ 46

/-- The context ACT sends now (R187): what holds, from the next map on; where an unpark is agreed, once, FULL from the frame agreed (R149). -/
def State.contextToSend (s : State) (c seq : Nat) : Ctx :=
  match (s.actCh c).unparkAt with
  | some fu =>
    if (s.whsCh c).ctxs.head?.any (fun x => x.first == fu && x.perm == 4) then s.contextNow c seq (s.nextMapFrame c)
    else { s.contextNow c seq fu with perm := 4 }
  | none => s.contextNow c seq (s.nextMapFrame c)

/-- CONTEXT_EXCHANGE (R187, R188): ACT sends the channel's context, with its next sequence number. `mismatches` is how many of the CRCs returned
differ: none or one (a repeat, counted in CTX_RETRY) commits it on both dies; two are a context fault. -/
def execContextExchange (c mismatches : Nat) (s : State) : Host.Outcome State Fault Refusal :=
  .next <|
    if !s.linkOk then s else
    let w := s.whsCh c
    let seq := match w.ctxs with | [] => 1 | x :: _ => (x.seq + 1) % 2 ^ 16
    let s1 := if mismatches = 0 then s else s.satAdd F.WHS_CH_COUNT_CTX_RETRY c 1
    if 2 ≤ mismatches then s1.contextFault c false seq
    else
      let x := s1.contextToSend c seq
      (s1.setWhsCh c { w with ctxs := x :: w.ctxs.take 3, fault := false, stale := false }).whsApply

/-- The fields of WHS in force take the values last written (R207). -/
def State.loadWhsCfg (s : State) : State :=
  { s with whs := { s.whs with
      force :=
        { shutAll := s.fld F.WHS_CFG_SHUT_ALL 0, periodic := s.fld F.WHS_CFG_PERIODIC 0, eyeN := max 1 (min 8 (s.fld F.WHS_CFG_EYE_N 0)),
          tol := min 8 (s.fld F.WHS_CFG_TOL_LC 0), deb := s.fld F.WHS_CFG_DEB 0,
          limits := (List.range 8).map (fun c => s.fld F.WHS_CH_EYE_LIMIT c),
          thresh := (List.range 8).map (fun c => s.fld F.WHS_CH_LIGHT_THRESH c) } } }

/-- A frame boundary of the Whistle's line count: written fields take effect (R207), and a context named for the frame applies
(R187). -/
def State.whsFrame (s : State) : State := s.loadWhsCfg.whsApply

/-- CONTEXT_CHECK (R188): at a frame boundary the CRC of a channel's context is compared with the Whistle's stored copy, which is
parity-protected; not in the dark. -/
def execContextCheck (c : Nat) (crcOk parityOk : Bool) (s : State) : Host.Outcome State Fault Refusal :=
  .next <|
    if !s.linkOk ∨ s.fld F.PWR_STATUS_DARK 0 = 1 ∨ s.ltb.cycle ≠ 0 then s else
    match (s.whsCh c).ctxs with
    | [] => s
    | x :: _ => if crcOk && parityOk then s else s.contextFault c (!parityOk) x.seq

/-- The link fails (R188): every permission is NONE until contexts are exchanged again, TX_DISABLE asserted on every lane. -/
def State.loseLink (s : State) (frames : Nat) : State :=
  if !s.linkOk then s else
  let s1 := s.setFld F.WHS_STATUS_LINK_OK 0 0
  let s2 := (List.range 8).foldl (fun t c => t.setWhsCh c { t.whsCh c with stale := true, windows := [], holds := [], joinable := false, expect := none, strobe := none }) s1
  let s3 := (s2.setFld F.WHS_TIME_DIFF_VALID 0 0).raise F.WHS_EVENT_LINK_LOSS F.WHS_EVENT_EVCNT_LINK_LOSS 0
  (s3.whsEvent 4 (some (errUnit 0x10)) frames 0).whsApply

/-- LINK_LOSS (R188): more than two consecutive frames of the link fail. It does not apply in the dark. -/
def execLinkLoss (frames : Nat) (s : State) : Host.Outcome State Fault Refusal :=
  .next (if s.fld F.PWR_STATUS_DARK 0 = 1 ∨ frames ≤ 2 then s else s.loseLink frames)

/-- KEPT_EVENT_HANDOVER (R489): the inter-die link is in service again, and the keeping die hands over what it kept, once
HIF has committed its BOOT record. -/
def execKeptEventHandover (s : State) : Host.Outcome State Fault Refusal :=
  .next <|
    if !s.diesUp then s
    else
      let s1 := s.setFld F.WHS_STATUS_LINK_OK 0 1
      (if s1.fld F.HIF_STATUS_STAGE 0 = 0 then s1 else s1.handOver).whsApply

/-! Map gaps (R191). -/

/-- The span in which frame k's bursts could lie, from the strobe the Whistle expected (R191): from its reference to 155,520 lc later. -/
def State.gapSpan (s : State) (c k : Nat) (strobe : Int) : Int × Int :=
  match s.ctxFor c k with
  | some x => let r := duLc (whsRef x strobe (s.permInForce c == 2)); (r, r + 155520)
  | none => (strobe, strobe + 155520)

/-- What a map gap finds (R191): the strobe expected for frame k, and the expectation it leaves; none where it is no gap. A missing strobe needs an expectation; a misplaced
one lies more than 1 lc from it and restarts it. -/
def WhsCh.gap (w : WhsCh) (now : Int) (cause : GapCause) : Option (Int × Option Int) :=
  match cause, w.expect with
  | .linkFrame, e => some (e.getD now, e)
  | .missing, some e => some (e + 155520, some (e + 155520))
  | .misplaced a, some e => if 1 < (a - (e + 155520)).natAbs then some (e + 155520, some a) else none
  | _, none => none

/-- MAP_GAP (R191): judged only on channels whose permission is SN, RANGE or FULL; the lane's TX_DISABLE is held over the span in which frame k's bursts could lie. -/
def execMapGap (c k : Nat) (cause : GapCause) (s : State) : Host.Outcome State Fault Refusal :=
  .next <|
    if s.permInForce c < 2 then s else
    let w := s.whsCh c
    match w.gap s.lin cause with
    | none => s
    | some (strobe, e) =>
      let s1 := s.setWhsCh c { w with expect := e, holds := w.holds ++ [s.gapSpan c k strobe] }
      let s2 := (s1.satAdd F.WHS_CH_COUNT_MAP_GAP c 1).raise F.WHS_EVENT_MAP_GAP F.WHS_EVENT_EVCNT_MAP_GAP 0
      (s2.whsEvent 2 none c (k % 2 ^ 32)).whsApply

/-- MAP_GAP_HOLD_END (R191): spans of map gaps that have ended end their hold; the hold does not latch. -/
def execMapGapHoldEnd (c : Nat) (s : State) : Host.Outcome State Fault Refusal :=
  .next ((s.setWhsCh c { s.whsCh c with holds := (s.whsCh c).holds.filter (fun h => decide (s.lin ≤ h.2)) }).whsApply)

/-- The arrival strobe of frame k on a channel, at linear line time a (R190, R191): the expectation follows while the permission is SN, RANGE or
FULL, and a context named for the frame applies. -/
def State.whsStrobe (s : State) (c k : Nat) (a : Int) : State :=
  if !s.linkOk then s else
  let w := s.whsCh c
  let w1 := { w with strobe := some (k, a), joinable := false }
  let e := if s.permInForce c < 2 then none
    else match w.expect with
      | none => some a
      | some p => if 1 < (a - (p + 155520)).natAbs then some a else some (p + 155520)
  (s.setWhsCh c { w1 with expect := e }).whsApply

/-! Violations (R193, R195). -/

/-- The Whistle judges emission: ARMED or ROGUE_SHUT (R195, R196). In the other states TX_DISABLE is asserted on every lane, and an emission that lasts into ARMED is found
there. -/
def State.judging (s : State) : Bool := s.fld F.WHS_STATUS_STATE 0 == 2 || s.fld F.WHS_STATUS_STATE 0 == 3

/-- A violation (R195): in ARMED it shuts and latches, in ROGUE_SHUT it adds its lanes. Class 5 always shuts every lane. During the dark signal it forces a wake (R455). -/
def State.violate (s : State) (lanes cls stamp : Nat) : State :=
  let st := s.fld F.WHS_STATUS_STATE 0
  if !s.judging then s else
  let shut := if s.whs.force.shutAll = 1 ∨ cls = 5 then 0xFF else lanes
  let l : Latch := match s.whs.latch with
    | some l => { l with rogue := l.rogue ||| shut, lanes := l.lanes ||| lanes, count := min 255 (l.count + 1) }
    | none => ⟨shut, lanes, cls, 1, stamp⟩
  let s1 : State := { s with whs := { s.whs with latch := some l, lastViolation := some s.ltb.lc } }
  let s2 := (((s1.setFld F.WHS_STATUS_ROGUE 0 l.rogue).setFld F.WHS_SHUT_INFO_LANES 0 l.lanes).setFld F.WHS_SHUT_INFO_CLASS 0
    l.cls).setFld F.WHS_SHUT_INFO_COUNT 0 l.count
  let s3 := (s2.setFld F.WHS_SHUT_STAMP_LO_STAMP 0 l.stamp).setFld F.WHS_SHUT_STAMP_HI_STAMP 0 (l.stamp / 2 ^ 32)
  let s4 := (s3.setFld F.WHS_STATUS_STATE 0 3).raise F.WHS_EVENT_ROGUE F.WHS_EVENT_EVCNT_ROGUE 0
  let s5 := (s4.whsEvent 1 (some 0xFFFFFFFF) (lanes + cls * 256) l.count).whsApply
  let s6 := if st = 2 then s5.exerciseFails 2 else s5
  if s6.fld F.PWR_STATUS_DARK 0 = 1 then s6.wakeSource 8 else s6

/-- A violation seen still present keeps WHS_REENABLE refused (R198). -/
def State.stillViolating (s : State) : State := { s with whs := { s.whs with lastViolation := some s.ltb.lc } }

/-- An emission of class OUTSIDE_WINDOW from line cycle a to b on an assigned lane: a new violation unless it continues one that ended no
more than DEB + 1 line cycles before (R194, R195). -/
def State.outsideWindow (s : State) (c : Nat) (a b : Int) : State :=
  let w := s.whsCh c
  let deb : Int := s.whs.force.deb
  let continues := match w.emitUntil with
    | some e => decide (a - e - 1 < deb + 1)
    | none => false
  let s1 := s.setWhsCh c { w with emitUntil := some b }
  if continues then s1.stillViolating else s1.violate (2 ^ c) 1 (stampAdd 0 a)

/-- OUTSIDE_WINDOW (R194): BEN is high from linear line cycle a to b on an assigned lane, outside every window, for DEB + 1 line
cycles or more. -/
def execOutsideWindow (c : Nat) (a b : Int) (s : State) : Host.Outcome State Fault Refusal :=
  .next (if !s.judging ∨ s.permInForce c = 0 ∨ s.fld F.PWR_STATUS_DARK 0 = 1 ∨ b - a < s.whs.force.deb ∨ !s.outside c a b then s
    else s.outsideWindow c a b)

/-- LIGHT_PRESENT (R193): light with BEN low on an assigned lane outside every window; the monitor input lies above the threshold
in force (R186). -/
def execLightPresent (c code : Nat) (a b : Int) (s : State) : Host.Outcome State Fault Refusal :=
  .next (if !s.judging ∨ s.permInForce c = 0 ∨ s.fld F.PWR_STATUS_DARK 0 = 1 ∨ code ≤ s.whs.force.thresh.getD c 0 ∨ !s.outside c a b then s
    else s.outsideWindow c a b)

/-- DARK_VIOLATION (R193, R195): while the dark signal is in force a lane shows BEN or light for `samples` consecutive crystal samples, after
`quiet` samples without. -/
def execDarkViolation (c samples quiet : Nat) (s : State) : Host.Outcome State Fault Refusal :=
  .next <|
    if !s.judging ∨ s.fld F.PWR_STATUS_DARK 0 = 0 ∨ samples < 8 then s
    else
      let w := s.whsCh c
      let s1 := s.setWhsCh c { w with darkOn := true }
      if w.darkOn && decide (quiet < 8) then s1.stillViolating else s1.violate (2 ^ c) 2 s.whsStamp

/-- SWEEP (R193, R195): the latches of the lanes whose permission is NONE are examined; `mask` names the latches set. -/
def execSweep (mask : Nat) (s : State) : Host.Outcome State Fault Refusal :=
  .next <|
    (List.range 8).foldl (fun t c =>
      let hit := s.judging && bit mask c && s.whsPerm c == 0
      let w := t.whsCh c
      let t1 := t.setWhsCh c { w with sweepOn := hit }
      if !hit then t1 else if w.sweepOn then t1.stillViolating else t1.violate (2 ^ c) 3 t.whsStamp) s

/-- EYE_SAMPLE (R193, R195): a power-monitor sample; EYE_N consecutive ones above the limit are a violation, and a new one needs EYE_N
consecutive ones at or below it first. -/
def execEyeSample (c code : Nat) (s : State) : Host.Outcome State Fault Refusal :=
  .next <|
    let w := s.whsCh c
    let n := s.whs.force.eyeN
    let s1 := (s.setFld F.WHS_CH_PMON_LAST c code).peak F.WHS_CH_PMON_MAX c code
    if s.whs.force.limits.getD c 0 < code then
      let run := w.eyeRun + 1
      let s2 := s1.setWhsCh c { w with eyeRun := run, eyeQuiet := 0, eyeOn := s.judging && (w.eyeOn || decide (n ≤ run)) }
      if w.eyeOn then s2.stillViolating
      else if n ≤ run then s2.violate (2 ^ c) 4 s.whsStamp
      else s2
    else
      s1.setWhsCh c { w with eyeRun := 0, eyeQuiet := w.eyeQuiet + 1, eyeOn := w.eyeOn && decide (w.eyeQuiet + 1 < n) }

/-- A TIME_DIVERGE finding of a frame: a violation where the frame before was whole (R195). -/
def State.diverge (s : State) (off : Bool) : State :=
  let was := s.whs.diverged
  let s1 : State := { s with whs := { s.whs with diverged := off && s.judging } }
  if !off then s1 else if was then s1.stillViolating else s1.violate 0xFF 5 s.whsStamp

/-- TIME_DIVERGE (R192): at a frame boundary LTB sends its stamp, and the Whistle's own line count, corrected for the link's latency, is found to differ from it by `diff` lc;
more than 8 is a violation. -/
def execTimeDiverge (diff : Int) (s : State) : Host.Outcome State Fault Refusal :=
  .next <|
    if !s.whsCounts ∨ s.ltb.cycle ≠ 0 then s else
    let s0 : State := { s with whs := { s.whs with drift := diff } }
    let s1 := (s0.setFld F.WHS_TIME_DIFF_VALID 0 1).setFld F.WHS_TIME_DIFF_DIFF 0 (unsigned 16 diff)
    s1.diverge (decide (8 < diff.natAbs))

/-- CRYSTAL_SPAN_CHECK (R192): a 64-frame span measured against the crystal, in ns; more than 200 ppm from 8 ms is a violation. -/
def execCrystalSpanCheck (spanNs : Nat) (s : State) : Host.Outcome State Fault Refusal :=
  .next (if s.whsCounts && decide (1600 < ((spanNs : Int) - 8000000).natAbs) then s.diverge true else s)

/-! Self-test and commands (R196 to R204). -/

/-- A violation has been present within the last 125 µs, 155,520 lc (R198; log entry 23). -/
def State.recentViolation (s : State) : Bool :=
  (match s.whs.lastViolation with | some t => decide (s.ltb.lc < t + 155520) | none => false)

/-- A channel has permission SN, RANGE or FULL. -/
def State.anyPermitted (s : State) : Bool := (List.range 8).any (fun c => decide (2 ≤ s.whsPerm c))

/-- The refusal of a WHS command (R204). -/
def State.whsRefuse (s : State) (d : Desc) : State :=
  s.refuse d stStateRefused (refusedWord 0x40 0 (s.fld F.WHS_STATUS_STATE 0 + s.fld F.WHS_STATUS_RELEASE_SEEN 0 * 256 +
    b2n s.recentViolation * 512 + b2n s.anyPermitted * 1024))

/-- Emissions found before the self-test are judged afresh after it (R195, R196). -/
def WhsCh.forget (w : WhsCh) : WhsCh := { w with emitUntil := none, darkOn := false, sweepOn := false, eyeOn := false }

/-- Entry to SELFTEST (R196, R199). -/
def State.startSelftest (s : State) : State :=
  let s0 : State := { s with whs := { s.whs with chans := s.whs.chans.map (fun p => (p.1, p.2.forget)), diverged := false } }
  let s1 := ((s0.setFld F.WHS_STATUS_STATE 0 1).setFld F.WHS_SELFTEST_RESULT 0 3).satAdd F.WHS_SELFTEST_RUNS 0 1
  s1.whsApply

/-- The commands that wait for the self-test's end complete (R202). -/
def State.answerSelftest (s : State) (status result : Nat) : State :=
  let s1 : State := { s with whs := { s.whs with waiters := [] } }
  s.whs.waiters.foldl (fun t d => t.finish d status result) s1

/-- The self-test, or a periodic repeat, fails at a step (R196, R199). -/
def State.selftestFails (s : State) (step : Nat) : State :=
  let s1 := ((s.setFld F.WHS_STATUS_STATE 0 4).setFld F.WHS_SELFTEST_RESULT 0 2).setFld F.WHS_SELFTEST_FAIL_STEP 0 step
  ((s1.whsEvent 5 (some (errUnit 0x10)) (step * 256) 0).whsApply).answerSelftest stFault step

/-- The next periodic repeat comes a second from now (R199). -/
def State.armRepeat (s : State) : State := { s with whs := { s.whs with repeatAt := s.sleepCount } }

/-- A step of the self-test that needs the line count waits for the link, and so does a pass of them all (R199). -/
def State.stepWaits (s : State) (step : Nat) : Bool := !s.linkOk && (step == 0 || step == 2 || step == 7)

/-- SELFTEST_END (R196, R199): the test ends; `failed` is the first failing step, 0 where every step passed. -/
def execSelftestEnd (failed : Nat) (s : State) : Host.Outcome State Fault Refusal :=
  .next <|
    if s.fld F.WHS_STATUS_STATE 0 ≠ 1 ∨ s.stepWaits failed then s
    else if failed ≠ 0 then s.selftestFails failed
    else
      let s1 := (s.armRepeat.setFld F.WHS_SELFTEST_RESULT 0 1).setFld F.WHS_SELFTEST_FAIL_STEP 0 0
      let s2 := s1.whsEvent 5 none 1 0
      let s3 := match s2.whs.latch with
        | some l =>
          ((((((s2.setFld F.WHS_STATUS_STATE 0 3).setFld F.WHS_STATUS_ROGUE 0 l.rogue).setFld F.WHS_SHUT_INFO_LANES 0 l.lanes).setFld
            F.WHS_SHUT_INFO_CLASS 0 l.cls).setFld F.WHS_SHUT_INFO_COUNT 0 l.count).setFld F.WHS_SHUT_STAMP_LO_STAMP 0 l.stamp).setFld
            F.WHS_SHUT_STAMP_HI_STAMP 0 (l.stamp / 2 ^ 32)
        | none => s2.setFld F.WHS_STATUS_STATE 0 2
      s3.whsApply.answerSelftest stOk 0

/-- PERIODIC_SELFTEST (R199): once a second of the sleep clock's count in ARMED while PERIODIC is 1; `failed` is 0, 2 or 5. Step 2 needs the link. -/
def execPeriodicSelftest (failed : Nat) (s : State) : Host.Outcome State Fault Refusal :=
  .next <|
    if s.fld F.WHS_STATUS_STATE 0 ≠ 2 ∨ s.whs.force.periodic = 0 ∨ s.sleepCount < s.whs.repeatAt + 32768 ∨ (failed = 2 ∧ !s.linkOk) then s
    else if failed = 0 then s.armRepeat
    else s.selftestFails failed

/-- WHS_REENABLE (R196, R198, R204). -/
def execWhsReenable (d : Desc) (s : State) : Host.Outcome State Fault Refusal :=
  .next <| s.asCommand d 0x4001 true <|
    if s.fld F.WHS_STATUS_STATE 0 ≠ 3 ∨ s.recentViolation ∨ s.fld F.WHS_STATUS_RELEASE_SEEN 0 = 0 then s.whsRefuse d
    else
      let before := s.fld F.WHS_STATUS_TXDIS 0
      let s1 : State := { s with whs := { s.whs with latch := none } }
      let s2 := (((s1.setFld F.WHS_STATUS_STATE 0 2).setFld F.WHS_STATUS_ROGUE 0 0).setFld F.WHS_STATUS_RELEASE_SEEN 0 0).whsApply
      let after := s2.fld F.WHS_STATUS_TXDIS 0
      (s2.whsEvent 6 none ((List.range 8).foldl (fun m c => m + b2n (bit before c && !bit after c) * 2 ^ c) 0) 0).finish d stOk 0

/-- WHS_SELFTEST (R202, R203): accepted in SELFTEST_FAIL, and in ARMED with no channel of permission SN, RANGE or FULL; it ends with
the test. -/
def execWhsSelftest (d : Desc) (s : State) : Host.Outcome State Fault Refusal :=
  .next <| s.asCommand d 0x4002 true <|
    let st := s.fld F.WHS_STATUS_STATE 0
    if st = 4 ∨ (st = 2 ∧ !s.anyPermitted) then
      State.startSelftest { s with whs := { s.whs with waiters := s.whs.waiters ++ [d] } }
    else s.whsRefuse d

/-- WHS_QUERY (R202). -/
def execWhsQuery (d : Desc) (s : State) : Host.Outcome State Fault Refusal :=
  .next <| s.asCommand d 0x4003 true <|
    if !d.buf ∨ d.bufLen < 64 then s.refuse d stBadArg 4
    else (s.toBuf d ([0x1000004, 0x1000010, 0x1000014, 0x1000018, 0x100001C, 0x1000020].map s.peek ++
      (List.range 8).map (fun c => s.peek (0x1001000 + 0x40 * c)) ++ [0, 0])).finish d stOk 0

/-- The Whistle's stamps move with a step or wake delta (R184, R192). -/
def State.whsShift (s : State) (d : Int) : State :=
  (List.range 8).foldl (fun t c =>
    let w := t.whsCh c
    t.setWhsCh c { w with
      windows := w.windows.map (fun v => (v.1 + d, v.2 + d))
      holds := w.holds.map (fun v => (v.1 + d, v.2 + d))
      expect := w.expect.map (· + d)
      strobe := w.strobe.map (fun p => (p.1, p.2 + d))
      emitUntil := w.emitUntil.map (· + d) }) s

/-! Burst profiles. -/

/-- BURST_PROFILE (R149, R175, R185): profile k is loaded, PROFILE_LOADED is written; naming a rate enabled on the lane, with the time not
UNKNOWN, it moves O1.2 to O2-3 and O8.2 to O9. Profiles are collected from O1.2 on. -/
def execBurstProfile (c k : Nat) (p : Profile) (m : Ploam) (s : State) : Host.Outcome State Fault Refusal :=
  .next <| s.ploam c m fun s =>
    if s.act_st c = stDisabled ∨ s.act_st c = stO11 then s
    else
      let s1 := ((s.setProfile c k (some p)).showProfiles c).notify 5 0x0001 (c + k * 16) (((s.actCh c).refFrame + 1) % 2 ^ 32)
      let usable := bit (s.fld F.LLN_TX_CFG_RATE_EN c) p.rate && s.tstate != 2
      if usable ∧ s.act_st c = stO82 then (s1.startTimer c 4).actTo c stO9 6
      else s1.actRecheck c

end Sys2Proof.Machine
end

