-- ==== Sys2Proof/Machine/Dsf.lean ====
section
/-!
DEFINITION. Sys2Proof/Machine/Dsf.lean: downstream framing (R112 to R118), XGEM delineation, reassembly and the bonding reorder (R121 to
R130), defects (R131 to R135), the protection request channel (R136 to R138), performance bins (R139 to R143), DSF commands (R144).
-/
namespace Sys2Proof.Machine

/-! Performance counters (R139 to R143). -/

/-- A channel's performance history. -/
def State.pm (s : State) (c : Nat) : Pm := SMap.get s.dsf.pm c pmReset
def State.setPm (s : State) (c : Nat) (p : Pm) : State := { s with dsf := { s.dsf with pm := SMap.put s.dsf.pm c p pmReset } }

/-- Add to counter i of a bin; counters saturate at 64 bits (R143). -/
def Bin.add (b : Bin) (i n : Nat) : Bin := { b with counters := b.counters.set i (min (b.counters.getD i 0 + n) (2 ^ 64 - 1)) }

/-- Count in both current bins; reaching a non-zero threshold for the first time in a 15-minute bin writes one PM_TCA (R142). -/
def State.pmCount (s : State) (c i n : Nat) : State :=
  let p := s.pm c
  let old := p.cur.counters.getD i 0
  let thr := SMap.get s.dsf.thresholds i 0
  let first := thr != 0 && decide (old < thr) && decide (thr ≤ old + n) && !p.tca.contains i
  let s1 := s.setPm c { p with cur := p.cur.add i n, day := p.day.add i n, tca := if first then i :: p.tca else p.tca }
  if first then s1.notify 3 0x000C (c + i * 256) (thr % 2 ^ 32) else s1

/-- A Simmer dark interval or a watchful-sleep sample is on (R133). -/
def State.quietLine (s : State) : Bool := s.fld F.PWR_STATUS_RX_DARK 0 == 1

/-- Flags a bin starts with (R141). -/
def State.startFlags (s : State) (c : Nat) : Nat :=
  (if s.tstate = 1 then 1 else 0) + (if s.tstate = 2 then 4 else 0) + (if s.fld F.LLN_RX_CFG_EN c = 0 then 8 else 0)

def freshBin (start flags : Nat) : Bin := ⟨start, 0, flags, 0, List.replicate 18 0⟩

/-- A bin closes: PM_BIN_CLOSED and the next bin starts there (R140, R142, R146). -/
def State.closeBin (s : State) (c : Nat) (day stepped : Bool) (at_ : Nat) : State :=
  let p := s.pm c
  let b := if day then p.day else p.cur
  let f := if stepped then b.flags ||| 2 else b.flags
  let done : Bin := { b with stop := at_, flags := f }
  let fresh := freshBin at_ (s.startFlags c)
  let s1 := if day then s.setPm c { p with day := fresh, prevDay := some done }
    else s.setPm c { p with cur := fresh, closed := (done :: p.closed).take 32, tca := [] }
  s1.notify 3 0x000D (c + b2n day * 256 + f * 65536) 0

/-- The line second in progress closes on a channel (R139). In the dark no second of any kind is counted (R133). -/
def State.closeSecond (s : State) (c : Nat) : State :=
  let p := s.pm c
  let los := s.fld F.DSF_CH_STATUS_LOS c == 1
  let lof := s.fld F.DSF_CH_STATUS_LOF c == 1
  let clear := fun (t : State) => t.setPm c { t.pm c with secLos := los, secLof := lof, secErr := false, secUncorr := 0 }
  if s.quietLine then clear s else
  let ses := p.secLos || p.secLof || decide (max 1 (s.fld F.DSF_PM_SES_THRESH 0) ≤ p.secUncorr)
  let es := p.secErr || decide (0 < p.secUncorr) || p.secLos || p.secLof
  let s1 := s.setPm c { p with cur := { p.cur with seconds := p.cur.seconds + 1 }, day := { p.day with seconds := p.day.seconds + 1 } }
  let s2 := if p.secLos then s1.pmCount c 12 1 else s1
  let s3 := if p.secLof then s2.pmCount c 13 1 else s2
  let s4 := if es then s3.pmCount c 14 1 else s3
  clear (if ses then s4.pmCount c 15 1 else s4)

/-- Channels of this part. -/
def State.channels (s : State) : List Nat := (List.range 8).filter (fun c => s.hasChannel c)

/-- Limits per line second start afresh (R139). -/
def State.newSecond (s : State) : State :=
  { s with dsf := { s.dsf with limits := [] } }

/-- A forward step, a wake delta or a change of PHASE closes the line second and the current bins at once (R139, R140). -/
def State.pmCloseAll (s : State) : State :=
  let s1 := (s.channels.foldl (fun t c => ((t.closeSecond c).closeBin c false true t.stamp).closeBin c true true t.stamp) s).newSecond
  { s1 with dsf := { s1.dsf with lastSecond := some s1.stamp } }

/-! The bonding reorder (R123 to R130). -/

/-- Count ERRORED on a channel. -/
def State.xErrored (s : State) (c : Nat) : State := (s.satAdd F.DSF_CH_XGEM_DISC_ERRORED c 1).pmCount c 11 1

/-- Count UNKNOWN_PORT on a channel. -/
def State.xUnknown (s : State) (c : Nat) : State := (s.satAdd F.DSF_CH_XGEM_DISC_UNKNOWN_PORT c 1).pmCount c 10 1

/-- The enabled entry holding a Port-ID. -/
def State.portEntry (s : State) (port : Nat) : Option (Nat × PortEntry) := s.dsf.ports.find? (fun p => p.2.port == port)

/-- Write or remove a Port-ID's SDU under reassembly. -/
def State.setReasm (s : State) (port : Nat) (r : Option Reasm) : State :=
  { s with dsf := { s.dsf with
      reasm :=
        match r with | some x => SMap.insert s.dsf.reasm port x | none => SMap.erase s.dsf.reasm port } }

/-- A fragment or a whole frame is discarded and counted; the rest of its SDU is discarded with no further count (R118, R123). -/
def State.failFragment (s : State) (x : Xgem) : State :=
  let s1 := s.xErrored x.chan
  match SMap.find s.dsf.reasm x.port, x.lf with
  | some _, true => s1.setReasm x.port none
  | some r, false => s1.setReasm x.port (some { r with discard := true })
  | none, true => s1
  | none, false => s1.setReasm x.port (some ⟨0, x.chan, x.keyIdx, x.options, 0, true, []⟩)

/-- A frame as the fragment CPH takes (R124): the SFC and the header position its counter block is built from. -/
def Xgem.frag (x : Xgem) : Frag := ⟨x.keyIdx, x.keyLc / 155520, x.offset, x.pli⟩

/-- A complete SDU goes to CPH and the Strainer (R124). -/
def State.handSdu (s : State) (x : Xgem) (r : Option Reasm) : State :=
  let sdu : Sdu := match r with
    | some y => ⟨x.port, x.entry, y.chan, y.keyIdx, y.options, y.bytes + x.pli, s.stamp, y.frags ++ [x.frag]⟩
    | none => ⟨x.port, x.entry, x.chan, x.keyIdx, x.options, x.pli, s.stamp, [x.frag]⟩
  { s with dsf := { s.dsf with out := s.dsf.out ++ [sdu] } }

/-- REASM_MAX in force. -/
def State.reasmMax (s : State) : Nat := max 64 (s.fld F.DSF_CFG_REASM_MAX 0)

/-- A frame of a Port-ID that is not discarding. -/
def State.deliverLive (s : State) (x : Xgem) (open_ : Option Reasm) : State :=
  if x.errored then s.failFragment x
  else
    let d := s.ponDecrypt x.chan x.entry x.keyIdx
    if !d.1 then d.2.failFragment x
    else
      let s1 := (d.2.pmCount x.chan 8 1).pmCount x.chan 9 x.pli
      match open_ with
      | some r =>
        if r.limit < r.bytes + x.pli then d.2.failFragment x
        else if x.lf then (s1.handSdu x (some r)).setReasm x.port none
        else s1.setReasm x.port (some { r with bytes := r.bytes + x.pli, frags := r.frags ++ [x.frag] })
      | none =>
        if x.lf then
          (if x.pli = 0 then d.2.satAdd F.DSF_CH_XGEM_DISC_EMPTY x.chan 1 else s1.handSdu x none)
        else if s1.reasmMax < x.pli then d.2.failFragment x
        else s1.setReasm x.port (some ⟨x.pli, x.chan, x.keyIdx, x.options, s1.reasmMax, false, [x.frag]⟩)

/-- A frame whose place has come (R118, R122, R123, R368): checked, decrypted and reassembled. -/
def State.deliver (s : State) (x : Xgem) : State :=
  let open_ := SMap.find s.dsf.reasm x.port
  match open_ with
  | some r =>
    if r.discard then (if x.lf then s.setReasm x.port none else s) else s.deliverLive x open_
  | none => s.deliverLive x open_

/-- Every open SDU of a bonded Port-ID whose entry names the channel is discarded and counted once (R123). One whose rest is being discarded goes on being
discarded to its end. -/
def State.loseBonded (s : State) (c : Nat) : State :=
  s.dsf.reasm.foldl (fun t p =>
    match t.portEntry p.1 with
    | some (_, e) =>
      if e.bonded && bit e.mask (c % 4) && t.onActive c && !p.2.discard then (t.xErrored c).setReasm p.1 none else t
    | none => t) s

/-- Every open SDU of a Port-ID that is not bonded, whose fragments came on the channel (R123). -/
def State.losePlain (s : State) (c : Nat) : State :=
  s.dsf.reasm.foldl (fun t p =>
    let bonded := match t.portEntry p.1 with | some (_, e) => e.bonded && t.dsf.bondOn | none => false
    if !bonded && p.2.chan == c && !p.2.discard then (t.xErrored c).setReasm p.1 none else t) s

/-- The losses that a condition on their place picks out take effect (R123). -/
def State.applyLosses (s : State) (due : Nat × Nat × Nat → Bool) : State :=
  let s1 := (s.dsf.losses.filter due).foldl (fun t l => t.loseBonded l.2.1) s
  { s1 with dsf := { s1.dsf with losses := s1.dsf.losses.filter (fun l => !due l) } }

/-- The point of the bonded order where a loss begins has come: no frame before it is held or still to come (R123, R126). -/
def State.lossDue (s : State) (l : Nat × Nat × Nat) : Bool :=
  s.passed l.1 l.2.1 && (match s.dsf.held with | [] => true | x :: _ => keyBefore l x.place)

/-- DSF_BOND_HELD follows the buffer, and a pending change of DSF_BOND_CFG.EN takes effect with nothing held (R130). -/
def State.showHeld (s : State) : State :=
  let s1 := s.setFld F.DSF_BOND_HELD_UNITS 0 (heldUnits s.dsf.held)
  if s1.dsf.held.isEmpty then
    { s1 with dsf := { s1.dsf with bondOn := s1.fld F.DSF_BOND_CFG_EN 0 == 1 } } else s1

/-- Release the held frame with the lowest key. -/
def State.releaseOne (s : State) : State :=
  match s.dsf.held with
  | [] => s
  | x :: rest =>
    let s1 := s.applyLosses (fun l => keyBefore l x.place)
    State.deliver { s1 with dsf := { s1.dsf with held := rest, released := some x.place } } x

/-- Release in key order while the rule of R126 or R128 allows, at most n frames. -/
def releaseLoop : Nat → State → State
  | 0, s => s
  | n + 1, s =>
    match s.dsf.held with
    | [] => s
    | x :: _ => if s.releasable x then releaseLoop n s.releaseOne else s

/-- The release rule is applied (R126, R128). -/
def State.reorder (s : State) : State :=
  let s1 := releaseLoop s.dsf.held.length s
  (s1.applyLosses s1.lossDue).showHeld

/-- Release every held frame in key order (R130). -/
def State.flushHeld (s : State) : State :=
  let s1 := (List.range s.dsf.held.length).foldl (fun t _ => t.releaseOne) s
  (s1.applyLosses (fun _ => true)).showHeld

/-- Make room for a frame (R128): the lowest keys are released without waiting. -/
def overflowLoop : Nat → Nat → State → State
  | 0, _, s => s
  | n + 1, need, s => if 262144 < heldUnits s.dsf.held + need then overflowLoop n need s.releaseOne else s

def State.makeRoom (s : State) (need : Nat) : State :=
  if heldUnits s.dsf.held + need ≤ 262144 then s else
  let held := heldUnits s.dsf.held * 32
  let s1 := overflowLoop s.dsf.held.length need s
  (s1.raise F.DSF_BOND_EVENT_OVERFLOW F.DSF_BOND_EVENT_EVCNT_OVERFLOW 0).notify 3 0x000A held
    ((match s1.dsf.released with | some k => k.1 | none => 0) % 2 ^ 32)

/-- A late frame (R126). -/
def State.isLate (s : State) (x : Xgem) : Bool :=
  match s.dsf.released with
  | some k => !keyBefore k x.place
  | none => false

/-- A late frame is discarded and counted; one with a byte in an uncorrectable codeword is counted as errored too (R118, R126). -/
def State.dropLate (s : State) (x : Xgem) : State :=
  let s1 := ((s.satAdd F.DSF_CH_XGEM_DISC_LATE x.chan 1).pmCount x.chan 16 1).raise F.DSF_BOND_EVENT_LATE F.DSF_BOND_EVENT_EVCNT_LATE 0
  if x.errored then s1.xErrored x.chan else s1

/-- Enter a bonded frame into the reorder buffer, or discard it as late (R126, R128). -/
def State.holdFrame (s : State) (x : Xgem) : State :=
  if s.isLate x then s.dropLate x
  else
    let s1 := s.makeRoom x.units
    if s1.isLate x then s1.dropLate x
    else { s1 with dsf := { s1.dsf with held := insertHeld x s1.dsf.held } }

/-- A loss on a channel at a place in its order (R123): at once for Port-IDs that are not bonded, at its point in the bonded order for the others. -/
def State.lossAt (s : State) (c key offset : Nat) : State :=
  let s1 := s.losePlain c
  if s1.dsf.bondOn && s1.onActive c then
    State.reorder { s1 with dsf := { s1.dsf with losses := s1.dsf.losses ++ [(key, c, offset)] } }
  else s1

/-- The codes of R137. -/
def prcCode (code : Nat) : Bool := code == 0 || decide (0x10 ≤ code ∧ code ≤ 0x16) || code == 0x20 || code == 0x21

/-- The code, target and argument of a message laid out as R136 has it; none where any part of the layout is broken: MAGIC, VERSION, an undefined code, a target that
is not path A, path B or none, a byte 5 to 7 that is not zero, an argument that its code does not use (R408), or the CRC. -/
def prcMsg (b : List Nat) : Option (Nat × Nat × Nat) :=
  let at' := fun (i : Nat) => b.getD i 0
  let code := at' 3
  let arg := beNum ((b.drop 8).take 4)
  if b.length = 16 ∧ at' 0 = 0x7E ∧ at' 1 = 0x5A ∧ at' 2 = 1 ∧ prcCode code ∧ (at' 4 ≤ 1 ∨ at' 4 = 0xFF) ∧ at' 5 = 0 ∧ at' 6 = 0 ∧ at' 7 = 0 ∧
      (arg = 0 ∨ code = 0 ∨ code = 0x15) ∧ beNum (b.drop 12) = crc32c (b.take 12) then some (code, at' 4, arg) else none

/-- A protection request message is kept for its frame's judgement, or counted as bad (R136). -/
def State.prcFrame (s : State) (x : XgemHdr) : State :=
  match (if x.pli = 16 ∧ x.keyIdx = 0 ∧ x.lf then prcMsg x.prc else none) with
  | some (code, target, arg) => { s with dsf := { s.dsf with prcMsgs := s.dsf.prcMsgs ++ [⟨x.chan, x.sfc, true, code, target, arg⟩] } }
  | none => s.raise F.DSF_PRC_EVENT_BAD_MSG F.DSF_PRC_EVENT_EVCNT_BAD_MSG 0

/-- The key of a header (R125). -/
def xgemKeyLc (x : XgemHdr) : Nat := x.sfc * 155520 + x.offset / 5

/-- A channel's position passes a frame (R125): P is the key of its latest byte; a suspended member whose position advances
rejoins (R127). -/
def State.advance (s : State) (x : XgemHdr) : State :=
  let f := s.framing x.chan
  let p := x.sfc * 155520 + (x.offset + 7 + x.pli) / 5
  let s1 := s.setFraming x.chan { f with pos := p, posLc := if p = f.pos then f.posLc else s.ltb.lc }
  if f.pos < p then s1.bondRejoin x.chan else s1

/-- A frame whose Port-ID is not held, or not held on its channel, is discarded and counted; errored, it is counted as that too (R118, R122, R126). -/
def State.dropUnknown (s : State) (x : XgemHdr) : State :=
  (if x.errored then s.xErrored x.chan else s).xUnknown x.chan

/-- An accepted frame: held for the bonded order or delivered (R122, R126, R130). -/
def State.acceptFrame (s : State) (x : XgemHdr) : State :=
  match s.portEntry x.port with
  | none => s.dropUnknown x
  | some (e, pe) =>
    if !(bit pe.mask (x.chan % 4) && s.onActive x.chan) then s.dropUnknown x
    else
      let y : Xgem := ⟨x.chan, e, x.port, (xgemKeyLc x), x.offset, x.pli, x.keyIdx, x.options, x.lf, x.errored⟩
      if pe.bonded && s.dsf.bondOn then
        (if s.member x.chan = 0 then s.dropUnknown x else s.holdFrame y)
      else s.deliver y

/-- XGEM_FRAME (R121 to R128, R136): a header is delineated and its frame accepted, bonded, reassembled or discarded. -/
def execXgemFrame (x : XgemHdr) (s : State) : Host.Outcome State Fault Refusal :=
  .next <|
    let f := s.framing x.chan
    if !s.inSync x.chan || s.ltb.sleep.isSome || s.fld F.DSF_CH_STATUS_FEC_IN_USE x.chan == 0 || f.lostFrame == some x.sfc then s
    else if x.hec = 2 then
      let s1 := (s.satAdd F.DSF_CH_HEC_HEC_UNCORR x.chan 1).pmCount x.chan 7 1
      let s2 := s1.setPm x.chan { s1.pm x.chan with secErr := true }
      (s2.setFraming x.chan { f with lostFrame := some x.sfc }).lossAt x.chan (xgemKeyLc x) x.offset
    else
      let s1 := if x.hec = 1 then (s.satAdd F.DSF_CH_HEC_HEC_CORR x.chan 1).pmCount x.chan 6 1 else s
      let s2 := s1.advance x
      let s3 :=
        if x.idle then s2
        else if s.fld F.DSF_PRC_CFG_EN 0 = 1 ∧ x.port = s.fld F.DSF_PRC_CFG_PORT_ID 0 then
          (if x.errored then s2.xErrored x.chan else s2.prcFrame x)
        else s2.acceptFrame x
      s3.reorder

/-- The reorder buffer's memory fails (R146): the held frames with a byte in it are discarded as their place comes, each counted as errored; the fault event gives their
number and the place in the memory. -/
def State.reorderFail (s : State) (f : ReorderFail) : State :=
  let hit := fun (x : Xgem) => f.frames.contains x.place
  let s1 := s.faultEvent 3 0x00F0 (errLoc 3 f.tile f.mac f.row) (s.dsf.held.filter hit).length 0
  { s1 with dsf := { s1.dsf with held := s1.dsf.held.map (fun x => if hit x then { x with errored := true } else x) } }

/-- REORDER_RELEASE (R126, R128, R146). -/
def execReorderRelease (fail : Option ReorderFail) (s : State) : Host.Outcome State Fault Refusal :=
  .next (match fail with | some f => (s.reorderFail f).reorder | none => s.reorder)

/-- STALL_US in line cycles, rounded up: 0 is treated as 1, above 100 as 100 (R127, R147). -/
def State.stallLc (s : State) : Nat := (max 1 (min 100 (s.fld F.DSF_BOND_CFG_STALL_US 0)) * 124416 + 99) / 100

/-- BOND_STALL (R127): an ACTIVE member's position has not advanced for STALL_US. -/
def execBondStall (c : Nat) (s : State) : Host.Outcome State Fault Refusal :=
  .next (if (s.framing c).posLc + s.stallLc ≤ s.ltb.lc then (s.suspend c 3).reorder else s)

/-- PARKING_DONE (R127): a PARKING member's position has reached the agreed frame; it goes OUT. -/
def execParkingDone (c : Nat) (s : State) : Host.Outcome State Fault Refusal :=
  .next <|
    match SMap.find s.dsf.parkAt c with
    | none => s
    | some fp =>
      if s.onActive c && s.member c == 3 && decide (fp * 155520 ≤ (s.framing c).pos) then
        let s1 := s.setMember c 0
        State.reorder { s1 with dsf := { s1.dsf with parkAt := SMap.erase s1.dsf.parkAt c } }
      else s

/-! Defects (R131 to R135). -/

/-- Every channel of a path has LOS or LOF. -/
def State.pathDead (s : State) (p : Nat) : Bool :=
  (List.range 4).all (fun k =>
    let c := 4 * p + k
    !s.hasChannel c || s.fld F.DSF_CH_STATUS_LOS c == 1 || s.fld F.DSF_CH_STATUS_LOF c == 1)

def aisFld (p : Nat) : Fld := if p = 0 then F.DSF_PRC_STATUS_AIS_A else F.DSF_PRC_STATUS_AIS_B
def rdiFld (p : Nat) : Fld := if p = 0 then F.DSF_PRC_STATUS_RDI_A else F.DSF_PRC_STATUS_RDI_B

/-- AIS or RDI of a path is cleared, with its event (R134). -/
def State.clearAis (s : State) (p : Nat) : State :=
  if s.fld (aisFld p) 0 = 1 then (s.setFld (aisFld p) 0 0).notify 3 0x0006 p 0 else s
def State.clearRdi (s : State) (p : Nat) : State :=
  if s.fld (rdiFld p) 0 = 1 then (s.setFld (rdiFld p) 0 0).notify 3 0x0008 p 0 else s

/-- AIS and RDI of a path are cleared once every channel of it has LOS or LOF (R134). -/
def State.pathCheck (s : State) (c : Nat) : State :=
  if s.pathDead (c / 4) then (s.clearAis (c / 4)).clearRdi (c / 4) else s

/-- What a LOS or LOF does beyond DSF (R132): LTB, ACT, the bonding reorder, and AIS and RDI of a dead path. -/
def State.defectReport (s : State) (c cause : Nat) : State :=
  ((((s.pathCheck c).ltbRecheck).lods c).suspend c cause).reorder

/-- LOF is declared on an exit from SYNC (R132), but not in the dark (R133). -/
def State.declareLof (s : State) (c : Nat) : State :=
  if s.quietLine then s else
  let s1 := (s.setFld F.DSF_CH_STATUS_LOF c 1).raise F.DSF_CH_EVENT_LOF_DECL F.DSF_CH_EVENT_EVCNT_LOF_DECL c
  let s2 := (s1.raise F.DSF_LOF_STATUS_LOF F.DSF_LOF_STATUS_EVCNT_LOF 0).notify 3 0x0003 c 0
  (s2.setPm c { s2.pm c with secLof := true }).defectReport c 2

/-- LOF and LOS are cleared with their events. -/
def State.clearLof (s : State) (c : Nat) : State :=
  if s.fld F.DSF_CH_STATUS_LOF c = 1 then (s.setFld F.DSF_CH_STATUS_LOF c 0).notify 3 0x0004 c 0 else s
def State.clearLos (s : State) (c : Nat) : State :=
  if s.fld F.DSF_CH_STATUS_LOS c = 1 then (s.setFld F.DSF_CH_STATUS_LOS c 0).notify 3 0x0002 c 0 else s

/-- SIG_DET has shown a level for at least `k` line cycles. -/
def State.sigFor (s : State) (c v k : Nat) : Bool :=
  s.fld F.LLN_RX_STATUS_SIG_DET c == v && decide ((s.rxLane c).sigSince + k ≤ s.ltb.lc)

/-- LOS is declared (R131, R132); it implies LOF, which is reported with it (R135). -/
def State.declareLos (s : State) (c : Nat) : State :=
  let s1 := ((s.setFld F.DSF_CH_STATUS_LOS c 1).raise F.DSF_CH_EVENT_LOS_DECL F.DSF_CH_EVENT_EVCNT_LOS_DECL c).notify 3 0x0001 c 0
  let s2 := (s1.setPm c { s1.pm c with secLos := true, secLof := true }).defectReport c 1
  if s2.fld F.DSF_CH_STATUS_LOF c = 1 then s2 else s2.declareLof c

/-- LOS_DECLARED (R131, R135): SIG_DET has been 0 for LOS_SET_US (0 as 1) on an enabled lane. -/
def execLosDeclared (c : Nat) (s : State) : Host.Outcome State Fault Refusal :=
  .next <|
    if s.quietLine ∨ s.fld F.LLN_RX_CFG_EN c = 0 ∨ s.fld F.DSF_CH_STATUS_LOS c = 1 ∨
        !s.sigFor c 0 (usLc (max 1 (s.fld F.DSF_DEF_CFG_LOS_SET_US 0))) then s
    else
      let s1 := s.declareLos c
      if s1.simmer = 4 then s1.wakeSource 7 else s1

/-- LOS_CLEARED (R131): SIG_DET has been 1 for LOS_CLR_FR frame times (0 as 1). A LOF that LOS alone implied is cleared with it. -/
def execLosCleared (c : Nat) (s : State) : Host.Outcome State Fault Refusal :=
  .next <|
    if s.sigFor c 1 (155520 * max 1 (s.fld F.DSF_DEF_CFG_LOS_CLR_FR 0)) then
      (if s.inSync c then (s.clearLos c).clearLof c else s.clearLos c)
    else s

/-! The frame hunt (R112 to R117). -/

/-- Candidates held, as the register shows them. -/
def State.showCands (s : State) (c : Nat) : State := s.setFld F.DSF_CH_STATUS_CANDIDATES c (s.framing c).cands.length

/-- Entry to HUNT: an empty table; the shortening setting written last takes effect (R112, R117). -/
def State.enterHunt (s : State) (c : Nat) : State :=
  let fs := s.fld F.DSF_CH_CFG_FEC_SHORT c
  let s1 := (s.setFld F.DSF_CH_STATUS_STATE c 1).setFld F.DSF_CH_STATUS_FEC_IN_USE c (if fs = 1 ∨ fs = 2 then fs else 0)
  (s1.setFraming c { s1.framing c with cands := [], misses := 0, run1 := 0, run2 := 0, lostFrame := none, arr := none }).showCands c

/-- A channel leaves SYNC: its open SDUs are lost at its position (R123), and its offset is no longer judged. -/
def State.leaveSync (s : State) (c : Nat) : State :=
  if s.inSync c then s.lossAt c (s.framing c).pos 0 else s

/-- PSYNC_MATCH (R112, R113): an exact match enters a candidate; beyond eight it is ignored and counted. -/
def execPsyncMatch (c align : Nat) (sfc : Option Nat) (s : State) : Host.Outcome State Fault Refusal :=
  .next <|
    let st := s.fld F.DSF_CH_STATUS_STATE c
    let f := s.framing c
    if st ≠ 1 ∧ st ≠ 2 then s
    else if 8 ≤ f.cands.length then s.raise F.DSF_CH_EVENT_HUNT_OVF F.DSF_CH_EVENT_EVCNT_HUNT_OVF c
    else
      ((s.setFld F.DSF_CH_STATUS_STATE c 2).setFraming c { f with cands := f.cands ++ [⟨s.ltb.lc, align, sfc⟩] }).showCands c

/-- PSYNC_TOL and MISS_LIMIT in force. -/
def State.psyncTol (s : State) : Nat := min 8 (s.fld F.DSF_HUNT_CFG_PSYNC_TOL 0)
def State.missLimit (s : State) : Nat := max 1 (s.fld F.DSF_HUNT_CFG_MISS_LIMIT 0)

/-- SYNC is entered at the frame whose PSBd began at line-cycle count `ps` (R112, R113, R115, R132): the other candidates are discarded, the expected SFC is set, the
arrival is to be reported, the position starts at the frame, LOF clears and ACT is told. -/
def State.enterSync (s : State) (c sfc ps third : Nat) (thirdOk : Bool) : State :=
  let s1 := (s.setFld F.DSF_CH_STATUS_STATE c 3).setFraming c
    { s.framing c with
      cands := [], expSfc := sfc, misses := 0, run1 := 0, run2 := 0, lostFrame := none, third := third, thirdOk := thirdOk, pos := sfc * 155520, posLc := s.ltb.lc
      lastPs := ps, arr := some (ps, sfc) }
  (((s1.showCands c).clearLof c).syncGained c).sampleHeader c

/-- A candidate comes to its check before another: the one entered first, and of two entered in one line cycle the one at the lower alignment (R113). -/
def Candidate.first (k : Candidate) (l : List Candidate) : Bool :=
  l.all (fun x => decide (k.at_ < x.at_) || (k.at_ == x.at_ && decide (k.align ≤ x.align)))

/-- CANDIDATE_CHECK (R113): 155,520 lc after its entry the oldest candidate at an alignment is confirmed, which takes effect 8 lc after the confirming PSync began, or
discarded. `diff` is how many bits of PSync differ, `sfc` the counter of the confirming structure where its HEC passes, `third` the third structure with its HEC
outcome. -/
def execCandidateCheck (c align diff : Nat) (sfc : Option Nat) (third : Nat) (thirdOk : Bool) (s : State) : Host.Outcome State Fault Refusal :=
  .next <|
    let f := s.framing c
    if s.fld F.DSF_CH_STATUS_STATE c ≠ 2 then s else
    match pullFirst (fun k => k.align == align) f.cands with
    | none => s
    | some (k, rest) =>
      if s.ltb.lc < k.at_ + 155528 ∨ !k.first rest then s else
      let pass := match sfc, k.sfc with
        | some v, some w => if diff ≤ s.psyncTol ∧ v = (w + 1) % 2 ^ 51 then some v else none
        | some v, none => if diff ≤ s.psyncTol then some v else none
        | none, _ => none
      match pass with
      | some v => s.enterSync c v (k.at_ + 155520) third thirdOk
      | none =>
        (if rest.isEmpty then s.enterHunt c else (s.setFraming c { f with cands := rest }).showCands c).pmCount c 17 1

/-- PSBD_CHECK (R114 to R116, R132): 155,520 lc after the previous one the expected PSBd is found, and its arrival is to be reported, or missed. `sfc` is the counter
where its HEC passes, `third` the third structure with its HEC outcome, which ACT gets every frame. -/
def execPsbdCheck (c diff : Nat) (sfc : Option Nat) (third : Nat) (thirdOk : Bool) (s : State) :
    Host.Outcome State Fault Refusal :=
  .next <|
    let f := s.framing c
    let ps := f.lastPs + 155520
    if !s.inSync c ∨ s.ltb.lc < ps then s else
    let want := (f.expSfc + 1) % 2 ^ 51
    let wrong := match sfc with | some v => v != want | none => false
    let miss := decide (s.psyncTol < diff) || wrong
    let s0 := if wrong then s.raise F.DSF_CH_EVENT_SFC_MISMATCH F.DSF_CH_EVENT_EVCNT_SFC_MISMATCH c else s
    let s1 := if sfc.isNone then s0.pmCount c 5 1 else s0
    let g : Framing := { f with expSfc := want, third := third, thirdOk := thirdOk, lastPs := ps }
    if miss then
      (if s1.missLimit ≤ f.misses + 1 then
        ((s1.leaveSync c).enterHunt c).declareLof c
       else ((s1.setFraming c { g with misses := f.misses + 1, arr := none }).pmCount c 4 1).sampleHeader c)
    else (s1.setFraming c { g with misses := 0, arr := some (ps, want) }).sampleHeader c

/-- The receive lane reaches TRACK (R112): the framing leaves OFF for HUNT. -/
def State.laneTrack (s : State) (c : Nat) : State :=
  if s.fld F.DSF_CH_STATUS_STATE c = 0 then
    s.enterHunt c else s

/-- The lane's EN is written 1: LOF is present until SYNC, without a declaration (R132, R133). -/
def State.lofPresent (s : State) (c : Nat) : State :=
  if s.quietLine ∨ s.inSync c ∨ s.fld F.LLN_RX_CFG_EN c = 0 then s
  else
    let s1 := s.setFld F.DSF_CH_STATUS_LOF c 1
    (s1.setPm c { s1.pm c with secLof := true }).pathCheck c

/-- The lane leaves LOCK and TRACK (R112, R132): OFF, with LOF declared from SYNC. -/
def State.laneLost (s : State) (c : Nat) : State :=
  let was := s.inSync c
  if s.fld F.DSF_CH_STATUS_STATE c = 0 then s else
  let s1 := (s.leaveSync c).setFld F.DSF_CH_STATUS_STATE c 0
  let s2 := (s1.setFraming c { s1.framing c with cands := [], arr := none }).showCands c
  if was then s2.declareLof c else s2

/-- The lane's EN is written 0 (R112, R131): OFF without a declaration; LOS and LOF present are cleared with their events. -/
def State.laneDisabled (s : State) (c : Nat) : State :=
  let was := s.inSync c
  let s1 := (s.leaveSync c).setFld F.DSF_CH_STATUS_STATE c 0
  let s2 := (((s1.setFraming c { s1.framing c with cands := [], arr := none }).showCands c).clearLos c).clearLof c
  let p := s2.pm c
  let s3 := s2.setPm c { p with cur := { p.cur with flags := p.cur.flags ||| 8 }, day := { p.day with flags := p.day.flags ||| 8 } }
  if was then s3.ltbRecheck.reorder else s3

/-- Eight consecutive codewords of zero syndrome under one setting settle AUTO, the first setting where both do (R117). -/
def State.codewordAuto (s : State) (c : Nat) (zero1 zero2 : Bool) : State :=
  let f := s.framing c
  let r1 := if zero1 then f.run1 + 1 else 0
  let r2 := if zero2 then f.run2 + 1 else 0
  let s1 := s.setFraming c { f with run1 := r1, run2 := r2 }
  if 8 ≤ r1 then s1.setFld F.DSF_CH_STATUS_FEC_IN_USE c 1
  else if 8 ≤ r2 then s1.setFld F.DSF_CH_STATUS_FEC_IN_USE c 2
  else s1

/-- ITER_MAX in force: below 4 is 4 (DSF_CHn_CFG). -/
def State.iterMax (s : State) (c : Nat) : Nat := max 4 (s.fld F.DSF_CH_CFG_ITER_MAX c)

/-- One codeword under the setting in use (R118): iterations spent, at most ITER_MAX and all of them where it did not decode, whether it decoded, and bits changed. -/
def State.codewordCount (s : State) (c iters bitsChanged : Nat) (decoded : Bool) : State :=
  let n := if decoded then min iters (s.iterMax c) else s.iterMax c
  let s1 := (s.satAdd F.DSF_CH_CW_COUNT c 1).pmCount c 0 1
  let s2 := s1.peak F.DSF_CH_ITER_PEAK c n
  if decoded then
    let s3 := if bitsChanged = 0 then s2 else
      (((s2.satAdd F.DSF_CH_CW_CORR_COUNT c 1).pmCount c 1 1).satAdd F.DSF_CH_BITS_CORR_COUNT c bitsChanged).pmCount c 3 bitsChanged
    if n = s.iterMax c then s3.satAdd F.DSF_CH_ITER_CW_AT_MAX c 1 else s3
  else
    let s3 := (s2.satAdd F.DSF_CH_CW_UNCORR_COUNT c 1).pmCount c 2 1
    s3.setPm c { s3.pm c with secUncorr := (s3.pm c).secUncorr + 1 }

/-- CODEWORD_DECODE (R117, R118): outcomes under both settings while AUTO is unresolved, else under the one in use. -/
def execCodewordDecode (c : Nat) (zero1 zero2 : Bool) (iters bitsChanged : Nat) (decoded : Bool) (s : State) :
    Host.Outcome State Fault Refusal :=
  .next (if !s.inSync c then s
    else if s.fld F.DSF_CH_STATUS_FEC_IN_USE c = 0 then s.codewordAuto c zero1 zero2
    else s.codewordCount c iters bitsChanged decoded)

/-! The protection request channel (R134, R138). -/

def prcCodeFld (p : Nat) : Fld := if p = 0 then F.DSF_PRC_STATUS_CODE_A else F.DSF_PRC_STATUS_CODE_B

/-- A code is accepted on a path (R134, R138, R146), and PRT acts on it (R408, R416). -/
def State.prcAccept (s : State) (p code target arg : Nat) : State :=
  let s1 := s.setFld (prcCodeFld p) 0 code
  let s2 := (if p = 0 then s1.raise F.DSF_PRC_EVENT_ACCEPT_A F.DSF_PRC_EVENT_EVCNT_ACCEPT_A 0
    else s1.raise F.DSF_PRC_EVENT_ACCEPT_B F.DSF_PRC_EVENT_EVCNT_ACCEPT_B 0).notify 3 0x000B (code + p * 256 + target * 65536) arg
  let s3 := if code = 0x20 then
      (if s2.fld (aisFld p) 0 = 1 then s2 else (s2.setFld (aisFld p) 0 1).notify 3 0x0005 p 0).clearRdi p
    else if code = 0x21 then
      (if s2.fld (rdiFld p) 0 = 1 then s2 else (s2.setFld (rdiFld p) 0 1).notify 3 0x0007 p 0).clearAis p
    else (s2.clearAis p).clearRdi p
  let s4 := if code = 0x21 ∧ p = s3.protPath then s3.exerciseFails 1 else s3
  s4.prtRemote p code target arg

/-- Every channel of a path in SYNC has passed head-end frame k (R138). -/
def State.pathPassed (s : State) (p k : Nat) : Bool :=
  (List.range 4).all (fun i => !s.inSync (4 * p + i) || decide ((k + 1) * 155520 ≤ (s.framing (4 * p + i)).pos))

/-- PRC_FRAME_JUDGED (R138): head-end frame k of a path, once every channel of it in SYNC has passed the frame. -/
def execPrcFrameJudged (p k : Nat) (s : State) : Host.Outcome State Fault Refusal :=
  .next <|
    if !s.pathPassed p k then s else
    let ms := s.dsf.prcMsgs.filter (fun m => m.chan / 4 == p && m.frame == k)
    let s0 : State := { s with dsf := { s.dsf with prcMsgs := s.dsf.prcMsgs.filter (fun m => !(m.chan / 4 == p && decide (m.frame ≤ k))) } }
    let low := (List.range 4).findSome? (fun c => ms.find? (fun m => m.chan == 4 * p + c))
    match low with
    | none => { s0 with dsf := { s0.dsf with prcRuns := SMap.erase s0.dsf.prcRuns p } }
    | some m =>
      let clash := ms.any (fun n => n.code != m.code || n.target != m.target || n.arg != m.arg)
      let s1 := if clash then s0.raise F.DSF_PRC_EVENT_CONFLICT F.DSF_PRC_EVENT_EVCNT_CONFLICT 0 else s0
      let s2 := s1.setPath p { s1.path p with alive := true }
      let run : PrcRun := match SMap.find s2.dsf.prcRuns p with
        | some r =>
          if r.code = m.code ∧ r.target = m.target ∧ r.arg = m.arg ∧ k = (r.frame + 1) % 2 ^ 51 then
            { r with len := r.len + 1, frame := k }
          else ⟨m.code, m.target, m.arg, 1, k, false⟩
        | none => ⟨m.code, m.target, m.arg, 1, k, false⟩
      let need := if m.code = 0 then 1 else 3
      let accept := !run.accepted && decide (need ≤ run.len)
      let s3 : State := { s2 with dsf := { s2.dsf with prcRuns := SMap.insert s2.dsf.prcRuns p { run with accepted := run.accepted || accept } } }
      if accept then s3.prcAccept p m.code m.target m.arg else s3

/-! Line seconds and bins. -/

/-- The boundary at frame F lies after the start (R26, R139, R140). -/
def afterStart (F start : Nat) : Bool := decide (0 < stampDiff (stampOf F 0) start)

/-- PHASE in force: above 7,199,999 it is 7,199,999 (DSF_PM_CFG). -/
def State.phase (s : State) : Nat := min 7199999 (s.fld F.DSF_PM_CFG_PHASE 0)

/-- Frame F is a boundary of a span of `n` frames, and has been reached (R139, R140). -/
def State.boundary (s : State) (F n : Nat) : Bool := ((F : Int) - (s.phase : Int)) % (n : Int) == 0 && stampLe (stampOf F 0) s.stamp

/-- LINE_SECOND (R139): the boundary at frame F closes the line second on every channel; one passed again after a backward step is
ignored. -/
def execLineSecond (F : Nat) (s : State) : Host.Outcome State Fault Refusal :=
  .next <|
    let after := match s.dsf.lastSecond with | some t => afterStart F t | none => true
    if !(s.boundary F 8000 && after) then s else
    let s1 := (s.channels.foldl (fun t c => t.closeSecond c) s).newSecond
    { s1 with dsf := { s1.dsf with lastSecond := some (stampOf F 0) } }

/-- PM_BIN_CLOSED (R140): every channel's current 15-minute or 24-hour bin closes at the boundary at frame F, if it lies after the bin's
start. -/
def execPmBinClosed (day : Bool) (F : Nat) (s : State) : Host.Outcome State Fault Refusal :=
  .next <|
    if !s.boundary F (if day then 691200000 else 7200000) then s else
    s.channels.foldl (fun t c =>
      let b := if day then (t.pm c).day else (t.pm c).cur
      if afterStart F b.start then t.closeBin c day false (stampOf F 0) else t) s

/-- A write of DSF_PM_CFG: a change of the phase in force closes the current bins at once, flagged STEPPED. -/
def State.writePmCfg (s : State) (v : Nat) : State :=
  let s1 := s.setFld F.DSF_PM_CFG_PHASE 0 (bits v 22 0)
  if s1.phase = s.phase then s1 else s1.pmCloseAll

/-- PM_PHASE_CHANGE (R140). -/
def execPmPhaseChange (v : Word) (s : State) : Host.Outcome State Fault Refusal :=
  .next (s.hostWrite 0x300060 v.toNat (fun t => t.landed 0x300060 v.toNat (fun u => u.writePmCfg v.toNat)))

/-! Commands (R144, R145). -/

/-- PORT_SET (R122, R144). A mask naming a channel the part does not have is refused (R3). -/
def execPortSet (d : Desc) (s : State) : Host.Outcome State Fault Refusal :=
  .next <| s.asCommand d 0x0C01 true <|
    let e := bits (d.dw 5) 13 0
    let port := bits (d.dw 5) 31 16
    let en := bit (d.dw 6) 0
    let mask := bits (d.dw 6) 7 4
    let taken := s.dsf.ports.any (fun p => p.1 != e && p.2.port == port)
    if bits (d.dw 5) 15 14 ≠ 0 then s.refuse d stBadArg 5
    else if taken ∨ (s.fld F.DSF_PRC_CFG_EN 0 = 1 ∧ port = s.fld F.DSF_PRC_CFG_PORT_ID 0) then s.refuse d stBadArg 5
    else if en ∧ (mask = 0 ∨ (List.range 4).any (fun k => bit mask k && !s.hasChannel k)) then s.refuse d stBadArg 6
    else
      let ports := if en then SMap.insert s.dsf.ports e ⟨port, bit (d.dw 6) 1, mask⟩ else SMap.erase s.dsf.ports e
      State.finish { s with dsf := { s.dsf with ports := ports } } d stOk 0

/-- A bin record (R143). -/
def Bin.words (b : Bin) (current : Bool) : List Nat :=
  [b.start % 2 ^ 32, b.start / 2 ^ 32, b.stop % 2 ^ 32, b.stop / 2 ^ 32, b.flags + b2n current * 16, b.seconds, 0, 0] ++
    (b.counters.map (fun n => [n % 2 ^ 32, n / 2 ^ 32])).flatten ++ [0, 0, 0, 0]

/-- PM_READ (R143 to R145). -/
def execPmRead (d : Desc) (s : State) : Host.Outcome State Fault Refusal :=
  .next <| s.asCommand d 0x0C02 true <|
    let c := bits (d.dw 5) 2 0
    let i := bits (d.dw 5) 12 8
    let p := s.pm c
    if !d.buf ∨ d.bufLen < 192 then s.refuse d stBadArg 4
    else if !s.hasChannel c then s.refuse d stBadArg 5
    else match bits (d.dw 5) 5 4 with
      | 0 => (s.toBuf d (p.cur.words true)).finish d stOk 0
      | 1 => match p.closed[i]? with
        | some b => (s.toBuf d (b.words false)).finish d stOk 0
        | none => s.refuse d stStateRefused (refusedWord 0x12 c p.closed.length)
      | 2 => (s.toBuf d (p.day.words true)).finish d stOk 0
      | _ => match p.prevDay with
        | some b => (s.toBuf d (b.words false)).finish d stOk 0
        | none => s.refuse d stStateRefused (refusedWord 0x12 c 33)

/-- PM_THRESHOLD (R142, R144). -/
def execPmThreshold (d : Desc) (s : State) : Host.Outcome State Fault Refusal :=
  .next <| s.asCommand d 0x0C03 true <|
    let i := bits (d.dw 5) 4 0
    if 17 < i then s.refuse d stBadArg 5
    else State.finish { s with dsf := { s.dsf with thresholds := SMap.put s.dsf.thresholds i (d.dw 6) 0 } } d stOk 0

/-- HUNT_RESTART (R112, R144, R145). -/
def execHuntRestart (d : Desc) (s : State) : Host.Outcome State Fault Refusal :=
  .next <| s.asCommand d 0x0C04 true <|
    let c := bits (d.dw 5) 2 0
    if !s.hasChannel c then s.refuse d stBadArg 5
    else if s.fld F.DSF_CH_STATUS_STATE c = 0 then s.refuse d stStateRefused (refusedWord 0x10 c 0)
    else
      let was := s.inSync c
      let s1 := (s.leaveSync c).enterHunt c
      (if was then s1.declareLof c else s1).finish d stOk 0

end Sys2Proof.Machine
end

