-- ==== Sys2Proof/Machine/Lln.lean ====
section
/-!
DEFINITION. Sys2Proof/Machine/Lln.lean: the line lanes: receive (R90 to R92), transmit (R94 to R98), loops, test patterns and the
optics buses (R104 to R108); and the hand-over of bursts to their lane (R178).
-/
namespace Sys2Proof.Machine

def txLaneEmpty : TxLane := ⟨false, none, none, none, 0, 0, ⟨0, 0, 0x28⟩⟩
def State.txLane (s : State) (n : Nat) : TxLane := SMap.get s.lln.tx n txLaneEmpty
def State.setRxLane (s : State) (n : Nat) (x : RxLane) : State := { s with lln := { s.lln with rx := SMap.put s.lln.rx n x rxLaneEmpty } }
def State.setTxLane (s : State) (n : Nat) (x : TxLane) : State := { s with lln := { s.lln with tx := SMap.put s.lln.tx n x txLaneEmpty } }

def State.rxState (s : State) (n : Nat) : Nat := s.fld F.LLN_RX_STATUS_STATE n
def State.txState (s : State) (n : Nat) : Nat := s.fld F.LLN_TX_STATUS_STATE n

/-! Receive lanes (R90 to R92). -/

/-- A receive lane enters a state. -/
def State.rxTo (s : State) (n st : Nat) : State :=
  (s.setFld F.LLN_RX_STATUS_STATE n st).setRxLane n { s.rxLane n with since := s.ltb.lc }

/-- Line cycles since a receive lane entered its state, or its sweep restarted, have reached `k`. -/
def State.rxFor (s : State) (n k : Nat) : Bool := decide ((s.rxLane n).since + k ≤ s.ltb.lc)

/-- SIG_DET as the lane sees it. -/
def State.sigDet (s : State) (n v : Nat) : State :=
  if s.fld F.LLN_RX_STATUS_SIG_DET n = v then s
  else (s.setFld F.LLN_RX_STATUS_SIG_DET n v).setRxLane n { s.rxLane n with sigSince := s.ltb.lc }

/-- The eighteen taps of a lane, T0 to T14, then D1 to D3 (R91). -/
def tapFields : List Fld :=
  [F.LLN_RX_FFE0_T0, F.LLN_RX_FFE0_T1, F.LLN_RX_FFE0_T2, F.LLN_RX_FFE0_T3, F.LLN_RX_FFE1_T4, F.LLN_RX_FFE1_T5, F.LLN_RX_FFE1_T6,
    F.LLN_RX_FFE1_T7, F.LLN_RX_FFE2_T8, F.LLN_RX_FFE2_T9, F.LLN_RX_FFE2_T10, F.LLN_RX_FFE2_T11, F.LLN_RX_FFE3_T12, F.LLN_RX_FFE3_T13,
    F.LLN_RX_FFE3_T14, F.LLN_RX_DFE_D1, F.LLN_RX_DFE_D2, F.LLN_RX_DFE_D3]

/-- The taps at their reset values, which a cold start holds in ACQUIRE (R91). -/
def State.tapsCold (s : State) (n : Nat) : State := tapFields.foldl (fun t f => t.setFld f n f.rst) s

/-- OFF to ACQUIRE where EN is 1 and the domain is ready: cold, the sweep starts at CTLE_START with the taps at their reset values; else at the kept setting
(R90 to R92). -/
def State.rxStart (s : State) (n : Nat) : State :=
  if s.fld F.LLN_RX_CFG_EN n = 1 ∧ s.rxState n = 0 ∧ s.dom (2 + n / 4) (n % 4) = 2 then
    let s1 := s.rxTo n 1
    if (s.rxLane n).kept then s1 else (s1.setFld F.LLN_RX_STATUS_CTLE n (s.fld F.LLN_RX_CFG_CTLE_START n)).tapsCold n
  else s

/-- ACQUIRE, LOCK or TRACK to OFF: the CTLE setting and the taps are kept (R90, R92). -/
def State.rxStop (s : State) (n : Nat) : State :=
  let st := s.rxState n
  if st = 1 ∨ st = 2 ∨ st = 3 then
    let s1 := ((s.rxTo n 0).setFld F.LLN_RX_STATUS_CDR_LOCK n 0).sigDet n 0
    s1.setRxLane n { s1.rxLane n with kept := true }
  else s

/-- A write of LLN_RXn_CFG (R90, R131). -/
def State.writeRxCfg (s : State) (n v : Nat) : State :=
  let was := s.fld F.LLN_RX_CFG_EN n
  let s1 := s.applyWrite (0x201000 + 0x40 * n) v
  if bit v 0 then (if was = 0 then (s1.rxStart n).lofPresent n else s1)
  else if was = 1 then (s1.rxStop n).laneDisabled n
  else s1

/-- RX_LANE_ENABLE (R90): a write of LLN_RXn_CFG. -/
def execRxLaneEnable (n : Nat) (v : Word) (s : State) : Host.Outcome State Fault Refusal :=
  .next (s.hostWrite (0x201000 + 0x40 * n) v.toNat (fun t => t.landed (0x201000 + 0x40 * n) v.toNat
    (fun u => u.writeRxCfg n v.toNat)))

/-- CDR_LOCK (R90): signal detected and phase lock held for 4,096 lc, with the CTLE setting found. -/
def execCdrLock (n ctle : Nat) (s : State) : Host.Outcome State Fault Refusal :=
  .next (if s.rxState n = 1 ∧ s.rxFor n 4096 then
      (((s.rxTo n 2).setFld F.LLN_RX_STATUS_CDR_LOCK n 1).sigDet n 1).setFld F.LLN_RX_STATUS_CTLE n ctle
    else s)

/-- TRACK_ENTRY (R90, R112): the lock held a further 4,096 lc, the lane tracks, and its channel's framing starts to hunt. -/
def execTrackEntry (n : Nat) (s : State) : Host.Outcome State Fault Refusal :=
  .next (if s.rxState n = 2 ∧ s.rxFor n 4096 then (s.rxTo n 3).laneTrack n else s)

/-- ACQ_RETRY (R90): with no lock within ACQ_TIMEOUT (0 as 1 µs) the sweep restarts at CTLE_START; `sig` says whether the lane detects a signal now. -/
def execAcqRetry (n : Nat) (sig : Bool) (s : State) : Host.Outcome State Fault Refusal :=
  .next (if s.rxState n = 1 ∧ s.rxFor n (usLc (max 1 (s.fld F.LLN_RX_CFG_ACQ_TIMEOUT n))) then
      (((s.rxTo n 1).sigDet n (b2n sig)).setFld F.LLN_RX_STATUS_CTLE n (s.fld F.LLN_RX_CFG_CTLE_START n)).raise F.LLN_RX_EVENT_ACQ_RETRY
        F.LLN_RX_EVENT_EVCNT_ACQ_RETRY n
    else s)

/-- CDR_LOSS (R90, R32, R112): a phase error in 64 consecutive line cycles, or the signal lost; LTB and DSF are told. -/
def execCdrLoss (n : Nat) (sigLost : Bool) (s : State) : Host.Outcome State Fault Refusal :=
  .next <|
    if (s.rxState n = 2 ∨ s.rxState n = 3) ∧ (sigLost ∨ s.rxFor n 64) then
      let s1 := ((s.rxTo n 1).setFld F.LLN_RX_STATUS_CDR_LOCK n 0).raise F.LLN_RX_EVENT_CDR_LOSS F.LLN_RX_EVENT_EVCNT_CDR_LOSS n
      let s2 := if sigLost then (s1.sigDet n 0).raise F.LLN_RX_EVENT_SIG_LOSS F.LLN_RX_EVENT_EVCNT_SIG_LOSS n else s1
      let s3 := if n = s2.tc then s2.coast else s2
      (s3.laneLost n).ltbRecheck
    else s

/-- A source sets the taps now: in TRACK, under its code of ADAPT (R90, R91). In LOCK and ACQUIRE the taps hold, and in OFF and LOOP they are the kept ones (log entry
114). -/
def State.tapsOpen (s : State) (n adapt : Nat) : Bool := s.rxState n == 3 && s.fld F.LLN_RX_CFG_ADAPT n == adapt

/-- TAP_WRITE (R91): a host write of LLN_RXn_FFE0 to FFE3 (k from 0 to 3) or LLN_RXn_DFE (4) takes effect in TRACK under ADAPT HOST, and is
discarded otherwise. -/
def tapAddr (n k : Nat) : Nat := 0x201010 + 0x40 * n + 4 * k
def State.writeTap (s : State) (n k v : Nat) : State := if s.tapsOpen n 1 then s.applyWrite (tapAddr n k) v else s
def execTapWrite (n k : Nat) (v : Word) (s : State) : Host.Outcome State Fault Refusal :=
  .next (s.hostWrite (tapAddr n k) v.toNat (fun t => t.landed (tapAddr n k) v.toNat (fun u => u.writeTap n k v.toNat)))

/-! Transmit lanes (R94 to R98). -/

/-- DARK with TX_DISABLE sensed is SHUT (R95). -/
def State.txSettle (s : State) (n : Nat) : State :=
  s.setFld F.LLN_TX_STATUS_STATE n (if s.fld F.LLN_TX_STATUS_TXDIS_SENSED n = 1 then 3 else 1)

/-- OFF: BEN low, the PLL unlocked. -/
def State.txOff (s : State) (n : Nat) : State :=
  ((s.setFld F.LLN_TX_STATUS_STATE n 0).setFld F.LLN_TX_STATUS_PLL_LOCK n 0).setTxLane n { s.txLane n with ben := false, burst := none }

/-- The lane is in BURST, the LAG of the burst included (R96). -/
def State.txBusy (s : State) (n : Nat) : Bool := (s.txLane n).ben

/-- A write of LLN_TXn_CFG (R95, R97): EN at 0 turns a lane in DARK or SHUT off at once, and one in BURST after its burst. LEAD and LAG
wait for the context the write causes (R98, R187). -/
def State.writeTxCfg (s : State) (n v : Nat) : State :=
  let was := s.fld F.LLN_TX_CFG_EN n
  let s1 := (s.applyWrite (0x202000 + 0x40 * n) v).actRecheck n
  if was = 1 ∧ !bit v 0 ∧ (s1.txState n = 1 ∨ s1.txState n = 3) ∧ !s1.txBusy n then s1.txOff n else s1

/-- TX_LANE_ENABLE (R95). -/
def execTxLaneEnable (n : Nat) (v : Word) (s : State) : Host.Outcome State Fault Refusal :=
  .next (s.hostWrite (0x202000 + 0x40 * n) v.toNat (fun t => t.landed (0x202000 + 0x40 * n) v.toNat
    (fun u => u.writeTxCfg n v.toNat)))

/-- The lane belongs to the standby path of a protection in service, so it stays OFF (R410). -/
def State.txStandby (s : State) (n : Nat) : Bool :=
  s.fld F.PRT_STATUS_STATE 0 != 0 && s.fld F.ACT_STATUS_PATH 0 != 0 && !s.onActive n

/-- TX_PLL_LOCK (R95): the serialiser PLL locks while EN is 1, and OFF goes to DARK. -/
def execTxPllLock (n : Nat) (s : State) : Host.Outcome State Fault Refusal :=
  .next (if s.txState n = 0 ∧ s.fld F.LLN_TX_CFG_EN n = 1 ∧ s.dom (4 + n / 4) (n % 4) = 2 ∧ !s.txStandby n then
      (s.setFld F.LLN_TX_STATUS_PLL_LOCK n 1).txSettle n else s)

/-- A burst skipped by its lane: UBE is told (R96, R178), and an exercise in progress may fail on it (R416). -/
def State.skipBurst (s : State) (n : Nat) (b : Burst) (ev cnt skip : Fld) : State :=
  (((s.raise ev cnt n).satAdd skip n 1).burstLost n b)

def State.rateSkip (s : State) (n : Nat) (b : Burst) : State :=
  (s.skipBurst n b F.LLN_TX_EVENT_RATE_SKIP F.LLN_TX_EVENT_EVCNT_RATE_SKIP F.LLN_TX_SKIP_RATE).exerciseLane n

def State.lateSkip (s : State) (n : Nat) (b : Burst) : State :=
  s.skipBurst n b F.LLN_TX_EVENT_LATE_SKIP F.LLN_TX_EVENT_EVCNT_LATE_SKIP F.LLN_TX_SKIP_LATE

/-- Fewer than 64 lc remain before the BEN rise (R96). -/
def State.tooLate (s : State) (b : Burst) : Bool := decide (b.start - b.lead - s.lin < 64)

/-- A burst is handed to its lane (R94, R96, R178), which wakes a slice that powered down (R444): late, it is skipped. -/
def State.handBurst (s : State) (c : Nat) (b : Burst) (others : List Burst) : State :=
  let s1 := s.setUbeCh c { s.ubeCh c with bursts := others }
  if s.tooLate b then s1.lateSkip c b
  else (s1.setUbeCh c { s.ubeCh c with bursts := swapBurst b.phase { b with phase := 3 } (s.ubeCh c).bursts }).hwDemand (4 + c / 4) (c % 4)

/-- The HANDED bursts of a channel that come to their BEN rise too soon after a re-basing are skipped (R96, R184). -/
def State.skipLate (s : State) (c : Nat) : State :=
  let late := (s.ubeCh c).bursts.filter (fun b => b.phase == 3 && s.tooLate b)
  let s1 := s.setUbeCh c { s.ubeCh c with bursts := (s.ubeCh c).bursts.filter (fun b => !(b.phase == 3 && s.tooLate b)) }
  late.foldl (fun t b => t.lateSkip c b) s1

/-- BURST at one rate follows a burst of another rate by fewer than 96 lc of dark (R96). -/
def TxLane.retunes (t : TxLane) (b : Burst) : Bool :=
  match t.lastRate, t.lastFall with
  | some r, some f => r != b.rate && decide (b.start - b.lead - f < 96)
  | _, _ => false

/-- LLN_TXn_EMPH as a BEN rise takes it: AMPL above 60 is 60 (R98, R110). -/
def State.emphNow (s : State) (n : Nat) : Emph :=
  ⟨s.fld F.LLN_TX_EMPH_POST n, s.fld F.LLN_TX_EMPH_PRE n, min 60 (s.fld F.LLN_TX_EMPH_AMPL n)⟩

/-- A burst that rises while INF_TRACE_CFG enables its lane is traced from BEN rise at the SPACING then in force (R431, R440). -/
def State.traceBegins (s : State) (n : Nat) (b : Burst) : State :=
  if bit (s.fld F.INF_TRACE_CFG_LANES 0) n then
    { s with inf := { s.inf with traces := SMap.put s.inf.traces n (SMap.get s.inf.traces n [] ++ [(b.start - b.lead, s.ltb.lc, s.fld F.INF_TRACE_CFG_SPACING 0)]) [] } }
  else s

/-- The oldest handed burst of a lane comes to its BEN rise. Where several conditions of R96 hold one counter advances: SHUT before STATE before RATE (DESIGN CHOICE,
log entry 116: the rule gives no precedence). -/
def State.riseBen (s : State) (n : Nat) (b : Burst) (rest : List Burst) : State :=
  let s1 := s.setUbeCh n { s.ubeCh n with bursts := rest }
  let t := s1.txLane n
  if s1.txState n = 3 then
    (s1.skipBurst n b F.LLN_TX_EVENT_SHUT_SKIP F.LLN_TX_EVENT_EVCNT_SHUT_SKIP F.LLN_TX_SKIP_SHUT).exerciseLane n
  else if s1.txState n ≠ 1 ∨ s1.txBusy n then (s1.satAdd F.LLN_TX_SKIP2_STATE n 1).burstLost n b
  else if !bit (s1.fld F.LLN_TX_CFG_RATE_EN n) b.rate || t.retunes b then s1.rateSkip n b
  else
    let s2 := (s1.setFld F.LLN_TX_STATUS_STATE n 2).setFld F.LLN_TX_STATUS_RATE n b.rate
    let s3 := s2.setTxLane n { t with ben := true, burst := some b, lastRate := some b.rate, emph := s2.emphNow n }
    (s3.setUbeCh n { s3.ubeCh n with bursts := { b with phase := 4 } :: (s3.ubeCh n).bursts }).traceBegins n b

/-- BEN_RISE (R95, R96): at its start stamp minus LEAD the oldest handed burst rises or is skipped. -/
def execBenRise (n : Nat) (s : State) : Host.Outcome State Fault Refusal :=
  .next <|
    match s.pullBurst n 3 with
    | none => s
    | some (b, rest) => if b.start - b.lead ≤ s.lin then s.riseBen n b rest else s

/-- The burst in the lane leaves UBE's list. -/
def State.dropSent (s : State) (n : Nat) : State :=
  s.setUbeCh n { s.ubeCh n with bursts := (s.ubeCh n).bursts.filter (fun b => b.phase < 4) }

/-- LAST_BIT_SERIALISED (R95): BURST goes to DARK; BEN stays high for LAG. -/
def execLastBitSerialised (n : Nat) (s : State) : Host.Outcome State Fault Refusal :=
  .next <|
    match (s.txLane n).burst with
    | none => s
    | some b => if s.txState n = 2 ∧ b.start + b.len - 1 ≤ s.lin then s.setFld F.LLN_TX_STATUS_STATE n 1 else s

/-- BEN_FALL (R95, R178): LAG after the last bit BEN falls, the burst is counted at the lane and at UBE, and a lane whose EN was cleared
meanwhile goes OFF. -/
def execBenFall (n : Nat) (s : State) : Host.Outcome State Fault Refusal :=
  .next <|
    match (s.txLane n).burst with
    | none => s
    | some b =>
      if s.txState n ≠ 1 ∨ s.lin < b.fall then s
      else
        let s1 := (s.satAdd F.LLN_TX_BURSTS_BURSTS n 1).setTxLane n { s.txLane n with ben := false, burst := none, lastFall := some b.fall }
        let s2 := (s1.burstSent n b).dropSent n
        if s2.fld F.LLN_TX_CFG_EN n = 0 then s2.txOff n else s2.txSettle n

/-- TX_DISABLE_ASSERTED (R95): DARK goes to SHUT; a burst in progress stops at once, truncated. In its LAG BEN falls at once. -/
def execTxDisableAsserted (n : Nat) (s : State) : Host.Outcome State Fault Refusal :=
  .next <|
    let s1 := s.setFld F.LLN_TX_STATUS_TXDIS_SENSED n 1
    let t := s1.txLane n
    if s1.txState n = 2 then
      match t.burst with
      | some b =>
        let s2 := ((s1.raise F.LLN_TX_EVENT_TRUNCATED F.LLN_TX_EVENT_EVCNT_TRUNCATED n).satAdd F.LLN_TX_SKIP_TRUNC n 1).setTxLane n
          { t with ben := false, burst := none, lastFall := some s.lin }
        let s3 := ((s2.setFld F.LLN_TX_STATUS_STATE n 3).burstLost n b).dropSent n
        (if s3.fld F.LLN_TX_CFG_EN n = 0 then s3.txOff n else s3).exerciseLane n
      | none => s1.setFld F.LLN_TX_STATUS_STATE n 3
    else if s1.txState n = 1 then
      match t.burst with
      | some b =>
        let s2 := ((s1.satAdd F.LLN_TX_BURSTS_BURSTS n 1).setTxLane n { t with ben := false, burst := none, lastFall := some s.lin })
        let s3 := (((s2.burstSent n b).dropSent n).setFld F.LLN_TX_STATUS_STATE n 3)
        if s3.fld F.LLN_TX_CFG_EN n = 0 then s3.txOff n else s3
      | none => s1.setFld F.LLN_TX_STATUS_STATE n 3
    else s1

/-- TX_DISABLE_RELEASED (R95): SHUT goes to DARK. -/
def execTxDisableReleased (n : Nat) (s : State) : Host.Outcome State Fault Refusal :=
  .next <|
    let s1 := s.setFld F.LLN_TX_STATUS_TXDIS_SENSED n 0
    if s1.txState n = 3 then s1.setFld F.LLN_TX_STATUS_STATE n 1 else s1

/-! Loops, patterns and optics (R104 to R108). -/

/-- The lane a LANE_LOOP or LANE_TEST names, and whether it is a host lane. -/
def laneArg (d : Desc) : Nat := bits (d.dw 5) 6 4
def hostArg (d : Desc) : Bool := bit (d.dw 5) 0

/-- The lane exists on this part (R3). -/
def State.hasLane (s : State) (host : Bool) (n : Nat) : Bool :=
  if host then s.hif.part == .lk9540 || decide (n < 4) else s.hasChannel n

/-- A line pair outside the required state, the receive lane first (R107). -/
def State.pairRefusal (s : State) (n want : Nat) : Option Nat :=
  if s.rxState n ≠ want then some (refusedWord 0x01 n (s.rxState n))
  else if s.txState n ≠ want then some (refusedWord 0x02 n (s.txState n))
  else none

/-- A lane pair enters or leaves LOOP (R90, R95, R105): BEN stays low, and the patterns end with the loop. -/
def State.pairTo (s : State) (n st kind : Nat) : State :=
  let s1 := (s.rxTo n st).setFld F.LLN_TX_STATUS_STATE n st
  let s2 := s1.setRxLane n { s1.rxLane n with loop := kind, checker := 0 }
  s2.setTxLane n { s2.txLane n with loop := kind, generator := 0, ben := false }

/-- A slice of a looped pair powers down: the pair leaves LOOP (log entry 117). -/
def State.pairOff (s : State) (n : Nat) : State := if s.rxState n = 4 ∨ s.txState n = 4 then s.pairTo n 0 0 else s

/-- The port of a host lane enters a loop, or leaves it and starts where it is enabled (R101). -/
def State.hostLoop (s : State) (n kind : Nat) : State :=
  if kind = 0 then (List.range 4).foldl (fun t p => t.startIfDown p) (s.lanesMove (s.lanesWith n) 0)
  else (s.lanesWith n).foldl (fun t l => t.setHostLane l { t.hostLane l with loop := kind }) (s.lanesMove (s.lanesWith n) 5)

/-- LANE_LOOP (R104 to R107): DW5 [9:8] names the loop, 0 removes it. Setting one needs both lanes of a line pair in OFF, or the host lane's port in DOWN; removing
one needs LOOP. A receive lane still enabled acquires again. -/
def State.laneLoop (s : State) (d : Desc) : State :=
  let n := laneArg d
  let kind := bits (d.dw 5) 9 8
  let want := fun (loop : Nat) => if kind = 0 then loop else 0
  if !s.hasLane (hostArg d) n then s.refuse d stBadArg 5
  else if hostArg d then
    (if s.hostState n ≠ want 5 then s.refuse d stStateRefused (refusedWord 0x03 n (s.hostState n)) else (s.hostLoop n kind).finish d stOk 0)
  else if kind = 3 then s.refuse d stBadArg 5
  else match s.pairRefusal n (want 4) with
    | some r => s.refuse d stStateRefused r
    | none => (if kind = 0 then (s.pairTo n 0 0).rxStart n else s.pairTo n 4 kind).finish d stOk 0

/-- LANE_LOOP_SET (R104 to R107): LANE_LOOP with a kind of loop. -/
def execLaneLoopSet (d : Desc) (s : State) : Host.Outcome State Fault Refusal := .next (s.asCommand d 0x0801 (bits (d.dw 5) 9 8 != 0) (s.laneLoop d))

/-- LANE_LOOP_REMOVE (R104, R107): LANE_LOOP with kind 0. -/
def execLaneLoopRemove (d : Desc) (s : State) : Host.Outcome State Fault Refusal := .next (s.asCommand d 0x0801 (bits (d.dw 5) 9 8 == 0) (s.laneLoop d))

/-- The generator and the checker of a lane are set (R106, R108). -/
def State.setTest (s : State) (host : Bool) (n gen chk : Nat) : State :=
  if host then s.setHostLane n { s.hostLane n with generator := gen, checker := chk, checkFrom := s.ltb.lc }
  else (s.setTxLane n { s.txLane n with generator := gen }).setRxLane n { s.rxLane n with checker := chk, checkFrom := s.ltb.lc }

/-- The RESULT of a LANE_TEST refused for its state, if it is: the generator or the checker on outside LOOP, and a pattern with neither on everywhere (R107). -/
def State.testRefusal (s : State) (host : Bool) (n : Nat) (on : Bool) : Option Nat :=
  if host then (if on && s.hostState n == 5 then none else some (refusedWord 0x03 n (s.hostState n)))
  else match s.pairRefusal n 4 with
    | some r => some r
    | none => if on then none else some (refusedWord 0x01 n (s.rxState n))

/-- LANE_TEST (R106 to R108): the pattern generator and checker. Pattern 0 turns both off in every state. -/
def execLaneTest (d : Desc) (s : State) : Host.Outcome State Fault Refusal :=
  .next <| s.asCommand d 0x0802 true <|
    let n := laneArg d
    let pat := bits (d.dw 6) 3 0
    let gen := bit (d.dw 6) 8
    let chk := bit (d.dw 6) 9
    if !s.hasLane (hostArg d) n then s.refuse d stBadArg 5
    else if 5 < pat ∨ (!hostArg d ∧ 3 ≤ pat) then s.refuse d stBadArg 6
    else if pat = 0 then (s.setTest (hostArg d) n 0 0).finish d stOk 0
    else match s.testRefusal (hostArg d) n (gen || chk) with
      | some r => s.refuse d stStateRefused r
      | none => (s.setTest (hostArg d) n (if gen then pat else 0) (if chk then pat else 0)).finish d stOk 0

/-- The checkers of the receive lanes count one line cycle (R108), as those of the host lanes do. -/
def State.checkLines (s : State) : State :=
  s.lln.rx.foldl (fun t p =>
    if checkerRuns p.2.checker (t.txLane p.1).generator p.2.loop p.2.checkFrom t.ltb.lc then
      let x := t.takeFree
      x.2.satAdd F.LLN_RX_PRBS_ERR_ERRORS p.1 (lineErrors p.2.checker x.1)
    else t) s

/-- The transaction that OSA_ACCESS asks for (R106). -/
def osaReq (d : Desc) : OsaReq := ⟨bits (d.dw 5) 0 0, bit (d.dw 5) 1, bits (d.dw 5) 8 2, bits (d.dw 5) 23 16, d.dw 6 % 256⟩

/-- ERR_LOC of an external optical subassembly (R9): UNIT 0x02, TILE naming the lane. A management bus serves the subassembly of a whole path, so TILE names the lowest
lane of the path (DESIGN CHOICE, log entry 118). -/
def osaLoc (path : Nat) : Nat := errTile 0x02 (4 * path)

/-- OSA_ACCESS (R106): the transaction is made on the path's bus unless the service engines hold it; `answer` is what the device returned or acknowledged, none where
it does not acknowledge. -/
def State.osaAccess (s : State) (d : Desc) (held : Bool) (answer : Option Nat) : State :=
  if held then s.refuse d stBusy 0
  else
    let r := osaReq d
    let s1 : State := { s with lln := { s.lln with osa := s.lln.osa ++ [r] } }
    match answer with
    | some x => s1.finish d stOk (if r.read then x % 256 else 0)
    | none => s1.finish d stFault (osaLoc r.path)

/-- OSA_READ (R106). -/
def execOsaRead (d : Desc) (held : Bool) (data : Option Nat) (s : State) : Host.Outcome State Fault Refusal := .next (s.asCommand d 0x0803 (bit (d.dw 5) 1) (s.osaAccess d held data))

/-- OSA_WRITE (R106). -/
def execOsaWrite (d : Desc) (held ack : Bool) (s : State) : Host.Outcome State Fault Refusal :=
  .next (s.asCommand d 0x0803 (!bit (d.dw 5) 1) (s.osaAccess d held (if ack then some 0 else none)))

end Sys2Proof.Machine
end

