-- ==== Sys2Proof/Machine/InfOps.lean ====
section
/-!
DEFINITION. Sys2Proof/Machine/InfOps.lean: an Infuser core as its instructions use it: registers and rotation (R423), addresses (R424, R425),
arithmetic (R426 to R430), what is readable when (R434), loops, faults (R435), and how an instruction issues.
-/
namespace Sys2Proof.Machine

/-- The instructions of R433, by their rows. -/
inductive CoreOp where
  | nop | halt | sig | wait | loop | br | ldi | ld | st | mld | mac | msb | mul
  | add | sub | and | or | xor | mov | shf | sgnb | blkx
  | clr | lda | addx | sha | sta | inp | out
  deriving DecidableEq, Repr

def State.setCore (s : State) (n : Nat) (c : Core) : State :=
  { s with inf := { s.inf with cores := SMap.put s.inf.cores n c coreEmpty } }

/-- The instruction a word encodes (R433); none for an opcode or function that is not listed. -/
def coreOp (w : Nat) : Option CoreOp :=
  match bits w 31 26 with
  | 0x00 => some .nop
  | 0x01 => some .halt
  | 0x02 => some .sig
  | 0x03 => some .wait
  | 0x04 => some .loop
  | 0x05 => some .br
  | 0x08 => some .ldi
  | 0x09 => some .ld
  | 0x0A => some .st
  | 0x10 => some (match bits w 22 21 with | 0 => .mld | 1 => .mac | 2 => .msb | _ => .mul)
  | 0x14 =>
    match bits w 23 20 with
    | 0 => some .add | 1 => some .sub | 2 => some .and | 3 => some .or | 4 => some .xor | 5 => some .mov | 6 => some .shf
    | 7 => some .sgnb | 8 => some .blkx | _ => none
  | 0x20 =>
    match bits w 23 20 with
    | 0 => some .clr | 1 => some .lda | 2 => some .addx | 3 => some .sha | 4 => some .sta | _ => none
  | 0x30 => some .inp
  | 0x31 => some .out
  | _ => none

/-- The word is a legal instruction where it stands (R424, R432, R433). -/
def coreLegal (c : Core) (w : Nat) : Bool :=
  match coreOp w with
  | none => false
  | some .loop => decide (c.loops.length < 2)
  | some .br => c.loops.isEmpty
  | some .ld => decide (bits w 17 15 < 4)
  | some .st => decide (bits w 17 15 < 4)
  | some .out => decide (bits w 3 0 < 0xA)
  | some _ => true

/-! Registers (R423). -/

def coreBe (c : Core) : Nat := SMap.get c.regs 0x30 0
def coreFrac (c : Core) : Bool := SMap.get c.regs 0x32 0 == 1

/-- ITER: the iteration index of the innermost active loop, 0xFFFF outside any. -/
def coreIter (c : Core) : Nat := match c.loops with | l :: _ => l.iter % 65536 | [] => 0xFFFF

/-- The register a designator names at the present TURN, by its physical place; none for ITER and the reserved designators. -/
def coreReg (c : Core) (d : Nat) : Option Nat :=
  if d < 0x20 then some ((d + coreTurn c) % 32)
  else if d ≤ 0x30 ∨ d = 0x32 ∨ d = 0x33 then some d
  else none

/-- What a designator reads. -/
def coreRead (c : Core) (d : Nat) : Nat :=
  if d = 0x31 then coreIter c
  else match coreReg c d with
    | some k => SMap.get c.regs k 0
    | none => 0

/-- The bits a register holds. -/
def coreMask (k v : Nat) : Nat := if k = 0x30 then v % 16 else if k = 0x32 then v % 2 else if k = 0x33 then v % 32 else v % 65536

/-- A register takes a value. -/
def corePut (c : Core) (k v : Nat) : Core := { c with regs := SMap.put c.regs k (coreMask k v) 0 }

/-- Loads that have become readable land in their registers (R434). -/
def coreLand (c : Core) : Core :=
  let due := c.loads.filter (fun l => decide (l.due ≤ c.cycle))
  let c1 := due.foldl (fun x l => corePut x l.reg l.value) c
  { c1 with loads := c.loads.filter (fun l => decide (c.cycle < l.due)) }

/-- A load of this cycle: readable two cycles later, aimed at the physical register its designator names now. -/
def coreLoad (c : Core) (d v : Nat) : Core :=
  match coreReg c d with
  | some k => { c with loads := c.loads ++ [⟨k, v, c.cycle + 2⟩] }
  | none => c

/-- A result of this cycle, readable in the next. Where a load of the previous cycle becomes readable in the same cycle, which of the two the register
keeps is a free value. `k` is the physical place. -/
def State.coreWrite (s : State) (n k v : Nat) : State :=
  let c := s.core n
  let clash := c.loads.any (fun l => l.reg == k && l.due == c.cycle + 1)
  let r := if clash then s.takeFree else (0, s)
  let loads := if clash && r.1 % 2 == 1 then c.loads.filter (fun l => !(l.reg == k && l.due == c.cycle + 1)) else c.loads
  r.2.setCore n { corePut c k v with loads := loads }

/-- SPIN turns the ring (R423). -/
def coreSpin (c : Core) (w : Nat) : Core := corePut c 0x33 ((coreTurn c + 32 - bits w 25 24) % 32)

/-! Accumulators (R427, R428, R434). -/

/-- The value an accumulator shows: a write is readable two cycles later, and at once by MAC, MSB and MUL after MAC, MSB or MUL. -/
def accShown (now : Nat) (chain : Bool) : List AccWrite → Int
  | [] => 0
  | w :: ws => if w.cycle + (if chain && w.mac then 1 else 2) ≤ now then w.value else accShown now chain ws

def coreAcc (c : Core) (a : Nat) (chain : Bool) : Int := accShown c.cycle chain (if a = 0 then c.a0 else c.a1)

/-- Writes that a later readable one hides are forgotten. -/
def accKeep (now : Nat) : List AccWrite → List AccWrite
  | [] => []
  | w :: ws => if w.cycle + 2 ≤ now then [w] else w :: accKeep now ws

def coreAccPut (c : Core) (a : Nat) (v : Int) (mac : Bool) : Core :=
  let w : AccWrite := ⟨c.cycle, v, mac⟩
  if a = 0 then { c with a0 := w :: accKeep c.cycle c.a0 } else { c with a1 := w :: accKeep c.cycle c.a1 }

/-- A guard-bit overflow (R428): GOV is set, INF_Cn_GOV latches where GOV was 0, and the notification is at most one a line second (R439). -/
def State.coreGov (s : State) (n : Nat) : State :=
  let c := s.core n
  let s1 := if s.fld F.INF_C_EVENT_GOV n = 1 then s
    else (((s.setFld F.INF_C_GOV_VALID n 1).setFld F.INF_C_GOV_ADDR n (c.pc % 8192)).setFld F.INF_C_GOV_DEPTH n c.loops.length).setFld
      F.INF_C_GOV_ITER n (coreIter c)
  (s1.raise F.INF_C_EVENT_GOV F.INF_C_EVENT_EVCNT_GOV n).perSecond (0x0E * 65536 + 0x200 + n) 1
    (fun t => t.notify 0x0E 0x0002 (n + c.pc % 8192 * 16) (coreIter c))

/-- An accumulator is written with an exact result, saturated to 40 bits (R428). -/
def State.coreAccWrite (s : State) (n a : Nat) (x : Int) (mac : Bool) : State :=
  let y := clampI (-2 ^ 39) (2 ^ 39 - 1) x
  let s1 := if x = y then s else s.coreGov n
  s1.setCore n (coreAccPut (s1.core n) a y mac)

/-- The product of two registers (R427). -/
def coreProduct (frac : Bool) (x y : Nat) : Int :=
  let p := signed 16 x * signed 16 y
  if frac then (if p = 2 ^ 30 then 0x7FFFFFFF else 2 * p) else p

/-! Arithmetic (R426, R429, R430). -/

/-- Redundant sign bits of a 16-bit word, 0 to 15. -/
def signBits (v : Nat) : Nat :=
  let m := if v % 65536 / 32768 = 1 then 65535 - v % 65536 else v % 65536
  15 - (if m = 0 then 0 else Nat.log2 m + 1)

/-- Shift by a signed amount: left for a positive one, right arithmetically for a negative one. -/
def shiftI (x n : Int) : Int := if 0 ≤ n then x * 2 ^ n.toNat else x / 2 ^ (-n).toNat

/-- A 16-bit result of the ALU, wrapping or saturating, with whether it saturated. -/
def alu16 (sat : Bool) (x : Int) : Nat × Bool :=
  let y := clampI (-32768) 32767 x
  if sat then (unsigned 16 y, x != y) else (unsigned 16 x, false)

/-- Rounding at bit 15 (R429). -/
def roundAt (rnd : Nat) (x : Int) : Int :=
  match rnd with
  | 0 => x / 65536
  | 1 => (x + 0x8000) / 65536
  | _ => if x % 65536 = 0x8000 then (if x / 65536 % 2 = 0 then x / 65536 else x / 65536 + 1) else (x + 0x8000) / 65536

/-! Addresses (R424, R425). -/

/-- The low m bits of a stepped pointer replace those of the pointer. -/
def wrapPtr (p : Nat) (step : Int) (m : Nat) : Nat := p / 2 ^ m * 2 ^ m + unsigned m ((p : Int) + step)

/-- The address of LD and ST, and the pointer with its new value where the mode moves one. -/
def coreAddr (c : Core) (w : Nat) : Nat × Option (Nat × Nat) :=
  let k := 0x20 + bits w 14 12
  let p := coreRead c k
  let off := signed 8 (bits w 7 0)
  let m := bits w 11 8
  match bits w 17 15 with
  | 0 => (bits w 14 0, none)
  | 1 => (unsigned 15 ((p : Int) + off), none)
  | 2 => (p % 32768, some (k, unsigned 16 ((p : Int) + off)))
  | _ => (p % 32768, some (k, if m = 0 ∨ m = 15 then unsigned 16 ((p : Int) + off) else wrapPtr p off m))

/-- A word of data memory. -/
def coreMem (c : Core) (a : Nat) : Nat := SMap.get c.data (a % 32768) 0

/-- A pointer of MLD steps (R425). -/
def mldStep (p f : Nat) (back : Bool) : Nat :=
  let step : Int := if back then -1 else 1
  if f = 0 then unsigned 16 ((p : Int) + step) else wrapPtr p step (f + 3)

/-! Issue (R433 to R435). -/

/-- The instruction at pc is done: an instruction that ends a loop body starts the next iteration or leaves the loop. -/
def loopEnd : Nat → List CoreLoop → Nat → Nat × List CoreLoop
  | 0, ls, pc => (pc, ls)
  | _, [], pc => (pc, [])
  | f + 1, l :: ls, pc =>
    if pc = l.stop then
      (if l.iter + 1 < l.count then (l.first, { l with iter := l.iter + 1 } :: ls) else loopEnd f ls pc)
    else (pc, l :: ls)

def coreAdvance (c : Core) (pc cycles : Nat) : Core :=
  let r := loopEnd 3 c.loops pc
  { c with pc := r.1, loops := r.2, cycle := c.cycle + cycles }

/-- The next instruction may issue `cycles` core cycles, of two line cycles each, from now (R421, R434). -/
def State.coreTook (s : State) (n cycles : Nat) : State := s.setCore n { s.core n with due := s.ltb.lc + 2 * cycles }

def State.coreNext (s : State) (n cycles : Nat) : State :=
  (s.setCore n (coreAdvance (s.core n) ((s.core n).pc + 1) cycles)).coreTook n cycles

/-- CORE_FAULT (R435, R439): the registers and memories are kept. Causes: 0 illegal instruction, 1 address, 2 program parity, 3 data parity. -/
def State.coreFault (s : State) (n cause macro_ row : Nat) : State :=
  let c := s.core n
  ((s.setCore n { c with st := 3 }).raise F.INF_C_EVENT_FAULT F.INF_C_EVENT_EVCNT_FAULT n).faultEvent 0x0E 0x00F0
    (errLoc 0x0E n macro_ row) (n + cause * 4 + c.pc % 8192 * 16) 0

/-- The instruction reads data memory. -/
def readsData (op : CoreOp) (w : Nat) : Bool :=
  match op with
  | .ld => true
  | .mld => bit w 10 || bit w 9
  | .mac => bit w 10 || bit w 9
  | .msb => bit w 10 || bit w 9
  | .mul => bit w 10 || bit w 9
  | _ => false

/-- Core n issues the instruction at its program counter, where it is of the kind `op`: the word is fetched, an address beyond the memory, a
parity error or an illegal instruction is a fault, and otherwise `run` acts on the word with the registers that have become readable. A
core that is not RUNNING, whose latest instruction still takes its cycles, or whose next instruction is of another kind, issues nothing here. -/
def State.coreIssue (s : State) (n : Nat) (p : CoreParity) (op : CoreOp) (run : State → Nat → State) : State :=
  let c := coreLand (s.core n)
  if (s.core n).st ≠ 1 ∨ s.ltb.lc < (s.core n).due then s
  else if 8191 < c.pc then s.coreFault n 1 0xFF 0x1FF
  else
    let w := SMap.get c.prog c.pc 0
    match p with
    | .program m r => s.coreFault n 2 m r
    | _ =>
      if !coreLegal c w then s.coreFault n 0 0xFF 0x1FF
      else if coreOp w ≠ some op then s
      else match p with
        | .data m r => if readsData op w then s.coreFault n 3 m r else run (s.setCore n c) w
        | _ => run (s.setCore n c) w

/-- The ring turns, and a result of the ALU goes to the register its designator named before the turn. -/
def State.coreResult (s : State) (n w d v : Nat) : State :=
  let c := s.core n
  let k := coreReg c d
  let s1 := s.setCore n (coreSpin c w)
  let s2 := match k with
    | some j => s1.coreWrite n j v
    | none => s1
  s2.coreNext n 1

/-- The ring turns, and the core goes on. -/
def State.coreDone (s : State) (n w : Nat) : State := (s.setCore n (coreSpin (s.core n) w)).coreNext n 1

/-- A 16-bit ALU function of two registers, with its saturation event (R426). -/
def State.coreAlu (s : State) (n w : Nat) (x : Int) : State :=
  let r := alu16 (bit w 19) x
  let s1 := if r.2 then s.raise F.INF_C_EVENT_SSAT F.INF_C_EVENT_EVCNT_SSAT n else s
  s1.coreResult n w (bits w 17 12) r.1

/-- The operands rs and rt of the ALU. -/
def aluRs (c : Core) (w : Nat) : Nat := coreRead c (bits w 11 6)
def aluRt (c : Core) (w : Nat) : Nat := coreRead c (bits w 5 0)

/-- MLD (R425, R427): the accumulator takes the product as MOP says, the loads are made and their pointers step. -/
def State.coreMld (s : State) (n w : Nat) : State :=
  let c := s.core n
  let a := bits w 23 23
  let prod := coreProduct (coreFrac c) (coreRead c (bits w 20 16)) (coreRead c (bits w 15 11))
  let old := coreAcc c a true
  let s1 := match bits w 22 21 with
    | 0 => s
    | 1 => s.coreAccWrite n a (old + prod) true
    | 2 => s.coreAccWrite n a (old - prod) true
    | _ => s.coreAccWrite n a prod true
  let x := coreRead c 0x20
  let y := coreRead c 0x21
  let c1 := s1.core n
  let c2 := if bit w 10 then coreLoad c1 0 (coreMem c x) else c1
  let c3 := if bit w 9 then coreLoad c2 1 (coreMem c y) else c2
  let s2 := s1.setCore n (coreSpin c3 w)
  let s3 := if bit w 10 then s2.coreWrite n 0x20 (mldStep x (bits w 8 6) (bit w 2)) else s2
  let s4 := if bit w 9 then s3.coreWrite n 0x21 (mldStep y (bits w 5 3) (bit w 1)) else s3
  s4.coreNext n 1

/-- The accumulator an ACC names. -/
def accOf (w : Nat) : Nat := bits w 16 16

/-- A write of the named accumulator by ACC. -/
def State.coreAccDone (s : State) (n w : Nat) (x : Int) : State := (s.coreAccWrite n (accOf w) x false).coreDone n w

/-! Streams (R431, R432). -/

/-- Input k's source code (R431). -/
def inSrc : Nat → Fld
  | 0 => F.INF_C_IN_SRC0 | 1 => F.INF_C_IN_SRC1 | 2 => F.INF_C_IN_SRC2 | _ => F.INF_C_IN_SRC3
def inOvr : Nat → Fld
  | 0 => F.INF_C_OVR_IN0 | 1 => F.INF_C_OVR_IN1 | 2 => F.INF_C_OVR_IN2 | _ => F.INF_C_OVR_IN3

/-- Words waiting at an input. -/
def coreFifo (c : Core) (k : Nat) : List Nat := SMap.get c.fifos k []
def coreSetFifo (c : Core) (k : Nat) (l : List Nat) : Core := { c with fifos := SMap.put c.fifos k l [] }

/-- A tap word joins the lane's set; the 18th commits all 18 taps, or is discarded and counted where ADAPT is not INFUSER; outside TRACK the taps hold (R91, R432). -/
def State.tapWord (s : State) (n lane v : Nat) : State :=
  let c := s.core n
  let set := SMap.get c.taps lane [] ++ [v % 256]
  if set.length < 18 then s.setCore n { c with taps := SMap.put c.taps lane set [] }
  else
    let s1 := s.setCore n { c with taps := SMap.erase c.taps lane }
    if s1.fld F.LLN_RX_CFG_ADAPT lane ≠ 0 ∨ !s1.hasChannel lane then s1.satAdd F.INF_C_OVR_TAP_DISC n 1
    else if s1.tapsOpen lane 0 then
      (List.zip tapFields set).foldl (fun t p => t.setFld p.1 lane p.2) s1
    else s1

/-- A word goes to a management bus request port: a write request takes its data from the next word (R432). -/
def State.busWord (s : State) (n path v : Nat) : State :=
  let c := s.core n
  match SMap.find c.bus path with
  | some r =>
    let t := s.setCore n { c with bus := SMap.erase c.bus path }
    { t with inf := { t.inf with requests := t.inf.requests ++ [(path, r, some v)] } }
  | none =>
    if bit v 15 then { s with inf := { s.inf with requests := s.inf.requests ++ [(path, v, none)] } }
    else s.setCore n { c with bus := SMap.insert c.bus path v }

/-- OUT moves its word (R432). -/
def State.outWord (s : State) (n w v : Nat) : State :=
  let port := bits w 3 0
  if port < 8 then s.tapWord n port v else s.busWord n (port - 8) v

/-- Halting a core clears its partly written tap sets and bus requests (R432); loads in flight land (R435). -/
def State.coreStop (s : State) (n : Nat) : State :=
  let c := s.core n
  let c1 := coreLand { c with cycle := c.cycle + 2 }
  s.setCore n { c1 with st := 0, taps := [], bus := [] }

/-- A core starts at INF_Cn_ENTRY with TURN 0, BE 15 and STAT 0 (R435). -/
def State.coreStart (s : State) (n : Nat) : State :=
  let c := coreLand { s.core n with cycle := (s.core n).cycle + 2 }
  s.setCore n (corePut (corePut (corePut { c with st := 1, pc := s.fld F.INF_C_ENTRY_ENTRY n, loops := [], due := s.ltb.lc } 0x33 0) 0x30 15) 0x32 0)

/-- The Infuser's domain powers down (R435): memories that are lost go with it where it goes to OFF (R442). -/
def State.infDown (s : State) (off : Bool) : State :=
  [0, 1, 2, 3].foldl (fun t n =>
    let c := t.core n
    if c.st = 4 then t
    else
      let on := c.st == 1 || c.st == 2
      if off then t.setCore n { coreEmpty with st := 4, wasOn := on }
      else t.setCore n { c with st := 4, wasOn := on }) s

/-- The Infuser's domain returns (R435). -/
def State.infUp (s : State) : State :=
  [0, 1, 2, 3].foldl (fun t n =>
    let c := t.core n
    if c.st ≠ 4 then t
    else if c.wasOn then t.coreStart n
    else t.setCore n { c with st := 0 }) s

end Sys2Proof.Machine
end

