-- ==== Sys2Proof/Machine/Inf.lean ====
section
/-!
DEFINITION. Sys2Proof/Machine/Inf.lean: the Infuser's instructions (R433), streams (R431, R435), commands (R437, R438) and register
writes (R440), and the end of the image load (R436).
-/
namespace Sys2Proof.Machine

/-! Control (R433). -/

/-- CORE_NOP (R433). -/
def execCoreNop (n : Nat) (p : CoreParity) (s : State) : Host.Outcome State Fault Refusal :=
  .next (s.coreIssue n p .nop (fun t w => t.coreDone n w))

/-- HALT (R433, R435). -/
def execHalt (n : Nat) (p : CoreParity) (s : State) : Host.Outcome State Fault Refusal :=
  .next (s.coreIssue n p .halt (fun t w => (t.coreDone n w).coreStop n))

/-- SIG (R433, R439): INF_SIGNAL with the code and ITER. -/
def execSig (n : Nat) (p : CoreParity) (s : State) : Host.Outcome State Fault Refusal :=
  .next (s.coreIssue n p .sig (fun t w => (t.notify 0x0E 0x0001 (n + bits w 7 0 * 256) (coreIter (t.core n))).coreDone n w))

/-- WAIT (R434): n + 1 core cycles. -/
def execWait (n : Nat) (p : CoreParity) (s : State) : Host.Outcome State Fault Refusal :=
  .next (s.coreIssue n p .wait (fun t w => (t.setCore n (coreSpin (t.core n) w)).coreNext n (bits w 15 0 + 1)))

/-- LOOP (R433): a count of 0 skips the body. -/
def State.coreLoopStart (s : State) (n w : Nat) : State :=
  let c := s.core n
  let count := if bit w 23 then coreRead c (0x20 + bits w 14 11) else bits w 22 11
  let stop := c.pc + 2 + bits w 7 0
  let c1 := coreSpin c w
  let s1 := if count = 0 then s.setCore n (coreAdvance c1 stop 1)
    else s.setCore n { c1 with pc := c.pc + 1, cycle := c.cycle + 1, loops := ⟨c.pc + 1, stop, count, 0⟩ :: c.loops }
  s1.coreTook n 1
def execLoop (n : Nat) (p : CoreParity) (s : State) : Host.Outcome State Fault Refusal :=
  .next (s.coreIssue n p .loop (fun t w => t.coreLoopStart n w))

/-- The condition of BR (R433); a condition code that is not listed gives a free value. -/
def State.coreCond (s : State) (n w : Nat) : Bool × State :=
  let c := s.core n
  match bits w 23 20 with
  | 0 => (true, s)
  | 1 => (coreAcc c 0 false == 0, s)
  | 2 => (decide (coreAcc c 0 false < 0), s)
  | 3 => (coreAcc c 1 false == 0, s)
  | 4 => (decide (coreAcc c 1 false < 0), s)
  | 5 => (s.fld F.INF_C_EVENT_GOV n == 1, s)
  | 6 => (!(coreFifo c (bits w 17 16)).isEmpty, s)
  | _ => let r := s.takeFree; (r.1 % 2 == 1, r.2)

/-- BR (R433, R434): a taken branch takes two core cycles. -/
def execBr (n : Nat) (p : CoreParity) (s : State) : Host.Outcome State Fault Refusal :=
  .next (s.coreIssue n p .br (fun t w =>
    let r := t.coreCond n w
    let c := r.2.core n
    if r.1 then (r.2.setCore n { coreSpin c w with pc := bits w 12 0, cycle := c.cycle + 2 }).coreTook n 2 else r.2.coreDone n w))

/-! Loads and stores (R424, R425, R427). -/

/-- LDI (R433). -/
def execLdi (n : Nat) (p : CoreParity) (s : State) : Host.Outcome State Fault Refusal :=
  .next (s.coreIssue n p .ldi (fun t w => t.coreResult n w (bits w 23 18) (bits w 15 0)))

/-- The pointer a mode moves takes its new value. -/
def State.coreMove (s : State) (n : Nat) (mv : Option (Nat × Nat)) : State :=
  match mv with
  | some (k, v) => s.coreWrite n k v
  | none => s

/-- LD (R424). -/
def execLd (n : Nat) (p : CoreParity) (s : State) : Host.Outcome State Fault Refusal :=
  .next (s.coreIssue n p .ld (fun t w =>
    let c := t.core n
    let a := coreAddr c w
    ((t.setCore n (coreSpin (coreLoad c (bits w 23 18) (coreMem c a.1)) w)).coreMove n a.2).coreNext n 1))

/-- ST (R424). -/
def execSt (n : Nat) (p : CoreParity) (s : State) : Host.Outcome State Fault Refusal :=
  .next (s.coreIssue n p .st (fun t w =>
    let c := t.core n
    let a := coreAddr c w
    ((t.setCore n (coreSpin { c with data := SMap.put c.data a.1 (coreRead c (bits w 23 18)) 0 } w)).coreMove n a.2).coreNext n 1))

/-- MLD with MOP none (R425). -/
def execMld (n : Nat) (p : CoreParity) (s : State) : Host.Outcome State Fault Refusal :=
  .next (s.coreIssue n p .mld (fun t w => t.coreMld n w))

/-- MAC: MLD with MOP MAC (R427). -/
def execMac (n : Nat) (p : CoreParity) (s : State) : Host.Outcome State Fault Refusal :=
  .next (s.coreIssue n p .mac (fun t w => t.coreMld n w))

/-- MSB: MLD with MOP MSB (R427). -/
def execMsb (n : Nat) (p : CoreParity) (s : State) : Host.Outcome State Fault Refusal :=
  .next (s.coreIssue n p .msb (fun t w => t.coreMld n w))

/-- MUL: MLD with MOP MUL (R427). -/
def execMul (n : Nat) (p : CoreParity) (s : State) : Host.Outcome State Fault Refusal :=
  .next (s.coreIssue n p .mul (fun t w => t.coreMld n w))

/-! The ALU (R426, R430). -/

/-- ADD (R426). -/
def execAdd (n : Nat) (p : CoreParity) (s : State) : Host.Outcome State Fault Refusal :=
  .next (s.coreIssue n p .add (fun t w => t.coreAlu n w (signed 16 (aluRs (t.core n) w) + signed 16 (aluRt (t.core n) w))))

/-- SUB (R426). -/
def execSub (n : Nat) (p : CoreParity) (s : State) : Host.Outcome State Fault Refusal :=
  .next (s.coreIssue n p .sub (fun t w => t.coreAlu n w (signed 16 (aluRs (t.core n) w) - signed 16 (aluRt (t.core n) w))))

/-- AND (R433). -/
def execAnd (n : Nat) (p : CoreParity) (s : State) : Host.Outcome State Fault Refusal :=
  .next (s.coreIssue n p .and (fun t w => t.coreResult n w (bits w 17 12) (aluRs (t.core n) w &&& aluRt (t.core n) w)))

/-- OR (R433). -/
def execOr (n : Nat) (p : CoreParity) (s : State) : Host.Outcome State Fault Refusal :=
  .next (s.coreIssue n p .or (fun t w => t.coreResult n w (bits w 17 12) (aluRs (t.core n) w ||| aluRt (t.core n) w)))

/-- XOR (R433). -/
def execXor (n : Nat) (p : CoreParity) (s : State) : Host.Outcome State Fault Refusal :=
  .next (s.coreIssue n p .xor (fun t w => t.coreResult n w (bits w 17 12) (aluRs (t.core n) w ^^^ aluRt (t.core n) w)))

/-- MOV (R433). -/
def execMov (n : Nat) (p : CoreParity) (s : State) : Host.Outcome State Fault Refusal :=
  .next (s.coreIssue n p .mov (fun t w => t.coreResult n w (bits w 17 12) (aluRs (t.core n) w)))

/-- SHF (R426): by the signed amount, or by BE minus it with BEM set. -/
def execShf (n : Nat) (p : CoreParity) (s : State) : Host.Outcome State Fault Refusal :=
  .next (s.coreIssue n p .shf (fun t w =>
    let c := t.core n
    let k := signed 5 (bits w 4 0)
    t.coreAlu n w (shiftI (signed 16 (aluRs c w)) (if bit w 5 then (coreBe c : Int) - k else k))))

/-- SGNB (R426). -/
def execSgnb (n : Nat) (p : CoreParity) (s : State) : Host.Outcome State Fault Refusal :=
  .next (s.coreIssue n p .sgnb (fun t w => t.coreResult n w (bits w 17 12) (signBits (aluRs (t.core n) w))))

/-- BLKX (R430): BE becomes the smaller of BE and the operand's redundant sign bits. -/
def execBlkx (n : Nat) (p : CoreParity) (s : State) : Host.Outcome State Fault Refusal :=
  .next (s.coreIssue n p .blkx (fun t w => t.coreResult n w 0x30 (min (coreBe (t.core n)) (signBits (aluRs (t.core n) w)))))

/-! Accumulators (R428, R429). -/

/-- CLR (R433). -/
def execClr (n : Nat) (p : CoreParity) (s : State) : Host.Outcome State Fault Refusal :=
  .next (s.coreIssue n p .clr (fun t w => t.coreAccDone n w 0))

/-- LDA (R433): a := rs x 2^16. -/
def execLda (n : Nat) (p : CoreParity) (s : State) : Host.Outcome State Fault Refusal :=
  .next (s.coreIssue n p .lda (fun t w => t.coreAccDone n w (signed 16 (aluRs (t.core n) w) * 65536)))

/-- ADDX (R428): the other accumulator is added. -/
def execAddx (n : Nat) (p : CoreParity) (s : State) : Host.Outcome State Fault Refusal :=
  .next (s.coreIssue n p .addx (fun t w =>
    t.coreAccDone n w (coreAcc (t.core n) (accOf w) false + coreAcc (t.core n) (1 - accOf w) false)))

/-- SHA (R428). -/
def execSha (n : Nat) (p : CoreParity) (s : State) : Host.Outcome State Fault Refusal :=
  .next (s.coreIssue n p .sha (fun t w =>
    t.coreAccDone n w (shiftI (coreAcc (t.core n) (accOf w) false) (signed 6 (bits w 5 0)))))

/-- STA (R429): shift, round at bit 15, take bits [31:16], saturate or wrap. -/
def execSta (n : Nat) (p : CoreParity) (s : State) : Host.Outcome State Fault Refusal :=
  .next (s.coreIssue n p .sta (fun t w =>
    let x := shiftI (coreAcc (t.core n) (accOf w) false) (signed 6 (bits w 5 0))
    let r := alu16 (bit w 13) (roundAt (bits w 15 14) x)
    let u := if r.2 then t.raise F.INF_C_EVENT_SSAT F.INF_C_EVENT_EVCNT_SSAT n else t
    u.coreResult n w (bits w 11 6) r.1))

/-! Streams (R431, R432, R435). -/

/-- IN takes the next word of its input. -/
def State.inTake (s : State) (n w v : Nat) (rest : List Nat) : State :=
  let c := coreSetFifo (s.core n) (bits w 17 16) rest
  (s.setCore n (coreSpin (coreLoad c (bits w 23 18) v) w)).coreNext n 1

/-- IN (R431, R435): on an empty input the core waits. -/
def execInp (n : Nat) (p : CoreParity) (s : State) : Host.Outcome State Fault Refusal :=
  .next (s.coreIssue n p .inp (fun t w =>
    match coreFifo (t.core n) (bits w 17 16) with
    | v :: rest => t.inTake n w v rest
    | [] => t.setCore n { t.core n with st := 2 }))

/-- A waiting core whose blocked instruction is of the kind, with that word; at least one core cycle has passed. -/
def State.blockedOn (s : State) (n : Nat) (op : CoreOp) : Option (Nat × State) :=
  let c := s.core n
  let w := SMap.get c.prog c.pc 0
  if c.st = 2 ∧ coreOp w = some op ∧ c.due + 2 ≤ s.ltb.lc then some (w, s.setCore n (coreLand { c with st := 1, cycle := c.cycle + 1 })) else none

/-- IN_COMPLETE (R435): a word has arrived for a blocked IN. -/
def execInComplete (n : Nat) (s : State) : Host.Outcome State Fault Refusal :=
  .next (match s.blockedOn n .inp with
    | none => s
    | some (w, t) =>
      match coreFifo (t.core n) (bits w 17 16) with
      | v :: rest => t.inTake n w v rest
      | [] => s)

/-- OUT moves its word and the core goes on. -/
def State.outMove (s : State) (n w : Nat) : State :=
  (s.outWord n w (coreRead (s.core n) (bits w 11 6))).coreDone n w

/-- OUT (R432, R435): `room` says whether the port can take the word; where it cannot, the core waits. -/
def execOut (n : Nat) (room : Bool) (p : CoreParity) (s : State) : Host.Outcome State Fault Refusal :=
  .next (s.coreIssue n p .out (fun t w => if room then t.outMove n w else t.setCore n { t.core n with st := 2 }))

/-- OUT_COMPLETE (R435): room has arrived for a blocked OUT. -/
def execOutComplete (n : Nat) (s : State) : Host.Outcome State Fault Refusal :=
  .next (match s.blockedOn n .out with
    | none => s
    | some (w, t) => t.outMove n w)

/-- The input a source is bound to: core and input. -/
def State.boundTo (s : State) (src : Nat) : Option (Nat × Nat) :=
  if src = 0 then none
  else ([0, 1, 2, 3].flatMap (fun n => [0, 1, 2, 3].map (fun k => (n, k)))).find? (fun x => s.fld (inSrc x.2) x.1 == src)

/-- A set reaches an input whole or not at all (R431). -/
def State.deliverSet (s : State) (n k : Nat) (ws : List Nat) : State :=
  let c := s.core n
  let q := coreFifo c k
  if c.st = 4 then s
  else if q.length + ws.length ≤ 512 then s.setCore n (coreSetFifo c k (q ++ ws.map (fun w => w % 65536)))
  else
    let s1 := ((s.setCore n { c with dropped := c.dropped + 1 }).satAdd (inOvr k) n 1).raise F.INF_C_EVENT_STREAM_OVR
      F.INF_C_EVENT_EVCNT_STREAM_OVR n
    s1.perSecond (0x0E * 65536 + 0x300 + n) 1 (fun t =>
      let d := t.core n
      (t.setCore n { d with dropped := 0 }).notify 0x0E 0x0003 (n + k * 16) d.dropped)

/-- A receive lane's sample set is due: the lane tracks with ADAPT INFUSER, and 64 lc have passed since its latest set (R91, R431). -/
def State.sampleDue (s : State) (lane : Nat) : Bool :=
  s.rxState lane == 3 && s.fld F.LLN_RX_CFG_ADAPT lane == 0 && s.hasChannel lane &&
    (match SMap.find s.inf.setLc lane with | some l => decide (l + 64 ≤ s.ltb.lc) | none => true)

/-- The oldest trace of a lane all of whose samples have been taken: 256 of them, 8 × 2^SPACING lc apart from BEN rise (R431). -/
def State.traceDone (s : State) (lane : Nat) : Option (Int × Nat × List (Int × Nat × Nat)) :=
  match SMap.get s.inf.traces lane [] with
  | (rise, lc, sp) :: rest => if lc + 2040 * 2 ^ sp ≤ s.ltb.lc then some (rise, sp, rest) else none
  | [] => none

/-- The words of a trace: the header with lane and spacing, the 48 low bits of the stamp of BEN rise, and the samples in [15:4] (R431, log entry 90). -/
def traceWords (lane sp : Nat) (rise : Int) (ws : List Nat) : List Nat :=
  let st := stampOf (unsigned 46 (rise / 155520)) (rise % 155520).toNat
  [Config.traceHeader lane sp % 65536, st % 65536, st / 65536 % 65536, st / 2 ^ 32 % 65536] ++ (List.range 256).map (fun i => ws.getD i 0 % 4096 * 16)

/-- The words a source sends, where it has a set to send (R431): a receive lane's sample set with the low 16 bits of CYCLE, a trace, the response to the oldest request of
a management bus. `ws` holds what comes from outside: the nineteen samples, the 256 samples of RFL_MONn, the response. -/
def State.setWords (s : State) (src : Nat) (ws : List Nat) : Option (List Nat) × State :=
  if 0x08 ≤ src ∧ src < 0x10 then
    let lane := src - 0x08
    if s.sampleDue lane then
      (some ((List.range 19).map (fun i => ws.getD i 0) ++ [s.ltb.cycle % 65536]),
        { s with inf := { s.inf with setLc := SMap.insert s.inf.setLc lane s.ltb.lc } })
    else (none, s)
  else if 0x10 ≤ src ∧ src < 0x18 then
    (match s.traceDone (src - 0x10) with
     | some (rise, sp, rest) => (some (traceWords (src - 0x10) sp rise ws), { s with inf := { s.inf with traces := SMap.put s.inf.traces (src - 0x10) rest [] } })
     | none => (none, s))
  else if src = 0x18 ∨ src = 0x19 then
    (match pullFirst (fun r => r.1 == src - 0x18) s.inf.requests with
     | some (_, rest) => (some [ws.getD 0 0 % 512], { s with inf := { s.inf with requests := rest } })
     | none => (none, s))
  else (none, s)

/-- STREAM_SET (R431). -/
def execStreamSet (src : Nat) (ws : List Nat) (s : State) : Host.Outcome State Fault Refusal :=
  .next (match s.setWords src ws with
    | (none, _) => s
    | (some l, t) =>
      match t.boundTo src with
      | none => t
      | some (n, k) => t.deliverSet n k l)

/-! Commands (R437, R438). -/

/-- The STATE_REFUSED of R438. -/
def State.coreRefuse (s : State) (d : Desc) (n : Nat) : State := s.refuse d stStateRefused (refusedWord 0x70 n (s.core n).st)

/-- INF_LOAD (R437, R438). -/
def execInfLoad (d : Desc) (s : State) : Host.Outcome State Fault Refusal :=
  .next <| s.asCommand d 0x3801 true <|
    let n := bits (d.dw 5) 1 0
    let first := bits (d.dw 6) 12 0
    let count := bits (d.dw 7) 13 0
    if !d.buf ∨ d.bufLen < 4 * count then s.refuse d stBadArg 4
    else if 8192 < first + count then s.refuse d stBadArg 6
    else if count = 0 then s.refuse d stBadArg 7
    else if (s.core n).st ≠ 0 ∧ (s.core n).st ≠ 3 then s.coreRefuse d n
    else
      let c := s.core n
      let prog := (List.range count).foldl (fun m i => SMap.put m (first + i) (d.word i) 0) c.prog
      (s.setCore n { c with prog := prog }).finish d stOk count

/-- INF_CONTROL: start or halt (R435, R437, R438). -/
def State.infControl (s : State) (d : Desc) : State :=
  let n := bits (d.dw 5) 1 0
  let st := (s.core n).st
  if bit (d.dw 5) 8 then
    (if st = 0 ∨ st = 3 then
      ((s.setFld F.INF_C_ENTRY_ENTRY n (bits (d.dw 6) 12 0)).coreStart n).finish d stOk 1
     else s.coreRefuse d n)
  else if st = 1 ∨ st = 2 then (s.coreStop n).finish d stOk 0
  else s.coreRefuse d n

/-- INF_START: INF_CONTROL with DW5 [8] 1. -/
def execInfStart (d : Desc) (s : State) : Host.Outcome State Fault Refusal := .next (s.asCommand d 0x3802 (bit (d.dw 5) 8) (s.infControl d))

/-- INF_HALT: INF_CONTROL with DW5 [8] 0. -/
def execInfHalt (d : Desc) (s : State) : Host.Outcome State Fault Refusal := .next (s.asCommand d 0x3802 (!bit (d.dw 5) 8) (s.infControl d))

/-- INF_DATA in either direction (R437, R438); `bad` is the macro and row of a parity error it meets. -/
def State.infData (s : State) (d : Desc) (bad : Option (Nat × Nat)) : State :=
  let n := bits (d.dw 5) 1 0
  let first := bits (d.dw 6) 14 0
  let count := bits (d.dw 7) 15 0
  if !d.buf ∨ d.bufLen < 2 * count then s.refuse d stBadArg 4
  else if 32768 < first + count then s.refuse d stBadArg 6
  else if count = 0 then s.refuse d stBadArg 7
  else match bad with
    | some (m, r) => s.finish d stMemUncorr (errLoc 0x0E n m r)
    | none =>
      let c := s.core n
      if bit (d.dw 5) 8 then
        (s.setCore n { c with data := (List.range count).foldl (fun mm i =>
          SMap.put mm (first + i) (d.word (i / 2) / 65536 ^ (i % 2) % 65536) 0) c.data }).finish d stOk count
      else (s.toBuf d (pair16 ((List.range count).map (fun i => coreMem c (first + i))))).finish d stOk count

/-- INF_DATA_READ: INF_DATA with DW5 [8] 0. -/
def execInfDataRead (d : Desc) (bad : Option (Nat × Nat)) (s : State) : Host.Outcome State Fault Refusal := .next (s.asCommand d 0x3803 (!bit (d.dw 5) 8) (s.infData d bad))

/-- INF_DATA_WRITE: INF_DATA with DW5 [8] 1. -/
def execInfDataWrite (d : Desc) (bad : Option (Nat × Nat)) (s : State) : Host.Outcome State Fault Refusal := .next (s.asCommand d 0x3803 (bit (d.dw 5) 8) (s.infData d bad))

/-! Register writes (R431, R440) and the image (R436). -/

/-- A write of INF_Cn_IN that would bind a source twice, or names an absent lane's (R3), is discarded. -/
def State.writeInfIn (s : State) (n v : Nat) : State :=
  let new := [bits v 5 0, bits v 13 8, bits v 21 16, bits v 29 24]
  let others := ([0, 1, 2, 3].filter (fun m => m != n)).flatMap (fun m => [0, 1, 2, 3].map (fun k => s.fld (inSrc k) m))
  let used := new.filter (fun x => x != 0)
  let twice := !used.Nodup || used.any (fun x => others.contains x)
  let absent := used.any (fun x => decide (0x08 ≤ x ∧ x < 0x18) && !s.hasChannel (x % 8))
  if twice || absent then s else s.applyWrite (0xE01010 + 0x40 * n) v

/-- The supplied programs enter program memory with entry address 0, and the cores whose AUTO bit is set start (R435, R436). -/
def State.infImage (s : State) (progs : List (List Nat)) : State :=
  let s1 := (List.zip [0, 1, 2] progs).foldl (fun t p =>
    let c := t.core p.1
    (t.setCore p.1 { c with prog := (List.zip (List.range 8192) p.2).foldl (fun m x => SMap.put m x.1 x.2 0) [] }).setFld
      F.INF_C_ENTRY_ENTRY p.1 0) s
  [0, 1, 2, 3].foldl (fun t n => if bit (t.fld F.INF_CFG_AUTO 0) n ∧ (t.core n).st = 0 then t.coreStart n else t) s1

/-- IMAGE_LOAD_END (R48, R49, R436): the outcome of the image DMA's checks, the words of its header, and the supplied programs it carries. -/
def execImageLoadEnd (magic hdrLen version : Nat) (crcOk sigOk dmaOk : Bool) (progs : List (List Nat)) (s : State) :
    Host.Outcome State Fault Refusal :=
  .next <|
    let s1 := s.imageLoadEnd magic hdrLen version crcOk sigOk dmaOk
    if s.fld F.HIF_STATUS_STAGE 0 = 2 ∧ s1.fld F.HIF_STATUS_STAGE 0 = 3 then s1.infImage progs else s1

end Sys2Proof.Machine
end

