-- ==== Sys2Proof/Machine/TmgOps.lean ====
section
/-!
DEFINITION. Sys2Proof/Machine/TmgOps.lean: queues, meters, pools, the Kettle, shapers, the calendar and virtual-time selection
(R265 to R291).
-/
namespace Sys2Proof.Machine

/-! Accessors. -/

def qcfgZero : QCfg := ⟨false, 0, 0, 0, 0, 0, 0, 0, 0, 0, 0, 0, 0, 0⟩
def queueOff : Queue := ⟨0, qcfgZero, [], [], [], 0, 0, 0, 0, 0, [], 0⟩
/-- The key of a queue: direction × 65,536 + number. -/
def qKey (dir q : Nat) : Nat := dir * 65536 + q
def State.queue (s : State) (k : Nat) : Queue := SMap.get s.tmg.queues k queueOff
def State.setQueue (s : State) (k : Nat) (x : Queue) : State :=
  { s with tmg := { s.tmg with queues := SMap.put s.tmg.queues k x queueOff } }

def groupOff : Group := ⟨false, 0, 0, 0, 0, 0, 0, 0, 0⟩
def State.group (s : State) (g : Nat) : Group := SMap.get s.tmg.groups g groupOff
def State.setGroup (s : State) (g : Nat) (x : Group) : State :=
  { s with tmg := { s.tmg with groups := SMap.put s.tmg.groups g x groupOff } }

/-- Port-TC nodes reset with STRICT 0xFF (R292). -/
def portTcReset : PortTc := ⟨0xFF, [0, 0, 0, 0, 0, 0, 0, 0]⟩
def State.portTc (s : State) (p : Nat) : PortTc := SMap.get s.tmg.ports p portTcReset

def meterOff : Meter := ⟨false, 0, false, 0, 0, 0, 0, 0, 0, 0, 0, 0, 0, 0⟩
def State.meter (s : State) (m : Nat) : Meter := SMap.get s.tmg.meters m meterOff
def State.setMeter (s : State) (m : Nat) (x : Meter) : State :=
  { s with tmg := { s.tmg with meters := SMap.put s.tmg.meters m x meterOff } }

def watchOff : Watch := ⟨false, 0, 0, List.replicate 16 0, List.replicate 16 0, 0, 0⟩
def State.watch (s : State) (w : Nat) : Watch := SMap.get s.tmg.watches w watchOff
def State.setWatch (s : State) (w : Nat) (x : Watch) : State :=
  { s with tmg := { s.tmg with watches := SMap.put s.tmg.watches w x watchOff } }

/-! Frames, cells and pools (R276 to R278). -/

/-- Cells of 256 bytes that a frame takes. -/
def cellsOf (len : Nat) : Nat := (len + 255) / 256

/-- Lines of 64 bytes that a frame takes. -/
def linesOf (len : Nat) : Nat := (len + 63) / 64

def sumOf (l : List Nat) : Nat := l.foldl (· + ·) 0

/-- On-chip cells of a queue's head. -/
def Queue.headCells (q : Queue) : Nat := sumOf (q.head.map (fun f => cellsOf f.len))

/-- On-chip cells of a queue: those of its head and of the tail page being filled. -/
def Queue.chipCells (q : Queue) : Nat := q.headCells + sumOf (q.tail.map (fun f => cellsOf f.len))

/-- Frames and bytes in the Kettle's pages, and in all three segments. -/
def Queue.pageFrames (q : Queue) : List QFrm := (q.middle.map KPage.frames).flatten
def Queue.all (q : Queue) : List QFrm := q.head ++ q.pageFrames ++ q.tail
def Queue.occ (q : Queue) : Nat := sumOf (q.all.map QFrm.len)
def Queue.kettleBytes (q : Queue) : Nat := sumOf (q.pageFrames.map QFrm.len)

def poolPctF : Nat → Fld
  | 0 => F.TMG_POOL0_LOW_PCT | 1 => F.TMG_POOL1_LOW_PCT | 2 => F.TMG_POOL2_LOW_PCT | _ => F.TMG_POOL3_LOW_PCT
/-- POOL_LOW (R296): written when the free cells fall below LOW_PCT of the size, and again only after they have risen above it. -/
def State.poolLow (s : State) (k : Nat) : State :=
  let thr := s.fld (poolSizeF k) 0 * min 100 (s.fld (poolPctF k) 0)
  if s.poolFree k * 100 < thr then
    if k ∈ s.tmg.low then s
    else
      let s1 : State := { s with tmg := { s.tmg with low := k :: s.tmg.low } }
      (s1.raise F.TMG_EVENT_POOL_LOW F.TMG_EVENT_EVCNT_POOL_LOW 0).perSecond (8 * 65536 + 256 + k) 1
        (fun t => t.notify 0x08 0x0001 k (t.poolFree k))
  else if thr < s.poolFree k * 100 then { s with tmg := { s.tmg with low := s.tmg.low.filter (· != k) } }
  else s

/-- Take or free cells of a pool. -/
def State.takeCells (s : State) (k n : Nat) : State := (s.setFld F.TMG_POOL_USE_IN_USE k (s.poolUse k + n)).poolLow k
def State.freeCells (s : State) (k n : Nat) : State := (s.setFld F.TMG_POOL_USE_IN_USE k (s.poolUse k - n)).poolLow k

/-! The Kettle. -/

/-- A page is freed: retired for good where that was asked for (R314). -/
def State.freePageNo (s : State) (n : Nat) : State :=
  if s.tmg.retiring.contains n then
    { s with tmg := { s.tmg with retired := s.tmg.retired ++ [n], retiring := s.tmg.retiring.filter (· != n) } }
  else s

/-! Binding (R267). -/

/-! Entities and nodes (R266, R285, R287). -/

/-- Children: a queue is its key, a group 0x100000 + its number, a port-TC node 0x200000 + 8 p + t. -/
def groupEnt (g : Nat) : Nat := 0x100000 + g
def ptcEnt (p t : Nat) : Nat := 0x200000 + 8 * p + t
/-- Nodes: a group 0x100000 + its number, a port-TC node 0x200000 + 8 p + t, a port 0x300000 + p, an Alloc-ID's TC 0x400000 + … -/
def portNode (p : Nat) : Nat := 0x300000 + p
def allocNode (c a t : Nat) : Nat := 0x400000 + (c * 16384 + a) * 8 + t

/-- The node a queue is a child of. -/
def nodeOfQueue (k : Nat) (q : Queue) : Nat :=
  if keyDir k = 1 then groupEnt q.cfg.parent else allocNode q.cfg.chan q.cfg.parent q.cfg.tc

def kidNone : VtChild := ⟨0, 0, false⟩
def State.kid (s : State) (e : Nat) : VtChild := SMap.get s.tmg.kids e kidNone
def State.setKid (s : State) (e : Nat) (x : VtChild) : State :=
  { s with tmg := { s.tmg with kids := SMap.put s.tmg.kids e x kidNone } }
def State.vt (s : State) (n : Nat) : Nat := SMap.get s.tmg.nodes n 0
def State.setVt (s : State) (n v : Nat) : State := { s with tmg := { s.tmg with nodes := SMap.put s.tmg.nodes n v 0 } }

/-- Virtual times compare modulo 2^48 within half the range. -/
def vtBefore (a b : Nat) : Bool := decide (0 < (b + 2 ^ 48 - a % 2 ^ 48) % 2 ^ 48) && decide ((b + 2 ^ 48 - a % 2 ^ 48) % 2 ^ 48 < 2 ^ 47)
def vtMax (a b : Nat) : Nat := if vtBefore a b then b else a

/-- The next finish of a child: start plus h × 1,024 / WEIGHT. -/
def vtFinish (start h w : Nat) : Nat := (start + h * 1024 / max 1 w) % 2 ^ 48

/-- The entity is on the calendar: it is not eligible (R281 to R283). -/
def State.onCal (s : State) (e : Nat) : Bool := s.tmg.cal.any (fun x => x.ent == e)

/-- The frame a queue would serve: its head's first, or its tail's while head and middle are empty (R278). -/
def Queue.first (q : Queue) : Option QFrm :=
  match q.head with
  | f :: _ => some f
  | [] => if q.middle.isEmpty then q.tail.head? else none

/-- A queue is selectable: it has a frame on chip, is eligible, and upstream is bound. -/
def State.queueSel (s : State) (k : Nat) : Bool :=
  let q := s.queue k
  q.first.isSome && !s.onCal k && (keyDir k == 1 || s.bound q)

/-- The least finish among the awake children named, the lower number winning a tie. -/
def State.leastKid (s : State) (es : List Nat) : Option Nat :=
  es.foldl (fun best e =>
    if !(s.kid e).awake then best
    else match best with
      | none => some e
      | some b => if vtBefore (s.kid e).finish (s.kid b).finish then some e else best) none

/-- The queues of a group, in number order. -/
def State.groupQueues (s : State) (g : Nat) : List Nat :=
  (s.tmg.queues.filter (fun p => keyDir p.1 == 1 && p.2.cfg.parent == g)).map Prod.fst

/-- The groups of a port-TC node. -/
def State.nodeGroups (s : State) (p t : Nat) : List Nat :=
  (s.tmg.groups.filter (fun x => x.2.en && x.2.port == p && x.2.tc == t)).map (fun x => groupEnt x.1)

/-- The queues bound on an Alloc-ID at a TC. -/
def State.allocQueues (s : State) (c a t : Nat) : List Nat :=
  (s.tmg.queues.filter (fun p => keyDir p.1 == 0 && p.2.cfg.chan == c && p.2.cfg.parent == a && p.2.cfg.tc == t)).map Prod.fst

/-- The head length a group shows: that of the queue it would select. -/
def State.groupHead (s : State) (g : Nat) : Nat :=
  match s.leastKid (s.groupQueues g) with
  | some k => ((s.queue k).first.map QFrm.len).getD 0
  | none => 0

/-- The head length a port-TC node shows. -/
def State.ptcHead (s : State) (p t : Nat) : Nat :=
  match s.leastKid (s.nodeGroups p t) with
  | some e => s.groupHead (e - 0x100000)
  | none => 0

/-- A child wakes or sleeps as it becomes selectable or not (R285). -/
def State.wakeKid (s : State) (e node h w : Nat) (sel : Bool) : State :=
  let x := s.kid e
  if sel && !x.awake then
    let st := vtMax x.finish (s.vt node)
    s.setKid e ⟨st, vtFinish st h w, true⟩
  else if !sel && x.awake then s.setKid e { x with awake := false }
  else s

/-- Weight of a TC of a port. -/
def State.ptcWeight (s : State) (p t : Nat) : Nat := (s.portTc p).weights.getD t 0

/-- A port-TC node follows its groups, its TC's pause and its port (R286). -/
def State.refreshPtc (s : State) (p t : Nat) : State :=
  let sel := s.portUp p && s.listen p == 0 && !s.tcPaused p t && (s.nodeGroups p t).any (fun e => (s.kid e).awake)
  s.wakeKid (ptcEnt p t) (portNode p) (s.ptcHead p t) (s.ptcWeight p t) sel

/-- A group follows its queues, its shaper and its EN, and its node follows it. -/
def State.refreshGroup (s : State) (g : Nat) : State :=
  let x := s.group g
  let sel := x.en && !s.onCal (groupEnt g) && (s.groupQueues g).any (fun k => (s.kid k).awake)
  (s.wakeKid (groupEnt g) (ptcEnt x.port x.tc) (s.groupHead g) x.weight sel).refreshPtc x.port x.tc

/-- A queue follows its frames, its shaper and its binding, and its node follows it. -/
def State.refreshQueue (s : State) (k : Nat) : State :=
  let q := s.queue k
  let s1 := s.wakeKid k (nodeOfQueue k q) ((q.first.map QFrm.len).getD 0) q.cfg.weight (s.queueSel k)
  if keyDir k = 1 then s1.refreshGroup q.cfg.parent else s1

/-- Every queue, group and node follows (after a change outside TMG). -/
def State.refreshPort (s : State) (p : Nat) : State := (List.range 8).foldl (fun t x => t.refreshPtc p x) s

/-- Every upstream queue follows its binding. -/
def State.refreshUp (s : State) : State :=
  (s.tmg.queues.filter (fun p => keyDir p.1 == 0)).foldl (fun t p => t.refreshQueue p.1) s

/-- After service (R285): the node's V is the child's finish; a child that remains selectable takes its next finish from it. -/
def State.served (s : State) (e node h w : Nat) (sel : Bool) : State :=
  let x := s.kid e
  let s1 := s.setVt node x.finish
  if sel then s1.setKid e ⟨x.finish, vtFinish x.finish h w, true⟩ else s1.setKid e { x with awake := false }

/-! Shapers and the calendar (R281 to R284). -/

/-- Line cycles per byte with 16 fraction bits at a rate in kb/s: 8 × 1,244,160,000 / (rate × 1,000). -/
def lcPerByte (n rate : Nat) : Nat := n * 8 * 1244160 * 65536 / max 1 rate

/-- Where an entry stands on the calendar by its distance d (R282): 0 fine, 1 coarse, 2 far. `e` and `now` have 16 fraction bits. -/
def calPlace (e now : Nat) : Nat :=
  let d := e - now
  if d < 32768 * 65536 then 0 else if d < 134217728 * 65536 then 1 else 2

/-- Put an entity on the calendar behind every earlier placement, or take it off where e ≤ now. -/
def State.calPut (s : State) (ent e : Nat) : State :=
  let rest := s.tmg.cal.filter (fun x => x.ent != ent)
  let now := s.calNow * 65536
  { s with tmg := { s.tmg with cal := if now < e then rest ++ [⟨ent, e, calPlace e now⟩] else rest } }


/-- The charge of a dequeue: E_base, L_last and e (R281). -/
def charge (e now rate burst len adj : Nat) : Nat × Nat × Nat :=
  let m := lcPerByte burst rate
  let base := max e (now * 65536 - m)
  let l := (max 1 ((len : Int) + signed 8 adj)).toNat
  (base, l, base + lcPerByte l rate)

/-- A queue's shaper is charged for a dequeued frame. -/
def State.chargeQueue (s : State) (k len : Nat) : State :=
  let q := s.queue k
  if !q.cfg.shapeEn then s else
  let e0 := q.eBase + (if q.lastLen = 0 then 0 else lcPerByte q.lastLen q.cfg.pir)
  let (b, l, e) := charge e0 s.calNow q.cfg.pir q.cfg.burst len q.cfg.adj
  (s.setQueue k { q with eBase := b, lastLen := l }).calPut k e

/-- A group's shaper is charged. -/
def State.chargeGroup (s : State) (g len : Nat) : State :=
  let x := s.group g
  if x.pir = 0 then s else
  let e0 := x.eBase + (if x.lastLen = 0 then 0 else lcPerByte x.lastLen x.pir)
  let (b, l, e) := charge e0 s.calNow x.pir x.burst len x.adj
  (s.setGroup g { x with eBase := b, lastLen := l }).calPut (groupEnt g) e

/-! Flow control (R289). -/

/-- Upstream cells held by frames that entered from host port p with TC t, Kettle pages excluded. -/
def State.fcCells (s : State) (p t : Nat) : Nat :=
  sumOf ((s.tmg.queues.filter (fun x => keyDir x.1 == 0)).map (fun x =>
    sumOf ((x.2.head ++ x.2.tail).map (fun f =>
      if f.ingress < 4 ∧ f.ingress = p ∧ f.tc = t then cellsOf f.len else 0))))

/-- XON in force: at or above XOFF it is ⌊XOFF / 2⌋ (TMG_FC_CFG). -/
def State.fcXon (s : State) : Nat :=
  let x := s.fld F.TMG_FC_CFG_XOFF 0
  if x ≤ s.fld F.TMG_FC_CFG_XON 0 then x / 2 else s.fld F.TMG_FC_CFG_XON 0

/-- XOFF and XON for (p, t) as the cells stand, and HPM is signalled. -/
def State.fcCheck (s : State) (p t : Nat) : State :=
  let i := 8 * p + t
  let w := s.fld F.TMG_FC_STATUS_XOFF 0
  let n := s.fcCells p t
  let on := s.fld F.TMG_CFG_FC_EN 0 == 1 && (if bit w i then decide (s.fcXon < n) else decide (s.fld F.TMG_FC_CFG_XOFF 0 < n))
  if on = bit w i then s
  else (s.setFld F.TMG_FC_STATUS_XOFF 0 (if on then w + 2 ^ i else w - 2 ^ i)).fcUpdate p

/-- The check for a frame's own (p, t). -/
def State.fcFor (s : State) (f : QFrm) : State := if f.ingress < 4 then s.fcCheck f.ingress f.tc else s

/-- Every (p, t) is checked (a change of TMG_FC_CFG or FC_EN). -/
def State.fcAll (s : State) : State :=
  (List.range 32).foldl (fun t i => t.fcCheck (i / 8) (i % 8)) s

/-! Meters (R273 to R275). -/

/-- Tokens gained in n line cycles at a rate in kb/s, with 16 fraction bits. -/
def tokenGain (rate n : Nat) : Nat := rate * 1000 * n * 65536 / (8 * 1244160000)

/-- Both buckets gain their rate times the time elapsed, up to their size (R274). -/
def Meter.fill (m : Meter) (now : Nat) : Meter :=
  { m with
    t1 := min (m.b1 * 65536) (m.t1 + tokenGain m.r1 (now - m.last))
    t2 := min (m.b2 * 65536) (m.t2 + tokenGain m.r2 (now - m.last))
    last := now }

/-- The colour of a frame of metered length b with pre-colour pre (0 green, 1 yellow, 2 red) and the meter after it (R274). -/
def Meter.colour (m : Meter) (b pre : Nat) : Nat × Meter :=
  let x := b * 65536
  if m.mode = 0 then
    if m.aware ∧ pre = 2 then (2, m)
    else if m.t2 < x then (2, m)
    else if (m.aware ∧ pre = 1) ∨ m.t1 < x then (1, { m with t2 := m.t2 - x })
    else (0, { m with t1 := m.t1 - x, t2 := m.t2 - x })
  else
    if (!m.aware ∨ pre = 0) ∧ x ≤ m.t1 then (0, { m with t1 := m.t1 - x })
    else if (!m.aware ∨ pre ≠ 2) ∧ x ≤ m.t2 then (1, { m with t2 := m.t2 - x })
    else (2, m)

/-- The final colour of a frame (R270, R274), its meter updated. -/
def State.finalColour (s : State) (mtr : Option Nat) (pre len : Nat) : Nat × State :=
  match mtr with
  | none => (pre, s)
  | some i =>
    let m := s.meter i
    if !m.en then (pre, s)
    else
      let b := (max 1 ((len : Int) + signed 8 m.adj)).toNat
      let (c, m1) := (m.fill s.calNow).colour b pre
      let m2 := match c with
        | 0 => { m1 with green := m1.green + 1 }
        | 1 => { m1 with yellow := m1.yellow + 1 }
        | _ => { m1 with red := m1.red + 1 }
      (c, s.setMeter i m2)

/-! Admission (R271). -/

/-- The admission threshold in bytes. -/
def QCfg.threshold (c : QCfg) (colour : Nat) : Nat :=
  match colour with
  | 0 => c.quota * 4096
  | 1 => c.quota * 4096 * c.yelPct / 100
  | _ => c.quota * 4096 * c.redPct / 100

/-- Whether a frame linked now goes to the tail page: the middle or tail holds frames, or the head would pass ONCHIP_MAX and the
queue can spill (R278). -/
def State.toTail (s : State) (q : Queue) (len : Nat) : Bool :=
  !q.middle.isEmpty || !q.tail.isEmpty || (decide (q.cfg.onchipMax < q.chipCells + cellsOf len) && s.canSpill)

/-- The cause an arriving frame is refused under, 0 where it is admitted (R271). -/
def State.admitCause (s : State) (k len colour : Nat) : Nat :=
  let q := s.queue k
  if q.st ≠ 1 then 4
  else if s.poolFree (keyDir k) < cellsOf len then 3
  else if !s.canSpill ∧ q.cfg.onchipMax < q.chipCells + cellsOf len then 3
  else if q.cfg.threshold colour < q.occ + len then (if colour = 0 then 1 else 2)
  else 0

/-- KETTLE_FULL: a frame would spill, and no Kettle page is free (R296, TMG_EVENT). -/
def State.kettleFull (s : State) (k len : Nat) : State :=
  let q := s.queue k
  if q.cfg.onchipMax < q.chipCells + cellsOf len ∧ s.fld F.TMG_CFG_KETTLE_EN 0 = 1 ∧
      (List.range 4).any (fun n => s.chInService n) ∧ s.freePage.isNone then
    (s.raise F.TMG_EVENT_KETTLE_FULL F.TMG_EVENT_EVCNT_KETTLE_FULL 0).perSecond (8 * 65536 + 2 * 256) 1
      (fun t => t.notify 0x08 0x0002 t.pageCount 0)
  else s

/-- A frame is counted as discarded under a cause (R271, R292, TMG_DROP). -/
def State.countDrop (s : State) (k cause n : Nat) : State :=
  let q := s.queue k
  let cap := if cause ≤ 4 then 2 ^ 32 - 1 else 2 ^ 16 - 1
  let s1 := s.setQueue k { q with drops := SMap.put q.drops cause (min cap (SMap.get q.drops cause 0 + n)) 0 }
  let up := keyDir k == 0
  if cause = 1 ∨ cause = 2 then s1.satAdd (if up then F.TMG_DROP_US_THRESH else F.TMG_DROP_DS_THRESH) 0 n
  else if cause = 3 then s1.satAdd (if up then F.TMG_DROP_US_NO_BUFFER else F.TMG_DROP_DS_NO_BUFFER) 0 n
  else s1

/-- Bytes admitted into the bound queues of a channel, shown in 64-byte units (R267, TMG_CH_ENQ). -/
def State.countEnq (s : State) (k len : Nat) : State :=
  let q := s.queue k
  if keyDir k = 0 ∧ s.bound q then
    let n := SMap.get s.tmg.chBytes q.cfg.chan 0 + len
    let s1 : State := { s with tmg := { s.tmg with chBytes := SMap.put s.tmg.chBytes q.cfg.chan n 0 } }
    s1.setFld F.TMG_CH_ENQ_UNITS q.cfg.chan (n / 64)
  else s

/-- The sampler slots that watch a queue. -/
def State.watching (s : State) (k : Nat) : List Nat :=
  (s.tmg.watches.filter (fun p => p.2.en && qKey p.2.dir p.2.queue == k)).map Prod.fst

/-- A watched queue's peak occupancy in units of U_d (R290). -/
def State.watchPeak (s : State) (k : Nat) : State :=
  if s.fld F.TMG_CFG_SAMPLER_EN 0 = 0 then s else
  let u := (s.queue k).occ / (256 * 2 ^ s.fld F.TMG_SAMPLE_CFG_DEPTH_SHIFT 0)
  (s.watching k).foldl (fun t w => t.setWatch w { t.watch w with peak := max (t.watch w).peak u }) s

/-- Bytes held by bound upstream queues. -/
def State.upHeld (s : State) : Nat :=
  sumOf ((s.tmg.queues.filter (fun p => keyDir p.1 == 0 && s.bound p.2)).map (fun p => p.2.occ))

/-- Upstream data has reached US_WAKE: a wake source (R455). -/
def State.upWake (s : State) : State :=
  if s.lowPower ∧ max 1 (s.fld F.PWR_SIMMER_LVL_US_WAKE 0) * 4096 ≤ s.upHeld then s.wakeSource 4 else s

/-- A frame is linked at the queue's tail (R268, R276, R278): in the head, or behind what is spilled, staged in pool 3 while it has
a free cell. -/
def State.link (s : State) (k : Nat) (f : QFrm) : State :=
  let q := s.queue k
  let tail := s.toTail q f.len
  let pool := if tail && decide (0 < s.poolFree 3) then 3 else keyDir k
  let f1 : QFrm := { f with pool := pool, lines := if tail then linesOf f.len else 0, at_ := some s.calNow }
  let q1 : Queue := if tail then { q with tail := q.tail ++ [f1], tailLc := if q.tail.isEmpty then s.ltb.lc else q.tailLc }
    else { q with head := q.head ++ [f1] }
  let q2 : Queue := { q1 with enq := q1.enq + 1, peak := max q1.peak q1.occ }
  let s1 := (((((s.takeCells pool (cellsOf f.len)).setQueue k q2).countEnq k f.len).watchPeak k).refreshQueue k).fcFor f1
  if keyDir k = 0 then s1.upWake else s1

/-- A frame offered to a queue with its final colour (R271): admitted and linked, or discarded and counted. -/
def State.offer (s : State) (k : Nat) (f : QFrm) : State :=
  let s0 := s.kettleFull k f.len
  match s0.admitCause k f.len f.colour with
  | 0 => s0.link k f
  | c => s0.countDrop k c 1

/-! Dequeue (R286, R287, R290, R295). -/

/-- Bin of a value in units (R290). -/
def binOf (x : Nat) : Nat := if x = 0 then 0 else min 15 (Nat.log2 x + 1)

/-- Add one to a bin, saturating at 32 bits. -/
def bumpBin (l : List Nat) (b : Nat) : List Nat := l.set b (min (2 ^ 32 - 1) (l.getD b 0 + 1))

/-- A dequeued frame's sojourn in the slots that watch its queue (R290, R291). -/
def State.sampleDelay (s : State) (k : Nat) (f : QFrm) : State :=
  if s.fld F.TMG_CFG_SAMPLER_EN 0 = 0 then s else
  (s.watching k).foldl (fun t w =>
    let x := t.watch w
    match f.at_ with
    | some a => t.setWatch w { x with
        delay := bumpBin x.delay
          (binOf ((t.calNow - a) / 2 ^ min 24 (t.fld F.TMG_SAMPLE_CFG_DELAY_SHIFT 0))) }
    | none => t.setWatch w { x with untimed := min (2 ^ 32 - 1) (x.untimed + 1) }) s

/-- A draining queue that has emptied is OFF (R295). -/
def Queue.settle (q : Queue) : Queue := if q.st = 2 ∧ q.all.isEmpty then { q with st := 0 } else q

/-- The queue without the frame it serves first. -/
def Queue.dropFirst (q : Queue) : Queue :=
  match q.head with
  | _ :: r => { q with head := r }
  | [] => { q with tail := q.tail.drop 1 }

/-- The first frame leaves its queue: cells freed, counters advanced (R268, R278). Its shaper and node are charged elsewhere. -/
def State.takeFirst (s : State) (k : Nat) : Option (QFrm × State) :=
  let q := s.queue k
  match q.first with
  | none => none
  | some f =>
    let q1 := ({ q.dropFirst with deq := q.deq + 1 } : Queue).settle
    some (f, (((s.setQueue k q1).freeCells f.pool (cellsOf f.len)).sampleDelay k f).fcFor f)

/-- The first frame of a queue is discarded at dequeue under cause 5 (R279): its cells are freed. -/
def State.loseFirst (s : State) (k : Nat) : State :=
  let q := s.queue k
  match q.first with
  | none => s
  | some f =>
    ((((s.setQueue k q.dropFirst.settle).freeCells f.pool (cellsOf f.len)).countDrop k 5 1).fcFor f).refreshQueue k

/-- CELL_MEM (R279, R296): a cell of a queue's first frame fails its on-chip check: the frame is discarded at dequeue and counted. -/
def State.cellFails (s : State) (k : Nat) (cell : Nat × Nat × Nat) : State :=
  let s1 := ((s.loseFirst k).satAdd F.TMG_KETTLE_ERR_UNCORR 0 1).raise F.TMG_EVENT_CELL_MEM F.TMG_EVENT_EVCNT_CELL_MEM 0
  s1.perSecond (8 * 65536 + 0xF1 * 256) 1
    (fun t => t.faultEvent 0x08 0x00F1 (errLoc 0x08 cell.1 cell.2.1 cell.2.2) (keyDir k * 2 ^ 30 + k % 65536) 1)

/-- Frames with a byte in a failed line go from the front of a queue, counted in TMG_KETTLE_ERR too. -/
def State.dropSpoiled (s : State) (k : Nat) : Nat → State
  | 0 => s
  | n + 1 =>
    if ((s.queue k).first.map QFrm.spoiled).getD false then
      ((s.loseFirst k).satAdd F.TMG_KETTLE_ERR_UNCORR 0 1).dropSpoiled k n
    else s

/-- A queue serves its first frame under a node (R281, R285). -/
def State.serveQueue (s : State) (k : Nat) : Option (QFrm × State) :=
  let node := nodeOfQueue k (s.queue k)
  match s.takeFirst k with
  | none => none
  | some (f, s1) =>
    let s2 := s1.chargeQueue k f.len
    let q := s2.queue k
    some (f, s2.served k node ((q.first.map QFrm.len).getD 0) q.cfg.weight (s2.queueSel k))

/-- The TC a port serves: the highest strict one selectable, else the least finish among the others (R266). -/
def State.pickTc (s : State) (p : Nat) : Option Nat :=
  let strict := (List.range 8).reverse.find? (fun t => bit (s.portTc p).strict t && (s.kid (ptcEnt p t)).awake)
  match strict with
  | some t => some t
  | none => (s.leastKid (((List.range 8).filter (fun t => !bit (s.portTc p).strict t)).map (fun t => ptcEnt p t))).map
      (fun e => e - 0x200000 - 8 * p)

/-- A port's selection down to one queue (R286): its TC, its group and its key. -/
def State.pickPort (s : State) (p : Nat) : Option (Nat × Nat × Nat) :=
  match s.pickTc p with
  | none => none
  | some t =>
    match s.leastKid (s.nodeGroups p t) with
    | none => none
    | some ge => (s.leastKid (s.groupQueues (ge - 0x100000))).map (fun k => (t, ge - 0x100000, k))

/-- The selected queue's head frame leaves, and every node on its path is updated with it (R286). -/
def State.servePath (s : State) (p t g k : Nat) : Option (QFrm × State) :=
  match s.serveQueue k with
  | none => none
  | some (f, s1) =>
    let ge := groupEnt g
    let s2 := s1.chargeGroup g f.len
    let gsel := !s2.onCal ge && (s2.groupQueues g).any (fun q => (s2.kid q).awake)
    let s3 := s2.served ge (ptcEnt p t) (s2.groupHead g) (s2.group g).weight gsel
    let tsel := (s3.nodeGroups p t).any (fun e => (s3.kid e).awake)
    some (f, s3.served (ptcEnt p t) (portNode p) (s3.ptcHead p t) (s3.ptcWeight p t) tsel)

/-- The bound queue of an Alloc-ID that would serve next (R287): the highest TC selectable, then the least finish. -/
def State.pickUp (s : State) (c a : Nat) : Option Nat :=
  (List.range 8).reverse.findSome? (fun t => s.leastKid (s.allocQueues c a t))

/-- Occupancy of an Alloc-ID (R183): bytes and 8 per frame over its bound queues, all segments. -/
def State.allocOcc (s : State) (c a : Nat) : Nat :=
  sumOf (((s.tmg.queues.filter (fun p => keyDir p.1 == 0 && p.2.cfg.chan == c && p.2.cfg.parent == a && s.bound p.2)).map
    (fun p => p.2.occ + 8 * p.2.all.length)))

/-! Frozen channels (R280, R319). -/

/-- Frames wholly or partly in pages of a channel are discarded and the pages freed (R280). A frame that begins in such a page and ends in
the next goes with it. -/
def dropPages (inCh : KPage → Bool) : Bool → List KPage → List KPage × List KPage × Nat × Bool
  | open_, [] => ([], [], 0, open_)
  | open_, pg :: rest =>
    let fs := if open_ then pg.frames.drop 1 else pg.frames
    let lost1 := if open_ then min 1 pg.frames.length else 0
    let still := open_ && pg.frames.isEmpty
    if inCh pg then
      let (keep, gone, n, o) := dropPages inCh (pg.opens || still) rest
      (keep, pg :: gone, n + lost1 + fs.length, o)
    else
      let (keep, gone, n, o) := dropPages inCh still rest
      ({ pg with frames := fs } :: keep, gone, n + lost1, o)

/-- DROP applied to one queue. -/
def State.dropFrozenQueue (s : State) (n k : Nat) : State :=
  let q := s.queue k
  let (keep, gone, cnt, o) := dropPages (fun pg => s.pageChan pg.page == n) false q.middle
  if gone.isEmpty then s else
  let tail := if o then q.tail.drop 1 else q.tail
  let cnt1 := cnt + (if o then min 1 q.tail.length else 0)
  let s0 := match o, q.tail with
    | true, f :: _ => s.freeCells f.pool (cellsOf f.len)
    | _, _ => s
  let s1 := (s0.setQueue k ({ q with middle := keep, tail := tail } : Queue).settle).satAdd F.TMG_KETTLE_ERR_FROZEN_DROP 0 cnt1
  (gone.foldl (fun t pg => t.freePageNo pg.page) s1).refreshQueue k

/-- A frozen channel under DROP: its Kettle traffic is abandoned (R280, R319). -/
def State.dropFrozen (s : State) (n : Nat) : State :=
  s.tmg.queues.foldl (fun t p => t.dropFrozenQueue n p.1) s

/-! Elapsed time (R275, R284, R291). -/

/-- A wake with basis SFC or SLEEP_COUNT: the calendar's count and the meters' time advance by the elapsed line cycles. -/
def State.tmgElapsed (s : State) (n : Nat) : State := { s with tmg := { s.tmg with calAhead := s.tmg.calAhead + n } }

/-- A wake with basis NONE: every bucket is full, every calendar entry is reached, and frames held are untimed. -/
def State.tmgUnknown (s : State) : State :=
  let now := s.calNow
  let un := fun (l : List QFrm) => l.map (fun f => { f with at_ := none })
  { s with tmg := { s.tmg with
      meters := s.tmg.meters.map (fun p => (p.1, { p.2 with t1 := p.2.b1 * 65536, t2 := p.2.b2 * 65536, last := now }))
      cal := s.tmg.cal.map (fun x => { x with e := min x.e (now * 65536), place := 0 })
      queues := s.tmg.queues.map (fun p => (p.1, { p.2 with
        head := un p.2.head, tail := un p.2.tail
        middle := p.2.middle.map (fun pg => { pg with frames := un pg.frames }) })) } }

end Sys2Proof.Machine
end

