-- ==== Sys2Proof/Machine/Str.lean ====
section
/-!
DEFINITION. Sys2Proof/Machine/Str.lean: the Strainer (R208 to R239): banks, classification of a window, Resteep, length conflicts,
and the STR commands.
-/
namespace Sys2Proof.Machine

/-! Banks (R227). -/

def ruleNone : Rule := ⟨0, 0, 0, 0, false, 0, [0, 0, 0, 0]⟩
/-- No extraction points, no length checks, a default action of DISP DROP with every other field 0. -/
def profReset : ParseProf := ⟨List.replicate 16 0, [1, 0, 0, 0], 0, 0, 0xFF, 0, 0⟩
def selReset : Selector := ⟨0, 0, List.replicate 8 (0, 0, 0)⟩
def State.bank (s : State) (b : Nat) : Bank := if b % 2 = 0 then s.str.bank0 else s.str.bank1
def State.setBank (s : State) (b : Nat) (x : Bank) : State :=
  if b % 2 = 0 then { s with str := { s.str with bank0 := x } } else { s with str := { s.str with bank1 := x } }
def Bank.rule (b : Bank) (i : Nat) : Rule := SMap.get b.rules i ruleNone
def Bank.setRule (b : Bank) (i : Nat) (r : Rule) : Bank := { b with rules := SMap.put b.rules i r ruleNone }
def Bank.prof (b : Bank) (i : Nat) : ParseProf := SMap.get b.profs i profReset
def Bank.sel (b : Bank) (i : Nat) : Selector := SMap.get b.sels i selReset

/-- A bank's state (R229): 0 STANDBY, 1 ACTIVE, 2 DRAINING. -/
def bankF (b : Nat) : Fld := if b % 2 = 0 then F.STR_STATUS_BANK0 else F.STR_STATUS_BANK1
def State.bankSt (s : State) (b : Nat) : Nat := s.fld (bankF b) 0
/-- DS_MAX and RESTEEP_SHARE in force (STR_CFG). -/
def State.dsMax (s : State) : Nat := max 64 (min 16000 (s.fld F.STR_CFG_DS_MAX 0))
def State.resteepShare (s : State) : Nat := max 1 (s.fld F.STR_CFG_RESTEEP_SHARE 0)

/-! Actions (R217). -/

/-- The decision of an action's four words. -/
def decisionOf (a : List Nat) : Decision :=
  let w := fun k => a.getD k 0
  { disp := bits (w 0) 2 0, cls := bits (w 0) 31 24, colour := bits (w 0) 21 20, tc := bits (w 0) 18 16,
    queue := if bit (w 1) 31 then some (bits (w 1) 14 0) else none,
    meter := if bit (w 2) 31 then some (bits (w 2) 15 0) else none,
    tblEn := bit (w 3) 31, tblKey := bits (w 3) 27 24, rq := bits (w 3) 19 16, ring := bits (w 3) 10 8 }

def decisionNone : Decision := decisionOf [0, 0, 0, 0]

/-! The window, the key and the tag (R212 to R214). -/

/-- A byte of the frame at a frame offset; past its last byte it reads 0. -/
def Frm.byte (f : Frm) (o : Nat) : Nat := if o < f.len then f.bytes.getD o 0 else 0

/-- The window of a pass runs past the frame's last byte. -/
def Frm.short (f : Frm) (strip : Nat) : Bool := decide (f.len < strip + 64)

/-- The metadata words. -/
def Frm.meta (f : Frm) (strip : Nat) : Nat → Nat
  | 0 => f.dir * 2 ^ 31 + f.pass * 2 ^ 30 + b2n (f.short strip) * 2 ^ 28 + (if f.pass = 1 then f.rq else 0) * 2 ^ 24 +
      f.group * 2 ^ 16 + f.headLen % 2 ^ 14
  | 1 => f.port * 2 ^ 16 + f.m1
  | 2 => f.options
  | _ => if f.dir = 0 then (match f.sa with | some n => 2 ^ 31 + n | none => 0) else f.keyIdx

/-- An extraction point's 32 bits. -/
def Frm.point (f : Frm) (strip p : Nat) : Nat :=
  if !bit p 7 then 0
  else if bit p 6 then f.meta strip (p % 4)
  else
    let o := strip + p % 64
    f.byte o * 2 ^ 24 + f.byte (o + 1) * 2 ^ 16 + f.byte (o + 2) * 2 ^ 8 + f.byte (o + 3)

/-- The 512-bit key: point i in bits [511 − 32i : 480 − 32i]. -/
def Frm.keyOf (f : Frm) (strip : Nat) (points : List Nat) : Nat :=
  points.foldl (fun k p => k * 2 ^ 32 + f.point strip p) 0

/-- The 8-bit tag. -/
def Frm.tagOf (f : Frm) (prof : Nat) : Nat := f.dir * 128 + f.pass * 64 + prof

/-- The first-pass profile a selector group picks (R211). -/
def Selector.pick (x : Selector) (f : Frm) : Nat :=
  let field := f.byte x.offset * 256 + f.byte (x.offset + 1)
  match x.entries.find? (fun e => bit e.2.2 7 && (field &&& e.2.1) == (e.1 &&& e.2.1)) with
  | some e => e.2.2 % 64
  | none => x.dflt

/-- The lowest-numbered rule that matches (R215). -/
def Bank.search (b : Bank) (tag key : Nat) : Option (Nat × Rule) :=
  b.rules.find? (fun p => p.2.valid && (tag &&& p.2.tagMask) == (p.2.tagValue &&& p.2.tagMask) &&
    (key &&& p.2.mask) == (p.2.value &&& p.2.mask))

/-! Rule memory errors (R222). -/

/-- Rows of a bank found uncorrectable by a search or a read: each rule becomes invalid and is reported. -/
def State.ruleMem (s : State) (b : Nat) (rows : List Nat) : State :=
  rows.foldl (fun t i =>
    let i := i % 16384
    let t1 := t.setBank b ((t.bank b).setRule i { (t.bank b).rule i with valid := false })
    (t1.raise F.STR_EVENT_RULE_MEM F.STR_EVENT_EVCNT_RULE_MEM 0).faultEvent 0x06 0x00F0
      (errLoc 0x06 (b % 2) (i / 512) (i % 512)) (b % 2) i) s

/-! Length conflicts (R231, R232). -/

/-- `len_conflict` of R231. -/
def lenConflict (p : ParseProf) (f : Frm) (strip : Nat) : Bool :=
  let l := f.len
  let be := fun o => f.byte o * 256 + f.byte (o + 1)
  let pad := max 64 p.padMax
  let h2 := strip + p.l2Off
  let a2 := l - 4 - (h2 + 2)
  let c2 := p.l2Off != 0xFF && (decide (l < h2 + 6) ||
    (decide (be h2 < 1536) && (decide (a2 < be h2) || (decide (be h2 < a2) && decide (pad < l)))))
  let h3 := strip + p.l3Off
  let a3 := l - 4 - h3
  let ihl := f.byte h3 % 16
  let t4 := be (h3 + 2)
  let c4 := p.l3Kind == 1 && (decide (l < h3 + 24) || decide (ihl < 5) || decide (t4 < 4 * ihl) || decide (a3 < t4) ||
    (decide (t4 < a3) && decide (pad < l)))
  let n6 := be (h3 + 4)
  let c6 := p.l3Kind == 2 && (decide (l < h3 + 44) ||
    (n6 != 0 && (decide (a3 < 40 + n6) || (decide (40 + n6 < a3) && decide (pad < l)))))
  c2 || c4 || c6

/-- The LEN_POLICY of the first of the passes' checks that finds a conflict. -/
def Frm.conflict (f : Frm) : Option Nat := (f.checks.find? (fun c => lenConflict c.1 f c.2)).map (fun c => c.1.policy)

/-- CLASS as TMG, the punt entry and the counters see it. -/
def Frm.cls (f : Frm) : Nat := if f.policy = 2 then 0xF1 else f.dec.cls

/-! Frames in hand. -/

/-- Replace or remove a frame in hand. -/
def State.setFrm (s : State) (f : Frm) : State :=
  { s with str := { s.str with flight := mapWhere (fun x => x.id == f.id) (fun _ => f) s.str.flight } }
def State.dropFrm (s : State) (id : Nat) : State :=
  { s with str := { s.str with flight := s.str.flight.filter (fun x => x.id != id) } }

/-- The 32-bit little-endian words of a string of bytes. -/
def packWords (b : List Nat) : List Nat :=
  (List.range ((b.length + 3) / 4)).map (fun k =>
    b.getD (4 * k) 0 + 256 * b.getD (4 * k + 1) 0 + 65536 * b.getD (4 * k + 2) 0 + 16777216 * b.getD (4 * k + 3) 0)

/-- A frame is punted (R72, R218) and leaves the walk. -/
def State.puntFrm (s : State) (f : Frm) : State :=
  (s.dropFrm f.id).punt f.dec.ring f.len f.rule f.cls f.dec.colour (f.dir * 2 ^ 31 + f.chan) f.stamp (packWords f.bytes)

/-- The length outcome of a frame whose last byte has passed (R232), then its punt if that is its decision. -/
def State.lengthOutcome (s : State) (f : Frm) : State :=
  let ev := fun (t : State) => t.raise F.STR_EVENT_LEN_CONFLICT F.STR_EVENT_EVCNT_LEN_CONFLICT 0
  match f.conflict with
  | some 0 =>
    let s1 := (ev s).satAdd F.STR_LEN_LEN_DROP 0 1
    let s2 := if f.place = 1 then s1.freeCells 2 (cellsOf f.len) else s1
    s2.dropFrm f.id
  | some _ =>
    let g : Frm := { f with checks := [], policy := 2 }
    let s1 := ((ev s).satAdd F.STR_LEN_LEN_PASS 0 1).setFrm g
    if g.place = 4 then s1.puntFrm g else s1
  | none =>
    let g : Frm := { f with checks := [] }
    let s1 := s.setFrm g
    if g.place = 4 then s1.puntFrm g else s1

/-- LENGTH_CHECK (R231, R232): the last byte of frame `id` has passed the Strainer; the checks of the passes it has made complete. -/
def execLengthCheck (id : Nat) (s : State) : Host.Outcome State Fault Refusal :=
  .next <|
    match s.str.flight.find? (fun f => f.id == id && !f.last) with
    | none => s
    | some f =>
      let g : Frm := { f with last := true, ready := s.ltb.lc }
      (s.setFrm g).lengthOutcome g

/-- A decided frame goes on (R218): FORWARD to TBL or TMG, or discarded with no queue; PUNT waits for its last byte; DROP leaves the
walk, counted where a default action gave it. -/
def State.handOn (s : State) (f : Frm) (dflt : Bool) : State :=
  match f.dec.disp with
  | 0 =>
    if f.dec.tblEn then s.setFrm { f with place := 2 }
    else if f.dec.queue.isNone then (s.dropFrm f.id).satAdd F.STR_NO_QUEUE_FRAMES 0 1
    else s.setFrm { f with place := 3, ready := s.ltb.lc }
  | 2 => s.setFrm { f with place := 4 }
  | _ =>
    let s1 := s.dropFrm f.id
    if dflt then s1.satAdd F.STR_PDROP_FRAMES f.prof 1 else s1

/-- The default action taken where a frame may not make a further pass (R226). -/
def State.depthExceeded (s : State) (f : Frm) (p : ParseProf) : State :=
  let q := f.dec.rq
  let s1 := (s.satAdd F.STR_DEPTH_DEPTH_EXCEEDED 0 1).raise F.STR_EVENT_DEPTH_EXCEEDED F.STR_EVENT_EVCNT_DEPTH_EXCEEDED 0
  let s2 := s1.perSecond (6 * 65536 + 256 + q) 1
    (fun t => t.notify 0x06 0x0001 (f.prof + q * 256 + f.dir * 2 ^ 31) f.rule)
  s2.handOn { f with dec := { decisionOf p.dflt with cls := 0xF0 }, rule := 0xFFFF } true

/-- A first-pass DISP 3 (R224): the frame joins the Resteep queue's tail, or is discarded where the queue is full or the pool empty. -/
def State.enterResteep (s : State) (f : Frm) : State :=
  let k := f.dec.rq
  if 256 ≤ s.rqDepth k ∨ s.poolFree 2 < cellsOf f.len then
    let s1 := ((s.dropFrm f.id).satAdd F.STR_DEPTH_RESTEEP_FULL 0 1).raise F.STR_EVENT_RESTEEP_FULL F.STR_EVENT_EVCNT_RESTEEP_FULL 0
    s1.perSecond (6 * 65536 + 2 * 256 + k) 1 (fun t => t.notify 0x06 0x0002 k (t.rqDepth k))
  else
    let s1 := (s.setFrm { f with place := 1, rq := k }).takeCells 2 (cellsOf f.len)
    s1.peak F.STR_RQ_DEPTH_PEAK k (s1.rqDepth k)

/-- The frame with the length check of its pass added, unless a conflict was found already. -/
def Frm.withCheck (f : Frm) (p : ParseProf) (strip : Nat) : Frm :=
  if f.policy = 0 then { f with checks := f.checks ++ [(p, strip)] } else f

/-- One pass (R213, R215, R221): profile, key and tag, search, the winning action or the default, and the hand-on. A frame whose last byte
has passed already has its check made at the pass. -/
def State.pass (s : State) (f : Frm) (profNo strip : Nat) (memErr : List Nat) : State :=
  let b := f.gen % 2
  let s0 := s.ruleMem b memErr
  let p := (s0.bank b).prof profNo
  let tag := f.tagOf profNo
  let key := f.keyOf strip p.points
  let hit := (s0.bank b).search tag key
  let s1 := match hit with
    | some (i, r) => s0.setBank b ((s0.bank b).setRule i { r with hits := (r.hits + 1) % 2 ^ 64 })
    | none => s0
  let dec := match hit with | some (_, r) => decisionOf r.action | none => decisionOf p.dflt
  let f1 : Frm := { f with
      prof := profNo, tag := tag, key := key, dec := dec,
      rule := match hit with | some (i, _) => i | none => 0xFFFF }
  let f2 := f1.withCheck p strip
  let s2 := s1.setFrm f2
  let s3 :=
    if dec.disp = 3 then
      if f.pass = 1 ∨ !(SMap.get (s2.bank b).resteep dec.rq (false, 0, 0)).1 then s2.depthExceeded f2 p
      else s2.enterResteep f2
    else s2.handOn f2 hit.isNone
  if f.last then
    match s3.str.flight.find? (fun x => x.id == f.id) with
    | some g => s3.lengthOutcome g
    | none => s3
  else s3

/-! The distributor (R209, R210, R233). -/

/-- Downstream SDUs at the head that the size check discards (R233). -/
def State.sizeCheck (s : State) : Nat → State
  | 0 => s
  | n + 1 =>
    match s.dsf.out with
    | [] => s
    | u :: rest =>
      let t : State := { s with dsf := { s.dsf with out := rest } }
      if u.bytes < 64 then (t.satAdd F.STR_SIZE_DROP_UNDERSIZE 0 1).sizeCheck n
      else if s.dsMax < u.bytes then (t.satAdd F.STR_SIZE_DROP_OVERSIZE 0 1).sizeCheck n
      else s

/-- The frame a downstream SDU is (R124, R214, R257). -/
def sduFrm (u : Sdu) (id gen : Nat) (bytes : List Nat) : Frm :=
  { id := id, dir := 1, inj := false, src := u.entry, m1 := u.entry, chan := u.chan, port := u.port, options := u.options,
    keyIdx := u.keyIdx, sa := none, bytes := bytes.take u.bytes, headLen := u.bytes, len := u.bytes, stamp := u.stamp, gen := gen,
    group := 0, pass := 0, place := 0, rq := 0, prof := 0, tag := 0, key := 0, rule := 0xFFFF, dec := decisionNone, checks := [],
    policy := 0, last := false, errored := false, ready := 0 }

/-- Start a first pass: sequence number, generation, selector group and profile (R210, R211, R228). -/
def State.firstPass (s : State) (f : Frm) (memErr : List Nat) : State :=
  let g := s.gen
  let b := s.bank g
  let grp := if f.dir = 0 then SMap.get b.ingressUp f.src 0 else SMap.get b.ingressDown f.src 0
  let f1 : Frm := { f with id := s.str.nextId, gen := g, group := grp, pass := 0 }
  let s1 : State := { s with str := { s.str with nextId := s.str.nextId + 1, flight := s.str.flight ++ [f1] } }
  let s2 := s1.satAdd (if f.dir = 0 then F.STR_PKTS_US_COUNT else F.STR_PKTS_DS_COUNT) 0 1
  s2.pass f1 ((b.sel grp).pick f1) 0 memErr

/-- The Resteep queue whose turn it is. -/
def State.nextRq (s : State) : Option Nat :=
  ((List.range 16).map (fun i => (s.str.rrRq + i) % 16)).find? (fun k => s.str.flight.any (fun f => f.place == 1 && f.rq == k))

/-- A second pass of the front frame of a Resteep queue (R210, R225): it takes a new place in the order; its queue's definition is that of
its generation. -/
def State.secondPass (s : State) (k : Nat) (memErr : List Nat) : State :=
  match pullFirst (fun f => f.place == 1 && f.rq == k) s.str.flight with
  | none => s
  | some (f, rest) =>
    let d := SMap.get (s.bank f.gen).resteep k (false, 0, 0)
    let f1 : Frm := { f with pass := 1, place := 0 }
    let s1 : State := { s with str := { s.str with flight := rest ++ [f1], rrRq := (k + 1) % 16 } }
    ((s1.freeCells 2 (cellsOf f.len)).satAdd F.STR_PASS2_COUNT 0 1).pass f1 d.2.2 d.2.1 memErr

/-- Remember whether a Resteep queue took the slot. -/
def State.tookSlot (s : State) (r : Bool) : State := { s with str := { s.str with slots := (r :: s.str.slots).take 16 } }

/-- Source `i` of R209 has a frame waiting: 0 downstream, 1 upstream, 2 inject. -/
def State.srcWaits (s : State) (i : Nat) : Bool :=
  match i with
  | 0 => !s.dsf.out.isEmpty
  | 1 => !s.str.up.isEmpty
  | _ => !s.str.inj.isEmpty

/-- Take the first frame of a source. -/
def State.takeSrc (s : State) (i : Nat) (bytes : List Nat) : Option (Frm × State) :=
  match i with
  | 0 => match s.dsf.out with
    | u :: rest => some (sduFrm u 0 0 bytes, { s with dsf := { s.dsf with out := rest } })
    | [] => none
  | 1 => match s.str.up with
    | f :: rest => some (f, { s with str := { s.str with up := rest } })
    | [] => none
  | _ => match s.str.inj with
    | f :: rest => some (f, { s with str := { s.str with inj := rest } })
    | [] => none

/-- STRAINER_PASS (R209, R221): one distributor slot, filled in the order of R209, and the pass of the frame that fills it. `bytes` is
the content of the SDU where a downstream one does; `memErr` the rule rows the search finds uncorrectable. -/
def execStrainerPass (bytes memErr : List Nat) (s : State) : Host.Outcome State Fault Refusal :=
  .next <|
    let s0 := s.sizeCheck s.dsf.out.length
    let share := decide ((s0.str.slots.filter id).length < s0.resteepShare)
    let src := ((List.range 3).map (fun i => (s0.str.rrSrc + i) % 3)).find? (fun i => s0.srcWaits i)
    match s0.nextRq, src with
    | none, none => s0.tookSlot false
    | some k, none => (s0.tookSlot true).secondPass k memErr
    | rq, some i =>
      match rq, share with
      | some k, true => (s0.tookSlot true).secondPass k memErr
      | _, _ =>
        match s0.takeSrc i bytes with
        | none => s0
        | some (f, s1) =>
          let s2 := s1.tookSlot false
          State.firstPass { s2 with str := { s2.str with rrSrc := (i + 1) % 3 } } f memErr

/-! Records (R211, R216, R217, R223, R236). -/

/-- Byte k of a command's buffer. -/
def bufByte (d : Desc) (k : Nat) : Nat := d.word (k / 4) / 256 ^ (k % 4) % 256

/-- Bytes k to k + n − 1 of the buffer. -/
def bufBytes (d : Desc) (k n : Nat) : List Nat := (List.range n).map (fun i => bufByte d (k + i))


/-- The lowest byte number among the offences found. -/
def lowest (l : List (Option Nat)) : Option Nat :=
  l.foldl (fun best x => match best, x with | some a, some b => some (min a b) | none, x => x | a, none => a) none

/-- The first non-zero byte in a range of a record. -/
def nonZero (r : List Nat) (a n : Nat) : Option Nat := ((List.range n).map (fun i => a + i)).find? (fun k => r.getD k 0 != 0)

/-- An offence at byte k where the test holds. -/
def badIf (k : Nat) (b : Bool) : Option Nat := if b then some k else none

/-- The four words of an action at byte o of a record. -/
def actionAt (r : List Nat) (o : Nat) : List Nat := (List.range 4).map (fun k => leNum ((r.drop (o + 4 * k)).take 4))

/-- A byte of word w (at o + 4 k) holds a bit outside the mask. -/
def strayByte (r : List Nat) (o : Nat) (mask : Nat) : Option Nat :=
  ((List.range 4).map (fun i => o + i)).find? (fun k => r.getD k 0 != (r.getD k 0 &&& (mask / 256 ^ (k - o) % 256)))

/-- What breaks R217 in the action at byte o: reserved bits, CLASS 0xF0 or above, COLOUR 0b11, DISP 4 or above, DISP 3 in a default
action, QUEUE above 8,191 where that is barred. -/
def badAction (r : List Nat) (o : Nat) (isDefault small : Bool) : Option Nat :=
  let w := actionAt r o
  let a := fun k => w.getD k 0
  lowest [strayByte r o 0xFF370007, strayByte r (o + 4) 0x80007FFF, strayByte r (o + 8) 0x8000FFFF, strayByte r (o + 12) 0x8F0F0700,
    badIf (o + 3) (decide (0xF0 ≤ bits (a 0) 31 24)), badIf (o + 2) (bits (a 0) 21 20 == 3),
    badIf o (decide (4 ≤ bits (a 0) 2 0) || (isDefault && bits (a 0) 2 0 == 3)),
    badIf (o + 4) (small && decide (8191 < bits (a 1) 14 0))]

/-- What breaks R216 in a rule record. -/
def badRule (r : List Nat) : Option Nat :=
  lowest [badIf 130 (r.getD 130 0 / 2 != 0), nonZero r 131 5,
    badAction r 144 false (!bit (r.getD 129 0) 7 || bit (r.getD 128 0) 7)]

/-- What breaks R223 in a profile record: an offset in use out of range, a reserved byte, an undefined L3_KIND or PAD_MAX. -/
def badProf (r : List Nat) : Option Nat :=
  let kind := r.getD 32 0
  lowest ((List.range 16).map (fun i =>
      let p := r.getD i 0
      badIf i (bit p 7 && decide ((if bit p 6 then 3 else 60) < p % 64))) ++
    [badAction r 16 true false, badIf 32 (decide (2 < kind)),
     badIf 33 (kind != 0 && decide ((if kind = 1 then 60 else 58) < r.getD 33 0)),
     badIf 34 (r.getD 34 0 != 0xFF && decide (62 < r.getD 34 0)),
     badIf 35 (r.getD 35 0 / 2 != 0),
     badIf 36 (r.getD 36 0 != 0 && (decide (r.getD 36 0 < 64) || decide (128 < r.getD 36 0))), nonZero r 37 27])

/-- What breaks R211 in a selector group record. -/
def badSel (r : List Nat) : Option Nat :=
  lowest ([badIf 0 (r.getD 0 0 % 2 != 0 || decide (62 < r.getD 0 0)), badIf 1 (decide (63 < r.getD 1 0)), nonZero r 2 14] ++
    ((List.range 8).map (fun e => [badIf (20 + 6 * e) (bit (r.getD (20 + 6 * e) 0) 6), nonZero r (21 + 6 * e) 1])).flatten)

/-- The rule a record gives; its hit count starts at 0. -/
def ruleOf (r : List Nat) : Rule :=
  ⟨beNum (r.take 64), beNum ((r.drop 64).take 64), r.getD 128 0, r.getD 129 0, bit (r.getD 130 0) 0, 0, actionAt r 144⟩

/-- The parse profile a record gives. -/
def profOf (r : List Nat) : ParseProf :=
  ⟨r.take 16, actionAt r 16, r.getD 32 0, r.getD 33 0, r.getD 34 0, r.getD 35 0 % 2, r.getD 36 0⟩

/-- The selector group a record gives. -/
def selOf (r : List Nat) : Selector :=
  ⟨r.getD 0 0, r.getD 1 0 % 64, (List.range 8).map (fun e => (be16 r (16 + 6 * e), be16 r (18 + 6 * e), r.getD (20 + 6 * e) 0))⟩

/-- The big-endian bytes of a number. -/
def beBytes (n v : Nat) : List Nat := (leBytes n v).reverse

/-- The record a rule reads as. -/
def Rule.record (r : Rule) : List Nat :=
  beBytes 64 r.value ++ beBytes 64 r.mask ++ [r.tagValue, r.tagMask, b2n r.valid, 0, 0, 0, 0, 0] ++ leBytes 8 r.hits ++
    (r.action.map (leBytes 4)).flatten

/-! Commands (R235 to R237). -/

/-- A refusal on a bank outside STANDBY: with state 2 while either bank drains, since neither is then STANDBY (R235). -/
def State.bankRefused (s : State) (d : Desc) (b : Nat) : State :=
  s.refuse d stStateRefused (refusedWord 0x30 b (if s.bankSt 0 = 2 ∨ s.bankSt 1 = 2 then 2 else s.bankSt b))

/-- A refusal on the first record that breaks its layout. -/
def State.badRecord (s : State) (d : Desc) (rec byte : Nat) : State :=
  ((s.setFld F.STR_BAD_RECORD_RECORD 0 rec).setFld F.STR_BAD_RECORD_BYTE 0 byte).refuse d stBadArg 2

/-- The first offending record of n of the given size, with the offending byte. -/
def firstBad (d : Desc) (n size : Nat) (bad : List Nat → Option Nat) : Option (Nat × Nat) :=
  (List.range n).findSome? (fun i => (bad (bufBytes d (i * size) size)).map (fun b => (i, b)))

/-- The checks RULE_WRITE and RULE_READ share: BUF, range, count. 0 where they pass. -/
def ruleArgs (d : Desc) : Nat :=
  let n := bits (d.dw 7) 14 0
  if !d.buf then 4
  else if d.bufLen < n * 160 then 4
  else if n = 0 ∨ 16384 < bits (d.dw 6) 13 0 + n then 6
  else 0

/-- RULE_WRITE (R235 to R237). -/
def execRuleWrite (d : Desc) (s : State) : Host.Outcome State Fault Refusal :=
  .next <| s.asCommand d 0x1801 true <|
    let b := d.dw 5 % 2
    let first := bits (d.dw 6) 13 0
    let n := bits (d.dw 7) 14 0
    if ruleArgs d ≠ 0 then s.refuse d stBadArg (ruleArgs d)
    else match firstBad d n 160 badRule with
      | some (i, k) => s.badRecord d i k
      | none =>
        if s.bankSt b ≠ 0 then s.bankRefused d b
        else
          (s.setBank b ((List.range n).foldl (fun x i => x.setRule (first + i) (ruleOf (bufBytes d (i * 160) 160))) (s.bank b))).finish
            d stOk n

/-- RULE_READ (R235): executes in every bank state; the rows it finds uncorrectable are reported and read VALID 0. -/
def execRuleRead (d : Desc) (memErr : List Nat) (s : State) : Host.Outcome State Fault Refusal :=
  .next <| s.asCommand d 0x1802 true <|
    let b := d.dw 5 % 2
    let first := bits (d.dw 6) 13 0
    let n := bits (d.dw 7) 14 0
    if ruleArgs d ≠ 0 then s.refuse d stBadArg (ruleArgs d)
    else
      let s1 := s.ruleMem b (memErr.filter (fun i => decide (first ≤ i ∧ i < first + n)))
      (s1.toBuf d (packWords ((List.range n).map (fun i => ((s1.bank b).rule (first + i)).record)).flatten)).finish d stOk n

/-- RULE_COPY (R235, R237): the active bank's whole content with hit counts at 0. -/
def execRuleCopy (d : Desc) (memErr : List Nat) (s : State) : Host.Outcome State Fault Refusal :=
  .next <| s.asCommand d 0x1803 true <|
    let a := s.gen % 2
    let b := 1 - a
    if s.bankSt b ≠ 0 then s.bankRefused d b
    else
      let s1 := s.ruleMem a memErr
      let x := s1.bank a
      (s1.setBank b { x with rules := x.rules.map (fun p => (p.1, { p.2 with hits := 0 })) }).finish d stOk b

/-- RULE_SWAP (R229, R235, R237): accepted while the bank that is not active is STANDBY. With no frame of the old generation unfinished it completes at
once; else the old bank drains. -/
def execRuleSwap (d : Desc) (s : State) : Host.Outcome State Fault Refusal :=
  .next <| s.asCommand d 0x1804 true <|
    let a := s.gen % 2
    let b := 1 - a
    if s.bankSt b ≠ 0 then s.bankRefused d b
    else
      let s1 := (s.setFld F.STR_STATUS_GEN 0 (s.gen + 1)).setFld (bankF b) 0 1
      if s1.unfinished = 0 then (s1.setFld (bankF a) 0 0).finish d stOk (s1.gen)
      else
        let s2 := s1.setFld (bankF a) 0 2
        { s2 with str := { s2.str with swap := some d, swapLc := s.ltb.lc } }

/-- DRAIN_END (R229): DRAIN is 0; the old bank is STANDBY, and the swap's record is committed and its completion posted. -/
def execDrainEnd (s : State) : Host.Outcome State Fault Refusal :=
  .next <|
    match s.str.swap with
    | none => s
    | some d =>
      if s.unfinished ≠ 0 then s
      else
        let s1 := s.setFld (bankF (1 - s.gen % 2)) 0 0
        let s2 : State := { s1 with str := { s1.str with swap := none } }
        s2.finish d stOk (min (s.ltb.lc - s.str.swapLc) 0xFFFFFF * 256 + s.gen)

/-- PROFILE_SET (R223, R235 to R237). -/
def execProfileSet (d : Desc) (s : State) : Host.Outcome State Fault Refusal :=
  .next <| s.asCommand d 0x1805 true <|
    let b := d.dw 5 % 2
    if !d.buf ∨ d.bufLen < 64 then s.refuse d stBadArg 4
    else match badProf (bufBytes d 0 64) with
      | some k => s.badRecord d 0 k
      | none =>
        if s.bankSt b ≠ 0 then s.bankRefused d b
        else (s.setBank b { s.bank b with profs := SMap.put (s.bank b).profs (d.dw 6 % 64) (profOf (bufBytes d 0 64)) profReset }).finish
          d stOk 0

/-- SELECTOR_SET (R211, R235 to R237). -/
def execSelectorSet (d : Desc) (s : State) : Host.Outcome State Fault Refusal :=
  .next <| s.asCommand d 0x1806 true <|
    let b := d.dw 5 % 2
    if !d.buf ∨ d.bufLen < 64 then s.refuse d stBadArg 4
    else match badSel (bufBytes d 0 64) with
      | some k => s.badRecord d 0 k
      | none =>
        if s.bankSt b ≠ 0 then s.bankRefused d b
        else (s.setBank b { s.bank b with sels := SMap.put (s.bank b).sels (d.dw 6 % 32) (selOf (bufBytes d 0 64)) selReset }).finish
          d stOk 0

/-- INGRESS_MAP (R211, R235 to R237). -/
def execIngressMap (d : Desc) (s : State) : Host.Outcome State Fault Refusal :=
  .next <| s.asCommand d 0x1807 true <|
    let b := d.dw 5 % 2
    let down := bit (d.dw 5) 8
    let first := bits (d.dw 6) 14 0
    let n := bits (d.dw 7) 14 0
    let g := d.dw 8 % 32
    if n = 0 ∨ (if down then 16385 else 5) < first + n then s.refuse d stBadArg 6
    else if s.bankSt b ≠ 0 then s.bankRefused d b
    else
      let x := s.bank b
      let fill := fun (m : SMap Nat) => (List.range n).foldl (fun m i => SMap.put m (first + i) g 0) m
      (s.setBank b (if down then { x with ingressDown := fill x.ingressDown } else { x with ingressUp := fill x.ingressUp })).finish
        d stOk n

/-- RESTEEP_SET (R224, R235 to R237). -/
def execResteepSet (d : Desc) (s : State) : Host.Outcome State Fault Refusal :=
  .next <| s.asCommand d 0x1808 true <|
    let b := d.dw 5 % 2
    let en := bit (d.dw 6) 8
    let strip := d.dw 7 % 256
    if en ∧ strip = 0 then s.refuse d stBadArg 7
    else if s.bankSt b ≠ 0 then s.bankRefused d b
    else
      (s.setBank b { s.bank b with
        resteep := SMap.put (s.bank b).resteep (d.dw 6 % 16) (en, strip, bits (d.dw 7) 13 8) (false, 0, 0) }).finish d stOk 0

end Sys2Proof.Machine
end

