-- ==== Sys2Proof/Machine/Cph.lean ====
section
/-!
DEFINITION. Sys2Proof/Machine/Cph.lean: MACsec protection and verification (R371 to R377), key import and the PN floor (R378 to R380),
the hardware key exchange (R366, R369) and the CPH and CDY commands (R381, R382).
-/
namespace Sys2Proof.Machine

/-! SAs (R371, R372, R374, R379). -/

/-- The last PN of a suite: 32 bits for GCM-AES, 64 for XPN. -/
def lastPn (suite : Nat) : Nat := if suite < 2 then 2 ^ 32 - 1 else 2 ^ 64 - 1

/-- Reserve the block of 65,536 PNs that the PN lies in from the Caddy: the slot's floor is the end of the latest block reserved (R379). -/
def State.reservePn (s : State) (n : Nat) : State :=
  let x := s.sa n
  let e := min (lastPn x.suite + 1) ((x.pn / 65536 + 1) * 65536)
  let e2 := if e - x.pn ≤ 16384 then min (lastPn x.suite + 1) (e + 65536) else e
  let top := max x.reserved e2
  let k := s.slot x.slot
  (s.setSa n { x with reserved := top }).setSlot x.slot { k with floor := max k.floor top }

/-- The warning exponent in force for a suite (CPH_CFG). -/
def State.warnExp (s : State) (suite : Nat) : Nat := if suite < 2 then s.fld F.CPH_CFG_WARN32 0 else s.fld F.CPH_CFG_WARN64 0

/-- PN_EXHAUSTED (R374, R383). -/
def State.pnExhausted (s : State) (n : Nat) : State :=
  (s.raise F.CPH_EVENT_PN_EXHAUSTED F.CPH_EVENT_EVCNT_PN_EXHAUSTED 0).notify 0x0B 0x0002 n 0

/-- A frame of `len` bytes takes a transmit SA's next PN (R374, R379): the last PN moves the SA to EXHAUSTED; PN_WARN once per SA. -/
def State.takePn (s : State) (n len : Nat) : State :=
  let x := s.sa n
  let last := lastPn x.suite
  let y : Sa := { x with frames := x.frames + 1, octets := x.octets + len }
  if last ≤ x.pn then (s.setSa n { y with st := 3 }).pnExhausted n
  else
    let left := last - (x.pn + 1)
    let warn := !x.warned && decide (left < 2 ^ s.warnExp x.suite)
    let s1 := s.setSa n { y with pn := x.pn + 1, warned := x.warned || warn }
    let s2 := if (s1.sa n).reserved ≤ (s1.sa n).pn + 16384 then s1.reservePn n else s1
    if warn then (s2.raise F.CPH_EVENT_PN_WARN F.CPH_EVENT_EVCNT_PN_WARN 0).notify 0x0B 0x0001 n (left % 2 ^ 32) else s2

/-- An EtherType is named in CPH_Pp_BYPASS; 0 names none. -/
def State.bypassed (s : State) (p ety : Nat) : Bool :=
  ety != 0 && (s.fld F.CPH_P_BYPASS_ETYPE0 p == ety || s.fld F.CPH_P_BYPASS_ETYPE1 p == ety)

/-- MACSEC_PROTECT (R373): the wire length of a downstream frame after protection, or none where it is discarded. -/
def State.macsecProtect (s : State) (p ety len : Nat) : Option Nat × State :=
  if s.fld F.CPH_P_CFG_PROTECT p = 0 ∨ s.bypassed p ety then (some len, s)
  else
    let n := s.fld F.CPH_P_TXSA_SA p
    let x := s.sa n
    if s.fld F.CPH_P_TXSA_VALID p = 0 ∨ x.failed then (none, s.satAdd F.CPH_P_TX_COUNT_NO_SA p 1)
    else if x.st = 3 then
      (none, (s.setSa n { x with discards := x.discards + 1 }).satAdd F.CPH_P_TX_COUNT_PN_DROP p 1)
    else if x.st ≠ 2 then (none, s.satAdd F.CPH_P_TX_COUNT_NO_SA p 1)
    else (some (len + 24 + 8 * s.fld F.CPH_P_CFG_TX_SCI p), s.takePn n len)

/-- The receive SA of a port, SCI and AN that is READY or EXHAUSTED and whose key CPH holds. -/
def State.rxSa (s : State) (p sci an : Nat) : Option (Nat × Sa) :=
  s.cph.sas.find? (fun q => q.2.dir == 0 && q.2.port == p && q.2.sci == sci && q.2.an == an && (q.2.st == 1 || q.2.st == 3) && !q.2.failed)

/-- The lowest acceptable PN of a receive SA (R375). -/
def Sa.lowestPn (x : Sa) : Nat := max x.lowest (x.pn - x.window)

/-- A discard counted against a receive SA. -/
def State.saDiscard (s : State) (n : Nat) : State := s.setSa n { s.sa n with discards := (s.sa n).discards + 1 }

/-- The bytes of a frame with its FCS, the last four, inverted: a forced bad FCS (R376). -/
def badFcs (l : List Nat) : List Nat := l.take (l.length - 4) ++ (l.drop (l.length - 4)).map (fun b => 255 - b % 256)

/-- A frame verifies under a receive SA: its highest verified PN and counts advance; the last PN exhausts it (R372, R375). -/
def State.saVerified (s : State) (n pn len : Nat) : State :=
  let x := s.sa n
  s.setSa n { x with pn := max x.pn pn, frames := x.frames + 1, octets := x.octets + len, st := if pn = lastPn x.suite then 3 else x.st }

/-- MACSEC_VERIFY (R375 to R377): a frame received on port p goes to the Strainer as the frame given, or is discarded. -/
def State.macsecVerify (s : State) (p : Nat) (f : Frm) (tag : SecTag) : Option Frm × State :=
  let v := s.fld F.CPH_P_CFG_VALIDATE p
  let ety := be16 f.bytes 12
  if v = 0 then (some f, s)
  else if ety ≠ 0x88E5 then
    if v = 1 then (some f, s.satAdd F.CPH_P_RX_COUNT2_UNTAGGED p 1)
    else if s.bypassed p ety then (some f, s)
    else (none, s.satAdd F.CPH_P_RX_COUNT2_UNTAGGED p 1)
  else if !tag.wellFormed then (none, s.satAdd F.CPH_P_RX_COUNT2_BAD_TAG p 1)
  else match s.rxSa p tag.sci tag.an with
    | none => (none, s.satAdd F.CPH_P_RX_COUNT_NO_SA p 1)
    | some (n, x) =>
      if x.st = 3 ∨ (x.replay ∧ tag.pn < x.lowestPn) then (none, (s.saDiscard n).satAdd F.CPH_P_RX_COUNT_REPLAY p 1)
      else
        let g : Frm := { f with bytes := tag.plain, len := tag.plain.length, sa := some n }
        if x.storeVerify then
          if s.poolFree 0 < cellsOf f.len then (none, (s.saDiscard n).satAdd F.CPH_P_RX_COUNT2_SV_NO_BUFFER p 1)
          else if tag.icvOk then (some g, s.saVerified n tag.pn g.len)
          else (none, (s.saDiscard n).satAdd F.CPH_P_RX_COUNT_ICV_FAIL p 1)
        else if tag.icvOk then (some g, s.saVerified n tag.pn g.len)
        else
          (some { g with errored := true, bytes := badFcs g.bytes }, ((s.saDiscard n).satAdd F.CPH_P_RX_COUNT_CUT_FAIL p 1).raise F.CPH_EVENT_CUT_FAIL
            F.CPH_EVENT_EVCNT_CUT_FAIL 0)

/-! Transfers when the CPH domain wakes and after a main-die reset (R364). -/

/-- Every bound slot's key is transferred again; `fails` lists the slots whose transfer does not succeed. -/
def State.reloadKeys (s : State) (fails : SMap KeyFetch) : State :=
  let s1 := s.cph.sas.foldl (fun t p =>
    let (ok, u) := t.fetchKey p.2.slot (SMap.get fails p.2.slot .ok)
    if (u.sa p.1).st = 0 then u else u.setSa p.1 { u.sa p.1 with failed := !ok }) s
  (List.range 16).foldl (fun t n =>
    if (t.slot n).st = 0 then t
    else
      let (ok, u) := t.fetchKey n (SMap.get fails n .ok)
      if (u.slot n).st = 0 then u else u.setPonKey n { u.ponKey n with failed := !ok }) s1

/-! SA commands (R381, R382). -/

/-- Key length in bits that a suite needs: true 256. -/
def suiteLong (suite : Nat) : Bool := suite % 2 == 1

/-- The state field of a refusal on an SA or a slot: its number in [15:4], its state in [3:0]. -/
def numState (n st : Nat) : Nat := n * 16 + st

/-- A host port does not exist on this part (R3). -/
def State.noPort (s : State) (p : Nat) : Bool := s.hif.part == .lk9520 && p != 0

/-- SA_ENABLE: SA_SET with EN 1 (R372, R380 to R382). `fetch` is how the transfer of the key ends (R364). -/
def execSaEnable (d : Desc) (fetch : KeyFetch) (s : State) : Host.Outcome State Fault Refusal :=
  .next <| s.asCommand d 0x2C01 (bit (d.dw 5) 31) <|
    let n := bits (d.dw 5) 8 0
    let dir := bits (d.dw 5) 30 30
    let suite := bits (d.dw 5) 27 26
    let an := bits (d.dw 5) 25 24
    let port := bits (d.dw 5) 21 20
    let slot := bits (d.dw 6) 11 0
    let off := bits (d.dw 6) 23 16
    let sci := d.dw 8 * 2 ^ 32 + d.dw 7
    let pn := d.dw 10 * 2 ^ 32 + d.dw 9
    let k := s.slot slot
    if s.noPort port then s.refuse d stBadArg 5
    else if slot < 0x080 ∨ k.st = 0 ∨ k.long ≠ suiteLong suite ∨ (off ≠ 0 ∧ off ≠ 30 ∧ off ≠ 50) then s.refuse d stBadArg 6
    else if dir = 0 ∧ s.cph.sas.any (fun q => q.1 != n && q.2.st != 0 && q.2.dir == 0 && q.2.port == port && q.2.sci == sci &&
        q.2.an == an) then s.refuse d stBadArg 7
    else if (s.sa n).st ≠ 0 then s.refuse d stStateRefused (refusedWord 0x61 0 (numState n (s.sa n).st))
    else if dir = 1 ∧ pn < k.floor then s.refuse d stStateRefused (refusedWord 0x63 0 0)
    else
      let x : Sa := {
        st := 1, dir := dir, conf := bits (d.dw 5) 29 29, storeVerify := bit (d.dw 5) 28, suite := suite, an := an,
        port := port, slot := slot, confOff := off, sci := sci, pn := if dir = 1 then pn else 0, lowest := if dir = 0 then pn else 0,
        ssci := d.dw 11, window := d.dw 12, replay := bit (d.dw 13) 0, failed := false, warned := false, reserved := 0, frames := 0,
        octets := 0, discards := 0 }
      let s1 := (s.setSa n x).setSlot slot { k with st := 2 }
      let s2 := if dir = 1 then s1.reservePn n else s1
      let (ok, s3) := s2.fetchKey slot fetch
      let s4 := if ok ∨ (s3.sa n).st = 0 then s3 else s3.setSa n { s3.sa n with failed := true }
      s4.finish d stOk (s4.sa n).st

/-- SA_DISABLE: SA_SET with EN 0 (R372, R382). -/
def execSaDisable (d : Desc) (s : State) : Host.Outcome State Fault Refusal :=
  .next <| s.asCommand d 0x2C01 (!bit (d.dw 5) 31) <|
    let n := bits (d.dw 5) 8 0
    let x := s.sa n
    if x.st = 2 then s.refuse d stStateRefused (refusedWord 0x61 0 (numState n 2))
    else
      let s1 := if x.st = 3 ∧ x.dir = 1 ∧ s.fld F.CPH_P_TXSA_SA x.port = n then s.setFld F.CPH_P_TXSA_VALID x.port 0 else s
      (s1.saToOff n).finish d stOk 0

/-- The 64-byte record of SA_READ. -/
def Sa.words (x : Sa) : List Nat :=
  [x.st + x.dir * 16 + x.port * 32 + x.an * 128, x.slot, x.pn % 2 ^ 32, x.pn / 2 ^ 32, x.frames % 2 ^ 32, x.frames / 2 ^ 32,
   x.octets % 2 ^ 32, x.octets / 2 ^ 32, x.discards % 2 ^ 32, x.discards / 2 ^ 32, 0, 0, 0, 0, 0, 0]

/-- SA_READ (R381, R382). -/
def execSaRead (d : Desc) (s : State) : Host.Outcome State Fault Refusal :=
  .next <| s.asCommand d 0x2C02 true <|
    let first := bits (d.dw 5) 8 0
    let n := bits (d.dw 6) 9 0
    if !d.buf ∨ d.bufLen < n * 64 then s.refuse d stBadArg 4
    else if n = 0 ∨ 512 < first + n then s.refuse d stBadArg 6
    else (s.toBuf d ((List.range n).map (fun i => (s.sa (first + i)).words)).flatten).finish d stOk n

/-- TX_SA_SELECT (R372, R381, R382). -/
def execTxSaSelect (d : Desc) (s : State) : Host.Outcome State Fault Refusal :=
  .next <| s.asCommand d 0x2C03 true <|
    let p := bits (d.dw 5) 21 20
    let n := bits (d.dw 5) 8 0
    let x := s.sa n
    if s.noPort p then s.refuse d stBadArg 5
    else if x.st ≠ 1 ∨ x.dir ≠ 1 ∨ x.port ≠ p then s.refuse d stStateRefused (refusedWord 0x61 0 (numState n x.st))
    else
      let had := s.fld F.CPH_P_TXSA_VALID p == 1
      let old := s.fld F.CPH_P_TXSA_SA p
      let s1 := if had && (s.sa old).st == 2 then s.setSa old { s.sa old with st := 1 } else s
      let s2 := s1.setSa n { x with st := 2 }
      ((s2.setFld F.CPH_P_TXSA_VALID p 1).setFld F.CPH_P_TXSA_SA p n).finish d stOk (if had then old else 0xFFFFFFFF)

/-- PORT_KEY_SET (R368, R381). -/
def execPortKeySet (d : Desc) (s : State) : Host.Outcome State Fault Refusal :=
  .next <| s.asCommand d 0x2C04 true <|
    let first := bits (d.dw 5) 13 0
    let n := bits (d.dw 6) 14 0
    if n = 0 ∨ 16384 < first + n then s.refuse d stBadArg 6
    else
      let ports := (List.range n).foldl (fun m i => SMap.put m (first + i) (d.dw 7 % 8) 0) s.cph.ports
      State.finish { s with cph := { s.cph with ports := ports } } d stOk n

/-! Key commands (R378, R381, R382). -/

/-- Bytes of the wrapped key (R378). -/
def wrappedLen (target : Nat) (long salt : Bool) : Nat :=
  8 + (if long then 32 else 16) + (if salt && decide (0x080 ≤ target) then 16 else 0)

/-- The wrapping slot matches the target: the DIK for a KEK, a host KEK for an SAK (R378). -/
def wrapMatches (target wrap : Nat) : Bool :=
  if target < 0x080 then wrap == 0x040 else decide (0x041 ≤ wrap ∧ wrap ≤ 0x07F)

/-- KEY_IMPORT (R378, R382). `plain` is what the unwrap gives, key and salt; none where its integrity check fails. -/
def execKeyImport (d : Desc) (plain : Option (Nat × Nat)) (s : State) : Host.Outcome State Fault Refusal :=
  .next <| s.asCommand d 0x4401 true <|
    let t := bits (d.dw 5) 11 0
    let w := bits (d.dw 6) 11 0
    let long := bit (d.dw 7) 0
    let salt := bit (d.dw 7) 1
    if w = 0xFFF ∨ t < 0x041 then s.refuse d stKeyProtected 0
    else if !d.buf ∨ d.bufLen < wrappedLen t long salt then s.refuse d stBadArg 4
    else if !wrapMatches t w then s.refuse d stBadArg 6
    else if (s.slot t).st ≠ 0 then s.refuse d stStateRefused (refusedWord 0x60 0 (numState t (s.slot t).st))
    else if (s.slot w).st = 0 then s.refuse d stStateRefused (refusedWord 0x60 0 (numState w 0))
    else match plain with
      | none => (s.raise F.CDY_EVENT_UNWRAP_FAIL F.CDY_EVENT_EVCNT_UNWRAP_FAIL 0).refuse d stBadArg 2
      | some (k, sl) =>
        (s.setSlot t ⟨1, k % 2 ^ (if long then 256 else 128), long,
          if salt && decide (0x080 ≤ t) then some (sl % 2 ^ 96) else none, 0⟩).finish d stOk 0

/-- KEY_ERASE (R381, R382): one slot, or every slot from 0x041 on. -/
def execKeyErase (d : Desc) (s : State) : Host.Outcome State Fault Refusal :=
  .next <| s.asCommand d 0x4402 true <|
    if bit (d.dw 5) 31 then
      match s.cdy.find? (fun p => decide (0x041 ≤ p.1) && p.2.st == 2) with
      | some p => s.refuse d stStateRefused (refusedWord 0x60 0 (numState p.1 2))
      | none =>
        let gone := s.cdy.filter (fun p => decide (0x041 ≤ p.1))
        State.finish { s with cdy := s.cdy.filter (fun p => decide (p.1 < 0x041)) } d stOk
          (gone.filter (fun p => p.2.st != 0)).length
    else
      let n := bits (d.dw 5) 11 0
      if n < 0x041 then s.refuse d stKeyProtected 0
      else if (s.slot n).st = 2 then s.refuse d stStateRefused (refusedWord 0x60 0 (numState n 2))
      else (s.setSlot n slotEmpty).finish d stOk (b2n ((s.slot n).st != 0))

/-- The 16-byte record of KEY_QUERY; the check value of an EMPTY slot is 0. -/
def State.slotWords (s : State) (n : Nat) : List Nat :=
  let k := s.slot n
  [k.st + slotUsage n * 16 + b2n k.long * 256 + b2n k.salt.isSome * 512 +
    (if k.st = 0 then 0 else Config.keyCheck k.key (if k.long then 256 else 128) / 2 ^ 112 % 2 ^ 16) * 65536,
   0, k.floor % 2 ^ 32, k.floor / 2 ^ 32]

/-- KEY_QUERY (R381, R382). -/
def execKeyQuery (d : Desc) (s : State) : Host.Outcome State Fault Refusal :=
  .next <| s.asCommand d 0x4403 true <|
    let first := bits (d.dw 5) 11 0
    let n := bits (d.dw 6) 12 0
    if !d.buf ∨ d.bufLen < n * 16 then s.refuse d stBadArg 4
    else if n = 0 ∨ 4096 < first + n then s.refuse d stBadArg 6
    else (s.toBuf d ((List.range n).map (fun i => s.slotWords (first + i))).flatten).finish d stOk n

/-! The hardware key exchange (R366, R369, R370). -/

/-- LIFE in frames: 0 is treated as 1 unit of 256. -/
def State.keyLife (s : State) : Nat := max 1 (s.fld F.CPH_PON_LIFE_LIFE 0) * 256

/-- KEY_REQUEST (R366, R370): the head end's request for channel c and index i, to be used from the superframe `frame`. The Caddy draws a new key (its value is
free), or refuses it: KEK slot EMPTY, or the lifetime would reach 2^51. A refusal leaves the old key in force. -/
def execKeyRequest (c i frame : Nat) (long : Bool) (fetch : KeyFetch) (m : Ploam) (s : State) : Host.Outcome State Fault Refusal :=
  .next <| s.ploam c m fun s =>
    if !s.hasChannel c ∨ (i ≠ 1 ∧ i ≠ 2) then s
    else if (s.slot (kekSlot c)).st = 0 ∨ 2 ^ 51 ≤ frame + s.keyLife then (s.sendPloam c .nack).ponKeyEvent c i 2 frame
    else
      let n := ponSlot c i
      let r := s.takeFree
      let k := r.1 % 2 ^ (if long then 256 else 128)
      let s1 := (r.2.setSlot n ⟨2, k, long, none, 0⟩).setPonKey n ⟨s.keyLife, none, none, false, false⟩
      let (ok, s2) := s1.bindKey n fetch
      let s3 := if ok ∨ (s2.slot n).st = 0 then s2 else s2.setPonKey n { s2.ponKey n with failed := true }
      let s4 := { s3 with cph := { s3.cph with named := SMap.insert s3.cph.named c (i, frame) } }
      (s4.showPon c).sendPloam c (.keyReport i (Config.keyCheck k (if long then 256 else 128)))

/-- GROUP_KEY_MESSAGE (R362): the Caddy unwraps the head end's group key under the channel's KEK into the group slot of index i; none where the unwrap
fails. -/
def execGroupKeyMessage (c i : Nat) (plain : Option (Nat × Bool)) (fetch : KeyFetch) (s : State) : Host.Outcome State Fault Refusal :=
  .next <|
    if !s.hasChannel c ∨ (i ≠ 1 ∧ i ≠ 2) ∨ (s.slot (kekSlot c)).st = 0 then s
    else match plain with
      | none => s
      | some (k, long) =>
        let n := groupSlot c i
        let s1 := (s.setSlot n ⟨2, k % 2 ^ (if long then 256 else 128), long, none, 0⟩).setPonKey n ⟨s.keyLife, none, none, false, false⟩
        let (ok, s2) := s1.bindKey n fetch
        if ok ∨ (s2.slot n).st = 0 then s2 else s2.setPonKey n { s2.ponKey n with failed := true }

/-- UP_INDEX_SWITCH (R366, R369): at the first line cycle of the frame the head end named, the channel's upstream index changes. -/
def execUpIndexSwitch (c : Nat) (s : State) : Host.Outcome State Fault Refusal :=
  .next <|
    match SMap.find s.cph.named c with
    | none => s
    | some (i, frame) =>
      if !stampLe (stampOf (frame % 2 ^ 46) 0) s.stamp then s
      else
        let s1 := { s with cph := { s.cph with named := SMap.erase s.cph.named c } }
        ((s1.setFld F.CPH_PON_CH_KEY_UP_INDEX c i).showPon c).ponKeyEvent c i 0 frame

end Sys2Proof.Machine
end

