-- ==== Sys2Proof/Machine/Tbl.lean ====
section
/-!
DEFINITION. Sys2Proof/Machine/Tbl.lean: the flow table (R240 to R264, R485): placement, lookup, the Table Command Window, learning and
aging.
-/
namespace Sys2Proof.Machine

/-! Entries, formats, placement. -/

def tblEntryZero : TblEntry := ⟨0, 0, false, 0, 0, 0, 0, 0, 0, 0⟩
def State.fp (s : State) (n : Nat) : Nat := SMap.get s.tbl.fps n 0
def State.fresh (s : State) (n : Nat) : Nat := SMap.get s.tbl.fresh n 0
def State.ageEpoch (s : State) : Nat := s.fld F.TBL_AGE_STATUS_EPOCH 0

/-- The entry that 32 bytes of staging give (R240); VALID is TBL's own. -/
def entryOf (b : List Nat) : TblEntry :=
  { key := beNum (b.take 20), fmt := b.getD 20 0 % 16, valid := true, flags := b.getD 21 0, dispo := b.getD 22 0, cls := b.getD 23 0,
    queue := b.getD 24 0 + 256 * b.getD 25 0, meter := b.getD 26 0 + 256 * b.getD 27 0,
    port := b.getD 28 0 + 256 * b.getD 29 0, counter := b.getD 30 0 + 256 * b.getD 31 0 }

/-- The 32 bytes of an entry, VALID as the slot's occupancy. -/
def TblEntry.bytes (e : TblEntry) (occ : Bool) : List Nat :=
  beBytes 20 e.key ++ [e.fmt + b2n occ * 128, e.flags, e.dispo, e.cls] ++ leBytes 2 e.queue ++ leBytes 2 e.meter ++
    leBytes 2 e.port ++ leBytes 2 e.counter

/-- Bytes 32 to 35 of slot n's line: the CRC-32 over the 32 entry bytes followed by n (R241). -/
def lineCrc (n : Nat) (e : TblEntry) : Nat := crc32 (e.bytes e.valid ++ leBytes 4 n)

/-- The line of slot n that holds an entry with a valid CRC, and the zero entry's (R241). -/
def goodLine (n : Nat) (e : TblEntry) : TblLine := ⟨e, lineCrc n e⟩
def zeroLine (n : Nat) : TblLine := goodLine n tblEntryZero

/-- The line a slot holds, its entry, and whether its CRC is right for this address. -/
def State.lineOf (s : State) (n : Nat) : TblLine := SMap.get s.tbl.lines n (zeroLine n)
def State.tblLine (s : State) (n : Nat) : TblEntry := (s.lineOf n).entry
def State.lineGood (s : State) (n : Nat) : Bool := (s.lineOf n).crc == lineCrc n (s.tblLine n)

/-- The read of slot n's line in which `fails` copies fail in a row; a line whose stored CRC is wrong fails every copy (R241, R310). -/
def State.entryRead (s : State) (n fails : Nat) : Bool × State :=
  s.slotRead n (if s.lineGood n then fails else s.refetchMax + 1)

/-- Direction a format is limited to: 0 upstream, 1 downstream, 2 both (0b11 is treated as both). -/
def State.fmtDir (s : State) (k : Nat) : Nat := min 2 (s.fld F.TBL_KFMT_DIR k)

/-- Point selectors of a format, P0 to P4. -/
def State.fmtPoints (s : State) (k : Nat) : List Nat :=
  [s.fld F.TBL_KFMT_P0 k, s.fld F.TBL_KFMT_P1 k, s.fld F.TBL_KFMT_P2 k, s.fld F.TBL_KFMT_P3 k, s.fld F.TBL_KFMT_P4 k]

/-- A 20-byte key with the bytes outside BMASK set to 0 (R242). -/
def State.maskKey (s : State) (k key : Nat) : Nat :=
  let m := s.fld F.TBL_KFMT_BMASK_BMASK k
  beNum ((List.range 20).map (fun j => if bit m j then key / 256 ^ (19 - j) % 256 else 0))

/-- The table key of a Strainer key under a format (R242). -/
def State.tblKey (s : State) (k key512 : Nat) : Nat :=
  s.maskKey k ((s.fmtPoints k).foldl (fun a p =>
    a * 2 ^ 32 + (if bit p 4 then key512 / 2 ^ (480 - 32 * (p % 16)) % 2 ^ 32 else 0)) 0)

/-- h, b1, f and b2 of a key (R243). -/
def State.tblHash (s : State) (fmt key : Nat) : Nat :=
  crc32c (leBytes 4 (s.fld F.TBL_HASH_SEED_LO_SEED 0) ++ leBytes 4 (s.fld F.TBL_HASH_SEED_HI_SEED 0) ++ [fmt] ++ beBytes 20 key)
def hashB1 (h : Nat) : Nat := h % 2 ^ 19
def hashF (h : Nat) : Nat := if h / 2 ^ 19 % 4096 = 0 then 1 else h / 2 ^ 19 % 4096
def otherBucket (b f : Nat) : Nat := b ^^^ (f * 0x9e37 % 2 ^ 19)
def hashB2 (h : Nat) : Nat := otherBucket (hashB1 h) (hashF h)

/-- The slots of a bucket, and of a key's pair in slot order (R243). -/
def bucketSlots (b : Nat) : List Nat := [4 * b, 4 * b + 1, 4 * b + 2, 4 * b + 3]
def pairSlots (h : Nat) : List Nat :=
  if hashB1 h ≤ hashB2 h then bucketSlots (hashB1 h) ++ bucketSlots (hashB2 h)
  else bucketSlots (hashB2 h) ++ bucketSlots (hashB1 h)

/-- A key's stash set, and the stash slot numbers of a set (R244). -/
def stashSet (h : Nat) : Nat := min (hashB1 h) (hashB2 h) % 1024
def stashSlots (h : Nat) : List Nat := (List.range 4).map (fun w => 0x200000 + 4 * stashSet h + w)

/-- The stash way holding a key. -/
def State.stashFind (s : State) (h fmt key : Nat) : Option (Nat × TblEntry) :=
  (stashSlots h).findSome? (fun n =>
    match SMap.find s.tbl.stash n with
    | some e => if e.key = key ∧ e.fmt = fmt then some (n, e) else none
    | none => none)

/-- The slot of a key's pair whose fingerprint is f, the lowest-numbered one (R245). -/
def State.fpFind (s : State) (h : Nat) : Option Nat := (pairSlots h).find? (fun n => s.fp n == hashF h)

/-- Occupied slot, of the table or the stash. -/
def State.slotOccupied (s : State) (n : Nat) : Bool :=
  if n < 0x200000 then s.fp n != 0 else (SMap.find s.tbl.stash n).isSome

def State.slotEntry (s : State) (n : Nat) : TblEntry :=
  if n < 0x200000 then s.tblLine n else SMap.get s.tbl.stash n tblEntryZero

def State.setFresh (s : State) (n v : Nat) : State :=
  { s with tbl := { s.tbl with fresh := SMap.put s.tbl.fresh n v 0 } }

/-- Write a QDR-IV line; the write stays in the 16-entry retry buffer (R241, R326). -/
def State.writeLine (s : State) (n : Nat) (e : TblEntry) : State :=
  { s with
    tbl := { s.tbl with lines := SMap.put s.tbl.lines n (goodLine n e) (zeroLine n) }
    mem := { s.mem with qdrWrites := (s.mem.qdrWrites ++ [n]).drop (s.mem.qdrWrites.length + 1 - 16) } }

/-- An entry written to a slot with its fingerprint and stamp. -/
def State.placeEntry (s : State) (n f stamp : Nat) (e : TblEntry) : State :=
  if n < 0x200000 then
    let s1 := s.writeLine n e
    State.setFresh { s1 with tbl := { s1.tbl with fps := SMap.put s1.tbl.fps n f 0 } } n stamp
  else
    let s1 := State.setFresh { s with tbl := { s.tbl with stash := SMap.insert s.tbl.stash n e } } n stamp
    s1.peak F.TBL_STASH_PEAK 0 s1.tbl.stash.length

/-- A slot is emptied; its line is rewritten with VALID 0 (R241). -/
def State.emptySlot (s : State) (n : Nat) : State :=
  if n < 0x200000 then
    State.writeLine { s with tbl := { s.tbl with fps := SMap.erase s.tbl.fps n } } n { s.tblLine n with valid := false }
  else { s with tbl := { s.tbl with stash := SMap.erase s.tbl.stash n } }

/-! Learning (R257 to R259). -/

/-- A learn record is written as a punt entry of 64 bytes with rule index 0xFFFE, or lost and counted (R259). -/
def State.learnRecord (s : State) (type fmt portA portB stampA stampB key slot fresh : Nat) : State :=
  let n := s.fld F.TBL_LEARN_CFG_RING 0
  let room := match SMap.get s.hif.posted n [] with
    | (_, blen) :: _ => s.hostUp && s.ringOpen 3 n && decide (64 ≤ blen)
    | [] => false
  let rec64 := [type, fmt % 16, s.tstate, s.fld F.LTB_EPOCH_EPOCH 0 % 256] ++ leBytes 2 portA ++ leBytes 2 portB ++
    leBytes 8 stampA ++ leBytes 8 stampB ++ beBytes 20 key ++ leBytes 4 slot ++ leBytes 2 fresh ++ List.replicate 14 0
  let s1 := s.punt n 64 0xFFFE 0 0 (portA / 2 ^ 15 * 2 ^ 31) stampA (packWords rec64)
  if room then s1 else s1.satAdd F.TBL_LEARN_COUNT_LOST 0 1

/-- The filter without the entries whose window has ended. -/
def State.purgeFilter (s : State) : State :=
  { s with tbl := { s.tbl with filter := s.tbl.filter.filter (fun e => decide (s.lin < e.expires)) } }

/-- FILTER_EXPIRY (R258): entries expire WINDOW_US after their first stamp. -/
def execFilterExpiry (s : State) : Host.Outcome State Fault Refusal := .next s.purgeFilter

/-- A learn event at the filter (R257, R258): type 1 NEW or 2 MOVE. -/
def State.learn (s : State) (type fmt key h port entryPort slot : Nat) : State :=
  if s.fld F.TBL_LEARN_CFG_EN 0 = 0 then s else
  let s1 := s.purgeFilter
  match s1.tbl.filter.find? (fun e => e.key == key && e.fmt == fmt) with
  | none =>
    if 8 ≤ (s1.tbl.filter.filter (fun e => e.set == h % 512)).length then s1.satAdd F.TBL_LEARN_COUNT_FULL 0 1
    else
      let w := max 1 (s1.fld F.TBL_LEARN_CFG_WINDOW_US 0)
      let s2 : State := { s1 with tbl := { s1.tbl with
        filter := s1.tbl.filter ++ [⟨key, fmt, h % 512, port, s1.stamp, false, s1.lin + usLc w⟩] } }
      s2.learnRecord type fmt port (if type = 2 then entryPort else 0) s2.stamp 0 key (if type = 2 then slot else 0xFFFFFFFF) 0
  | some e =>
    if e.contested ∨ e.port = port then s1.satAdd F.TBL_LEARN_COUNT_SUPPRESSED 0 1
    else
      let s2 := s1.learnRecord 3 fmt e.port port e.stamp s1.stamp key 0xFFFFFFFF 0
      { s2 with tbl := { s2.tbl with
          filter := mapWhere (fun x => x.key == key && x.fmt == fmt)
            (fun x => { x with contested := true }) s2.tbl.filter } }

/-- A step or wake delta moves every expiry; after "delta unknown" every entry expires at once (R258). -/
def State.filterShift (s : State) (d : Int) : State :=
  { s with tbl := { s.tbl with filter := s.tbl.filter.map (fun e => { e with expires := e.expires + d }) } }
def State.filterUnknown (s : State) : State := { s with tbl := { s.tbl with filter := [] } }

/-! Lookup (R242, R245 to R249). -/

/-- The decision of a hit (R247). -/
def TblEntry.apply (e : TblEntry) (d : Decision) : Decision :=
  let fl := fun k => bit e.flags k
  let ovr := e.dispo % 4
  { d with
    queue := if fl 2 then some (e.queue % 2 ^ 15) else d.queue
    meter := if fl 3 then some e.meter else d.meter
    cls := if fl 4 then e.cls else d.cls
    tc := if fl 5 then bits e.dispo 6 4 else d.tc
    colour := if fl 6 then bits e.dispo 3 2 else d.colour
    disp := if ovr = 0 then d.disp else ovr - 1 }

/-- The port of R257. -/
def Frm.portCode (f : Frm) : Nat := f.dir * 2 ^ 15 + f.m1 % 2 ^ 15

/-- The decision leaves TBL: R218 applies, and a frame whose last byte has passed is punted at once where it is to be. -/
def State.fromTbl (s : State) (f : Frm) (d : Decision) : State :=
  let g : Frm := { f with dec := { d with tblEn := false } }
  let s1 := s.handOn g false
  if g.last then
    match s1.str.flight.find? (fun x => x.id == g.id) with
    | some x => s1.lengthOutcome x
    | none => s1
  else s1

/-- A hit at a slot (R246, R247): the stamp of every slot of the pair that holds f, or of the stash way, is the current epoch. -/
def State.tblHit (s : State) (f : Frm) (h key n : Nat) (e : TblEntry) : State :=
  let hits := if n < 0x200000 then (pairSlots h).filter (fun x => s.fp x == hashF h) else [n]
  let s1 := hits.foldl (fun t x => t.setFresh x t.ageEpoch) s
  let s2 := s1.satAdd F.TBL_HITS_COUNT 0 1
  let c := SMap.get s2.tbl.flows e.counter (0, 0)
  let top := 2 ^ 64 - 1
  let s3 := if bit e.flags 7 then
      { s2 with tbl := { s2.tbl with flows := SMap.put s2.tbl.flows e.counter (min top (c.1 + 1), min top (c.2 + f.len)) (0, 0) } }
    else s2
  let s4 := if bit e.flags 1 ∧ f.portCode ≠ e.port then s3.learn 2 e.fmt key h f.portCode e.port n else s3
  s4.fromTbl f (e.apply f.dec)

/-- A miss (R247). -/
def State.tblMiss (s : State) (f : Frm) (h key : Nat) : State :=
  let k := f.dec.tblKey
  let s1 := s.satAdd F.TBL_MISSES_COUNT 0 1
  let s2 := if s1.fld F.TBL_KFMT_LEARN k = 1 then s1.learn 1 k key h f.portCode 0 0 else s1
  s2.fromTbl f (if s2.fld F.TBL_KFMT_MISS_DROP k = 1 then { f.dec with disp := 1 } else f.dec)

/-- A lookup line whose refetch failed (R249): reported at most 256 times in a line second, with the failures since the previous event; the
frame keeps its action. -/
def State.tblUncorr (s : State) (f : Frm) (n : Nat) : State :=
  let s1 := (s.satAdd F.TBL_ERR_UNCORR 0 1).raise F.TBL_EVENT_UNCORR F.TBL_EVENT_EVCNT_UNCORR 0
  let s2 : State := { s1 with tbl := { s1.tbl with uncorrSince := s1.tbl.uncorrSince + 1 } }
  let s3 := s2.perSecond (7 * 65536 + 0xF0 * 256) 256 (fun t =>
    let u := t.faultEvent 0x07 0x00F0 (qdrLoc n) n t.tbl.uncorrSince
    { u with tbl := { u.tbl with uncorrSince := 0 } })
  s3.fromTbl f f.dec

/-- LOOKUP (R245 to R249): the first frame whose decision asks for a lookup. `fails` is how many copies of the chosen line fail in a row. -/
def execLookup (fails : Nat) (s : State) : Host.Outcome State Fault Refusal :=
  .next <|
    match s.str.flight.find? (fun f => f.place == 2) with
    | none => s
    | some f =>
      let k := f.dec.tblKey
      if s.fld F.TBL_KFMT_EN k = 0 ∨ (s.fmtDir k ≠ 2 ∧ s.fmtDir k ≠ f.dir) then
        (s.satAdd F.TBL_ERR_FMT 0 1).fromTbl f f.dec
      else
        let key := s.tblKey k f.key
        let h := s.tblHash k key
        match s.stashFind h k key with
        | some (n, e) => s.tblHit f h key n e
        | none =>
          match s.fpFind h with
          | none => s.tblMiss f h key
          | some n =>
            let (ok, s1) := s.entryRead n fails
            if !ok then s1.tblUncorr f n
            else
              let e := s1.tblLine n
              if e.key = key ∧ e.fmt = k then s1.tblHit f h key n e else s1.tblMiss f h key

/-! The Table Command Window (R251 to R256). -/

/-- What an operation answers: status, RESULT, FRESH, MOVES, STASH, FOUND and the staging out. -/
structure TcwOut where
  status : Nat
  result : Nat
  fresh : Nat
  moves : Nat
  stash : Bool
  found : Bool
  image : List Nat
  deriving DecidableEq, Repr

/-- Words offended by the key and format of an image (R253). -/
def State.badKey (s : State) (b : List Nat) : Option Nat :=
  let fmt := b.getD 20 0 % 16
  let m := s.fld F.TBL_KFMT_BMASK_BMASK fmt
  lowest [((List.range 20).find? (fun j => b.getD j 0 != 0 && !bit m j)).map (· / 4),
    badIf 5 (s.fld F.TBL_KFMT_EN fmt == 0 || bits (b.getD 20 0) 6 4 != 0)]

/-- Words offended by a whole entry (R253). -/
def State.badEntry (s : State) (b : List Nat) : Option Nat :=
  let e := entryOf b
  lowest [s.badKey b,
    badIf 5 (bit e.dispo 7 || decide (0xF0 ≤ e.cls) || bits e.dispo 3 2 == 3),
    badIf 6 (bit e.queue 15 || (s.fmtDir e.fmt != 0 && decide (8191 < e.queue % 2 ^ 15)))]

/-- A slot number exists: a table slot or a stash way. -/
def slotValid (n : Nat) : Bool := decide (n ≤ 0x200FFF)

def tcwFail (status result : Nat) (img : List Nat) : TcwOut := ⟨status, result, 0, 0, false, false, img⟩

/-- Where a key is (R244): nowhere, a table slot, a stash way, or unknown since the line that must be compared failed its refetch. -/
inductive Where where
  | absent
  | slot (n : Nat)
  | stash (n : Nat)
  | unknown (loc : Nat)
  deriving DecidableEq, Repr

/-- Find a key; the line of a matching fingerprint is read and compared. -/
def State.findKey (s : State) (h fmt key fails : Nat) : Where × State :=
  match s.stashFind h fmt key with
  | some (n, _) => (.stash n, s)
  | none =>
    match s.fpFind h with
    | none => (.absent, s)
    | some n =>
      let (ok, s1) := s.entryRead n fails
      if !ok then (.unknown (qdrLoc n), s1)
      else if (s1.tblLine n).key = key ∧ (s1.tblLine n).fmt = fmt then (.slot n, s1) else (.absent, s1)

/-- Chains of moves by breadth (R252): each path lists slots, latest first, each entry to move to its other bucket. Answers the shortest chain
found within the moves left, with its free slot, lowest slots first. -/
def State.chainSearch (s : State) : Nat → List (List Nat) → List Nat → Option (List Nat × Nat)
  | 0, _, _ => none
  | n + 1, paths, seen =>
    let target := fun (p : List Nat) =>
      match p with
      | x :: _ => otherBucket (x / 4) (s.fp x)
      | [] => 0
    match paths.findSome? (fun p => ((bucketSlots (target p)).find? (fun y => s.fp y == 0)).map (fun y => (p.reverse, y))) with
    | some r => some r
    | none =>
      let step := paths.foldl (fun (acc : List (List Nat) × List Nat) p =>
        let b := target p
        if acc.2.contains b then acc
        else (acc.1 ++ (bucketSlots b).map (fun y => y :: p), b :: acc.2)) ([], seen)
      s.chainSearch n step.1 step.2

/-- A move (R252): line, fingerprint and stamp are copied to the destination. -/
def State.moveEntry (s : State) (a b : Nat) : State := s.placeEntry b (s.fp a) (s.fresh a) (s.tblLine a)

/-- The moves of a chain, from its end backwards; the first slot is then free to be overwritten. -/
def State.runChain (s : State) : List Nat → Nat → State
  | [], _ => s
  | a :: rest, free =>
    let next := match rest with | y :: _ => y | [] => free
    (s.runChain rest free).moveEntry a next

/-- INSERT (R252). -/
def State.tcwInsert (s : State) (b : List Nat) (fails : Nat) : TcwOut × State :=
  let e := entryOf b
  let h := s.tblHash e.fmt e.key
  let f := hashF h
  let done := fun (t : State) (n moves : Nat) =>
    ((⟨stOk, n, t.ageEpoch, moves, decide (0x200000 ≤ n), false, b⟩ : TcwOut), t.placeEntry n f t.ageEpoch e)
  match s.findKey h e.fmt e.key fails with
  | (.unknown loc, s1) => (tcwFail stMemUncorr loc b, s1)
  | (.slot _, s1) => (tcwFail stStateRefused (refusedWord 0x38 0 1) b, s1)
  | (.stash _, s1) => (tcwFail stStateRefused (refusedWord 0x38 0 2) b, s1)
  | (.absent, s1) =>
    let clash := (s1.fpFind h).isSome
    let order := bucketSlots (hashB1 h) ++ bucketSlots (hashB2 h)
    let stash := (stashSlots h).find? (fun n => (SMap.find s1.tbl.stash n).isNone)
    let full : TcwOut × State :=
      (tcwFail stExhausted 0x0701 b, s1.raise F.TBL_EVENT_STASH_FULL F.TBL_EVENT_EVCNT_STASH_FULL 0)
    let third := match stash with | some n => done s1 n 0 | none => full
    if clash then third
    else match order.find? (fun n => s1.fp n == 0) with
      | some n => done s1 n 0
      | none =>
        match s1.chainSearch (min 64 (s1.fld F.TBL_CFG_MAX_MOVES 0)) (order.map (fun n => [n])) [hashB1 h, hashB2 h] with
        | some (chain, free) => done (s1.runChain chain free) (chain.headD 0) chain.length
        | none => third

/-- The answer on a slot found or written. -/
def State.tcwAt (s : State) (n : Nat) (found : Bool) (img : List Nat) : TcwOut :=
  ⟨stOk, n, s.fresh n, 0, decide (0x200000 ≤ n), found, img⟩

/-- UPDATE (R251, R253). -/
def State.tcwUpdate (s : State) (b : List Nat) (fails : Nat) : TcwOut × State :=
  let e := entryOf b
  let h := s.tblHash e.fmt e.key
  let put := fun (t : State) (n : Nat) =>
    let u := t.placeEntry n (hashF h) t.ageEpoch e
    (u.tcwAt n false b, u)
  match s.findKey h e.fmt e.key fails with
  | (.unknown loc, s1) => (tcwFail stMemUncorr loc b, s1)
  | (.slot n, s1) => put s1 n
  | (.stash n, s1) => put s1 n
  | (.absent, s1) => (tcwFail stStateRefused (refusedWord 0x38 0 0) b, s1)

/-- DELETE (R251, R253). -/
def State.tcwDelete (s : State) (b : List Nat) (fails : Nat) : TcwOut × State :=
  let e := entryOf b
  match s.findKey (s.tblHash e.fmt e.key) e.fmt e.key fails with
  | (.unknown loc, s1) => (tcwFail stMemUncorr loc b, s1)
  | (.slot n, s1) => (s1.tcwAt n false b, s1.emptySlot n)
  | (.stash n, s1) => (s1.tcwAt n false b, s1.emptySlot n)
  | (.absent, s1) => (tcwFail stStateRefused (refusedWord 0x38 0 0) b, s1)

/-- READ (R251, R253). -/
def State.tcwRead (s : State) (b : List Nat) (fails : Nat) : TcwOut × State :=
  let e := entryOf b
  match s.findKey (s.tblHash e.fmt e.key) e.fmt e.key fails with
  | (.unknown loc, s1) => (tcwFail stMemUncorr loc b, s1)
  | (.slot n, s1) => (s1.tcwAt n true ((s1.slotEntry n).bytes true), s1)
  | (.stash n, s1) => (s1.tcwAt n true ((s1.slotEntry n).bytes true), s1)
  | (.absent, s1) => (tcwFail stOk 0xFFFFFFFF b, s1)

/-- READ_SLOT (R251, R253): a table slot's line is read whatever its occupancy. -/
def State.tcwReadSlot (s : State) (n : Nat) (b : List Nat) (fails : Nat) : TcwOut × State :=
  if n < 0x200000 then
    let (ok, s1) := s.entryRead n fails
    if !ok then (tcwFail stMemUncorr (qdrLoc n) b, s1)
    else (s1.tcwAt n (s1.slotOccupied n) ((s1.slotEntry n).bytes (s1.slotOccupied n)), s1)
  else (s.tcwAt n (s.slotOccupied n) ((s.slotEntry n).bytes (s.slotOccupied n)), s)

/-- WRITE_SLOT (R251, R253). -/
def State.tcwWriteSlot (s : State) (n : Nat) (b : List Nat) : TcwOut × State :=
  let e := entryOf b
  let h := s.tblHash e.fmt e.key
  let home := if n < 0x200000 then (pairSlots h).contains n else (stashSlots h).contains n
  if !home then (tcwFail stBadArg 8 b, s)
  else if !s.slotOccupied n then (tcwFail stStateRefused (refusedWord 0x39 0 0) b, s)
  else if n < 0x200000 ∧ s.fp n ≠ hashF h then (tcwFail stBadArg 8 b, s)
  else
    let u := s.placeEntry n (hashF h) s.ageEpoch e
    (u.tcwAt n false b, u)

/-- DELETE_SLOT (R251, R253). -/
def State.tcwDeleteSlot (s : State) (n : Nat) (b : List Nat) : TcwOut × State :=
  if !s.slotOccupied n then (tcwFail stStateRefused (refusedWord 0x39 0 0) b, s)
  else (s.tcwAt n false b, s.emptySlot n)

/-- One whole-entry operation with every check before anything changes (R251, R253). -/
def State.tcwOp (s : State) (op slot : Nat) (b : List Nat) (fails : Nat) : TcwOut × State :=
  if s.fld F.TBL_STATUS_READY 0 = 0 then (tcwFail stBusy 0 b, s)
  else if op = 0 ∨ 7 < op then (tcwFail stBadArg 8 b, s)
  else
    let bad := match op with
      | 1 => s.badEntry b
      | 2 => s.badEntry b
      | 3 => s.badKey b
      | 4 => s.badKey b
      | 6 => lowest [s.badEntry b, badIf 8 (!slotValid slot)]
      | _ => badIf 8 (!slotValid slot)
    match bad with
    | some w => (tcwFail stBadArg w b, s)
    | none =>
      match op with
      | 1 => s.tcwInsert b fails
      | 2 => s.tcwUpdate b fails
      | 3 => s.tcwDelete b fails
      | 4 => s.tcwRead b fails
      | 5 => s.tcwReadSlot slot b fails
      | 6 => s.tcwWriteSlot slot b
      | _ => s.tcwDeleteSlot slot b

/-- The staging registers as 32 bytes, and loaded from an image. -/
def State.staging (s : State) : List Nat := ((List.range 8).map (fun i => leBytes 4 (s.fld F.TBL_TCW_STAGE_ENTRY i))).flatten
def State.loadStaging (s : State) (b : List Nat) : State :=
  (List.range 8).foldl (fun t i => t.setFld F.TBL_TCW_STAGE_ENTRY i (leNum ((b.drop (4 * i)).take 4))) s

/-- TBL_TCW_INFO as a word. -/
def TcwOut.info (o : TcwOut) : Nat := o.fresh * 2 ^ 16 + o.moves * 2 ^ 8 + b2n o.stash * 2 + b2n o.found

/-- The window shows an operation's outcome (R254). -/
def State.showTcw (s : State) (o : TcwOut) : State :=
  ((((((s.setFld F.TBL_TCW_STATUS_CODE 0 o.status).setFld F.TBL_TCW_RESULT_RESULT 0 o.result).setFld F.TBL_TCW_INFO_FRESH 0
    o.fresh).setFld F.TBL_TCW_INFO_MOVES 0 o.moves).setFld F.TBL_TCW_INFO_STASH 0 (b2n o.stash)).setFld F.TBL_TCW_INFO_FOUND 0
    (b2n o.found)).loadStaging o.image

/-- BUSY (R254). -/
def State.tcwBusy (s : State) (v : Bool) : State := s.setFld F.TBL_TCW_STATUS_BUSY 0 (b2n v)

/-- A host write to the staging or GO registers while BUSY is 1 is discarded and collides (R75). -/
def State.collide (s : State) : State := s.raise F.TBL_TCW_STATUS_COLLIDE F.TBL_TCW_STATUS_EVCNT_COLLIDE 0

/-- The host writes to those registers that come while BUSY is 1: `during` of them. None comes from a host that is gone. -/
def State.collisions (s : State) (during : Nat) : State :=
  if s.hostUp then (List.range during).foldl (fun t _ => t.collide) s else s

/-- The GO write of an operation word (R251, R254): BUSY rises, the operation runs, its TCW_OP record is committed, then CODE, RESULT and INFO are
written and BUSY falls. -/
def State.tcwGo (s : State) (v fails during : Nat) : State :=
  if s.fld F.TBL_TCW_STATUS_BUSY 0 = 1 then s.collide else
  let s1 := ((s.setFld F.TBL_TCW_OP_SLOT 0 (bits v 25 4)).setFld F.TBL_TCW_OP_OP 0 (v % 16)).tcwBusy true
  let img := s1.staging
  let (o, s2) := (s1.collisions during).tcwOp (v % 16) (bits v 25 4) img fails
  let s3 := s2.pushRecord (s2.recordNow 3 0x21 0 0 o.status 0 o.result 0
    (v :: (List.range 5).map (fun i => leNum ((img.drop (4 * i)).take 4))))
  (s3.showTcw o).tcwBusy false

/-- The GO write of operation `op` at TBL_TCW_OP with the SLOT named. -/
def State.tcwRow (s : State) (op slot fails during : Nat) : State :=
  let v := 2 ^ 31 + slot % 2 ^ 22 * 16 + op
  s.hostWrite 0x700200 v (fun t => t.tcwGo v fails during)

/-- INSERT, UPDATE, DELETE, READ, READ_SLOT, WRITE_SLOT and DELETE_SLOT (R251 to R254): host operations of the window on the staging
registers; `fails` is how many copies of the line that must be read fail in a row, `during` the host's writes to the window while BUSY is 1. -/
def execInsert (fails during : Nat) (s : State) : Host.Outcome State Fault Refusal := .next (s.tcwRow 1 0 fails during)
def execUpdate (fails during : Nat) (s : State) : Host.Outcome State Fault Refusal := .next (s.tcwRow 2 0 fails during)
def execDelete (fails during : Nat) (s : State) : Host.Outcome State Fault Refusal := .next (s.tcwRow 3 0 fails during)
def execRead (fails during : Nat) (s : State) : Host.Outcome State Fault Refusal := .next (s.tcwRow 4 0 fails during)
def execReadSlot (slot fails during : Nat) (s : State) : Host.Outcome State Fault Refusal := .next (s.tcwRow 5 slot fails during)
def execWriteSlot (slot during : Nat) (s : State) : Host.Outcome State Fault Refusal := .next (s.tcwRow 6 slot 0 during)
def execDeleteSlot (slot during : Nat) (s : State) : Host.Outcome State Fault Refusal := .next (s.tcwRow 7 slot 0 during)

/-- Element results go to host memory, or are discarded and counted with the host gone (R255, R485). -/
def State.batchWrite (s : State) (addr : Nat) (ws : List Nat) : State :=
  if s.hostUp then s.dma addr ws
  else s.setFld F.HIF_EVENT_EVCNT1_PUNT_DROP 0 (s.fld F.HIF_EVENT_EVCNT1_PUNT_DROP 0 + 1)

/-- The elements of a batch in buffer order, stopping at the first that does not complete OK (R76, R255). Answers its index and status. -/
def State.batchRun (s : State) (d : Desc) (i : Nat) (fails : List Nat) : Nat → Option (Nat × Nat) × State
  | 0 => (none, s)
  | n + 1 =>
    let img := bufBytes d (64 * i) 32
    let w := d.word (16 * i + 8)
    let (o, s1) := s.tcwOp (w % 16) (bits w 25 4) img (fails.headD 0)
    let s2 := s1.showTcw o
    let a := d.bufAddr + 64 * i
    let s3 := if (w % 16 = 4 ∨ w % 16 = 5) ∧ o.found then s2.batchWrite a (packWords o.image) else s2
    let s4 := s3.batchWrite (a + 36) [o.status, o.result, o.info]
    if o.status = stOk then s4.batchRun d (i + 1) (fails.drop 1) n else (some (i, o.status), s4)

/-- TABLE_BATCH (R76, R255, R485): BUSY is 1 from the first element to the last, and `during` host writes to the window collide meanwhile. RESULT of a batch that completed OK is not stated: a free value (log entry 3). -/
def execTableBatch (d : Desc) (fails : List Nat) (during : Nat) (s : State) : Host.Outcome State Fault Refusal :=
  .next <| s.asCommand d 0x1C01 true <|
    let n := bits (d.dw 5) 16 0
    if !d.buf ∨ d.bufLen < n * 64 then s.refuse d stBadArg 4
    else if n = 0 ∨ 65536 < n then s.refuse d stBadArg 5
    else
      match ((s.tcwBusy true).collisions during).batchRun d 0 fails n with
      | (some (i, st), s1) => (s1.tcwBusy false).finish d st i
      | (none, s1) => (s1.tcwBusy false).takeFree.2.finish d stOk ((s1.tcwBusy false).takeFree.1 % 2 ^ 32)

/-- FLOW_COUNT_READ (R256). -/
def execFlowCountRead (d : Desc) (s : State) : Host.Outcome State Fault Refusal :=
  .next <| s.asCommand d 0x1C02 true <|
    let first := d.dw 5 % 2 ^ 16
    let n := d.dw 6 % 2 ^ 17
    if !d.buf ∨ d.bufLen < n * 16 then s.refuse d stBadArg 4
    else if n = 0 ∨ 65536 < first + n then s.refuse d stBadArg 6
    else
      let ws := ((List.range n).map (fun i =>
        let c := SMap.get s.tbl.flows (first + i) (0, 0)
        [c.1 % 2 ^ 32, c.1 / 2 ^ 32, c.2 % 2 ^ 32, c.2 / 2 ^ 32])).flatten
      let s1 := s.toBuf d ws
      let s2 := if bit (d.dw 7) 0 then
          { s1 with tbl := { s1.tbl with flows := s1.tbl.flows.filter (fun p => decide (p.1 < first ∨ first + n ≤ p.1)) } }
        else s1
      s2.finish d stOk n

/-! Readiness and repair (R241, R250). -/

/-- TABLE_READY (R241): when the group first enters service after cold reset every line is written with a zero entry and a valid CRC; READY is
set. -/
def execTableReady (s : State) : Host.Outcome State Fault Refusal :=
  .next <|
    if s.fld F.MEM_QDR_STATUS_STATE 0 < 2 ∨ s.fld F.TBL_STATUS_READY 0 = 1 then s
    else State.setFld { s with tbl := { s.tbl with lines := [] } } F.TBL_STATUS_READY 0 1

/-- An on-chip array's uncorrectable row (R250). -/
def State.arrayMem (s : State) (code tile mac row d6 d7 : Nat) : State :=
  (s.raise F.TBL_EVENT_ARRAY_MEM F.TBL_EVENT_EVCNT_ARRAY_MEM 0).faultEvent 0x07 code (errLoc 0x07 tile mac row) d6 d7

/-- FP_REBUILD (R250): a row of an on-chip array of TBL is uncorrectable. Array 0: the fingerprint row of slots 32 `n` to 32 `n` + 31 is rebuilt from its lines
(`bad` lists those whose refetch fails); 1: the freshness row's stamps become the current epoch, the rows of the stash's stamps following those of the table; 2: stash way `n` reads as empty. The event is written when the row fails and, for the fingerprints, again when the rebuild is done (log entry 67). -/
def execFpRebuild (array n tile mac row : Nat) (bad : List Nat) (s : State) : Host.Outcome State Fault Refusal :=
  .next <|
    let slots := (List.range 32).map (fun i => 32 * (n % 65536) + i)
    match array with
    | 0 =>
      let s1 := s.arrayMem 0x00F1 tile mac row (32 * (n % 65536)) 0
      let s2 := slots.foldl (fun t x =>
        let e := t.tblLine x
        let f := if e.valid && t.lineGood x && !bad.contains x then hashF (t.tblHash e.fmt e.key) else 0
        { t with tbl := { t.tbl with fps := SMap.put t.tbl.fps x f 0 } }) s1
      s2.faultEvent 0x07 0x00F1 (errLoc 0x07 tile mac row) (32 * (n % 65536)) 1
    | 1 =>
      let r := n % 65664
      ((List.range 32).map (fun i => 32 * r + i)).foldl (fun t x => t.setFresh x t.ageEpoch) (s.arrayMem 0x00F2 tile mac row (32 * r) 0)
    | _ =>
      let w := 0x200000 + n % 4096
      (s.arrayMem 0x00F3 tile mac row w 0).emptySlot w

/-! Aging (R260 to R262). -/

/-- The current epoch's length in line cycles: EPOCH_MS as it was when the epoch began, below 10 treated as 10. -/
def State.epochLen (s : State) : Nat := max 10 s.tbl.epochMs * 1244160

/-- The epoch that begins takes EPOCH_MS as it is now. -/
def State.beginEpoch (s : State) (lc : Int) : State :=
  { s with tbl := { s.tbl with epochLc := lc, epochMs := s.fld F.TBL_AGE_CFG_EPOCH_MS 0 } }

/-- AGE_EPOCH (R260): the aging epoch advances by one once its line cycles have been counted. -/
def execAgeEpoch (s : State) : Host.Outcome State Fault Refusal :=
  .next <|
    if (s.ltb.lc : Int) < s.tbl.epochLc + s.epochLen then s
    else (s.beginEpoch (s.tbl.epochLc + s.epochLen)).wrapAdd F.TBL_AGE_STATUS_EPOCH 0 1

/-- A wake of basis SFC or SLEEP_COUNT after n line cycles (R260): they are added to the count, the epochs due are advanced at once, 32,767 at most;
the rest are dropped and reported. -/
def State.tblElapsed (s : State) (n : Nat) : State :=
  let s0 : State := { s with tbl := { s.tbl with epochLc := s.tbl.epochLc - n } }
  let due := ((s.ltb.lc : Int) - s0.tbl.epochLc).toNat / s.epochLen
  let k := min due 32767
  let s1 := ((if due = 0 then s0 else s0.beginEpoch (s0.tbl.epochLc + due * s.epochLen)).wrapAdd F.TBL_AGE_STATUS_EPOCH 0 k).setFld
    F.TBL_AGE_STATUS_GAP 0 0
  if k < due then
    (s1.raise F.TBL_EVENT_AGE_GAP F.TBL_EVENT_EVCNT_AGE_GAP 0).notify 0x07 0x0001 k (due - k)
  else s1

/-- A wake of basis NONE (R260). -/
def State.tblUnknown (s : State) : State :=
  (((s.setFld F.TBL_AGE_STATUS_GAP 0 1).raise F.TBL_EVENT_AGE_GAP F.TBL_EVENT_EVCNT_AGE_GAP 0).notify 0x07 0x0002 s.ageEpoch
    0).filterUnknown

/-- An entry's age (R261). -/
def State.age (s : State) (stamp : Nat) : Nat := (s.ageEpoch + 65536 - stamp % 65536) % 65536

/-- An entry is stale (R261). -/
def State.stale (s : State) (n stamp : Nat) : Bool :=
  s.fld F.TBL_AGE_CFG_EN 0 == 1 && !bit (s.slotEntry n).flags 0 &&
    decide (max 1 (s.fld F.TBL_AGE_CFG_AGE_EPOCHS 0) ≤ s.age stamp)

/-- What the scanner reads of a slot's occupancy: the fingerprint, or 1 for a stash way that holds an entry. -/
def State.scanFp (s : State) (n : Nat) : Nat := if n < 0x200000 then s.fp n else b2n (s.slotOccupied n)

/-- The scanner visits one slot (R261), table slots first, then the stash ways: it issues DELETE_IF_STALE for a stale entry, else a clamp where the age is
above 32,767. It pauses while 64 deletes are pending, and a pass ends after the last way. -/
def State.scanStep (s : State) : State :=
  if 64 ≤ s.tbl.deletes.length then s else
  let n := s.tbl.scan
  let st := s.fresh n
  let s1 : State :=
    if s.scanFp n = 0 then s
    else if s.stale n st then { s with tbl := { s.tbl with deletes := s.tbl.deletes ++ [(n, s.scanFp n, st)] } }
    else if 32767 < s.age st then { s with tbl := { s.tbl with clamps := s.tbl.clamps ++ [(n, st)] } }
    else s
  if n < 0x200FFF then { s1 with tbl := { s1.tbl with scan := n + 1 } }
  else State.wrapAdd { s1 with tbl := { s1.tbl with scan := 0 } } F.TBL_AGE_PASSES_PASSES 0 1

/-- DELETE_IF_STALE (R262): the oldest delete the scanner issued, at its freshness stage. `fails` is how many copies of the slot's line fail in a row. -/
def execDeleteIfStale (fails : Nat) (s : State) : Host.Outcome State Fault Refusal :=
  .next <|
    match s.tbl.deletes with
    | [] => s
    | (n, fp, stamp) :: rest =>
      let s0 : State := { s with tbl := { s.tbl with deletes := rest } }
      let (ok, s1) := if n < 0x200000 then s0.entryRead n fails else (true, s0)
      if s1.scanFp n ≠ fp ∨ s1.scanFp n = 0 then s1.satAdd F.TBL_AGE_REPRIEVE_ABANDON 0 1
      else if s1.fresh n ≠ stamp then s1.satAdd F.TBL_AGE_REPRIEVE_REPRIEVE 0 1
      else
        let e := s1.slotEntry n
        let s2 := (s1.emptySlot n).satAdd F.TBL_AGED_DELETES 0 1
        if s2.fld F.TBL_LEARN_CFG_AGED_EN 0 = 0 then s2
        else s2.learnRecord 4 (if ok then e.fmt else 0) (if ok then e.port else 0) 0 s2.stamp 0 (if ok then e.key else 0) n stamp

/-- FRESHNESS_CLAMP (R261): the scanner's oldest clamp at its freshness stage, once no delete waits before it (R246): the stamp becomes EPOCH − 32,767, provided it is
still the value read and the slot is still occupied. -/
def execFreshnessClamp (s : State) : Host.Outcome State Fault Refusal :=
  .next <|
    match s.tbl.deletes, s.tbl.clamps with
    | [], (n, stamp) :: rest =>
      let s0 : State := { s with tbl := { s.tbl with clamps := rest } }
      if s0.scanFp n ≠ 0 ∧ s0.fresh n = stamp then s0.setFresh n ((s0.ageEpoch + 65536 - 32767) % 65536) else s0
    | _, _ => s

end Sys2Proof.Machine
end

