-- ==== Sys2Proof/Machine/Tmg.lean ====
section
/-!
DEFINITION. Sys2Proof/Machine/Tmg.lean: admission, the Kettle's writes and refills, dequeues, the calendar, the sampler and the TMG
commands (R268 to R296).
-/
namespace Sys2Proof.Machine

/-! Admission (R268 to R271, R376). -/

/-- The frame TMG holds of a decided frame. -/
def Frm.held (f : Frm) (colour : Nat) : QFrm :=
  ⟨f.len, colour, f.dec.tc, f.cls, f.portCode, none, 0, 0, false, f.bytes⟩

/-- Of two frames for queues whose last byte has passed, the one TMG takes first (R268): the earlier in reaching line cycle 0, downstream before upstream in
the same one, then the order of the Strainer's slots. -/
def Frm.before (f g : Frm) : Bool := decide (f.ready < g.ready) || (f.ready == g.ready && decide (g.dir < f.dir))

/-- The frame TMG takes next. -/
def State.nextAdmit (s : State) : Option Frm :=
  (s.str.flight.filter (fun f => f.place == 3 && f.last)).foldl (fun best f =>
    match best with
    | none => some f
    | some b => if f.before b then some f else some b) none

/-- ADMISSION (R268): the first frame decided for a queue whose last byte has passed is metered, then admitted and linked, or discarded. One with the
errored-frame indication of R376 is discarded at lc 0, with no tokens used and no count. -/
def execAdmission (s : State) : Host.Outcome State Fault Refusal :=
  .next <|
    match s.nextAdmit with
    | none => s
    | some f =>
      let s1 := s.dropFrm f.id
      if f.errored then s1
      else
        let k := qKey f.dir (f.dec.queue.getD 0)
        let (c, s2) := s1.finalColour f.dec.meter f.dec.colour f.len
        s2.offer k (f.held c)

/-! The Kettle (R277 to R280). -/

/-- The lines of a tail page, in order: each frame's lines not yet written, up to `room`; the frames that end in it, what is left of the
tail, and whether a frame continues into the next page. -/
def fillPage : Nat → List QFrm → List QFrm × List QFrm × Bool
  | _, [] => ([], [], false)
  | room, f :: rest =>
    if f.lines ≤ room then
      let (d, r, o) := fillPage (room - f.lines) rest
      (f :: d, r, o)
    else if room = 0 then ([], f :: rest, false)
    else ([], { f with lines := f.lines - room } :: rest, true)

/-- META of a frame's first line (R301), as a number from sideband byte 5 up. -/
def QFrm.startMeta (f : QFrm) (dir : Nat) : Nat :=
  (f.len + f.colour * 2 ^ 14) + (f.tc + dir * 128) * 2 ^ 16 + f.cls * 2 ^ 24 + f.ingress * 2 ^ 32 + ((f.at_.getD 0) % 2 ^ 40) * 2 ^ 48

/-- The lines of a frame in a page, from its place with `n` of them: KIND, META and data. -/
def QFrm.pageLines (f : QFrm) (dir from_ n : Nat) : List (Nat × Nat × List Nat) :=
  (List.range n).map (fun i =>
    (if from_ + i = 0 then 1 else 2, if from_ + i = 0 then f.startMeta dir else from_ + i, (f.bytes.drop (64 * (from_ + i))).take 64))

/-- The 64 lines of a page: the frames' lines, then EMPTY. -/
def pageLines (dir : Nat) : Nat → List QFrm → List (Nat × Nat × List Nat)
  | room, [] => List.replicate room (3, 0, [])
  | room, f :: rest =>
    let n := min room f.lines
    f.pageLines dir (linesOf f.len - f.lines) n ++ pageLines dir (room - n) rest

/-- Lines waiting in a tail. -/
def Queue.tailLines (q : Queue) : Nat := sumOf (q.tail.map QFrm.lines)

/-- TAIL_WRITE (R278): the tail page of queue `k` is written to the Kettle when it is full, or has waited TAIL_US. A tail that is served directly (head
and middle empty) is never written. -/
def execTailWrite (k : Nat) (s : State) : Host.Outcome State Fault Refusal :=
  .next <|
    let q := s.queue k
    let full := decide (64 ≤ q.tailLines)
    let late := !q.tail.isEmpty && decide (q.tailLc + usLc (max 1 (s.fld F.TMG_CFG_TAIL_US 0)) ≤ s.ltb.lc)
    if (q.head.isEmpty && q.middle.isEmpty) || !(full || late) then s
    else match s.freePage with
      | none => s
      | some pg =>
        let (d, r, o) := fillPage 64 q.tail
        let lines := pageLines (keyDir k) 64 q.tail
        let s1 := d.foldl (fun t f => t.freeCells f.pool (cellsOf f.len)) s
        let s2 := s1.setQueue k { q with middle := q.middle ++ [⟨pg, d, o⟩], tail := r, tailLc := s.ltb.lc }
        ((List.range 64).foldl (fun t i =>
          let l := lines.getD i (3, 0, [])
          t.ddrWrite (t.pageAddr pg + 64 * i) l.1 l.2.1 l.2.2) s2).fcAll

/-- Frames of a page with a byte in a failed line (R279): `pos` is the place of the next line in the page. -/
def spoilLines (bad : List Nat) : Nat → List QFrm → List QFrm × Nat
  | pos, [] => ([], pos)
  | pos, f :: rest =>
    let hit := bad.any (fun b => decide (pos ≤ b ∧ b < pos + f.lines))
    let (r, e) := spoilLines bad (pos + f.lines) rest
    ({ f with spoiled := f.spoiled || hit } :: r, e)

/-- Mark the first frame of a list as spoiled. -/
def spoilFirst : List QFrm → List QFrm
  | [] => []
  | f :: rest => { f with spoiled := true } :: rest

/-- The frame that continues past a page with a failed line is the first that ends later. -/
def spoilNext : List KPage → List QFrm → List KPage × List QFrm
  | [], tail => ([], spoilFirst tail)
  | pg :: rest, tail =>
    if pg.frames.isEmpty then
      let (m, t) := spoilNext rest tail
      (pg :: m, t)
    else ({ pg with frames := spoilFirst pg.frames } :: rest, tail)

/-- KETTLE_UNCORR (R279, R296). -/
def State.kettleUncorr (s : State) (k loc n : Nat) : State :=
  (s.raise F.TMG_EVENT_KETTLE_UNCORR F.TMG_EVENT_EVCNT_KETTLE_UNCORR 0).perSecond (8 * 65536 + 0xF0 * 256) 1
    (fun t => t.faultEvent 0x08 0x00F0 loc (keyDir k * 2 ^ 30 + k % 65536) n)

/-- REFILL (R278, R279): while the head of queue `k` holds fewer than REFILL × 16 cells, the middle's next page is read into pool 3 and joins the head. A page
in a channel that is not in service, or that finds no room in pool 3, waits. `bad` lists the page's lines whose refetch failed. -/
def execRefill (k : Nat) (bad : List Nat) (s : State) : Host.Outcome State Fault Refusal :=
  .next <|
    let q := s.queue k
    match q.middle with
    | [] => s
    | pg :: rest =>
      let ch := s.pageChan pg.page
      let need := sumOf (pg.frames.map (fun f => cellsOf f.len))
      if q.cfg.refill * 16 ≤ q.headCells ∨ !s.chInService ch ∨ s.poolFree 3 < need then s
      else
        let badIn := (List.range 64).filter (fun b => bad.contains b || !s.ddrGood (s.pageAddr pg.page / 64 + b))
        let s0 := badIn.foldl (fun t b =>
          let a := t.pageAddr pg.page + 64 * b
          t.memReadEnds ch (a / 64) (t.ddrLoc a) false) s
        let (fs, used) := spoilLines badIn 0 pg.frames
        let (mid, tail) := if pg.opens && badIn.any (fun b => decide (used ≤ b)) then spoilNext rest q.tail else (rest, q.tail)
        let lost := (fs.filter QFrm.spoiled).length
        let head := q.head ++ fs.map (fun f => { f with pool := 3, lines := 0 })
        let s1 := ((s0.setQueue k { q with head := head, middle := mid, tail := tail }).takeCells 3 need).freePageNo pg.page
        let s2 := match badIn with
          | b :: _ => s1.kettleUncorr k (s1.ddrLoc (s1.pageAddr pg.page + 64 * b)) lost
          | [] => s1
        fs.foldl (fun t f => t.fcFor f) (s2.refreshQueue k)

/-! Dequeue toward a host port (R286, R342, R373). -/

/-- Discard what stands spoiled at the front of the selected queue, and select again, as often as there are frames. -/
def State.pickGood (s : State) (p : Nat) : Nat → Option (Nat × Nat × Nat) × State
  | 0 => (none, s)
  | n + 1 =>
    match s.pickPort p with
    | none => (none, s)
    | some (t, g, k) =>
      if ((s.queue k).first.map QFrm.spoiled).getD false then (s.dropSpoiled k (s.queue k).all.length).pickGood p n
      else (some (t, g, k), s)

/-- DOWNSTREAM_DEQUEUE (R286): HPM asks port `p` for a frame. What waits in its transmit buffer is sent first; the selected queue's head frame then leaves,
is protected or discarded by CPH (R373), and joins the transmit buffer or is discarded as oversize (R342). `sfd` is the measured
crossing of the frame sent; `cell` the buffer tile, macro and row of a cell of the selected frame that fails its check (R279). -/
def execDownstreamDequeue (p : Nat) (sfd : Sfd) (cell : Option (Nat × Nat × Nat)) (s : State) : Host.Outcome State Fault Refusal :=
  .next <|
    if !s.hasPort p || !s.portUp p || s.listen p != 0 then s else
    let s0 := (s.macDrain p sfd).refreshPort p
    match s0.pickGood p (s0.tmg.queues.length + 1) with
    | (none, s1) => s1
    | (some (t, g, k), s1) =>
      match cell with
      | some x => s1.cellFails k x
      | none =>
        match s1.servePath p t g k with
        | none => s1
        | some (f, s2) =>
          let ptp := s2.ptpOf p f.bytes
          match s2.macsecProtect p (be16 f.bytes 12) f.len with
          | (none, s3) => s3
          | (some len, s3) => s3.portTx p ⟨t, len, ptp⟩

/-! The calendar (R282 to R284). -/

/-- The due entry of the fine ring that is released first: slots in order, then placement order. -/
def State.nextDue (s : State) : Option CalEntry :=
  (s.tmg.cal.filter (fun x => x.place == 0 && decide (x.due ≤ s.calNow))).foldl (fun best x =>
    match best with
    | none => some x
    | some b => if x.due / 8 < b.due / 8 then some x else some b) none

/-- One more release in this line cycle. -/
def State.countRelease (s : State) : State :=
  { s with tmg := { s.tmg with relLc := s.ltb.lc, relCnt := if s.tmg.relLc = s.ltb.lc then s.tmg.relCnt + 1 else 1 } }

/-- An entity follows its place in its node. -/
def State.refreshEnt (s : State) (e : Nat) : State := if e < 0x100000 then s.refreshQueue e else s.refreshGroup (e - 0x100000)

/-- CALENDAR_RELEASE (R283): the first entry due is released and its entity wakes; more than 64 lc after its E it is late. Four are released
in a line cycle at most. -/
def execCalendarRelease (s : State) : Host.Outcome State Fault Refusal :=
  .next <|
    if s.tmg.relLc = s.ltb.lc ∧ 4 ≤ s.tmg.relCnt then s else
    match s.nextDue with
    | none => s
    | some x =>
      let late := s.calNow - x.due
      let s1 : State := { s with tmg := { s.tmg with cal := s.tmg.cal.filter (fun y => y.ent != x.ent) } }
      let s2 := s1.countRelease.refreshEnt x.ent
      if 64 < late then
        (s2.raise F.TMG_EVENT_CAL_LATE F.TMG_CAL_STATUS_LATE_CNT 0).perSecond (8 * 65536 + 3 * 256) 1
          (fun t => t.notify 0x08 0x0003 t.calBacklog (min late (2 ^ 32 - 1)))
      else s2

/-- The entries that `p` names are placed in a ring anew, behind those already in it. -/
def replaceWhere (p : CalEntry → Bool) (ring : Nat) (l : List CalEntry) : List CalEntry :=
  l.filter (fun x => !p x) ++ (l.filter p).map (fun x => { x with place := ring })

/-- COARSE_REDISTRIBUTE (R282): each coarse slot that starts within 4,096 lc goes into the fine ring, each entry to the fine slot of its E. -/
def execCoarseRedistribute (s : State) : Host.Outcome State Fault Refusal :=
  .next { s with tmg := { s.tmg with
      cal := replaceWhere (fun x => x.place == 1 && decide (x.due / 32768 * 32768 ≤ s.calNow + 4096)) 0 s.tmg.cal } }

/-- FAR_LIST_SCAN (R282): once in every 67,108,864 lc of the calendar's count, entries with d below 134,217,728 move to the coarse ring. -/
def execFarListScan (s : State) : Host.Outcome State Fault Refusal :=
  .next <|
    if s.calNow / 67108864 ≤ s.tmg.farScan then s
    else { s with tmg := { s.tmg with
      farScan := s.calNow / 67108864
      cal := replaceWhere (fun x => x.place == 2 && decide (x.e < (s.calNow + 134217728) * 65536)) 1 s.tmg.cal } }

/-! The sampler (R290). -/

/-- DEPTH_SAMPLE (R290): SAMPLE_US after the latest sample each watched queue's occupancy is binned. -/
def execDepthSample (s : State) : Host.Outcome State Fault Refusal :=
  .next <|
    if s.fld F.TMG_CFG_SAMPLER_EN 0 = 0 ∨ s.ltb.lc < s.tmg.sampleLc + usLc (max 1 (s.fld F.TMG_SAMPLE_CFG_SAMPLE_US 0)) then s else
    (List.map Prod.fst s.tmg.watches).foldl (fun t w =>
      let x := t.watch w
      if !x.en then t else
      let u := (t.queue (qKey x.dir x.queue)).occ / (256 * 2 ^ t.fld F.TMG_SAMPLE_CFG_DEPTH_SHIFT 0)
      t.setWatch w { x with depth := bumpBin x.depth (binOf u), peak := max x.peak u }) ({ s with tmg := { s.tmg with sampleLc := s.ltb.lc } } : State)

/-! Commands (R292 to R295). -/

/-- A queue number outside its direction's range (R265, R293). -/
def badQueue (dir q : Nat) : Bool := decide ((if dir = 0 then 16384 else 8192) ≤ q)

/-- The setting of QUEUE_SET's words. -/
def qcfgOf (d : Desc) : QCfg :=
  let up := !bit (d.dw 5) 30
  { shapeEn := bit (d.dw 5) 29, chan := if up then bits (d.dw 6) 17 16 else 0,
    parent := if up then bits (d.dw 6) 13 0 else bits (d.dw 6) 9 0, tc := bits (d.dw 7) 26 24, weight := bits (d.dw 7) 9 0,
    quota := bits (d.dw 8) 21 0, yelPct := bits (d.dw 9) 15 8, redPct := bits (d.dw 9) 7 0, refill := bits (d.dw 10) 31 24,
    onchipMax := bits (d.dw 10) 17 0, pir := bits (d.dw 11) 28 0, burst := bits (d.dw 12) 23 0, adj := bits (d.dw 13) 7 0,
    entry := if up then bits (d.dw 14) 13 0 else 0 }

/-- The first argument word of QUEUE_SET that offends (R293), 0 for none. -/
def queueSetBad (d : Desc) : Nat :=
  let dir := bits (d.dw 5) 30 30
  let c := qcfgOf d
  if badQueue dir (bits (d.dw 5) 14 0) then 5
  else if c.weight = 0 then 7
  else if c.yelPct < c.redPct ∨ 100 < c.yelPct then 9
  else if dir = 0 ∧ c.refill = 0 then 10
  else if c.shapeEn ∧ c.pir = 0 then 11
  else 0

/-- The state QUEUE_SET gives (R295). -/
def nextQueueSt (st : Nat) (en empty : Bool) : Nat :=
  if en then 1 else if st = 0 then 0 else if empty then 0 else 2

/-- The shaper after a change of setting (R288): cleared or unshaped, it leaves the calendar; a new rate recomputes e as E_base + L_last × t, no
earlier than now. -/
def State.reshape (s : State) (ent : Nat) (shaped : Bool) (eBase lastLen rate : Nat) : State :=
  if !shaped then { s with tmg := { s.tmg with cal := s.tmg.cal.filter (fun x => x.ent != ent) } }
  else if s.onCal ent then s.calPut ent (eBase + lcPerByte lastLen rate)
  else s

/-- A child leaves its node at once; in a new one it starts at that node's virtual time (R285, R288). -/
def State.leaveNode (s : State) (e old new : Nat) : State :=
  if old = new then s else s.setKid e ⟨s.vt new, s.vt new, false⟩

/-- A flush of the queue waits for a frozen channel: it holds later commands for the queue until it retires (R294, R295). -/
def State.flushing (s : State) (k : Nat) : Bool :=
  s.tmg.flushes.any (fun x => qKey (bits (x.1.dw 5) 30 30) (bits (x.1.dw 5) 14 0) == k)

/-- QUEUE_SET (R288, R292, R293, R295). -/
def execQueueSet (d : Desc) (s : State) : Host.Outcome State Fault Refusal :=
  .next <| s.asCommand d 0x2001 true <|
    if queueSetBad d ≠ 0 then s.refuse d stBadArg (queueSetBad d)
    else if s.flushing (qKey (bits (d.dw 5) 30 30) (bits (d.dw 5) 14 0)) then s
    else
      let k := qKey (bits (d.dw 5) 30 30) (bits (d.dw 5) 14 0)
      let q := s.queue k
      let c := qcfgOf d
      let q1 : Queue := { q with cfg := c, st := nextQueueSt q.st (bit (d.dw 5) 31) q.all.isEmpty }
      let s1 := (s.setQueue k q1).leaveNode k (nodeOfQueue k q) (nodeOfQueue k q1)
      let s2 := s1.reshape k c.shapeEn q1.eBase q1.lastLen c.pir
      let s3 := if keyDir k = 1 ∧ q.cfg.parent ≠ c.parent then s2.refreshGroup q.cfg.parent else s2
      (s3.refreshQueue k).finish d stOk q1.st

/-- The 64-byte record of QUEUE_READ. -/
def State.queueWords (s : State) (k : Nat) : List Nat :=
  let q := s.queue k
  let dr := fun c => SMap.get q.drops c 0
  let b := q.occ
  let kb := q.kettleBytes
  [q.st * 2 ^ 30 + b2n (keyDir k == 0 && s.bound q) * 2 ^ 29 + b2n (s.queueHeld q) * 2 ^ 28 + q.chipCells % 2 ^ 18, q.all.length,
   b % 2 ^ 32, b / 2 ^ 32, kb % 2 ^ 32, kb / 2 ^ 32, q.enq % 2 ^ 32, q.enq / 2 ^ 32, q.deq % 2 ^ 32, q.deq / 2 ^ 32,
   dr 1, dr 2, dr 3, dr 4, dr 5 + dr 6 * 2 ^ 16, q.peak / 4096]

/-- QUEUE_READ (R292). -/
def execQueueRead (d : Desc) (s : State) : Host.Outcome State Fault Refusal :=
  .next <| s.asCommand d 0x2002 true <|
    let dir := bits (d.dw 5) 30 30
    let first := bits (d.dw 5) 14 0
    let n := bits (d.dw 6) 8 0
    if !d.buf ∨ d.bufLen < n * 64 then s.refuse d stBadArg 4
    else if badQueue dir first then s.refuse d stBadArg 5
    else if n = 0 ∨ 256 < n ∨ badQueue dir (first + n - 1) then s.refuse d stBadArg 6
    else if (List.range n).any (fun i => s.flushing (qKey dir (first + i))) then s
    else
      let s1 := s.toBuf d ((List.range n).map (fun i => s.queueWords (qKey dir (first + i)))).flatten
      let s2 := if bit (d.dw 7) 0 then
          (List.range n).foldl (fun t i =>
            let k := qKey dir (first + i)
            t.setQueue k { t.queue k with enq := 0, deq := 0, drops := [], peak := 0 }) s1
        else s1
      s2.finish d stOk n

/-- Frames of a queue are discarded under cause 6 (R295), but for the middle pages kept. -/
def State.flushFrames (s : State) (k : Nat) (keep : List KPage) : Nat × State :=
  let q := s.queue k
  let gone := q.middle.filter (fun pg => !keep.contains pg)
  let onchip := q.head ++ q.tail
  let n := onchip.length + sumOf (gone.map (fun pg => pg.frames.length))
  let q1 : Queue := { q with head := [], middle := keep, tail := [] }
  let s1 := (s.setQueue k q1.settle).countDrop k 6 n
  let s2 := onchip.foldl (fun t f => (t.freeCells f.pool (cellsOf f.len)).fcFor f) s1
  (n, (gone.foldl (fun t pg => t.freePageNo pg.page) s2).refreshQueue k)

/-- A page lies in a channel frozen under HOLD. -/
def State.pageHeld (s : State) (pg : KPage) : Bool :=
  s.chSt (s.pageChan pg.page) == 4 && s.fld F.MEM_CH_CFG_FREEZE_TRAFFIC (s.pageChan pg.page) == 0

/-- QUEUE_FLUSH (R292, R295): a draining queue's frames are discarded; pages in a channel frozen under HOLD keep the command waiting until that channel
returns. -/
def execQueueFlush (d : Desc) (s : State) : Host.Outcome State Fault Refusal :=
  .next <| s.asCommand d 0x2003 true <|
    let dir := bits (d.dw 5) 30 30
    let n := bits (d.dw 5) 14 0
    let k := qKey dir n
    let q := s.queue k
    if badQueue dir n then s.refuse d stBadArg 5
    else if s.flushing k then s
    else if q.st = 1 then s.refuse d stStateRefused (refusedWord 0x48 dir 1)
    else if q.st = 0 then s.finish d stOk 0
    else
      let keep := q.middle.filter (fun pg => s.pageHeld pg)
      let (cnt, s1) := s.flushFrames k keep
      if keep.isEmpty then s1.finish d stOk (min cnt 0xFFFFFFFF)
      else { s1 with tmg := { s1.tmg with flushes := s1.tmg.flushes ++ [(d, cnt)] } }

/-- Flushes that waited for a channel end once none of their queue's pages is held (R295). -/
def State.flushReady (s : State) : State :=
  s.tmg.flushes.foldl (fun t x =>
    let k := qKey (bits (x.1.dw 5) 30 30) (bits (x.1.dw 5) 14 0)
    if (t.queue k).middle.any (fun pg => t.pageHeld pg) then t
    else
      let (n, t1) := t.flushFrames k []
      State.finish { t1 with tmg := { t1.tmg with flushes := t1.tmg.flushes.filter (· != x) } } x.1 stOk (min (x.2 + n) 0xFFFFFFFF)) s

/-- GROUP_SET (R288, R292, R293). -/
def execGroupSet (d : Desc) (s : State) : Host.Outcome State Fault Refusal :=
  .next <| s.asCommand d 0x2004 true <|
    let g := bits (d.dw 5) 9 0
    let p := bits (d.dw 6) 1 0
    let x := s.group g
    let y : Group := { x with
        en := bit (d.dw 5) 31, port := p, tc := bits (d.dw 6) 10 8, weight := bits (d.dw 7) 9 0,
        pir := bits (d.dw 8) 28 0, burst := bits (d.dw 9) 23 0, adj := bits (d.dw 10) 7 0 }
    if s.noPort p then s.refuse d stBadArg 5
    else if y.weight = 0 then s.refuse d stBadArg 7
    else
      let s1 := (s.setGroup g y).leaveNode (groupEnt g) (ptcEnt x.port x.tc) (ptcEnt y.port y.tc)
      let s2 := s1.reshape (groupEnt g) (y.pir != 0) y.eBase y.lastLen y.pir
      ((s2.refreshPtc x.port x.tc).refreshGroup g).finish d stOk 0

/-- PORT_TC_SET (R292, R293). -/
def execPortTcSet (d : Desc) (s : State) : Host.Outcome State Fault Refusal :=
  .next <| s.asCommand d 0x2005 true <|
    let p := bits (d.dw 5) 1 0
    let x : PortTc := ⟨bits (d.dw 6) 7 0,
      (List.range 8).map (fun t => bits (d.dw (7 + t / 4)) (8 * (t % 4) + 7) (8 * (t % 4)))⟩
    if s.noPort p then s.refuse d stBadArg 5
    else if (List.range 8).any (fun t => !bit x.strict t && x.weights.getD t 0 == 0) then s.refuse d stBadArg 7
    else
      (State.refreshPort { s with tmg := { s.tmg with ports := SMap.put s.tmg.ports p x portTcReset } } p).finish d stOk 0

/-- METER_SET (R288, R292, R293): tokens are kept, refilled at the new rates from now on and limited to the new sizes; RESET sets both
buckets full. -/
def execMeterSet (d : Desc) (s : State) : Host.Outcome State Fault Refusal :=
  .next <| s.asCommand d 0x2006 true <|
    let i := bits (d.dw 5) 15 0
    let m := (s.meter i).fill s.calNow
    let b1 := bits (d.dw 8) 23 0
    let b2 := bits (d.dw 9) 23 0
    let reset := bit (d.dw 5) 28
    let y : Meter := { m with
        en := bit (d.dw 5) 31, mode := bits (d.dw 5) 30 30, aware := bit (d.dw 5) 29, r1 := bits (d.dw 6) 28 0,
        r2 := bits (d.dw 7) 28 0, b1 := b1, b2 := b2, adj := bits (d.dw 10) 7 0,
        t1 := if reset then b1 * 65536 else min (b1 * 65536) m.t1, t2 := if reset then b2 * 65536 else min (b2 * 65536) m.t2 }
    if y.mode = 0 ∧ y.en ∧ y.r2 < y.r1 then s.refuse d stBadArg 7
    else (s.setMeter i y).finish d stOk 0

/-- The 64-byte record of METER_READ. -/
def State.meterWords (s : State) (i : Nat) : List Nat :=
  let m := s.meter i
  let f := m.fill s.calNow
  [b2n m.en * 2 ^ 31 + m.mode * 2 ^ 30 + b2n m.aware * 2 ^ 29 + i, m.r1, m.r2, m.b1, m.b2, m.adj, f.t1 / 65536, f.t2 / 65536,
   m.green % 2 ^ 32, m.green / 2 ^ 32, m.yellow % 2 ^ 32, m.yellow / 2 ^ 32, m.red % 2 ^ 32, m.red / 2 ^ 32, 0, 0]

/-- METER_READ (R292). -/
def execMeterRead (d : Desc) (s : State) : Host.Outcome State Fault Refusal :=
  .next <| s.asCommand d 0x2007 true <|
    let first := bits (d.dw 5) 15 0
    let n := bits (d.dw 6) 16 0
    if !d.buf ∨ d.bufLen < n * 64 then s.refuse d stBadArg 4
    else if n = 0 ∨ 65536 < first + n then s.refuse d stBadArg 6
    else
      let s1 := s.toBuf d ((List.range n).map (fun i => s.meterWords (first + i))).flatten
      let s2 := if bit (d.dw 7) 0 then
          (List.range n).foldl (fun t i => t.setMeter (first + i) { t.meter (first + i) with green := 0, yellow := 0, red := 0 }) s1
        else s1
      s2.finish d stOk n

/-- WATCH_SET (R290, R292): names the watched queue and clears the slot's histograms. -/
def execWatchSet (d : Desc) (s : State) : Host.Outcome State Fault Refusal :=
  .next <| s.asCommand d 0x2008 true <|
    let dir := bits (d.dw 5) 30 30
    let q := bits (d.dw 6) 14 0
    if badQueue dir q then s.refuse d stBadArg 5
    else (s.setWatch (bits (d.dw 5) 10 0) { watchOff with en := bit (d.dw 5) 31, dir := dir, queue := q }).finish d stOk 0

/-- The 160-byte record of SAMPLER_READ. -/
def Watch.words (x : Watch) : List Nat :=
  [b2n x.en * 2 ^ 31 + x.dir * 2 ^ 30 + x.queue, x.untimed, x.peak, 0] ++ x.depth ++ x.delay ++ [0, 0, 0, 0]

/-- The histograms of a slot start afresh. -/
def Watch.cleared (x : Watch) : Watch := { watchOff with en := x.en, dir := x.dir, queue := x.queue }

/-- SAMPLER_READ (R292). -/
def execSamplerRead (d : Desc) (s : State) : Host.Outcome State Fault Refusal :=
  .next <| s.asCommand d 0x2009 true <|
    let first := bits (d.dw 5) 10 0
    let n := bits (d.dw 6) 11 0
    if !d.buf ∨ d.bufLen < n * 160 then s.refuse d stBadArg 4
    else if n = 0 ∨ 2048 < first + n then s.refuse d stBadArg 6
    else
      let s1 := s.toBuf d ((List.range n).map (fun i => (s.watch (first + i)).words)).flatten
      let s2 := if bit (d.dw 7) 0 then
          (List.range n).foldl (fun t i => t.setWatch (first + i) (t.watch (first + i)).cleared) s1
        else s1
      s2.finish d stOk n

/-! Register writes with an effect of their own (R276, R277, R288, R289, R297). -/

/-- TMG_CFG: FC_EN starts or ends the signalling. -/
def State.writeTmgCfg (s : State) (v : Nat) : State := (s.applyWrite 0x800000 v).fcAll

/-- TMG_POOLk: discarded where the four sizes would sum to more than 229,376 (R276). -/
def State.writeTmgPool (s : State) (k v : Nat) : State :=
  let t := s.applyWrite (0x800010 + 4 * k) v
  if 229376 < sumOf ((List.range 4).map (fun i => t.fld (poolSizeF i) 0)) then s else t.poolLow k

/-- A region register: discarded where the regions would overlap or pass the installed total (R299), and for the Kettle while any page is in use
(R277). A change of the Kettle region ends its pages' retirement (R314). -/
def State.writeRegion (s : State) (addr v : Nat) (kettle : Bool) : State :=
  let t := s.applyWrite addr v
  if !t.regionsOk ∨ (kettle ∧ s.pageCount ≠ 0) then s
  else if kettle then { t with tmg := { t.tmg with retired := [], retiring := [] } }
  else t

/-- The depth and delay bins of a slot start afresh. -/
def Watch.emptied (x : Watch) : Watch := { x with depth := watchOff.depth, delay := watchOff.delay }

/-- TMG_SAMPLE_CFG: a write clears every histogram. -/
def State.writeSampleCfg (s : State) (v : Nat) : State :=
  let t := s.applyWrite 0x800044 v
  { t with tmg := { t.tmg with watches := t.tmg.watches.map (fun p => (p.1, p.2.emptied)) } }

/-- TMG_FC_CFG. -/
def State.writeFcCfg (s : State) (v : Nat) : State := (s.applyWrite 0x800048 v).fcAll

end Sys2Proof.Machine
end

