-- ==== Sys2Proof/Machine/Mem.lean ====
section
/-!
DEFINITION. Sys2Proof/Machine/Mem.lean: DDR5 and QDR-IV training, parity alerts, refetch, regulation, Rinse, and the MEM commands (R303 to
R334).
-/
namespace Sys2Proof.Machine

/-! Channel states (R303). -/

/-- A channel's state is written. -/
def State.chTo (s : State) (n v : Nat) : State := s.setFld F.MEM_CH_STATUS_STATE n v

/-- Entry to SERVICE from TRAINING or SELF_REFRESH: latency-target mode for SETTLE_US (R303, R322). -/
def State.chServe (s : State) (n : Nat) : State :=
  (s.chTo n 2).setMemCh n { s.memCh n with settleEnd := some (s.ltb.lc + usLc (s.fld F.MEM_QOS_CFG_SETTLE_US 0)) }

/-- The DDR5 channels that are training. -/
def State.trainingChans (s : State) : List Nat := (List.range 4).filter (fun n => s.chSt n == 1)

/-- TRAIN_FAIL (R302, R334): MACRO's low bits are held at zero. -/
def State.trainFail (s : State) (itf : Nat) (x : TrainFail) : State :=
  s.faultEvent 0x09 0x00F3 (errLoc 0x09 (min itf 4) (if itf < 4 then x.mac / 8 * 8 else x.mac / 32 * 32) x.row) (itf + x.step * 256) 0

/-- The requests that a command makes of the Kettle (R319, R321). -/
def kettleReq (r : MemReq) : Bool := decide (r.client < 2)

/-! Regulation and issue (R315, R321 to R323). -/

/-- LINES and CARRY of a client, by code (R321). -/
def State.regOf (s : State) (c : Nat) : Nat × Nat :=
  match c with
  | 0 => (s.fld F.MEM_REG0_LINES 0, s.fld F.MEM_REG0_CARRY 0)
  | 1 => (s.fld F.MEM_REG1_LINES 0, s.fld F.MEM_REG1_CARRY 0)
  | 2 => (s.fld F.MEM_REG2_LINES 0, s.fld F.MEM_REG2_CARRY 0)
  | 3 => (s.fld F.MEM_REG3_LINES 0, s.fld F.MEM_REG3_CARRY 0)
  | 4 => (s.fld F.MEM_REG4_LINES 0, s.fld F.MEM_REG4_CARRY 0)
  | _ => (s.fld F.MEM_REG5_LINES 0, s.fld F.MEM_REG5_CARRY 0)

/-- TARGET of a client; 0 is treated as 1 (R321). -/
def State.targetOf (s : State) (c : Nat) : Nat :=
  max 1 (match c with
    | 0 => s.fld F.MEM_TGT0_TARGET 0
    | 1 => s.fld F.MEM_TGT1_TARGET 0
    | 2 => s.fld F.MEM_TGT2_TARGET 0
    | 3 => s.fld F.MEM_TGT3_TARGET 0
    | 4 => s.fld F.MEM_TGT4_TARGET 0
    | _ => s.fld F.MEM_TGT5_TARGET 0)

/-- A read or write of a line, which the arbitration serves; every other command is the controller's own and is issued at once. -/
def reqAccess (r : MemReq) : Bool := r.cmd == 2 || r.cmd == 3

/-- Urgency of a request (R322): 3 − ⌊4 × remaining ÷ TARGET⌋, limited to 0 to 3. -/
def WaitReq.urgency (w : WaitReq) (lc : Nat) : Nat := 3 - min 3 (4 * (w.arrived + w.target - lc) / w.target)

/-- The request latency-target mode serves first: the highest urgency, then the earliest deadline, then the oldest. -/
def mostUrgent (lc : Nat) (l : List WaitReq) : Option WaitReq :=
  l.foldl (fun best w =>
    match best with
    | none => some w
    | some b =>
      if b.urgency lc < w.urgency lc ∨ (b.urgency lc = w.urgency lc ∧ w.arrived + w.target < b.arrived + b.target) then some w else some b) none

/-- The request regulated mode serves first: round-robin among the clients with budget, then, while SPARE_EN is 1, among the others. -/
def State.regulated (s : State) (m : MemCh) : Option WaitReq :=
  let turn := (List.range 6).map (fun i => (m.rr + 1 + i) % 6)
  let oldest := fun c => m.waiting.find? (fun w => w.req.client % 6 == c)
  match turn.findSome? (fun c => if SMap.get m.budget c 0 = 0 then none else oldest c) with
  | some w => some w
  | none => if s.fld F.MEM_QOS_CFG_SPARE_EN 0 = 1 then turn.findSome? oldest else none

/-- The request a channel issues next: a command of its own, else by the arbitration mode in force (R322). -/
def State.nextIssue (s : State) (n : Nat) : Option WaitReq :=
  let m := s.memCh n
  match m.waiting.find? (fun w => !reqAccess w.req) with
  | some w => some w
  | none => if s.qosMode n = 1 then mostUrgent s.ltb.lc m.waiting else s.regulated m

/-- The retirement window of a command issued now (R315). -/
def State.alertWin (s : State) (n : Nat) : Nat := max 32 (s.fld F.MEM_CH_CFG_ALERT_WIN n)

/-- A request is issued: it takes an entry, uses its client's budget in regulated mode, and is LATE where it is served after its deadline in latency-target mode. -/
def State.issueReq (s : State) (n : Nat) (w : WaitReq) : State :=
  let m := s.memCh n
  let c := w.req.client % 6
  let lat := s.qosMode n == 1
  let s1 := s.setMemCh n { m with
    waiting := m.waiting.erase w
    retry := m.retry ++ [⟨w.req, s.ltb.lc, s.alertWin n⟩]
    budget := if lat || !reqAccess w.req then m.budget else SMap.put m.budget c (SMap.get m.budget c 0 - 1) 0
    rr := if lat || !reqAccess w.req then m.rr else c }
  if lat && reqAccess w.req && decide (w.arrived + w.target < s.ltb.lc) then s1.satAdd F.MEM_CH_COUNT2_LATE n 1 else s1

/-- Waiting requests are issued while the buffer of 64 has room; a full buffer stalls issue, each stall counted in RETRY_FULL (R315). -/
def State.issueAll (s : State) (n : Nat) : Nat → State
  | 0 => s
  | k + 1 =>
    match s.nextIssue n with
    | none => s
    | some w =>
      if 64 ≤ (s.memCh n).retry.length then s.satAdd F.MEM_CH_COUNT2_RETRY_FULL n 1
      else (s.issueReq n w).issueAll n k

/-- Requests arrive at a channel, each with its deadline fixed by the TARGET in force (R322, R323). -/
def State.arriveReqs (s : State) (n : Nat) (reqs : List MemReq) : State :=
  s.setMemCh n { s.memCh n with waiting := (s.memCh n).waiting ++ reqs.map (fun r => ⟨r, s.ltb.lc, s.targetOf (r.client % 6)⟩) }

/-- A channel in service issues what waits. -/
def State.serveCh (s : State) (n : Nat) : State := if s.chInService n then s.issueAll n ((s.memCh n).waiting.length + 1) else s

/-- The unretired entries that resume issues again: reads and writes of the Kettle, the Saucer and the engine region, in order (R319, R320). -/
def State.reissue (s : State) (n : Nat) : State :=
  let m := s.memCh n
  s.setMemCh n { m with
    retry := (m.retry.filter (fun e => reqAccess e.req && (e.req.client < 3 || e.req.client == 5))).map
      (fun e => { e with issued := s.ltb.lc })
    replayLeft := 0, replays := 0 }

/-- Kettle reads and writes in the retry buffer are abandoned, and the channel's Kettle traffic with them (R280, R319). -/
def State.dropTraffic (s : State) (n : Nat) : State :=
  let m := s.memCh n
  ((s.setMemCh n { m with
    retry := m.retry.filter (fun e => !kettleReq e.req)
    waiting := m.waiting.filter (fun w => !kettleReq w.req) }).dropFrozen n).flushReady

/-- Entry to FROZEN (R318): cause 1 ALERT, 2 ESCALATED, 3 HOST. -/
def State.freezeCh (s : State) (n cause replays loc : Nat) : State :=
  let m := s.memCh n
  let refresh := s.fld F.MEM_CH_CFG_FREEZE_REFRESH n = 1
  let s1 := (s.chTo n 4).setMemCh n { m with
    snap := some ⟨cause, replays, loc, s.stamp, m.retry.take 64, s.ltb.lc⟩
    replayLeft := 0, replays := 0, settleEnd := none, refreshed := refresh }
  let s2 := (s1.setFld F.MEM_CH_FRZ_STAMP_LO_STAMP n s.stamp).setFld F.MEM_CH_FRZ_STAMP_HI_STAMP n (s.stamp / 2 ^ 32)
  let s3 := (s2.raise F.MEM_EVENT_FROZEN F.MEM_EVENT_EVCNT_FROZEN 0).faultEvent 0x09 0x00F0 loc (n + cause * 256) replays
  if s3.fld F.MEM_CH_CFG_FREEZE_TRAFFIC n = 1 then s3.dropTraffic n else s3

/-! Training (R303 to R306). -/

/-- A set's VALID bit. -/
def validF : Nat → Fld
  | 0 => F.MEM_DDR_STATUS_VALID_A
  | _ => F.MEM_DDR_STATUS_VALID_B

/-- The active set, 0 A or 1 B. -/
def State.activeSet (s : State) : Nat := s.fld F.MEM_DDR_STATUS_ACTIVE_SET 0

/-- The fields of a timing set, MEM_TIMx0 to MEM_TIMx3 (R306). -/
def timingFields (set : Nat) : List Fld :=
  if set = 0 then
    [F.MEM_TIMA0_RATE, F.MEM_TIMA0_CL, F.MEM_TIMA0_CWL, F.MEM_TIMA0_TRCD, F.MEM_TIMA0_TRP, F.MEM_TIMA1_TRAS, F.MEM_TIMA1_TRC, F.MEM_TIMA1_TFAW,
     F.MEM_TIMA1_TWR, F.MEM_TIMA2_TRFC1, F.MEM_TIMA2_TRFCSB, F.MEM_TIMA2_TRRD_L, F.MEM_TIMA3_TREFI, F.MEM_TIMA3_TWTR_L, F.MEM_TIMA3_TWTR_S]
  else
    [F.MEM_TIMB0_RATE, F.MEM_TIMB0_CL, F.MEM_TIMB0_CWL, F.MEM_TIMB0_TRCD, F.MEM_TIMB0_TRP, F.MEM_TIMB1_TRAS, F.MEM_TIMB1_TRC, F.MEM_TIMB1_TFAW,
     F.MEM_TIMB1_TWR, F.MEM_TIMB2_TRFC1, F.MEM_TIMB2_TRFCSB, F.MEM_TIMB2_TRRD_L, F.MEM_TIMB3_TREFI, F.MEM_TIMB3_TWTR_L, F.MEM_TIMB3_TWTR_S]

/-- A set comes into use with its timings as written (R306). -/
def State.useSet (s : State) (set : Nat) : State :=
  let s1 := s.setFld F.MEM_DDR_STATUS_ACTIVE_SET 0 set
  { s1 with mem := { s1.mem with timings := (timingFields set).map (fun f => s.fld f 0) } }

/-- MEM_DDR_CFG (R303): the fields other than TRAIN are discarded once training has begun; TRAIN written 1 in SETUP with the channels OFF trains
every channel and records the installed total. -/
def State.writeDdrCfg (s : State) (v : Nat) : State :=
  let off := (List.range 4).all (fun n => s.chSt n == 0)
  let s1 := if off then s.applyWrite 0x900000 v else s
  if bit v 31 && off && s1.is F.HIF_STATUS_STAGE 0 3 then
    let s2 := (s1.setFld F.MEM_DDR_STATUS_CAP_GB 0 s1.fittedGb).useSet (s1.fld F.MEM_DDR_CFG_SET 0)
    (List.range 4).foldl (fun t n => (t.chTo n 1).setFld F.MEM_CH_STATUS_TRAIN_STEP n 0) ({ s2 with mem := { s2.mem with full := true } } : State)
  else s1

/-- DDR_TRAIN: the write of MEM_DDR_CFG. -/
def execDdrTrain (v : Word) (s : State) : Host.Outcome State Fault Refusal :=
  .next (s.hostWrite 0x900000 v.toNat (fun t => t.landed 0x900000 v.toNat (fun u => u.writeDdrCfg v.toNat)))

/-- A write to a timing set clears its VALID (R306). -/
def State.writeTiming (s : State) (addr v : Nat) : State :=
  (s.applyWrite addr v).setFld (validF (if addr < 0x900090 then 0 else 1)) 0 0

/-- MEM_FREQ ends (R307, R334). -/
def State.freqDone (s : State) (d : Desc) (us : Nat) : State :=
  (s.notify 0x09 0x0002 s.activeSet us).finish d stOk us

/-- A MEM_FREQ whose channels retrained ends once none of them trains: OK with the time it took, or FAULT where one reached OFF (R307). -/
def State.freqCheck (s : State) (off : Option Nat) : State :=
  match s.mem.freq with
  | none => s
  | some d =>
    if !s.trainingChans.isEmpty then s
    else
      let s1 : State := { s with mem := { s.mem with freq := none } }
      match off with
      | some n => s1.finish d stFault (errTile 0x09 n)
      | none => s1.freqDone d ((s.ltb.lc - s.mem.freqFrom) * 100 / 124416)

/-- The pass time of an interface in line cycles: DDR_PASS_MIN minutes or QDR_PASS_S seconds, 0 treated as 1 (R327). -/
def State.passTime (s : State) (itf : Nat) : Nat :=
  1244160000 * (if itf < 4 then 60 * max 1 (s.fld F.MEM_RINSE_CFG_DDR_PASS_MIN 0) else max 1 (s.fld F.MEM_RINSE_CFG_QDR_PASS_S 0))

/-- A Rinse pass of an interface begins. -/
def State.beginPass (s : State) (itf : Nat) : State :=
  { s with mem := { s.mem with passes := SMap.insert s.mem.passes itf ⟨s.stamp, s.ltb.lc, s.passTime itf, 0, 0⟩ } }

/-- The first pass of an interface begins when it first enters service. -/
def State.startRinse (s : State) (itf : Nat) : State := if (SMap.find s.mem.passes itf).isSome then s else s.beginPass itf

/-- The training channels have passed every step: trained sets are VALID, the first training after cold reset has written every line (step 7), the held
requests are issued, Rinse begins, and the channels are in SERVICE (R304, R305, R320, R327). -/
def State.trainPass (s : State) (chs : List Nat) : State :=
  let a := s.activeSet
  let s1 := State.setFld { s with mem := { s.mem with full := false } } (validF a) 0 1
  let s2 := if s.mem.full && s.is F.MEM_DDR_CFG_DUAL 0 1 then s1.setFld (validF (1 - a)) 0 1 else s1
  let s3 : State := if s2.mem.inited then s2
    else { s2 with mem := { s2.mem with lines := [], inited := true } }
  let s4 := chs.foldl (fun t n => ((((t.setFld F.MEM_CH_STATUS_TRAIN_STEP n 0).chServe n).reissue n).serveCh n).startRinse n) s3
  s4.flushReady

/-- DDR_TRAINING_END (R303, R305): training of the channels in TRAINING ends, with the failed steps. A failure on any of them leaves every one of them in
OFF. -/
def execDdrTrainingEnd (fails : List TrainFail) (s : State) : Host.Outcome State Fault Refusal :=
  .next <|
    let chs := s.trainingChans
    let bad := fails.filter (fun x => chs.contains x.chan)
    if chs.isEmpty then s
    else if bad.isEmpty then (s.trainPass chs).freqCheck none
    else
      let s1 := chs.foldl (fun t n => t.chTo n 0) ({ s with mem := { s.mem with full := false } } : State)
      let s2 := bad.foldl (fun t x => (t.setFld F.MEM_CH_STATUS_TRAIN_STEP x.chan x.step).trainFail x.chan x) s1
      s2.freqCheck ((bad.head?).map TrainFail.chan)

/-- MEM_QDR_CFG (R325): PARITY_EN takes effect at the next TRAIN; TRAIN written 1 in SETUP trains the group when it is OFF. -/
def State.writeQdrCfg (s : State) (v : Nat) : State :=
  let s1 := s.applyWrite 0x900008 v
  if bit v 31 && s1.is F.HIF_STATUS_STAGE 0 3 && s1.is F.MEM_QDR_STATUS_STATE 0 0 then
    let s2 := (s1.setFld F.MEM_QDR_STATUS_STATE 0 1).setFld F.MEM_QDR_STATUS_TRAIN_STEP 0 0
    { s2 with mem := { s2.mem with qdrParity := s1.is F.MEM_QDR_CFG_PARITY_EN 0 1 } }
  else s1

/-- QDR_TRAIN: the write of MEM_QDR_CFG. -/
def execQdrTrain (v : Word) (s : State) : Host.Outcome State Fault Refusal :=
  .next (s.hostWrite 0x900008 v.toNat (fun t => t.landed 0x900008 v.toNat (fun u => u.writeQdrCfg v.toNat)))

/-- QDR_TRAINING_END (R325): the group enters SERVICE and Rinse begins, or stays OFF with TRAIN_STEP and TRAIN_FAIL. -/
def execQdrTrainingEnd (fail : Option TrainFail) (s : State) : Host.Outcome State Fault Refusal :=
  .next <|
    if s.fld F.MEM_QDR_STATUS_STATE 0 ≠ 1 then s
    else match fail with
      | none => (s.setFld F.MEM_QDR_STATUS_STATE 0 2).startRinse 4
      | some x => (((s.setFld F.MEM_QDR_STATUS_STATE 0 0).setFld F.MEM_QDR_STATUS_TRAIN_STEP 0 x.step)).trainFail 4 x

/-! The retry buffer, replay and freeze (R315 to R319, R326). -/

/-- The unretired entries are issued again, oldest first (R316). -/
def State.replay (s : State) (n replays : Nat) : State :=
  let m := s.memCh n
  (s.setMemCh n { m with retry := m.retry.map (fun e => { e with issued := s.ltb.lc }), replayLeft := m.retry.length, replays := replays }).satAdd
    F.MEM_CH_COUNT_REPLAYS n 1

/-- PARITY_ALERT (R303, R316, R318): an alert on channel `n`, after the requests that came since the last row about it, which a channel in SERVICE issued. The alert names
sub-channel, rank and ROW (R302, device unresolved). -/
def execParityAlert (n : Nat) (reqs : List MemReq) (sub rank row : Nat) (s : State) : Host.Outcome State Fault Refusal :=
  .next <|
    let s0 := s.arriveReqs n reqs
    let s1 := if s0.chSt n = 2 then s0.serveCh n else s0
    let m := s1.memCh n
    let loc := errLoc 0x09 (n % 4) (ddrMacro sub rank) row
    match s1.chSt n with
    | 2 => if s1.is F.MEM_CH_CFG_PARITY_MODE n 1 then s1.freezeCh n 1 0 loc else (s1.chTo n 3).replay n 1
    | 3 => if m.replays < max 1 (s1.fld F.MEM_CH_CFG_REPLAY_MAX n) then s1.replay n (m.replays + 1) else s1.freezeCh n 2 m.replays loc
    | _ => s1

/-- ENTRY_RETIRE (R315, R303): requests come and are issued, and the oldest entry of channel `n` retires once its window has passed with no alert. A replay whose every
entry has retired ends. -/
def execEntryRetire (n : Nat) (reqs : List MemReq) (s : State) : Host.Outcome State Fault Refusal :=
  .next <|
    let s1 := (s.arriveReqs n reqs).serveCh n
    let m := s1.memCh n
    match m.retry with
    | [] => s1
    | e :: rest =>
      if !s1.chInService n ∨ s1.ltb.lc < e.issued + e.win then s1
      else
        let left := m.replayLeft - 1
        let s2 := s1.setMemCh n { m with retry := rest, replayLeft := left, replays := if left = 0 then 0 else m.replays }
        (if s1.chSt n = 3 ∧ left = 0 then s2.chTo n 2 else s2).serveCh n

/-- QDR_PARITY_ERROR (R326): the buffered writes are reissued in order and the replay is counted. -/
def execQdrParityError (s : State) : Host.Outcome State Fault Refusal :=
  .next (if s.is F.MEM_QDR_STATUS_STATE 0 2 && s.mem.qdrParity then s.satAdd F.MEM_QDR_COUNT_REPLAYS 0 1 else s)

/-! Reads, narrow writes, regulation (R310 to R313, R322). -/

/-- ERR_LOC of a line of an interface. -/
def State.lineLoc (s : State) (itf line : Nat) : Nat := if itf < 4 then s.ddrLoc (line * 64) else qdrLoc line

/-- A Rinse read's outcome in the pass in progress. -/
def State.countRinse (s : State) (itf : Nat) (ok : Bool) : State :=
  match SMap.find s.mem.passes itf with
  | none => s
  | some p =>
    let q : RinsePass := if ok then { p with corrected := p.corrected + 1 } else { p with uncorr := p.uncorr + 1 }
    { s with mem := { s.mem with passes := SMap.insert s.mem.passes itf q } }

/-- The stored line of an interface passes its outer check (R241, R300). -/
def State.storedGood (s : State) (itf line : Nat) : Bool := if itf < 4 then s.ddrGood line else s.lineGood line

/-- REFETCH (R310, R311, R328): a line whose first copy failed its outer check is read again; `fails` copies in a row failed. Client 3 is Rinse; an uncorrectable read
of the engine region (client 5) ends the command whose task made it. -/
def execRefetch (itf line client fails : Nat) (work : Option Desc) (s : State) : Host.Outcome State Fault Refusal :=
  .next <|
    let loc := s.lineLoc itf line
    let (ok, s1) := s.lineRead itf line loc (if s.storedGood itf line then max 1 fails else s.refetchMax + 1)
    let s2 := if client = 3 then s1.countRinse itf ok else s1
    if ok then s2
    else
      let s3 := if client = 3 then
          s2.perSecond (9 * 65536 + 0xF2 * 256 + itf) 256 (fun t => t.faultEvent 0x09 0x00F2 loc line itf)
        else s2
      match client, work with
      | 5, some d => s3.finish d stMemUncorr loc
      | _, _ => s3

/-- Overwrite bytes of a 64-byte line from an offset. -/
def mergeBytes (old : List Nat) (off : Nat) (new : List Nat) : List Nat :=
  (List.range 64).map (fun i => if off ≤ i ∧ i < off + new.length then new.getD (i - off) 0 % 256 else old.getD i 0)

/-- NARROW_WRITE (R312): engine `e` writes `bytes` at address `a` of the engine region; the line is read with refetch, merged and written back whole. While its channel is
not in service the write waits (R319). -/
def execNarrowWrite (e a fails : Nat) (bytes : List Nat) (work : Option Desc) (s : State) : Host.Outcome State Fault Refusal :=
  .next <|
    if a < s.engineBase ∨ s.engineBase + 2 ^ 28 ≤ a ∨ !s.chInService (s.ddrChan a) then s
    else
      let (ok, s1) := s.ddrRead a fails
      if ok then
        (s1.ddrWrite a 5 (e % 4) (mergeBytes (s1.ddrLine (a / 64)).data (a % 64) bytes)).satAdd F.MEM_CH_COUNT2_RMW (s.ddrChan a) 1
      else match work with
        | some d => s1.finish d stMemUncorr (s.ddrLoc a)
        | none => s1

/-- The data rate in use in MT/s (R306). -/
def State.ddrRate (s : State) : Nat :=
  match s.mem.timings.getD 0 3 with
  | 0 => 3200
  | 1 => 4800
  | 2 => 5600
  | _ => 6400

/-- REGULATOR_PERIOD (R322, R323): PERIOD × 1,024 lc after the last one, each client's budget in each channel becomes LINES plus what it left unused, limited to
LINES + CARRY, both scaled by the rate (R321). -/
def execRegulatorPeriod (s : State) : Host.Outcome State Fault Refusal :=
  .next <|
    if s.ltb.lc < s.mem.regLc + s.mem.regLen * 1024 then s
    else
      let s0 : State := { s with mem := { s.mem with regLc := s.ltb.lc, regLen := max 1 (s.fld F.MEM_QOS_CFG_PERIOD 0) } }
      (List.range 4).foldl (fun t n =>
        let m := t.memCh n
        (t.setMemCh n { m with budget := (List.range 6).foldl (fun b c =>
          let l := (t.regOf c).1 * t.ddrRate / 6400
          let k := (t.regOf c).2 * t.ddrRate / 6400
          SMap.put b c (min (l + k) (l + SMap.get b c 0)) 0) m.budget }).serveCh n) s0

/-- SETTLE_END (R322): SETTLE_US after entry to SERVICE the channel returns to regulated mode. -/
def execSettleEnd (n : Nat) (s : State) : Host.Outcome State Fault Refusal :=
  .next <|
    match (s.memCh n).settleEnd with
    | none => s
    | some at_ => if s.ltb.lc < at_ then s else (s.setMemCh n { s.memCh n with settleEnd := none }).serveCh n

/-! Rinse (R327 to R329). -/

/-- A pass summary as its sixteen words (R329). -/
def summaryWords (itf flags no : Nat) (p : RinsePass) (stop lines chronic skipped ecs freed : Nat) : Summary :=
  [itf + flags * 256 + no % 65536 * 65536, 0, p.start % 2 ^ 32, p.start / 2 ^ 32, stop % 2 ^ 32, stop / 2 ^ 32,
   lines % 2 ^ 32, lines / 2 ^ 32, p.corrected % 2 ^ 32, p.uncorr % 2 ^ 32, chronic, skipped % 2 ^ 32, ecs % 2 ^ 32, freed, 0, 0]

/-- The lines Rinse reads in a pass of an interface: a channel's outside the training area, or every QDR-IV slot (R327). -/
def State.rinseLines (s : State) (itf : Nat) : Nat := if itf < 4 then (s.ddrTotal - 2 ^ 18) / 256 else 2097152

/-- RINSE_PASS (R313, R327 to R329): the pass of an interface ends once its pass time is over, LATE where it ran longer, with the lines skipped while its channel was FROZEN and
the error-check-and-scrub total. The interface's entries that are not CHRONIC and were not updated in the pass are freed. -/
def execRinsePass (itf skipped ecs : Nat) (s : State) : Host.Outcome State Fault Refusal :=
  .next <|
    let en := if itf < 4 then s.is F.MEM_RINSE_CFG_DDR_EN 0 1 else s.is F.MEM_RINSE_CFG_QDR_EN 0 1
    match SMap.find s.mem.passes itf with
    | none => s
    | some p =>
      if !en ∨ s.ltb.lc < p.from_ + p.len then s
      else
        let late := decide (p.from_ + p.len < s.ltb.lc)
        let skip := if itf < 4 then min skipped (s.rinseLines itf) else 0
        let old := fun (q : Nat × Track) => q.2.itf == itf && !q.2.chronic && !stampLe p.start q.2.last
        let gone := s.mem.tracks.filter old
        let tracks := s.mem.tracks.filter (fun q => !old q)
        let chronic := (tracks.filter (fun q => q.2.itf == itf && q.2.chronic)).length
        let no := SMap.get s.mem.passNo itf 0 + 1
        let w := summaryWords itf (b2n late + b2n (decide (0 < skip)) * 2) no p s.stamp (s.rinseLines itf - skip) chronic skip
          (if itf < 4 then ecs else 0) gone.length
        let s1 := State.beginPass { s with mem := { s.mem with
          tracks := tracks
          summaries := SMap.put s.mem.summaries itf ((w :: SMap.get s.mem.summaries itf []).take 8) []
          passNo := SMap.put s.mem.passNo itf no 0 } } itf
        let s2 := if itf < 4 then
            s1.setFld F.MEM_RINSE_STATUS_DDR_PASSES 0 ((List.range 4).foldl (fun a n => min a (SMap.get s1.mem.passNo n 0)) no)
          else s1.setFld F.MEM_RINSE_STATUS_QDR_PASSES 0 no
        s2.notify 0x09 0x0001 (itf + b2n late * 256) p.corrected

/-! Commands (R330 to R333). -/

/-- STATE_REFUSED for a channel. -/
def State.refuseCh (s : State) (d : Desc) (n : Nat) : State := s.refuse d stStateRefused (refusedWord 0x50 n (s.chSt n))

/-- MEM_RESUME (R320, R332): a frozen channel retrains. A channel frozen without refresh for more than 16 ms has lost its content. -/
def execMemResume (d : Desc) (s : State) : Host.Outcome State Fault Refusal :=
  .next <| s.asCommand d 0x2401 (bits (d.dw 5) 9 8 == 0) <|
    let n := d.dw 5 % 4
    if s.chSt n ≠ 4 then s.refuseCh d n
    else
      let m := s.memCh n
      let lc := s.ltb.lc - (match m.snap with | some x => x.lc | none => s.ltb.lc)
      let lost := !m.refreshed && decide (16 * 1244160 < lc)
      let s1 := (s.chTo n 1).setFld F.MEM_CH_STATUS_LOST n (b2n lost)
      let s2 := if lost then s1.faultEvent 0x09 0x00F4 (errTile 0x09 n) n (min (2 ^ 32 - 1) (lc * 100 / 124416)) else s1
      s2.finish d stOk 1

/-- MEM_FREEZE (R318, R332). -/
def execMemFreeze (d : Desc) (s : State) : Host.Outcome State Fault Refusal :=
  .next <| s.asCommand d 0x2401 (bits (d.dw 5) 9 8 == 1) <|
    let n := d.dw 5 % 4
    if s.chSt n ≠ 2 then s.refuseCh d n
    else (s.freezeCh n 3 0 (errTile 0x09 n)).finish d stOk 4

/-- Kettle pages in use in a channel. -/
def State.pagesIn (s : State) (n : Nat) : Nat := (s.pagesUsed.filter (fun p => s.pageChan p == n)).length

/-- MEM_TEST_ENTRY (R332). -/
def execMemTestEntry (d : Desc) (s : State) : Host.Outcome State Fault Refusal :=
  .next <| s.asCommand d 0x2401 (bits (d.dw 5) 9 8 == 2) <|
    let n := d.dw 5 % 4
    if s.chSt n ≠ 2 then s.refuseCh d n
    else if s.pagesIn n ≠ 0 ∨ !s.hif.saucer.isEmpty then
      s.refuse d stStateRefused (refusedWord 0x53 n (min 65535 (s.pagesIn n)))
    else (s.chTo n 6).finish d stOk 6

/-- MEM_TEST_EXIT (R332). -/
def execMemTestExit (d : Desc) (s : State) : Host.Outcome State Fault Refusal :=
  .next <| s.asCommand d 0x2401 (bits (d.dw 5) 9 8 == 3) <|
    let n := d.dw 5 % 4
    if s.chSt n ≠ 6 then s.refuseCh d n else (s.chTo n 2).finish d stOk 2

/-- MEM_FREQ (R307, R308, R332): every channel moves to the named set. `us` is the time the change took; `escalated` a channel that an alert froze in step 1, with the place
of the alert, which abandons the change; `failed` the channels whose check in step 5 failed: they retrain, and the command waits for them. -/
def execMemFreq (d : Desc) (us : Nat) (escalated : Option (Nat × Nat × Nat)) (failed : List Nat) (s : State) :
    Host.Outcome State Fault Refusal :=
  .next <| s.asCommand d 0x2402 true <|
    let set := d.dw 5 % 2
    match (List.range 4).find? (fun n => !s.chInService n) with
    | some n => s.refuseCh d n
    | none =>
      if s.fld (validF set) 0 = 0 then s.refuse d stStateRefused (refusedWord 0x52 set 0)
      else if s.activeSet = set then s.finish d stOk 0
      else match escalated with
        | some (n, mac, row) =>
          let s1 := s.freezeCh (n % 4) 2 (max 1 (s.fld F.MEM_CH_CFG_REPLAY_MAX (n % 4))) (errLoc 0x09 (n % 4) mac row)
          s1.refuse d stStateRefused (refusedWord 0x50 (n % 4) 4)
        | none =>
          let s1 := (List.range 4).foldl (fun t n =>
            let u := t.setMemCh n { t.memCh n with retry := [], replayLeft := 0, replays := 0 }
            if failed.contains n then u.chTo n 1 else (u.chServe n).serveCh n) (s.useSet set)
          if s1.trainingChans.isEmpty then s1.freqDone d us
          else { s1 with mem := { s1.mem with freq := some d, freqFrom := s.ltb.lc } }

/-- Bits [hi:lo] of an address given in two argument words. -/
def addr64 (d : Desc) (k : Nat) : Nat := d.dw k + d.dw (k + 1) * 2 ^ 32

/-- An address that no line of the clients' regions has: not line-aligned, beyond the installed total, or in the training area (R331). -/
def State.badLine (s : State) (a : Nat) : Bool := a % 64 != 0 || decide (s.ddrTotal ≤ a) || s.inTraining a

/-- A range of `n` lines from `a` touches a region (R331). -/
def touches (a n : Nat) (r : Nat × Nat) : Bool := !apart (a, 64 * n) r

/-- The range leaves its channel's addresses: consecutive blocks of 4 KB lie in one channel at most twice in a row, so a range of more than 128 lines leaves it
(R299, R331). -/
def State.leavesChan (s : State) (n a cnt : Nat) : Bool :=
  decide (128 < cnt) || (List.range cnt).any (fun i => s.ddrChan (a + 64 * i) != n || s.badLine (a + 64 * i))

/-- The 64 bytes of a pattern line (R330): the fixed value in every word, or what the generator makes of the seed. -/
def patternLine (pattern seed line : Nat) : List Nat :=
  (List.range 64).map (fun i => if pattern = 3 then seed / 256 ^ (i % 4) % 256 else Config.patternByte pattern seed line i % 256)

/-- MEM_TEST (R330 to R332): pattern lines are written and checked; `errors` bits were found wrong. -/
def execMemTest (d : Desc) (errors : Nat) (s : State) : Host.Outcome State Fault Refusal :=
  .next <| s.asCommand d 0x2403 true <|
    let n := d.dw 5 % 4
    let a := addr64 d 8
    let cnt := d.dw 10
    if 3 < d.dw 6 % 16 then s.refuse d stBadArg 6
    else if s.badLine a ∨ touches a cnt (s.saucerBase, 2 ^ 26) ∨ touches a cnt (s.engineBase, 2 ^ 28) ∨ s.leavesChan n a cnt then
      s.refuse d stBadArg 8
    else if cnt = 0 then s.refuse d stBadArg 10
    else if s.chSt n ≠ 6 then s.refuseCh d n
    else ((List.range cnt).foldl (fun t i => t.ddrWrite (a + 64 * i) 6 (d.dw 7) (patternLine (d.dw 6 % 16) (d.dw 7) (a / 64 + i))) s).finish d stOk
      (min (min errors (cnt * 512)) (2 ^ 32 - 1))

/-- A snapshot entry as its sixteen words (R330). -/
def snapWords (e : RetryEntry) (alert : Nat) : List Nat :=
  [e.req.cmd % 256 + e.req.place % 256 * 256 + e.req.col % 65536 * 65536, e.req.row % 2 ^ 32, e.req.client % 256,
   unsigned 32 ((e.issued : Int) - alert), e.req.addr % 2 ^ 32, e.req.addr / 2 ^ 32, e.req.crc % 2 ^ 32, 0, 0, 0, 0, 0, 0, 0, 0, 0]

/-- MEM_DIAG_READ (R330, R331). -/
def execMemDiagRead (d : Desc) (s : State) : Host.Outcome State Fault Refusal :=
  .next <| s.asCommand d 0x2404 true <|
    let n := d.dw 5 % 4
    if !d.buf ∨ d.bufLen < 4160 then s.refuse d stBadArg 4
    else match (s.memCh n).snap with
      | none => (s.toBuf d (n :: List.replicate 15 0)).finish d stOk 0
      | some x =>
        let head := [n + x.cause * 256 + min 255 x.replays * 65536 + x.entries.length * 16777216, x.loc, x.stamp % 2 ^ 32,
          x.stamp / 2 ^ 32] ++ List.replicate 12 0
        (s.toBuf d (head ++ (x.entries.map (fun e => snapWords e x.lc)).flatten)).finish d stOk x.entries.length

/-- A tracker entry as its eight words (R330). -/
def trackWords : Option Track → List Nat
  | none => List.replicate 8 0
  | some t => [1 + b2n t.chronic * 2 + t.itf * 256 + t.count * 65536, t.line % 2 ^ 32, t.first % 2 ^ 32, t.first / 2 ^ 32,
      t.last % 2 ^ 32, t.last / 2 ^ 32, 0, 0]

/-- MEM_TRACK_READ (R330). -/
def execMemTrackRead (d : Desc) (s : State) : Host.Outcome State Fault Refusal :=
  .next <| s.asCommand d 0x2405 true <|
    if !d.buf ∨ d.bufLen < 2048 then s.refuse d stBadArg 4
    else (s.toBuf d ((List.range 64).map (fun k => trackWords (SMap.find s.mem.tracks k))).flatten).finish d stOk s.mem.tracks.length

/-- MEM_TRACK_CLEAR (R330). -/
def execMemTrackClear (d : Desc) (s : State) : Host.Outcome State Fault Refusal :=
  .next <| s.asCommand d 0x2406 true <|
    let keep := if bit (d.dw 5) 31 then [] else SMap.erase s.mem.tracks (d.dw 5 % 64)
    State.finish { s with mem := { s.mem with tracks := keep } } d stOk (s.mem.tracks.length - keep.length)

/-- MEM_LINE_REWRITE (R314, R331, R332): the line is read with refetch, `fails` copies in a row failing, and a good copy is written back whole. -/
def execMemLineRewrite (d : Desc) (fails : Nat) (s : State) : Host.Outcome State Fault Refusal :=
  .next <| s.asCommand d 0x2407 true <|
    let a := addr64 d 5
    if s.badLine a then s.refuse d stBadArg 5
    else if !s.chInService (s.ddrChan a) then s.refuseCh d (s.ddrChan a)
    else
      let (ok, s1) := s.ddrRead a fails
      let l := s.ddrLine (a / 64)
      if ok then (s1.ddrWrite a l.kind l.info l.data).finish d stOk (fails + 1) else s1.finish d stMemUncorr (s.ddrLoc a)

/-- MEM_PAGE_RETIRE (R314, R331): the page is retired at once where it is free, else when it is next freed. -/
def execMemPageRetire (d : Desc) (s : State) : Host.Outcome State Fault Refusal :=
  .next <| s.asCommand d 0x2408 true <|
    let a := addr64 d 5
    if s.badLine a ∨ a < s.kettleBase ∨ s.kettleBase + s.kettleSize ≤ a then s.refuse d stBadArg 5
    else
      let p := (a - s.kettleBase) / 4096
      let n := s.tmg.retired.length + s.tmg.retiring.length
      if s.tmg.retired.contains p || s.tmg.retiring.contains p then s.finish d stOk n
      else if 4096 ≤ n then s.refuse d stExhausted 0x0901
      else if s.pagesUsed.contains p then
        State.finish { s with tmg := { s.tmg with retiring := s.tmg.retiring ++ [p] } } d stOk (n + 1)
      else State.finish { s with tmg := { s.tmg with retired := s.tmg.retired ++ [p] } } d stOk (n + 1)

/-- RINSE_READ (R330, R331). -/
def execRinseRead (d : Desc) (s : State) : Host.Outcome State Fault Refusal :=
  .next <| s.asCommand d 0x2409 true <|
    let itf := d.dw 5 % 8
    if !d.buf ∨ d.bufLen < 512 then s.refuse d stBadArg 4
    else if 4 < itf then s.refuse d stBadArg 5
    else
      let l := SMap.get s.mem.summaries itf []
      (s.toBuf d l.flatten).finish d stOk l.length

/-! Writes and power (R319, R303). -/

/-- MEM_CHn_CFG: FREEZE_TRAFFIC going to DROP while the channel is FROZEN applies at once to the Kettle traffic held (R319). -/
def State.writeMemChCfg (s : State) (n v : Nat) : State :=
  let t := s.applyWrite (0x901000 + 0x40 * n) v
  if s.is F.MEM_CH_CFG_FREEZE_TRAFFIC n 0 && t.is F.MEM_CH_CFG_FREEZE_TRAFFIC n 1 && t.chSt n == 4 then t.dropTraffic n else t

/-- PWR's self-refresh request (R303, R308): every channel in SERVICE. -/
def State.selfRefresh (s : State) : State :=
  (List.range 4).foldl (fun t n => if t.chSt n = 2 then
    (t.chTo n 5).setMemCh n { t.memCh n with retry := [], replayLeft := 0, replays := 0, settleEnd := none } else t) s

/-- Exit from self-refresh, with the channels whose check failed, which retrain (R303). -/
def State.exitSelfRefresh (s : State) (failed : List Nat) : State :=
  ((List.range 4).foldl (fun t n => if t.chSt n = 5 then (if failed.contains n then t.chTo n 1 else (t.chServe n).serveCh n) else t) s).flushReady

end Sys2Proof.Machine
end

