-- ==== Sys2Proof/Machine/Hpm.lean ====
section
/-!
DEFINITION. Sys2Proof/Machine/Hpm.lean: the host ports (R336 to R361): reception, received pause and PFC, listening and wake patterns, the
port's link, statistics, and the frames of the inject rings (R22, R73, R234, R272).
-/
namespace Sys2Proof.Machine

/-! Received MAC Control frames (R344, R345). -/

/-- The first six bytes as a number, and the port's own address (HPM_Pn_MAC_LO, HPM_Pn_MAC_HI). -/
def macOf (b : List Nat) : Nat := beNum ((List.range 6).map (fun i => b.getD i 0))
def State.portMac (s : State) (p : Nat) : Nat := s.fld F.HPM_P_MAC_HI_MAC p * 2 ^ 32 + s.fld F.HPM_P_MAC_LO_MAC p

/-- The frame is one the port acts on. -/
def State.ctrlForUs (s : State) (p : Nat) (b : List Nat) : Bool := macOf b == 0x0180C2000001 || macOf b == s.portMac p

/-- The timers follow: FC_STATUS, PAUSED_LC and TMG's port-TC nodes. -/
def State.pauseChanged (s : State) (p : Nat) : State := (s.showPaused p).refreshPort p

/-- MAC_CONTROL_FRAME (R344, R345): an accepted MAC Control frame is consumed, counted, and acted on under FC_MODE where it is addressed to the
port and `act` holds. -/
def State.macControl (s : State) (p : Nat) (b : List Nat) (act : Bool) : State :=
  let ours := act && s.ctrlForUs p b
  match be16 b 14 with
  | 0x0001 =>
    let s1 := s.portCount p 8 1
    if s.fcMode p = 1 ∧ ours then (s1.loadTimer p 8 (be16 b 16)).pauseChanged p else s1
  | 0x0101 =>
    let s1 := s.portCount p 9 1
    if s.fcMode p = 2 then
      let en := be16 b 16
      let s2 := (List.range 8).foldl (fun t i => if bit en i then t.portCount p (22 + i) 1 else t) s1
      if ours then
        ((List.range 8).foldl (fun t i => if bit en i then t.loadTimer p i (be16 b (18 + 2 * i)) else t) s2).pauseChanged p
      else s2
    else s1
  | _ => s.portCount p 10 1

/-- PAUSE_TIMER_EXPIRY (R345, R346): a timer whose time has run out stops, and its TCs are released. Timer 8 is that of PAUSE. -/
def execPauseTimerExpiry (p i : Nat) (s : State) : Host.Outcome State Fault Refusal :=
  .next <|
    match SMap.find (s.hport p).timers i with
    | some e => if e ≤ s.ltb.lc then (s.loadTimer p i 0).pauseChanged p else s
    | none => s

/-- FC_REFRESH (R348, R349): REFRESH quanta after its latest frame a port in XOFF sends it again. -/
def execFcRefresh (p : Nat) (s : State) : Host.Outcome State Fault Refusal :=
  .next <|
    let x := s.fld F.HPM_P_FC_STATUS_TX_XOFF p
    if s.fcGenerates p && x != 0 && decide ((s.hport p).ctrlLc + s.refreshLc p ≤ s.ltb.lc) then s.sendControl p x 0 else s

/-! Listening (R349, R353 to R355). -/

/-- A pattern's record matches a frame. -/
def WakePat.matches (w : WakePat) (b : List Nat) : Bool :=
  let sel := (List.range 128).filter (fun j => bit (w.mask.getD (j / 8) 0) (j % 8))
  decide ((if w.minLen = 0 then 64 else w.minLen) ≤ b.length) && sel.all (fun j => decide (j < b.length)) &&
    crc32c (sel.map (fun j => b.getD j 0)) == w.check

/-- The lowest enabled pattern that a frame matches. -/
def State.wakeMatch (s : State) (p : Nat) (b : List Nat) : Option Nat :=
  (List.range 8).find? (fun k => bit (s.fld F.HPM_P_WAKE_CFG_PATTERNS p) k &&
    (match SMap.find (s.hport p).patterns k with | some w => w.matches b | none => false))

/-- A listening port signals a wake: by pattern `k` with a frame of `len` bytes, or by its link (R354). WAKE_MATCH is written once the terminal is
awake. -/
def State.portWakes (s : State) (p : Nat) (link : Bool) (k len : Nat) : State :=
  let s1 := ((s.setListen p 2).raise F.HPM_EVENT_WAKE F.HPM_EVENT_EVCNT_WAKE 0).setHport p
    { s.hport p with wakeNote := some (p + k * 256 + b2n link * 4096, len) }
  let s2 := (((s1.setFld F.HPM_P_WAKE_INFO_VALID p 1).setFld F.HPM_P_WAKE_INFO_LINK p (b2n link)).setFld F.HPM_P_WAKE_INFO_PATTERN p k)
  s2.wakeSource 5

/-- A listening port with WAKE_ON_LINK whose link changes signals a wake (R354). -/
def State.linkWake (s : State) (p : Nat) : State :=
  if s.listen p = 1 ∧ s.fld F.HPM_P_WAKE_CFG_WAKE_ON_LINK p = 1 then s.portWakes p true 0 0 else s

/-- PWR signals entry to Simmer (R349, R354): the port releases what it holds in XOFF, discards what waits to be sent, and listens. -/
def State.portListen (s : State) (p : Nat) : State :=
  if s.fld F.HPM_P_WAKE_CFG_LISTEN_EN p = 0 then s
  else
    let x := s.fld F.HPM_P_FC_STATUS_TX_XOFF p
    let s1 := if s.fcGenerates p && x != 0 then (s.sendControl p 0 x).setFld F.HPM_P_FC_STATUS_TX_XOFF p 0 else s
    (s1.dropTx p).setListen p 1

/-- PWR reports the port's domains ready, or wakes for another source: the port is AWAKE, and its WAKE_MATCH is written (R354, R360). -/
def State.portAwake (s : State) (p : Nat) : State :=
  let s1 := (s.setListen p 0).fcUpdate p
  match (s1.hport p).wakeNote with
  | some (d6, d7) => (s1.setHport p { s1.hport p with wakeNote := none }).notify 0x0A 0x0004 d6 d7
  | none => s1

/-! Reception (R340, R341, R350, R352). -/

/-- The frame a port hands on (R214, R257). -/
def rxFrm (p : Nat) (b : List Nat) (stamp : Nat) : Frm :=
  { id := 0, dir := 0, inj := false, src := p, m1 := p, chan := p, port := 0, options := 0, keyIdx := 0, sa := none, bytes := b, headLen := 0,
    len := b.length, stamp := stamp, gen := 0, group := 0, pass := 0, place := 0, rq := 0, prof := 0, tag := 0, key := 0, rule := 0xFFFF,
    dec := decisionNone, checks := [], policy := 0, last := false, errored := false, ready := 0 }

/-- The size and FCS checks: the counter of a discarded frame, or none for an accepted one (R341). -/
def State.sizeFault (s : State) (p len : Nat) (pcsErr fcsOk : Bool) : Option Nat :=
  if pcsErr then some 7
  else if len < 64 then some (if fcsOk then 3 else 4)
  else if s.maxFrame p < len then some (if fcsOk then 5 else 6)
  else if fcsOk then none else some 2

/-- A discarded frame's counter, and its field of HPM_Pn_SIZE_DROP. -/
def State.countBad (s : State) (p i : Nat) : State :=
  let s1 := s.portCount p i 1
  if i = 3 ∨ i = 4 then s1.satAdd F.HPM_P_SIZE_DROP_UNDERSIZE p 1
  else if i = 5 ∨ i = 6 then s1.satAdd F.HPM_P_SIZE_DROP_OVERSIZE p 1
  else s1

/-- The stamp of a received event message (R350 to R352). -/
def State.rxStamp (s : State) (p : Nat) (b : List Nat) (sfd : Sfd) : State :=
  match s.ptpOf p b with
  | none => s
  | some (m, dom, sq) =>
    let a := tsAdjust sfd (-(signed 16 (s.fld F.HPM_P_TS_ADJ_RX_ADJ p)))
    s.tsCapture p 0 sq m dom a.1 a.2

/-- RX_FRAME (R340, R341, R344, R350, R354, R375): port `p` has received a frame of `bytes`, FCS included. -/
def execRxFrame (p : Nat) (bytes : List Nat) (pcsErr fcsOk : Bool) (sfd : Sfd) (tag : SecTag) (s : State) :
    Host.Outcome State Fault Refusal :=
  .next <|
    if !s.portUp p then s
    else
      let asleep := s.listen p != 0
      let s0 := if asleep then s.portCount p 11 1 else s
      match s0.sizeFault p bytes.length pcsErr fcsOk with
      | some i => s0.countBad p i
      | none =>
        let s1 := (s0.portCount p 0 1).portCount p 1 bytes.length
        let s2 := if be16 bytes 12 = 0x8808 then s1.macControl p bytes (!asleep) else s1
        if asleep then
          (if s2.listen p = 1 then
            match s2.wakeMatch p bytes with
            | some k => (s2.portCount p 40 1).portWakes p false k bytes.length
            | none => s2
           else s2)
        else if be16 bytes 12 = 0x8808 then s2
        else
          let r := (s2.rxStamp p bytes sfd).macsecVerify p (rxFrm p bytes s.stamp) tag
          match r.1 with
          | some f => { r.2 with str := { r.2.str with up := r.2.str.up ++ [f] } }
          | none => r.2

/-! The port's link (R101, R337, R338). -/

/-- A port leaves UP for a state (R101, R346, R354, R356, R360). -/
def State.portDown (s : State) (p st : Nat) : State :=
  let s1 := (((s.lanesTo p st).portCount p 39 1).stopTimers p).raise F.HPM_EVENT_PORT_DOWN F.HPM_EVENT_EVCNT_PORT_DOWN 0
  let s2 := ((s1.notify 0x0A 0x0002 (p + st * 256) 0).fcUpdate p).refreshPort p
  s2.linkWake p

/-- Every lane locks to its markers: `skew` gives each lane's after deskew, in ns. The port is UP (R101, R102). -/
def State.portAligned (s : State) (p : Nat) (skew : List Nat) : State :=
  let s1 := ((s.lanesOf p).zip skew).foldl (fun t x => t.setFld F.HPM_SD_STATUS_SKEW x.1 (min x.2 255)) s
  let s2 := (((s1.lanesTo p 4).lanesSet p F.HPM_SD_STATUS_AM_LOCK 1).lanesSet p F.HPM_SD_STATUS_CDR_LOCK 1).raise
    F.HPM_EVENT_PORT_UP F.HPM_EVENT_EVCNT_PORT_UP 0
  (((s2.notify 0x0A 0x0001 p 0).fcUpdate p).refreshPort p).linkWake p

/-- ALIGN_DONE (R101, R102): every lane locks within 10 ms of the entry to ALIGN, and the skew of each is at most the 200 ns the buffers absorb. -/
def execAlignDone (p : Nat) (skew : List Nat) (s : State) : Host.Outcome State Fault Refusal :=
  .next (if s.portState p = 3 ∧ skew.length = (s.lanesOf p).length ∧ skew.all (fun x => decide (x ≤ 200)) ∧
      s.ltb.lc ≤ (s.hostLane (s.firstLane p)).since + 12441600 then s.portAligned p skew else s)

/-- LINK_DOWN (R101): a lane of an UP port loses CDR lock or marker lock, as the lane's two lock bits then show. -/
def execLinkDown (p lane : Nat) (cdr marker : Bool) (s : State) : Host.Outcome State Fault Refusal :=
  .next <|
    if s.portState p = 4 ∧ (s.lanesOf p).contains lane ∧ !(cdr && marker) then
      let s1 := (s.setFld F.HPM_SD_STATUS_CDR_LOCK lane (b2n cdr)).setFld F.HPM_SD_STATUS_AM_LOCK lane (b2n marker)
      (s1.lanesRaise p F.HPM_SD_EVENT_LINK_DOWN F.HPM_SD_EVENT_EVCNT_LINK_DOWN).portDown p 3
    else s

/-- A port whose PORT_EN bit is set or cleared (R101, R338); a looped one stays in LOOP. -/
def State.portEnable (s : State) (p : Nat) (on : Bool) : State :=
  if on then s.startIfDown p
  else
    let s1 := if s.portState p = 4 then s.portDown p 0 else if s.hostState (s.firstLane p) = 5 then s else s.lanesTo p 0
    s1.dropTx p

/-- HPM_CFG (R337, R338): MODE is kept while a port is enabled and, on the LK9520, unless it is 0b01; a write that sets the bit of a port that the
configuration does not provide is discarded; bit 1 is discarded on the LK9520. -/
def State.writeHpmCfg (s : State) (v : Nat) : State :=
  let en := s.fld F.HPM_CFG_PORT_EN 0
  let mode := bits v 9 8
  let s1 := if en = 0 ∧ (s.hif.part = .lk9540 ∨ mode = 1) then s.setFld F.HPM_CFG_MODE 0 mode else s
  let want := if s.hif.part = .lk9520 then bits v 3 0 - 2 * bits v 1 1 else bits v 3 0
  if (List.range 4).any (fun p => bit want p && !s1.hasPort p) then s
  else
    (List.range 4).foldl (fun t p =>
      if bit want p = bit en p then t else t.portEnable p (bit want p)) (s1.setFld F.HPM_CFG_PORT_EN 0 want)

/-- PORT_EN: the write of HPM_CFG. -/
def execPortEn (v : Word) (s : State) : Host.Outcome State Fault Refusal :=
  .next (s.hostWrite 0xA00000 v.toNat (fun t => t.landed 0xA00000 v.toNat (fun u => u.writeHpmCfg v.toNat)))

/-- HPM_Pn_CFG: a change of FC_MODE stops every running timer, and what the port generates follows. -/
def State.writePortCfg (s : State) (p v : Nat) : State :=
  let t := s.applyWrite (0xA01000 + 0x100 * p) v
  (if t.fcMode p ≠ s.fcMode p then (t.stopTimers p).refreshPort p else t).fcUpdate p

/-- HPM_Pn_PFC_MAP: applies to what the port generates from the next line cycle. -/
def State.writePfcMap (s : State) (p v : Nat) : State := ((s.applyWrite (0xA0100C + 0x100 * p) v).pauseChanged p).fcUpdate p

/-- HPM_SDn_CFG comes into force at the port's next entry to DOWN (R110); in DOWN at once (DESIGN CHOICE, log entry 119). -/
def State.writeSdCfg (s : State) (n v : Nat) : State :=
  let t := s.applyWrite (0xA08000 + 0x40 * n) v
  if t.fld F.HPM_SD_STATUS_STATE n = 0 then t.takeHostCfg n else t

/-- HPM_SDn_TXFFE: discarded while LT_EN is 1 (R103). -/
def State.writeTxffe (s : State) (n v : Nat) : State :=
  if s.ltEn n then s else s.applyWrite (0xA08004 + 0x40 * n) v

/-! Commands (R357 to R359). -/

/-- PORT_STATS (R357): `fec` gives what the port's FEC counters (18 to 21) have gained since the last capture. -/
def execPortStats (d : Desc) (fec : List Nat) (s : State) : Host.Outcome State Fault Refusal :=
  .next <| s.asCommand d 0x2801 true <|
    let p := d.dw 5 % 4
    if !d.buf ∨ d.bufLen < 512 then s.refuse d stBadArg 4
    else if !s.hasPort p then s.refuse d stBadArg 5
    else
      let s1 := (List.range 4).foldl (fun t i => t.portCount p (18 + i) (fec.getD i 0)) s
      let s2 := match (s1.hport p).pausedFrom with
        | some t => (s1.setHport p { s1.hport p with pausedFrom := some s1.ltb.lc }).portCount p 38 (s1.ltb.lc - t)
        | none => s1
      let c := (s2.hport p).counters
      let w := [s.stamp % 2 ^ 32, s.stamp / 2 ^ 32, p + (b2n (bit (d.dw 5) 8) + s.tstate * 2) * 256] ++ List.replicate 13 0 ++
        ((List.range 56).map (fun i => [SMap.get c i 0 % 2 ^ 32, SMap.get c i 0 / 2 ^ 32])).flatten
      let s3 := if bit (d.dw 5) 8 then s2.setHport p { s2.hport p with counters := [] } else s2
      (s3.toBuf d w).finish d stOk 0

/-- The pattern record of R353: MASK, CHECK and MIN_LEN; none where a reserved byte is not zero or MIN_LEN is above 16,000 (R358). -/
def wakeRecord (r : List Nat) : Option WakePat :=
  let m := leNum ((r.drop 20).take 2)
  if (r.drop 22).any (· != 0) || decide (16000 < m) then none
  else some ⟨r.take 16, leNum ((r.drop 16).take 4), m⟩

/-- A pattern is set or disabled on an AWAKE port. -/
def State.wakePattern (s : State) (d : Desc) (w : Option WakePat) : State :=
  let p := d.dw 5 % 4
  let k := bits (d.dw 5) 10 8
  if !s.hasPort p then s.refuse d stBadArg 5
  else if s.listen p ≠ 0 then s.refuse d stStateRefused (refusedWord 0x59 p (s.listen p))
  else
    let en := s.fld F.HPM_P_WAKE_CFG_PATTERNS p
    let h := s.hport p
    match w with
    | some x => ((s.setHport p { h with patterns := SMap.insert h.patterns k x }).setFld F.HPM_P_WAKE_CFG_PATTERNS p (en ||| 2 ^ k)).finish d stOk 0
    | none => (s.setFld F.HPM_P_WAKE_CFG_PATTERNS p (en - (en &&& 2 ^ k))).finish d stOk 0

/-- WAKE_PATTERN_ENABLE (R353, R358, R359). -/
def execWakePatternEnable (d : Desc) (s : State) : Host.Outcome State Fault Refusal :=
  .next <| s.asCommand d 0x2802 (bit (d.dw 5) 16) <|
    if !d.buf ∨ d.bufLen < 64 then s.refuse d stBadArg 4
    else match wakeRecord (bufBytes d 0 64) with
      | none => s.refuse d stBadArg 2
      | some w => s.wakePattern d (some w)

/-- WAKE_PATTERN_DISABLE (R358, R359). -/
def execWakePatternDisable (d : Desc) (s : State) : Host.Outcome State Fault Refusal := .next (s.asCommand d 0x2802 (!bit (d.dw 5) 16) (s.wakePattern d none))

/-! The inject rings (R22, R73, R234, R272). -/

/-- The frame of an inject descriptor (R214, R257): its source is entry 4 of the upstream map or entry 16,384 of the downstream map. -/
def injFrm (d : Desc) (dir stamp : Nat) : Frm :=
  { rxFrm 0 (bufBytes d 0 d.bufLen) stamp with
    dir := dir, inj := true, src := if dir = 0 then 4 else 16384, m1 := 2 ^ 14, chan := d.dw 6 % 16, headLen := d.bufLen }

/-- A packet enters the walk at the Strainer, or at TMG in the queue it names (R73, R234, R272). -/
def State.inject (s : State) (d : Desc) (dir : Nat) : State :=
  if !d.buf ∨ d.bufLen < 64 ∨ s.dsMax < d.bufLen then s.finishInject d stBadArg 4
  else
    let f := injFrm d dir s.stamp
    if bit (d.dw 5) 31 then
      let n := bits (d.dw 5) 14 0
      let k := qKey dir n
      if badQueue dir n then s.finishInject d stBadArg 5
      else
        match s.admitCause k d.bufLen 0 with
        | 0 =>
          let g : QFrm := { f.held 0 with tc := (s.queue k).cfg.tc, cls := 0 }
          (s.link k g).finishInject d stOk 0
        | 4 => s.finishInject d stStateRefused (refusedWord 0x48 dir (s.queue k).st)
        | 3 => s.finishInject d stExhausted 0x0802
        | _ => s.finishInject d stExhausted 0x0801
    else State.finishInject { s with str := { s.str with inj := s.str.inj ++ [f] } } d stOk 0

/-- INJECT_DOWNSTREAM (R73). -/
def execInjectDownstream (d : Desc) (s : State) : Host.Outcome State Fault Refusal := .next (s.asCommand d 0x0010 true (s.inject d 1))

/-- INJECT_UPSTREAM (R73). -/
def execInjectUpstream (d : Desc) (s : State) : Host.Outcome State Fault Refusal := .next (s.asCommand d 0x0011 true (s.inject d 0))

end Sys2Proof.Machine
end

