-- ==== Sys2Proof/Machine/Prt.lean ====
section
/-!
DEFINITION. Sys2Proof/Machine/Prt.lean: path protection: heartbeats (R406, R407), pre-ranged standby (R410), the switch (R412 to R415), the
exercise (R416), the states (R417) and PRT_REQUEST (R418); and CH_ENABLE and CH_DISABLE (R148, R149), which the standby path follows (R410).
-/
namespace Sys2Proof.Machine

/-! Standby (R410). -/

/-- The standby channel of a number goes to DISABLED with its receive lane OFF. -/
def State.standbyOff (s : State) (k : Nat) : State :=
  let b := s.standbyChan k
  let s1 := if s.act_st b = stDisabled then s else (s.deactivate b).actTo b stDisabled 7
  if s1.fld F.LLN_RX_CFG_EN b = 1 then s1.writeRxCfg b (s1.peek (0x201000 + 0x40 * b) &&& 0xFFFFFFFE) else s1

/-- The standby channel of a number receives: its lane and its framing are enabled. -/
def State.standbyOn (s : State) (k : Nat) : State :=
  let b := s.standbyChan k
  let s1 := if s.fld F.LLN_RX_CFG_EN b = 1 then s else s.writeRxCfg b (s.peek (0x201000 + 0x40 * b) ||| 1)
  if s1.act_st b ≠ stDisabled then s1
  else if s1.fld F.ACT_CH_STATUS_ESTOP b = 1 then s1.actTo b stO7 7
  else s1.actOffline b 7

/-- While PRERANGE is 1 PRT enables the standby path for every channel number enabled on the active path, and otherwise leaves it off (R410). -/
def State.prerange (s : State) : State :=
  if s.prtState = 0 ∨ s.prtState = 4 ∨ s.fld F.ACT_STATUS_PATH 0 = 0 then s
  else (List.range 4).foldl (fun t k =>
    if !t.hasChannel k then t
    else if t.fld F.PRT_SB_CFG_PRERANGE 0 = 1 ∧ t.act_st (t.chanOf k) ≠ stDisabled then (t.standbyOn k).standbyLoad k
    else t.standbyOff k) s

/-- STANDBY_LOAD (R410). -/
def execStandbyLoad (k : Nat) (s : State) : Host.Outcome State Fault Refusal := .next (s.standbyLoad k)

/-! Starting and stopping (R417). -/

/-- OFF to WORK or PROT: the heartbeats start, and the standby path is pre-ranged. -/
def State.prtStart (s : State) : State :=
  if s.fld F.PRT_CFG_EN 0 = 0 ∨ s.prtState ≠ 0 ∨ s.fld F.ACT_STATUS_PATH 0 = 0 then s
  else
    let s1 := ((s.setFld F.PRT_STATUS_STATE 0 (if s.activePath = s.workPath then 1 else 2)).setFld F.PRT_STATUS_SF_A 0 0).setFld
      F.PRT_STATUS_SF_B 0 0
    State.prerange { s1 with prt := { s1.prt with paths := [], localReqs := [], skipPs := 0, skipKa := 0, kaFrom := s1.ltb.lc } }

/-- To OFF on the active path: the standby lanes are OFF and the standby contexts dropped. -/
def State.prtOff (s : State) : State :=
  let s1 := (List.range 4).foldl (fun t k => if t.hasChannel k then t.standbyOff k else t) s
  let s2 := ((s1.setFld F.PRT_STATUS_STATE 0 0).setFld F.PRT_STATUS_REQ 0 0).setFld F.PRT_STATUS_REQ_SRC 0 0
  State.prtAnswer { s2 with prt := { s2.prt with paths := [], localReqs := [], exercise := none, exFail := 0, wtrLen := 0, held := 0 } }

/-- A write of PRT_CFG (R416, R417, R420): WORKING is discarded while EN is 1. -/
def State.writePrtCfg (s : State) (v : Nat) : State :=
  let en := s.fld F.PRT_CFG_EN 0
  let s1 := if bit v 0 then s.setFld F.PRT_STATUS_SB_UP_FAULT 0 0 else s
  let s2 := if en = 0 then s1.setFld F.PRT_CFG_WORKING 0 (bits v 8 8) else s1
  let s3 := s2.setFld F.PRT_CFG_EN 0 (bits v 31 31)
  if bit v 31 then s3.prtStart
  else if s3.prtState = 0 then s3.releasePath
  else if s3.prtState = 4 then s3
  else s3.prtOff.releasePath

def prtCfgWrite (v : Word) (s : State) : Host.Outcome State Fault Refusal :=
  .next (s.hostWrite 0xD00000 v.toNat (fun t => t.landed 0xD00000 v.toNat (fun u => u.writePrtCfg v.toNat)))

/-- PRT_EN (R417): a write of PRT_CFG. -/
def execPrtEn (v : Word) (s : State) : Host.Outcome State Fault Refusal := prtCfgWrite v s

/-- SB_FAULT_CLR (R416): a write of PRT_CFG with bit [0] 1. -/
def execSbFaultClr (v : Word) (s : State) : Host.Outcome State Fault Refusal := prtCfgWrite (v ||| 1) s

/-- A write of PRT_SB_CFG (R410): PRERANGE takes effect at once. -/
def State.writeSbCfg (s : State) (v : Nat) : State := (s.applyWrite 0xD0000C v).prerange

/-! Heartbeats (R406, R407). -/

/-- Units are neither missed nor present in a dark interval, a watchful-sleep sample included (R407, R447). -/
def State.prtBlind (s : State) : Bool := s.fld F.PWR_STATUS_RX_DARK 0 == 1 || s.ltb.sleep.isSome

/-- SF of a path is declared or cleared (R406); `ps` where the unit just judged is a PSync unit. -/
def State.judgeSf (s : State) (p : Nat) (ps : Bool) : State :=
  let h := s.path p
  let tps := max 1 (s.fld F.PRT_HB_CFG_MISS_PSYNC 0)
  let tka := max 1 (s.fld F.PRT_HB_CFG_MISS_KA 0)
  let f := if p = 0 then F.PRT_STATUS_SF_A else F.PRT_STATUS_SF_B
  if !s.sf p && (decide (tps ≤ h.missPs) || decide (tka ≤ h.missKa)) then
    ((s.setFld f 0 1).raise F.PRT_EVENT_PATH_FAIL F.PRT_EVENT_EVCNT_PATH_FAIL 0).notify 0x0D 0x0002 (p + b2n ps * 256) 0
  else if s.sf p && decide (tps ≤ h.okPs) && decide (tka ≤ h.okKa) then
    ((s.setFld f 0 0).raise F.PRT_EVENT_PATH_RESTORED F.PRT_EVENT_EVCNT_PATH_RESTORED 0).notify 0x0D 0x0003 p 0
  else s

/-- A channel of the path reported an arrival in the 155,520 lc before this one (R406). -/
def State.pathPresent (s : State) (p : Nat) : Bool := (s.path p).arrivals.any (fun a => decide (a < s.ltb.lc ∧ s.ltb.lc ≤ a + 155520))

/-- One path's PSync unit. -/
def State.psUnit (s : State) (p : Nat) : State :=
  let h := s.path p
  (s.setPath p (if s.pathPresent p then { h with missPs := 0, okPs := h.okPs + 1 } else { h with missPs := h.missPs + 1, okPs := 0 })).judgeSf p true

/-- One path's keep-alive unit. -/
def State.kaUnit (s : State) (p : Nat) : State :=
  let h := s.path p
  (s.setPath p (if h.alive then { h with missKa := 0, okKa := h.okKa + 1, alive := false }
    else { h with missKa := h.missKa + 1, okKa := 0 })).judgeSf p false

/-- PSYNC_UNIT (R406 to R408): at a cycle 0 of the line stamp both paths are judged, once, then the request in force is taken. -/
def execPsyncUnit (s : State) : Host.Outcome State Fault Refusal :=
  .next <|
    if s.prtState = 0 ∨ s.prtBlind ∨ s.ltb.cycle ≠ 0 ∨ s.prt.psLc = some s.ltb.lc then s
    else
      let s1 : State := { s with prt := { s.prt with psLc := some s.ltb.lc } }
      if 0 < s1.prt.skipPs then State.prerange { s1 with prt := { s1.prt with skipPs := s1.prt.skipPs - 1 } }
      else (((s1.psUnit 0).psUnit 1).prerange).prtEval

/-- A keep-alive unit in line cycles (PRT_HB_CFG.KA_MS; 0 is treated as 1). -/
def State.kaLc (s : State) : Nat := max 1 (s.fld F.PRT_HB_CFG_KA_MS 0) * 1244160

/-- KEEP_ALIVE_UNIT (R406 to R408): at the end of a KA_MS period both paths are judged, then the request in force is taken. A period that overlaps a dark interval,
and the first after wake, are not judged (R407). -/
def execKeepAliveUnit (s : State) : Host.Outcome State Fault Refusal :=
  .next <|
    if s.prtState = 0 ∨ s.ltb.lc < s.prt.kaFrom + s.kaLc then s
    else
      let s0 : State := { s with prt := { s.prt with kaFrom := s.prt.kaFrom + s.kaLc } }
      if s0.prtBlind then s0
      else if 0 < s0.prt.skipKa then
        let s1 := [0, 1].foldl (fun t p => t.setPath p { t.path p with alive := false }) s0
        { s1 with prt := { s1.prt with skipKa := s1.prt.skipKa - 1 } }
      else ((s0.kaUnit 0).kaUnit 1).prtEval

/-! The switch (R412 to R415). -/

/-- An old-path channel at F1: its context is dropped, and it enters O1.2 if in SYNC, otherwise O1.1 (R412). DISABLED and the emergency stop
stay (R149). -/
def State.leavePath (s : State) (c : Nat) : State :=
  let st := s.act_st c
  if st = stDisabled then s
  else if st = stO7 then s.deactivate c
  else
    let t := s.deactivate c
    if st = stO11 ∨ st = stO12 then t else t.actRestart c 7

/-- The transmit lane of an old-path channel goes OFF, after a burst in progress (R410, R95). -/
def State.txLeave (s : State) (n : Nat) : State :=
  if (s.txState n = 1 ∨ s.txState n = 3) ∧ !s.txBusy n then s.txOff n else s

/-- ACT commits the contexts of every channel for frame F1 + 1 (R187, R412). -/
def State.commitContexts (s : State) (first : Nat) : State :=
  if !s.linkOk then s
  else ((List.range 8).foldl (fun t c =>
    let w := t.whsCh c
    let seq := match w.ctxs with | [] => 1 | x :: _ => (x.seq + 1) % 2 ^ 16
    t.setWhsCh c { w with ctxs := t.contextNow c seq first :: w.ctxs.take 3, stale := false }) s).whsApply

/-- PATH_CHANGE (R412): F1, the first cycle 0 after the decision. -/
def State.pathChange (s : State) : State :=
  let old := s.activePath
  let new := s.prt.newPath
  let s1 := (List.range 4).foldl (fun t k => (t.leavePath (4 * old + k)).bondRemove (4 * old + k)) s.flushHeld
  let s2 := (s1.setFld F.ACT_STATUS_PATH 0 (1 + new))
  let s3 := (List.range 4).foldl (fun t k =>
    let m := t.fld F.ACT_CH_STATUS_MEMBER (4 * old + k)
    let u := (t.setFld F.ACT_CH_STATUS_MEMBER (4 * old + k) 0).setFld F.ACT_CH_STATUS_MEMBER (4 * new + k) m
    let c := 4 * new + k
    let a := if u.fld F.LTB_CH_OFS_VALID c = 1 then
        { u with ltb := { u.ltb with anchored := SMap.put u.ltb.anchored c (u.ofs c) 0 } } else u
    (if a.act_st c = stO5S then a.actTo c stO51 7 else a).txLeave (4 * old + k)) s2
  let s4 := s3.showAssoc.commitContexts ((s.prt.f1 + 1) % 2 ^ 46)
  let s5 : State := { s4 with prt := { s4.prt with passed := true } }
  let s6 := if s5.tstate = 0 ∧ s5.choice none = none then s5.toHoldover else s5
  s6.refreshUp

/-- PATH_CHANGE (R412): the first cycle 0 of the line stamp after the decision is reached. -/
def execPathChange (s : State) : Host.Outcome State Fault Refusal :=
  .next (if s.prtState = 4 ∧ !s.prt.passed ∧ stampLe (stampOf s.prt.f1 0) s.stamp then s.pathChange else s)

/-- The gap ends at the first new-path arrival of frame F1 + 1 (R412, R417): PRT_GAP, SWITCH, the state the new path calls for; an exercise
that failed in the gap switches back, a decision held through it is taken (R415), and EN at 0 leads to OFF. -/
def State.gapEnd (s : State) : State :=
  let gap := min 0xFFFFF (s.ltb.lc - s.prt.gapFrom)
  let new := s.prt.newPath
  let ex := s.prt.exercise.isSome && s.prt.cause == 1 && new == s.protPath
  let st := if ex then 5 else if new = s.workPath then 1 else 2
  let s1 := (((s.setFld F.PRT_GAP_LC 0 gap).satAdd F.PRT_COUNT_SWITCHES 0 1).raise F.PRT_EVENT_SWITCH F.PRT_EVENT_EVCNT_SWITCH 0).notify 0x0D 0x0001
    (new + s.prt.cause * 256) gap
  let s2 := s1.setFld F.PRT_STATUS_STATE 0 st
  let s3 : State := { s2 with prt := { s2.prt with
    held := s2.prt.held &&& (15 * 16 ^ new)
    exercise := if ex then s2.prt.exercise.map (fun x => (x.1, s2.ltb.lc)) else s2.prt.exercise } }
  if s3.fld F.PRT_CFG_EN 0 = 0 then s3.prtOff.releasePath
  else if st = 5 ∧ s3.prt.exFail ≠ 0 then s3.exerciseFails s3.prt.exFail
  else s3.prerange.prtEval

/-- An arrival as PRT sees it (R406, R412): the path is present, and from frame F1 + 1 on a new-path channel leaves HELD. -/
def State.prtArrival (s : State) (c frame : Nat) : State :=
  let h := s.path (c / 4)
  let s1 := if h.arrivals.head? = some s.ltb.lc then s else s.setPath (c / 4) { h with arrivals := (s.ltb.lc :: h.arrivals).take 2 }
  if s1.prt.passed && s1.onActive c && bit s1.prt.held c && stampLe (stampOf (s1.prt.f1 + 1) 0) (stampOf frame 0) then
    let s2 : State := { s1 with prt := { s1.prt with held := s1.prt.held - 2 ^ c } }
    if s2.prtState = 4 then s2.gapEnd else s2
  else s1

/-- WTR_EXPIRY (R413): the wait-to-restore timer has run. -/
def execWtrExpiry (s : State) : Host.Outcome State Fault Refusal :=
  .next <|
    if s.prtState = 3 ∧ s.prt.wtrLen * 1244160000 ≤ s.ltb.lc - s.prt.wtrFrom then
      State.prtEval { s with prt := { s.prt with wtrLen := 0 } }
    else s

/-- EXERCISE_END (R416): the duration has passed without failure. -/
def execExerciseEnd (s : State) : Host.Outcome State Fault Refusal :=
  .next <|
    match s.prt.exercise with
    | none => s
    | some (ms, from_) =>
      if s.prtState = 5 ∧ ms ≤ s.msSince from_ then
        ((((s.setFld F.PRT_STATUS_SB_UP_FAULT 0 0).exerciseOutcome true 0 (s.msSince from_)).dropExercise).decideSwitch s.workPath 1)
      else s

/-! PRT_REQUEST (R418). -/

/-- A host request of a code is in force from here: the decision it leads to is taken, and the command completes at it, or at once with the
new STATE where there is none. While the gap keeps the decision waiting, the command waits too. -/
def State.prtAccept (s : State) (d : Desc) (code : Nat) : State :=
  let s1 : State := { s with prt := { s.prt with
    localReqs := SMap.insert s.prt.localReqs code (bits (d.dw 5) 8 8, d.dw 6), waiters := s.prt.waiters ++ [d] } }
  s1.prtEval

/-- What a switch request meets first: OFF, a higher request in force, one that R408 does not permit. -/
def State.prtGate (s : State) (d : Desc) (prio : Nat) (permitted : Bool) (go : State → State) : State :=
  if s.prtState = 0 then s.refuse d stStateRefused (refusedWord 0x6C 0 0)
  else if prio < s.fld F.PRT_STATUS_REQ 0 ∨ !permitted then
    s.refuse d stStateRefused (refusedWord 0x6D 0 (s.fld F.PRT_STATUS_REQ 0))
  else go s

/-- The codes of PRT_REQUEST; any other in DW5 [7:0] gives BAD_ARG with RESULT 5. -/
def prtCode (d : Desc) : Nat := bits (d.dw 5) 7 0
def prtCodeOk (d : Desc) : Bool :=
  prtCode d == 0x10 || prtCode d == 0x11 || prtCode d == 0x14 || prtCode d == 0x15 || prtCode d == 0x16

/-- An EXERCISE (R416, R418). -/
def State.prtExercise (s : State) (d : Desc) : State :=
  if d.dw 6 = 0 ∨ 60000 < d.dw 6 then s.refuse d stBadArg 6
  else s.prtGate d 1 s.exerciseOk (fun t => t.prtAccept d 0x15)

/-- A CLEAR (R409): the host's LOCKOUT, FORCED_SWITCH, MANUAL_SWITCH and EXERCISE requests are removed, and WTR ends. -/
def State.prtClear (s : State) (d : Desc) : State :=
  s.prtGate d 8 true (fun t =>
    State.prtEval { t with prt := { t.prt with
      localReqs := [], waiters := t.prt.waiters ++ [d], wtrLen := if t.prtState = 3 then 0 else t.prt.wtrLen } })

/-- The code names this row, or no row at all: any row answers a code outside R418's list. -/
def prtRow (d : Desc) (code : Nat) : Bool := prtCode d == code || !([0x10, 0x11, 0x14, 0x15, 0x16].contains (prtCode d))

/-- PRT_REQUEST with any code. -/
def State.prtRequest (s : State) (d : Desc) : State :=
  let t := bits (d.dw 5) 8 8
  match prtCode d with
  | 0x10 => s.prtGate d 8 true (fun u => u.prtAccept d 0x10)
  | 0x11 => s.prtGate d 6 true (fun u => u.prtAccept d 0x11)
  | 0x14 => s.prtGate d 3 (s.manualOk t) (fun u => u.prtAccept d 0x14)
  | 0x15 => s.prtExercise d
  | 0x16 => s.prtClear d
  | _ => s.refuse d stBadArg 5

/-- LOCKOUT (R408, R418): PRT_REQUEST with code 0x10. -/
def execLockout (d : Desc) (s : State) : Host.Outcome State Fault Refusal := .next (s.asCommand d 0x3401 (prtRow d 0x10) (s.prtRequest d))

/-- FORCED_SWITCH (R408, R418): PRT_REQUEST with code 0x11. -/
def execForcedSwitch (d : Desc) (s : State) : Host.Outcome State Fault Refusal := .next (s.asCommand d 0x3401 (prtRow d 0x11) (s.prtRequest d))

/-- MANUAL_SWITCH (R408, R418): PRT_REQUEST with code 0x14. -/
def execManualSwitch (d : Desc) (s : State) : Host.Outcome State Fault Refusal := .next (s.asCommand d 0x3401 (prtRow d 0x14) (s.prtRequest d))

/-- EXERCISE (R416, R418): PRT_REQUEST with code 0x15. -/
def execExercise (d : Desc) (s : State) : Host.Outcome State Fault Refusal := .next (s.asCommand d 0x3401 (prtRow d 0x15) (s.prtRequest d))

/-- CLEAR (R409, R418): PRT_REQUEST with code 0x16. -/
def execClear (d : Desc) (s : State) : Host.Outcome State Fault Refusal := .next (s.asCommand d 0x3401 (prtRow d 0x16) (s.prtRequest d))

/-! Enabling and disabling channels (R148, R149). -/

/-- CH_ENABLE (R148, R149, R167, R168): the first enable sets the active path. -/
def execChEnable (d : Desc) (s : State) : Host.Outcome State Fault Refusal :=
  .next <| s.asCommand d 0x1002 (bit (d.dw 5) 8) <|
    let c := bits (d.dw 5) 2 0
    let path := s.fld F.ACT_STATUS_PATH 0
    if !s.hasChannel c then s.refuse d stBadArg 5
    else if s.act_st c ≠ stDisabled then s.refuse d stStateRefused (refusedWord 0x20 c (s.act_st c))
    else if path ≠ 0 ∧ path ≠ 1 + c / 4 then s.refuse d stStateRefused (refusedWord 0x22 0 path)
    else
      let s1 := if path = 0 then s.actPath (1 + c / 4) else s
      let s2 := (if s1.fld F.ACT_CH_STATUS_ESTOP c = 1 then s1.actTo c stO7 0 else s1.actOffline c 0).prtStart.prerange
      s2.finish d stOk (s2.act_st c)

/-- CH_DISABLE (R149, R166): the context is dropped and the member removed; an exchange on the channel is abandoned. -/
def execChDisable (d : Desc) (s : State) : Host.Outcome State Fault Refusal :=
  .next <| s.asCommand d 0x1002 (!bit (d.dw 5) 8) <|
    let c := bits (d.dw 5) 2 0
    if !s.hasChannel c then s.refuse d stBadArg 5
    else if s.act_st c = stDisabled then s.refuse d stStateRefused (refusedWord 0x20 c 0)
    else
      let s1 := (s.deactivate c).actTo c stDisabled 0
      s1.prerange.releasePath.finish d stOk stDisabled

end Sys2Proof.Machine
end

