-- ==== Sys2Proof/Machine/Tim.lean ====
section
/-!
DEFINITION. Sys2Proof/Machine/Tim.lean: ToD messages, the servo, 1PPS, triggers and captures (R388 to R403).
-/
namespace Sys2Proof.Machine

/-! The head end's ToD and the servo (R388 to R391). -/

/-- A ToD of seconds, ns and fraction in units of 2^-16 ns (R386). -/
def todUnits (sec ns frac : Nat) : Nat := (sec * 1000000000 + ns) * 65536 + frac

/-- The state field of a refused TOD_SET (R402): time state and timing channel. -/
def State.todState (s : State) : Nat := s.tstate + s.tc * 4

/-- A ToD message is applied (R388, R389). -/
def State.todApply (s : State) (d : Desc) : State :=
  let c := s.tc
  let n := (d.dw 5 + bits (d.dw 6) 18 0 * 2 ^ 32) % 2 ^ 46
  let eqd := s.fld F.ACT_CH_EQD_EQD c
  let alpha := s.fld F.TIM_CH_ASYM_ALPHA c
  let rxopt := signed 16 (s.fld F.TIM_CH_RXOPT_RXOPT c)
  let dd := todD (d.dw 11) eqd alpha rxopt
  let sNew := stampAdd (stampOf n 0) s.ltb.anchor
  let tNew : Int := (todUnits (d.dw 7 + bits (d.dw 8) 15 0 * 2 ^ 32) (d.dw 9) (bits (d.dw 10) 15 0) : Nat) + duUnits dd
  let s0 := s.phiBase
  let valid := s0.fld F.TIM_STATUS_TOD_VALID 0 == 1
  let e := if valid then tNew - s0.todOf sNew 0 else 0
  let s1 : State := { s0 with tim := { s0.tim with
    sRef := sNew, tRef := if valid then tNew - s0.tim.phi else tNew
    phi := if valid then s0.tim.phi - e else 0
    slewLeft := 0, held := true, d := dd, teqd := d.dw 11, alpha := alpha, rxopt := rxopt, chan := c, eqd := eqd } }
  let s2 := ((s1.setFld F.TIM_STATUS_SLEWING 0 0).setFld F.TIM_STATUS_TOD_VALID 0 1).setFld F.TIM_STATUS_REF_STALE 0
    (1 - s.fld F.ACT_CH_EQD_VALID c)
  let s3 : State := if s2.fld F.TIM_STATUS_REF_STALE 0 = 0 then
      { s2.setFld F.TIM_UNC_UNC 0 0 with tim := { s2.tim with fresh := false, holdFrom := none } }
    else s2
  let s4 := s3.timSource
  let s5 := if valid then s4.ponOffset e 1 else s4.todStep 0 0
  s5

/-- The offset a TOD_SET finds, as its RESULT: 0 at a first set (R389, R400). -/
def State.todOffset (s : State) (d : Desc) : Nat :=
  if s.fld F.TIM_STATUS_TOD_VALID 0 = 0 then 0
  else
    let n := (d.dw 5 + bits (d.dw 6) 18 0 * 2 ^ 32) % 2 ^ 46
    let dd := todD (d.dw 11) (s.fld F.ACT_CH_EQD_EQD s.tc) (s.fld F.TIM_CH_ASYM_ALPHA s.tc) (signed 16 (s.fld F.TIM_CH_RXOPT_RXOPT s.tc))
    let tNew : Int := (todUnits (d.dw 7 + bits (d.dw 8) 15 0 * 2 ^ 32) (d.dw 9) (bits (d.dw 10) 15 0) : Nat) + duUnits dd
    nsWord (tNew - s.todOf (stampAdd (stampOf n 0) s.ltb.anchor) 0)

/-- The first argument word of a TOD_SET that R401 refuses. -/
def State.badTod (s : State) (d : Desc) : Option Nat :=
  let n : Nat := d.dw 5 + bits (d.dw 6) 18 0 * 2 ^ 32
  if 2 ^ 24 < (signed 51 (unsigned 51 (((n : Nat) : Int) - (s.ltb.sfc : Int)))).natAbs then some 5
  else if 999999999 < d.dw 9 then some 9
  else if d.dw 11 < s.fld F.ACT_CH_EQD_EQD s.tc then some 11
  else if !s.hasChannel (d.dw 12 % 8) then some 12
  else none

/-- TOD_SET (R388, R389, R401, R402): the relation takes effect in the line cycle after the command's record is committed. -/
def execTodSet (d : Desc) (s : State) : Host.Outcome State Fault Refusal :=
  .next <| s.asCommand d 0x3001 true <|
    match s.badTod d with
    | some k => s.refuse d stBadArg k
    | none =>
      if s.tstate ≠ 0 ∨ d.dw 12 % 8 ≠ s.tc then s.refuse d stStateRefused (refusedWord 0x68 0 s.todState)
      else (s.finish d stOk (s.todOffset d)).todApply d

/-- TOD_READ (R395, R400). -/
def execTodRead (d : Desc) (s : State) : Host.Outcome State Fault Refusal :=
  .next <| s.asCommand d 0x3002 true <|
    if !d.buf ∨ d.bufLen < 64 then s.refuse d stBadArg 4
    else
      let t := (s.todOf s.stamp 0).toNat
      let ns := t / 65536
      let sec := ns / 1000000000 % 2 ^ 48
      let flags := s.tstate + s.fld F.TIM_STATUS_TOD_VALID 0 * 4 + s.fld F.TIM_STATUS_REF_STALE 0 * 8 + b2n s.todSpec * 16
      (s.toBuf d ([s.stamp % 2 ^ 32, s.stamp / 2 ^ 32, sec % 2 ^ 32, sec / 2 ^ 32 + t % 65536 * 65536, ns % 1000000000,
        s.fld F.TIM_SERVO_FREQ_Y 0, s.uncNow, flags + s.fld F.LTB_EPOCH_EPOCH 0 % 256 * 256 + s.tim.epoch * 65536] ++
        List.replicate 8 0)).finish d stOk 0

/-- The bound on y and the integral term, in 1/256 ppb (TIM_SERVO_MAX: 0 is treated as 1). -/
def State.servoMax (s : State) : Int := (max 1 (s.fld F.TIM_SERVO_MAX_MAX_PPB 0) * 256 : Nat)

/-- An offset over an interval with a gain of 2^-k, in 1/256 ppb: e in units of 2^-16 ns, T in µs. -/
def servoTerm (e : Int) (us k : Nat) : Int := e * 256 * 1000000 / (65536 * us * 2 ^ k : Nat)

/-- A PTP sample is applied (R391). -/
def State.servoApply (s : State) (e : Int) (us : Nat) : State :=
  let s0 := s.phiBase
  let s1 : State := { s0.setFld F.TIM_SERVO_ERR_ERR 0 (nsWord e) with tim := { s0.tim with sampleUs := us, sampleLc := s0.ltb.lc } }
  if s1.fld F.TIM_CFG_STEP_EN 0 = 1 ∧ s1.fld F.TIM_SERVO_STEP_STEP_NS 0 * 65536 < e.natAbs then
    State.todStep { s1 with tim := { s1.tim with phi := s1.tim.phi + e } } 2 e
  else
    let m := s1.servoMax
    let i := clampI (-m) m (s1.timInt + servoTerm e us (s1.fld F.TIM_SERVO_CFG_KI_SHIFT 0))
    let raw := servoTerm e us (s1.fld F.TIM_SERVO_CFG_KP_SHIFT 0) + i
    let y := clampI (-m) m raw
    ((s1.setFld F.TIM_SERVO_INT_INT 0 (unsigned 32 i)).setFld F.TIM_SERVO_FREQ_Y 0 (unsigned 32 y)).setFld
      F.TIM_STATUS_SERVO_LIMIT 0 (b2n (decide (raw ≠ y)))

/-- SERVO_SAMPLE (R391, R401, R402): applied in the line cycle after its record is committed; RESULT is y after the sample. -/
def execServoSample (d : Desc) (s : State) : Host.Outcome State Fault Refusal :=
  .next <| s.asCommand d 0x3003 true <|
    let us := d.dw 7
    let e := signed 32 (d.dw 5) * 65536 + bits (d.dw 6) 15 0
    if us = 0 ∨ 16000000 < us then s.refuse d stBadArg 7
    else if s.fld F.TIM_STATUS_SRC_USED 0 = 0 then s.refuse d stStateRefused (refusedWord 0x69 0 0)
    else (s.finish d stOk ((s.servoApply e us).fld F.TIM_SERVO_FREQ_Y 0)).servoApply e us

/-- TOD_SLEW_DONE (R389): the PON slew has arrived. -/
def execTodSlewDone (s : State) : Host.Outcome State Fault Refusal :=
  .next <|
    let s0 := s.phiBase
    if s0.fld F.TIM_STATUS_SLEWING 0 = 1 ∧ s0.tim.slewLeft = 0 then s0.setFld F.TIM_STATUS_SLEWING 0 0 else s

/-- SERVO_FALLBACK (R391): with no sample for HOLD_SAMPLES intervals y falls back to the integral term. -/
def execServoFallback (s : State) : Host.Outcome State Fault Refusal :=
  .next <|
    let n := max 1 (s.fld F.TIM_SERVO_CFG_HOLD_SAMPLES 0) * usLc s.tim.sampleUs
    if s.fld F.TIM_STATUS_SRC_USED 0 = 0 ∨ s.ltb.lc < s.tim.sampleLc + n then s
    else (s.phiBase.setFld F.TIM_SERVO_FREQ_Y 0 (s.fld F.TIM_SERVO_INT_INT 0)).setFld F.TIM_STATUS_SERVO_LIMIT 0 0

/-! 1PPS (R396). -/

/-- The output is to be squelched. -/
def State.ppsSquelch (s : State) : Bool :=
  s.fld F.TIM_STATUS_TOD_VALID 0 == 0 || (s.tstate == 1 && s.fld F.TIM_PPS_CFG_HOLD_SQUELCH 0 == 1)

/-- PPS_EDGE (R396): in the line cycle in which ToD crosses a whole second squelching takes effect, and PPS_OUT rises at the sixteenth of the crossing for WIDTH_US
while enabled and not squelched. -/
def execPpsEdge (s : State) : Host.Outcome State Fault Refusal :=
  .next <|
    match s.ppsCross with
    | none => s
    | some f =>
      if s.ltb.sleep.isSome then s
      else
        let q := b2n s.ppsSquelch
        let s1 := if s.fld F.TIM_STATUS_PPS_SQUELCHED 0 = q then s
          else (s.setFld F.TIM_STATUS_PPS_SQUELCHED 0 q).notify 0x0C 0x0005 q 0
        if q = 0 ∧ s1.fld F.TIM_CFG_PPS_EN 0 = 1 then
          let w := max 1 (min 500000 (s1.fld F.TIM_PPS_CFG_WIDTH_US 0))
          { s1 with tim := { s1.tim with pps := some (s1.ltb.lc + usLc w, f) } }
        else s1

/-! Triggers (R397, R398). -/

def trigNone : Trig := ⟨false, false, 0, 0, 0, 0, 0, 0, none⟩
def State.trig (s : State) (t : Nat) : Trig := SMap.get s.tim.trigs t trigNone
def State.setTrig (s : State) (t : Nat) (x : Trig) : State :=
  { s with tim := { s.tim with trigs := SMap.put s.tim.trigs t x trigNone } }
def State.armed (s : State) (t : Nat) : Bool := s.fld F.TIM_TRIG_STATUS_ARMED t == 1

/-- Arm or disarm a trigger, as both status registers show. -/
def State.setArmed (s : State) (t : Nat) (a : Bool) : State :=
  let w := s.fld F.TIM_STATUS_TRIG_ARMED 0
  (s.setFld F.TIM_TRIG_STATUS_ARMED t (b2n a)).setFld F.TIM_STATUS_TRIG_ARMED 0 (if a then w ||| 2 ^ t else w - (w &&& 2 ^ t))

/-- Occurrences in all: 1 for a single pulse, none for unending. -/
def Trig.total (x : Trig) : Option Nat := if x.period = 0 then some 1 else if x.count = 0 then none else some x.count

/-- Occurrences due at or before a stamp. -/
def Trig.due (x : Trig) (st : Nat) : Nat :=
  let d := stampDiff st x.start
  if d < 0 then 0
  else
    let n := if x.period = 0 then 1 else d.toNat / x.period + 1
    match x.total with
    | some k => min n k
    | none => n

/-- Fires are flagged HOLDOVER (R393, R398). -/
def State.trigFlag (s : State) : Bool := s.tstate == 1 || (s.tim.fresh && s.fld F.TIM_STATUS_REF_STALE 0 == 1)

/-- Missed occurrences are counted, with one TRIG_MISSED (R398). -/
def State.trigMiss (s : State) (t n : Nat) : State :=
  if n = 0 then s
  else ((s.satAdd F.TIM_TRIG_COUNT_MISSED t n).raise F.TIM_EVENT_TRIG_MISSED F.TIM_EVENT_EVCNT_TRIG_MISSED 0).notify 0x0C 0x0003 t n

/-- Occurrence `k` fires. -/
def State.trigFire (s : State) (t k : Nat) (late : Bool) : State :=
  let x := s.trig t
  let hold := s.trigFlag
  let s1 := ((s.satAdd F.TIM_TRIG_COUNT_FIRED t 1).setFld F.TIM_TRIG_STATUS_LATE t (b2n late)).setFld F.TIM_TRIG_STATUS_HOLDOVER t (b2n hold)
  let s2 := if late then s1.raise F.TIM_EVENT_TRIG_LATE F.TIM_EVENT_EVCNT_TRIG_LATE 0 else s1
  let s3 := s2.setTrig t { x with high := some (s2.ltb.lc + x.width) }
  if x.notify then s3.notify 0x0C 0x0002 (t + b2n late * 256 + b2n hold * 512 + x.frac * 4096) (k % 2 ^ 32) else s3

/-- The occurrences of trigger `t` that are due now are handled (R398): the latest fires, late where its line cycle has passed, and the others count in
MISSED; without a valid ToD all do. The trigger disarms itself after its count. -/
def State.trigDue (s : State) (t : Nat) : State :=
  let x := s.trig t
  let n := x.due s.stamp
  if !s.armed t ∨ n ≤ x.next then s
  else
    let late := decide (stampDiff s.stamp x.start ≠ ((n - 1) * x.period : Nat))
    let s1 := s.setTrig t { x with next := n }
    let s2 :=
      if s.tstate = 2 ∨ s.fld F.TIM_STATUS_TOD_VALID 0 = 0 then s1.trigMiss t (n - x.next)
      else (s1.trigFire t (n - 1) late).trigMiss t (n - x.next - 1)
    if x.total = some n then s2.setArmed t false else s2

/-- TRIG_FIRED (R398): an occurrence of a trigger falls due. -/
def execTrigFired (t : Nat) (s : State) : Host.Outcome State Fault Refusal := .next (s.trigDue t)

/-- Every trigger after a step or a wake (R398). -/
def State.trigAll (s : State) : State := (List.range 8).foldl (fun u t => u.trigDue t) s

/-- TRIG_SET (R397, R400, R401). Occurrences due by the commit line cycle still fire, and a pulse in progress completes its width. -/
def execTrigSet (d : Desc) (s : State) : Host.Outcome State Fault Refusal :=
  .next <| s.asCommand d 0x3004 true <|
    let t := d.dw 5 % 8
    let en := bit (d.dw 5) 31
    let start := d.dw 6 + d.dw 7 * 2 ^ 32
    let w := bits (d.dw 9) 23 0
    let p := d.dw 10
    if 155519 < start % 2 ^ 18 ∨ w = 0 ∨ (p ≠ 0 ∧ p ≤ w) ∨ (en ∧ stampDiff start s.stamp < 64) then s.refuse d stBadArg 6
    else
      let s1 := (s.trigDue t).finish d stOk 0
      let s2 := if en then
          s1.setTrig t ⟨bit (d.dw 5) 30, bit (d.dw 5) 29, start, d.dw 8 % 16, w, p, d.dw 11, 0, (s1.trig t).high⟩
        else s1
      s2.setArmed t en

/-- PULSE_WIDTH_END (R396, R397): output `w` (0 to 7 a trigger, 8 PPS_OUT) returns to its inactive level once its width has passed. -/
def execPulseWidthEnd (w : Nat) (s : State) : Host.Outcome State Fault Refusal :=
  .next <|
    if w = 8 then
      match s.tim.pps with
      | some (e, _) => if e ≤ s.ltb.lc then { s with tim := { s.tim with pps := none } } else s
      | none => s
    else
      match (s.trig w).high with
      | some e => if e ≤ s.ltb.lc then s.setTrig w { s.trig w with high := none } else s
      | none => s

/-! Captures (R399). -/

/-- CAPTURE (R399): an edge on input `c`, `ago` line cycles back and at a sixteenth, its level having held for 4 lc and the input latency removed. -/
def execCapture (c : Nat) (rising : Bool) (ago fine : Nat) (s : State) : Host.Outcome State Fault Refusal :=
  .next <|
    let sel := s.fld F.TIM_CAP_CFG_EDGE c
    if !bit sel (if rising then 0 else 1) ∨ s.ltb.sleep.isSome ∨ ago < 4 then s
    else
      let at_ : Int := (s.ltb.lc : Int) - ago
      let x := SMap.find s.tim.caps c
      let near := match x with
        | some (l, _) => decide (at_ - l < 8)
        | none => false
      if near then (s.satAdd F.TIM_CAP_OVR_OVERRUN c 1).raise F.TIM_EVENT_CAP_OVERRUN F.TIM_EVENT_EVCNT_CAP_OVERRUN 0
      else
        let n := (match x with | some (_, k) => k | none => 0) + 1
        let st := stampAdd s.stamp (-ago)
        let s1 : State := { s with tim := { s.tim with caps := SMap.insert s.tim.caps c (at_, n) } }
        let s2 := (s1.setFld F.TIM_CAP_STAMP_LO_STAMP c st).setFld F.TIM_CAP_STAMP_HI_STAMP c (st / 2 ^ 32)
        let s3 := (((s2.setFld F.TIM_CAP_INFO_FRACTION c fine).setFld F.TIM_CAP_INFO_TSTATE c s.tstate).setFld F.TIM_CAP_INFO_RISING c
          (b2n rising)).setFld F.TIM_CAP_INFO_VALID c 1
        if s3.fld F.TIM_CAP_CFG_NOTIFY c = 1 then
          s3.postEvent 0x0C 0x0004 none st 0 (c + b2n rising * 16 + fine % 16 * 256 + s.tstate * 4096) (n % 2 ^ 32)
        else s3

/-! Register writes (R390, R391, R404). -/

/-- TIM_CFG: the source in force follows SRC. -/
def State.writeTimCfg (s : State) (v : Nat) : State := (s.applyWrite 0xC00000 v).timSource

/-- TIM_SLEW and TIM_HOLD_PPB: a rate applies from the write on. -/
def State.writeTimRate (s : State) (addr v : Nat) : State := (s.phiBase.uncBase).applyWrite addr v

/-- TIM_CHn_ASYM and TIM_CHn_RXOPT: a write for the timing channel makes the relation stale (R390). -/
def State.writeTimCh (s : State) (addr n v : Nat) : State :=
  let t := s.applyWrite addr v
  if n = s.tc then t.timStale else t

end Sys2Proof.Machine
end

