-- ==== Sys2Proof/Machine/Simmer.lean ====
section
/-!
DEFINITION. Sys2Proof/Machine/Simmer.lean: domains powering down and up (R441 to R446), Simmer (R447 to R457) and the wake's
reconciliation of time (R39, R40).
-/
namespace Sys2Proof.Machine

/-! Domains going down and coming back (R442, R443). -/

/-- A receive slice's framing leaves SYNC without a declaration, with the open SDUs lost there (R112, R123): LOS and LOF present are cleared without an event (R133). A
member stays ACTIVE until its position stalls (R127). -/
def State.framingQuiet (s : State) (c : Nat) : State :=
  let s1 := (((s.leaveSync c).setFld F.DSF_CH_STATUS_STATE c 0).setFld F.DSF_CH_STATUS_LOS c 0).setFld F.DSF_CH_STATUS_LOF c 0
  (s1.setFraming c { s1.framing c with cands := [], misses := 0, run1 := 0, run2 := 0, lostFrame := none, arr := none }).showCands c

/-- TIM after a power loss of its domain: the relation, the triggers and the captures are gone (R442). -/
def State.timOff (s : State) : State :=
  let s1 : State := { s with tim := State.reset.tim }
  let s2 := (((((s1.setFld F.TIM_STATUS_TOD_VALID 0 0).setFld F.TIM_STATUS_REF_STALE 0 1).setFld F.TIM_STATUS_SLEWING 0 0).setFld
    F.TIM_STATUS_TRIG_ARMED 0 0).setFld F.TIM_UNC_UNC 0 (2 ^ 32 - 1)).setFld F.TIM_SERVO_INT_INT 0 0
  let s3 := (List.range 8).foldl (fun t k => t.setFld F.TIM_TRIG_STATUS_ARMED k 0) (s2.setFld F.TIM_SERVO_FREQ_Y 0 0)
  ((List.range 4).foldl (fun t k => t.setFld F.TIM_CAP_INFO_VALID k 0) s3).timSource

/-- A domain or slice powers down, to OFF or to RET (R442): what is lost with its logic or its memories. Set-up registers and counters keep their
values, since R480 resets them at the three resets alone (log entry 31). -/
def State.domDown (s : State) (n sl : Nat) (off : Bool) : State :=
  let s1 := match n with
    | 2 | 3 => ((s.pairOff (4 * (n - 2) + sl)).rxStop (4 * (n - 2) + sl)).framingQuiet (4 * (n - 2) + sl)
    | 4 | 5 => ((s.pairOff (4 * (n - 4) + sl)).txOff (4 * (n - 4) + sl)).setTxLane (4 * (n - 4) + sl) txLaneEmpty
    | 9 => if off then { s with mem := { s.mem with tracks := s.mem.tracks.filter (fun p => p.2.chronic), passes := [] } } else s
    | 10 => (if s.portState sl = 4 then s.portDown sl 0 else s.lanesTo sl 0).dropTx sl
    | 11 => if off then { s with cph := { s.cph with ports := [] } } else s
    | 12 => if off then s.timOff else s
    | 13 => s.infDown off
    | _ => s
  s1.setDom n sl (if off then 0 else 1)

/-- What a domain finds as it returns: the QDR-IV group's check of its kept training fails (R446), key transfers that fail (R364). -/
def State.domUp (s : State) (qdrFail : Bool) (keys : List (Nat × KeyFetch)) (n sl : Nat) : State :=
  if s.dom n sl == 2 then s
  else
    let s1 := s.setDom n sl 2
    match n with
    | 2 | 3 => s1.rxStart (4 * (n - 2) + sl)
    | 7 => if qdrFail && s1.is F.MEM_QDR_STATUS_STATE 0 2 then (s1.setFld F.MEM_QDR_STATUS_STATE 0 1).setFld F.MEM_QDR_STATUS_TRAIN_STEP 0 0
           else s1
    | 10 => s1.startIfDown sl
    | 11 => s1.reloadKeys keys
    | 13 => s1.infUp
    | _ => s1

/-- A domain marked AUTO, or a slice of one, is idle (R443). -/
def State.domIdle (s : State) (n sl : Nat) : Bool :=
  match n with
  | 2 | 3 => s.fld F.LLN_RX_CFG_EN (4 * (n - 2) + sl) == 0
  | 4 | 5 =>
    let c := 4 * (n - 4) + sl
    s.fld F.LLN_TX_CFG_EN c == 0 || (s.act_st c == stO5P && s.txState c == 1 && !s.txBusy c)
  | 10 => !bit (s.fld F.HPM_CFG_PORT_EN 0) sl
  | 11 => s.cph.sas.all (fun p => p.2.st == 0) && (List.range 0x20).all (fun k => (s.slot k).st != 2)
  | 12 => s.fld F.TIM_CFG_PPS_EN 0 == 0 && s.fld F.TIM_STATUS_TRIG_ARMED 0 == 0 && (List.range 4).all (fun c => s.fld F.TIM_CAP_CFG_EDGE c == 0)
  | 13 => [0, 1, 2, 3].all (fun k => (s.core k).st == 0 || (s.core k).st == 3)
  | _ => false

/-- The domains with AUTO (R441). -/
def autoDoms : List Nat := [2, 3, 4, 5, 10, 11, 12, 13]

/-- What a line cycle shows of each slice that may power itself down: idle from here on, or still, or no longer (R443). -/
def State.idleStep (s : State) : State :=
  let m := autoDoms.foldl (fun m n => (domSlices n).foldl (fun m sl =>
    if s.dom n sl = 2 ∧ s.domIdle n sl then (if (SMap.find m (8 * n + sl)).isSome then m else SMap.insert m (8 * n + sl) s.ltb.lc)
    else SMap.erase m (8 * n + sl)) m) s.pwr.idleFrom
  let held := if s.upHeld = 0 then s.pwr.heldLc else s.ltb.lc
  { s with pwr := { s.pwr with idleFrom := m, heldLc := held } }

/-- A domain or slice has been idle for IDLE_US, and for the 2 µs its power-down takes (R443, R445). -/
def State.idleDue (s : State) (n sl : Nat) : Bool :=
  match SMap.find s.pwr.idleFrom (8 * n + sl) with
  | some f => decide (f + usLc (s.fld F.PWR_DOM_CFG_IDLE_US n + 2) ≤ s.ltb.lc)
  | none => false

/-- DOMAIN_POWER_DOWN (R443, R445): a domain in MODE AUTO, idle for IDLE_US, goes to RET at DEPTH 0 and to OFF at DEPTH 1. The row is the power-down's end: a demand
made before it finds the domain ON, which is its reversal. -/
def execDomainPowerDown (n sl : Nat) (s : State) : Host.Outcome State Fault Refusal :=
  .next (if s.fld F.PWR_DOM_CFG_MODE n = 1 ∧ s.dom n sl = 2 ∧ s.domIdle n sl ∧ s.idleDue n sl ∧ !s.lowPower ∧ s.simmer ≠ 9 ∧ s.fld F.PWR_STATUS_DARK 0 = 0 then
    s.domDown n sl (s.fld F.PWR_DOM_CFG_DEPTH n == 1) else s)

/-! Entry (R448 to R450, R454). -/

/-- The modes enabled in PWR_SIMMER_CFG.MODES that the head end permits on every channel in O5.1. -/
def State.simmerModes (s : State) : Nat :=
  s.simmerChans.foldl (fun m c => m &&& SMap.get s.pwr.allow c 0) (s.fld F.PWR_SIMMER_CFG_MODES 0)

/-- The deepest of a set of modes, coded as PWR_STATUS.MODE: watchful first, then cyclic, then doze. -/
def deepestMode (m : Nat) : Nat := if bit m 2 then 3 else if bit m 1 then 2 else if bit m 0 then 1 else 0

/-- The bound upstream queues have held no data for IDLE_MS, counted afresh after a refusal (R448; 0 is treated as 1). -/
def State.upIdle (s : State) : Bool := s.upHeld == 0 && decide (s.pwr.heldLc + max 1 (s.fld F.PWR_SIMMER_CFG_IDLE_MS 0) * 1244160 ≤ s.ltb.lc)

/-- An entry refused: it is counted, and the next attempt waits a further IDLE_MS (R448, R454). -/
def State.entryRefused (s : State) (u r mode : Nat) : State :=
  let t := s.countRefusal u r false mode
  { t with pwr := { t.pwr with heldLc := t.ltb.lc } }

/-- The poll of every unit: the first that refuses, with its reason (R454). TIM's row never arises: an armed trigger keeps TIM ON (R441). -/
def State.pollUnits (s : State) : Option (Nat × Nat) :=
  let active := (List.range 4).map s.chanOf
  if s.fld F.LFG_STATUS_LAGGING 0 = 1 then some (0x00, 1)
  else if s.fld F.PWR_STATUS_HOLD 0 = 1 then some (0x00, 2)
  else if s.tstate ≠ 0 then some (0x01, 1)
  else if !s.inSync s.tc then some (0x03, 1)
  else if active.any (fun c => s.act_st c != stDisabled && s.act_st c != stO51 && s.act_st c != stO5P) then some (0x04, 1)
  else if s.act.exchange.isSome || active.any (fun c => (s.actCh c).tuning.isSome) then some (0x04, 2)
  else if s.upHeld ≠ 0 then some (0x08, 1)
  else if (List.range 4).any (fun n => s.chSt n != 2) then some (0x09, 1)
  else if (List.range 4).any (fun p => !(s.hport p).tx.isEmpty) then some (0x0A, 1)
  else if (List.range 8).any (fun c => (s.ubeCh c).ploams.any (fun m => match m with | .keyReport _ _ => true | _ => false)) then some (0x0B, 1)
  else if !s.prtSteady then some (0x0D, 1)
  else if s.fld F.WHS_STATUS_STATE 0 ≠ 2 then some (0x10, 1)
  else none

/-- An entry that passes the poll: ENTERING, with the sleep request in the next PLOAMu of each channel in O5.1 (R449 step 1). -/
def State.simmerEnter (s : State) (mode : Nat) : State :=
  (s.simmerChans.foldl (fun t c => t.sendPloam c (.sleepRequest mode)) (s.setFld F.PWR_STATUS_MODE 0 mode)).simmerTo 3 0

/-- HOLD_INTERVAL_END (R450). -/
def execHoldIntervalEnd (s : State) : Host.Outcome State Fault Refusal := .next (if s.simmer = 1 then s.simmerTo 2 0 else s)

/-- SIMMER_ENTRY (R448, R450): from FREE, the upstream queues having held no data for IDLE_MS. -/
def execSimmerEntry (s : State) : Host.Outcome State Fault Refusal :=
  .next <|
    let mode := deepestMode s.simmerModes
    if s.simmer ≠ 2 ∨ s.simmerChans = [] ∨ mode = 0 ∨ !s.upIdle then s
    else match s.pollUnits with
      | some (u, r) => s.entryRefused u r mode
      | none => s.simmerEnter mode

/-- ENTRY_TIMEOUT (R449, R454): a channel has had no grant within ENTRY_MS, so its request is still unsent. -/
def execEntryTimeout (c : Nat) (s : State) : Host.Outcome State Fault Refusal :=
  .next <|
    if s.simmer = 3 ∧ s.simmerMs (max 1 (s.fld F.PWR_SIMMER_CFG_ENTRY_MS 0)) ∧ (s.ubeCh c).ploams.any (fun m => match m with | .sleepRequest _ => true | _ => false) then
      (s.countRefusal 0x05 1 true (s.fld F.PWR_STATUS_MODE 0)).toHeld 0
    else s

/-- Every slice of the transmit domains goes OFF (R449 step 3). -/
def State.txSlicesOff (s : State) : State := (List.range 8).foldl (fun t c => t.domDown (4 + c / 4) (c % 4) true) s

/-- TIM stays ON in a dark interval while PPS_EN is 1 or a trigger is armed (R441). -/
def State.timStays (s : State) : Bool := s.fld F.TIM_CFG_PPS_EN 0 == 1 || s.fld F.TIM_STATUS_TRIG_ARMED 0 != 0

/-- Every domain takes its state of R441 for SLEEP and WATCH. -/
def State.simmerDomains (s : State) : State :=
  let s1 := [2, 3].foldl (fun t n => (domSlices n).foldl (fun u sl => u.domDown n sl true) t) s
  let s2 := [1, 6, 7, 8, 11, 13].foldl (fun t n => t.domDown n 0 false) s1
  let s3 := (s2.domDown 9 0 true)
  let s4 := (List.range 4).foldl (fun t p => if t.listen p = 0 then t.domDown 10 p true else t) s3
  if s4.timStays then s4 else s4.domDown 12 0 true

/-- The sample period in ticks of the sleep count (R451, R458: below 2 ms is treated as 2). -/
def State.samplePeriod (s : State) : Nat := msTicks (max 2 (s.fld F.PWR_WATCH_CFG_PERIOD_MS 0))

/-- DARK_GUARD µs have passed since the last BEN fall of every lane (R449; 0 is treated as 1). -/
def State.guardPast (s : State) : Bool :=
  (List.range 8).all (fun n => !s.txBusy n && (match (s.txLane n).lastFall with
    | some f => decide (f + usLc (max 1 (s.fld F.PWR_SIMMER_CFG_DARK_GUARD 0)) ≤ s.lin)
    | none => true))

/-- TIM's outputs in a dark interval: held at their inactive level (R393). -/
def State.timDark (s : State) : State :=
  { s with tim := { s.tim with pps := none, trigs := s.tim.trigs.map (fun p => (p.1, { p.2 with high := none })) } }

/-- DARK_GUARD_END (R449 steps 3 to 5, R38, R447): DARK_GUARD after the last BEN fall the dark signal is asserted and the transmit slices
power down, which is all of a DOZE. SLEEP and WATCH go on to flush the bonding buffer, to let the ports listen, to put DDR5 into self-refresh, to
record the sleep and to stop the core clock. -/
def execDarkGuardEnd (s : State) : Host.Outcome State Fault Refusal :=
  .next <|
    if !s.entryQuiet || !s.guardPast then s
    else
      let mode := s.fld F.PWR_STATUS_MODE 0
      let s0 : State := { s with whs := { s.whs with darkFrom := s.sleepCount } }
      let s1 := (((s0.setFld F.PWR_STATUS_DARK 0 1).setFld F.WHS_STATUS_DARK 0 1).whsApply).txSlicesOff
      if mode = 1 then s1.simmerTo 4 0
      else
        let s2 := (((List.range 4).foldl (fun t p => t.portListen p) s1.flushHeld).selfRefresh)
        let s3 : State := { s2 with
          ltb := { s2.ltb with sleep := some ⟨s2.stamp, s2.ltb.sfc, s2.tstate, s2.sleepCount, s2.ltb.extSrc, [], 0, false⟩ }
          pwr := { s2.pwr with samples := 0, misses := 0, nextSample := s2.sleepCount + s2.samplePeriod } }
        let s4 := (((s3.timDark.setFld F.WHS_TIME_DIFF_VALID 0 0).setFld F.PWR_STATUS_RX_DARK 0 1).setFld F.PWR_STATUS_SAMPLE_CH 0 s3.tc).simmerDomains
        s4.simmerTo (if mode = 2 then 5 else 6) 0

/-! Leaving low power (R450, R451). -/

/-- LOW_POWER_END (R450): the low-power interval of DOZE or SLEEP ends, on the sleep count; the wake leads to AWARE. -/
def execLowPowerEnd (s : State) : Host.Outcome State Fault Refusal :=
  .next (if (s.simmer = 4 ∨ s.simmer = 5) ∧ s.simmerSleepMs (s.fld F.PWR_SIMMER_TIME_LOWPOWER_MS 0) then (s.beginWake 1).simmerTo 8 1 else s)

/-- AWARE_END (R450): with R448 met and no refusal the terminal enters the same mode again; otherwise it returns to HELD. -/
def execAwareEnd (s : State) : Host.Outcome State Fault Refusal :=
  .next <|
    if s.simmer ≠ 8 ∨ s.fld F.PWR_STATUS_DARK 0 = 1 ∨ !s.simmerMs (s.fld F.PWR_SIMMER_TIME_AWARE_MS 0) then s
    else
      let mode := s.fld F.PWR_STATUS_MODE 0
      if !bit s.simmerModes (mode - 1) ∨ !s.upIdle then s.wakeStamp.toHeld 0
      else match s.pollUnits with
        | some (u, r) => ((s.entryRefused u r mode).wakeStamp).toHeld 0
        | none => s.simmerEnter mode

/-- The sample channel's domain and slice. -/
def State.sampleChan (s : State) : Nat := s.fld F.PWR_STATUS_SAMPLE_CH 0

/-- SAMPLE (R451): the sample period ends, and the sample channel's receive slice powers up. -/
def execSample (s : State) : Host.Outcome State Fault Refusal :=
  .next <|
    if s.simmer ≠ 6 ∨ s.sleepCount < s.pwr.nextSample then s
    else
      let c := s.sampleChan
      let s1 := s.domUp false [] (2 + c / 4) (c % 4)
      State.simmerTo { s1 with pwr := { s1.pwr with samples := s1.pwr.samples + 1, nextSample := s1.pwr.nextSample + s1.samplePeriod, examined := 0 } } 7 0

/-- A sample ends without a wake: the slice powers down and the core clock stops again. -/
def State.sampleOver (s : State) : State :=
  let c := s.sampleChan
  (s.domDown (2 + c / 4) (c % 4) true).simmerTo 6 0

/-- SAMPLE_END (R451): the comparator finds an indication, or has examined SAMPLE_FRAMES headers without one. `forced` is an allocation for the terminal with the forced-wake
indication, `ploams` the PLOAM messages addressed to it or broadcast, of which four are kept. -/
def execSampleEnd (forced : Bool) (ploams : List Nat) (s : State) : Host.Outcome State Fault Refusal :=
  .next <|
    if s.simmer ≠ 7 ∨ !s.inSync s.sampleChan then s
    else
      let s1 : State := { s with pwr := { s.pwr with misses := 0 } }
      if forced || !ploams.isEmpty then
        State.wakeFrom { s1 with pwr := { s1.pwr with keptPloam := ploams.take 4 } } 2
      else if s.pwr.examined < max 1 (s.fld F.PWR_WATCH_CFG_SAMPLE_FRAMES 0) then s
      else s1.sampleOver

/-- SAMPLE_TIMEOUT (R450): no SYNC within 1 ms of a sample. -/
def execSampleTimeout (s : State) : Host.Outcome State Fault Refusal :=
  .next <|
    if s.simmer ≠ 7 ∨ s.inSync s.sampleChan ∨ !s.simmerMs 1 then s
    else
      let n := s.pwr.misses + 1
      let s1 : State := { s with pwr := { s.pwr with misses := n } }
      let s2 := (s1.raise F.PWR_EVENT_SAMPLE_MISS F.PWR_EVENT_EVCNT_SAMPLE_MISS 0).notify 0x0F 0x0003 n 0
      if max 1 (s.fld F.PWR_WATCH_CFG_MISS_WAKE 0) ≤ n then s2.wakeFrom 7 else s2.sampleOver

/-! Reconciliation (R39, R40). -/

/-- What every basis records (R39): LTB_WAKE_ELAPSED, LTB_STEP_DELTA, LTB_WAKE_INFO, the epoch with cause WAKE, WAKE_RECONCILED. -/
def State.wakeRecord (s : State) (r : SleepRec) (basis elapsed unc delta : Nat) : State :=
  let s1 := (((s.setFld F.LTB_WAKE_ELAPSED_LO_ELAPSED 0 elapsed).setFld F.LTB_WAKE_ELAPSED_HI_ELAPSED 0 (elapsed / 2 ^ 32)).setFld
    F.LTB_STEP_DELTA_LO_DELTA 0 delta).setFld F.LTB_STEP_DELTA_HI_DELTA 0 (delta / 2 ^ 32)
  let s2 := (((s1.setFld F.LTB_WAKE_INFO_BASIS 0 basis).setFld F.LTB_WAKE_INFO_UNC 0 (min unc 0xFFFFFF)).setFld
    F.LTB_WAKE_INFO_SRC_CHANGED 0 (b2n (!r.switches.isEmpty))).setFld F.LTB_WAKE_INFO_EXT_STOPPED 0 (b2n s.ltb.extStop)
  let s3 : State := { s2 with ltb := { s2.ltb with extStop := false } }
  (s3.bumpEpoch 4 delta).raise F.LTB_EVENT_WAKE_RECONCILED F.LTB_EVENT_EVCNT_WAKE_RECONCILED 0

/-- The stamp is set (R39). -/
def State.setStamp (s : State) (st : Nat) : State := { s with ltb := { s.ltb with frame := st / 2 ^ 18, cycle := st % 2 ^ 18 } }

/-- Stamps that ACT and the lanes hold for bursts move with a delta (R42, R184). -/
def State.laneShift (s : State) (d : Int) : State :=
  (List.range 8).foldl (fun t n =>
    let x := t.actCh n
    let t1 := t.setActCh n { x with ref := x.ref + (if x.ref = 0 then 0 else 40 * d), parkDue := x.parkDue.map (· + d) }
    t1.setTxLane n { t1.txLane n with
      lastFall := (t1.txLane n).lastFall.map (· + d), burst := (t1.txLane n).burst.map (fun b => { b with start := b.start + d }) }) s

/-- What a known wake delta does to the consumers of line time (R42, R43): pending stamps move with it, elapsed time is counted, the bins close. -/
def State.wakeConsumers (s : State) (d : Int) (elapsed : Nat) : State :=
  (((((((s.ubeShift d).laneShift d).whsShift d).filterShift d).tblElapsed elapsed).tmgElapsed elapsed).pmCloseAll)

/-- Line cycles of the longest interval the external source misses before its stop is found, 100 µs (R40). -/
def extGapLc : Nat := 124416

/-- The elapsed line cycles of a recorded sleep (R40): each segment scaled by its own trim, and the missing interval of a stop of the external source counted at its
longest. -/
def State.sleepLength (s : State) (r : SleepRec) : Nat :=
  let l := s.segsOf r
  sleepElapsed (segTicks false l) (segTicks true l) s.trimInt s.trimExt + r.extStops * extGapLc

/-- The stated uncertainty of a sleep count (R40): each segment's, with the longest missing interval of a stopped external source. -/
def State.sleepUnc (s : State) (r : SleepRec) : Nat :=
  ((s.segsOf r).map (fun p => if p.1 then segUncertainty p.2 s.trimExt (s.fld F.LTB_SLEEP_CFG_UNC_EXT 0)
      else segUncertainty p.2 s.trimInt (s.fld F.LTB_SLEEP_CFG_UNC_INT 0))).sum + r.extStops * extGapLc

/-- Basis SFC (R39): the old anchor aligns the stamp with the superframe counter, LOCKED; a slew from before the sleep is over. -/
def State.wakeSfc (s : State) (r : SleepRec) (k f : Nat) : State :=
  let off := if k = s.tc then s.ltb.anchor else SMap.get s.ltb.anchored k 0
  let st := stampAdd (stampOf f 0) off
  let d := stampDiff st r.stamp
  let s1 := if k = s.tc then s else s.changeTc k off
  let s2 := (((s1.setStamp st).dropSlew).newRef 1).setFld F.LTB_STATUS_COASTING 0 0
  let s3 : State := { s2 with ltb := { s2.ltb with anchor := off, sfc := f % 2 ^ 51 } }
  let s4 := (((s3.setOfs k off).timeTo 0).wakeRecord r 0 d.toNat 0 (unsigned 64 d)).wakeConsumers d d.toNat
  (s4.timStep d).trigAll

/-- Basis SLEEP_COUNT (R39, R40): S0 and the elapsed time, HOLDOVER; the uncertainty reaches TIM (R393). -/
def State.wakeCount (s : State) (r : SleepRec) : State :=
  let n := s.sleepLength r
  let u := s.sleepUnc r
  let s1 := ((s.setStamp (stampAdd r.stamp n)).toHoldover).wakeRecord r 1 n u n
  ((s1.wakeConsumers n n).satAdd F.TIM_UNC_UNC 0 (min u 0xFFFFFF * 125000 / 155520)).trigAll

/-- Basis NONE (R39): S0 unchanged, UNKNOWN; every pending stamp is reached (R42). -/
def State.wakeLost (s : State) (r : SleepRec) : State :=
  let s1 := (((s.setStamp r.stamp).dropSlew).newRef 0).setFld F.LTB_STATUS_COASTING 0 0
  let s2 : State := { s1 with ltb := { s1.ltb with goodRun := 0, prevArrival := none, lockReady := false } }
  let s3 := ((s2.timeTo 2).wakeRecord r 2 0 0 (2 ^ 63)).ubeUnknown
  let s4 := (List.range 8).foldl (fun t c => t.setWhsCh c { t.whsCh c with windows := [], expect := none, strobe := none }) s3
  (List.range 8).foldl (fun t c =>
    let u := t.setActCh c { t.actCh c with parkDue := (t.actCh c).parkDue.map (fun _ => t.lin) }
    if (u.actCh c).timer = 0 then u else u.timerExpired c) s4.tblUnknown.tmgUnknown

/-- The first basis of R39 that applies: NONE where the keeping die lost power in the sleep, else an eligible channel's arrival within 1 ms, else the sleep count.
A step decided before the sleep is given up, since each basis sets the stamp anew (DESIGN CHOICE, log entry 100). -/
def State.reconcile (s : State) (arr : Option (Nat × Nat)) : State :=
  match s.ltb.sleep with
  | none => s
  | some r =>
    let s0 : State := { s with ltb := { s.ltb with sleep := none, pendStep := none } }
    if r.lost then s0.wakeLost r
    else match arr with
      | some (k, f) => if s.eligible k then s0.wakeSfc r k f else s0.wakeCount r
      | none => s0.wakeCount r

/-- WAKING (R452): every domain is ON, LTB reconciles, DDR5 leaves self-refresh, and what the dark interval suspended begins again. `arr` is the channel and the
superframe counter of an arrival within 1 ms of the wake, `memFail` the channels whose exit check fails, `qdrFail` and `keys` what the domains meet. -/
def execWaking (arr : Option (Nat × Nat)) (memFail : List Nat) (qdrFail : Bool) (keys : List (Nat × KeyFetch)) (s : State) :
    Host.Outcome State Fault Refusal :=
  .next <|
    if s.simmer ≠ 9 ∧ ¬ (s.simmer = 8 ∧ s.fld F.PWR_STATUS_DARK 0 = 1) then s
    else
      let slept := s.ltb.sleep.isSome
      let s1 := s.reconcile arr
      let s2 := (List.range 14).foldl (fun t n => (domSlices n).foldl (fun u sl => u.domUp qdrFail keys n sl) t) s1
      let s3 := (s2.exitSelfRefresh memFail).setFld F.PWR_STATUS_RX_DARK 0 0
      let s4 := (List.range 4).foldl (fun t p => if t.listen p = 0 then t else t.portAwake p) s3
      if slept then
        let s5 := (List.range 8).foldl (fun t c => (t.setRxLane c { t.rxLane c with sigSince := t.ltb.lc }).lofPresent c) s4
        { s5 with prt := { s5.prt with skipPs := 1, skipKa := 2 } }
      else s4

/-- The transmit slices are ready: every enabled lane of the path in use is out of OFF. -/
def State.txReady (s : State) : Bool :=
  (List.range 8).all (fun n => s.fld F.LLN_TX_CFG_EN n == 0 || s.txStandby n || s.txState n == 1 || s.txState n == 3)

/-- Every domain and slice is ON. -/
def State.allOn (s : State) : Bool := (List.range 14).all (fun n => (domSlices n).all (fun sl => s.dom n sl == 2))

/-- WAKE_COMPLETE (R450, R452, R456): every domain is ready and the dark signal is released. AWARE stays; WAKING ends in HELD, and the commands that
wait for HELD complete. -/
def execWakeComplete (s : State) : Host.Outcome State Fault Refusal :=
  .next <|
    if s.fld F.PWR_STATUS_DARK 0 = 0 ∨ s.lowPower ∨ !s.allOn ∨ !s.txReady then s
    else
      let s1 := (s.endDark (if s.pwr.wakeSrc = 8 then 2 else 1)).whsApply
      if s1.simmer ≠ 9 then s1
      else
        let s2 := (s1.wakeStamp).toHeld s1.pwr.wakeSrc
        let s3 : State := { s2 with pwr := { s2.pwr with waiters := [], keptPloam := [] } }
        (s2.pwr.waiters.foldl (fun t d => t.finish d stOk 1) s3).simmerFollow

/-! Commands (R456). -/

/-- SIMMER_WAKE: accepted in states 3 to 7; it ends as HELD is entered. -/
def execSimmerWake (d : Desc) (s : State) : Host.Outcome State Fault Refusal :=
  .next <| s.asCommand d 0x3C01 true <|
    if s.simmer = 3 then (s.wakeSource 6).finish d stOk 1
    else if s.lowPower then State.wakeSource { s with pwr := { s.pwr with waiters := s.pwr.waiters ++ [d] } } 6
    else s.refuse d stStateRefused (refusedWord 0x78 0 s.simmer)

/-- SIMMER_HOLD: the result is the hold there was. -/
def State.simmerHold (s : State) (d : Desc) (v : Nat) : State :=
  (s.setFld F.PWR_STATUS_HOLD 0 v).finish d stOk (s.fld F.PWR_STATUS_HOLD 0)

/-- SIMMER_HOLD (R456): takes effect at the next entry. -/
def execSimmerHold (d : Desc) (s : State) : Host.Outcome State Fault Refusal := .next (s.asCommand d 0x3C02 (bit (d.dw 5) 0) (s.simmerHold d (bits (d.dw 5) 0 0)))

/-- SIMMER_RELEASE: SIMMER_HOLD with DW5 [0] 0. -/
def execSimmerRelease (d : Desc) (s : State) : Host.Outcome State Fault Refusal := .next (s.asCommand d 0x3C02 (!bit (d.dw 5) 0) (s.simmerHold d (bits (d.dw 5) 0 0)))

/-- PWR_QUERY (R456). -/
def execPwrQuery (d : Desc) (s : State) : Host.Outcome State Fault Refusal :=
  .next <| s.asCommand d 0x3C03 true <|
    if !d.buf ∨ d.bufLen < 64 then s.refuse d stBadArg 4
    else (s.toBuf d ([0xF00010, 0xF0002C, 0xF0001C, 0xF00020, 0xF00024, 0xF00028, 0xF00030, 0xF00034, 0xF00038, 0xF0003C, 0xF00040].map s.peek ++
      [0, 0, 0, 0, 0])).finish d stOk 0

/-- HEAD_END_POWER_MESSAGE (R447, R448, R450): permission on the channel, the intervals on the timing channel, or a forced wake. Nothing is
received while the receivers are off. -/
def execHeadEndPowerMessage (c : Nat) (msg : PowerMsg) (m : Ploam) (s : State) : Host.Outcome State Fault Refusal :=
  .next <|
    if s.simmer = 5 ∨ s.simmer = 6 ∨ s.simmer = 7 ∨ s.fld F.PWR_STATUS_RX_DARK 0 = 1 then s
    else s.ploam c m fun s => match msg with
      | .permit modes =>
        let s1 : State := { s with pwr := { s.pwr with allow := SMap.put s.pwr.allow c (modes % 8) 0 } }
        if s1.simmerChans.contains c && s1.fld F.PWR_STATUS_MODE 0 != 0 && !bit modes (s1.fld F.PWR_STATUS_MODE 0 - 1) then s1.wakeSource 3 else s1
      | .intervals lp aw =>
        if c = s.tc then (s.setFld F.PWR_SIMMER_TIME_LOWPOWER_MS 0 lp).setFld F.PWR_SIMMER_TIME_AWARE_MS 0 aw else s
      | .wake => s.wakeSource 3

end Sys2Proof.Machine
end

