-- ==== Sys2Proof/Machine/UbeFill.lean ====
section
/-!
DEFINITION. Sys2Proof/Machine/UbeFill.lean: filling a burst (R178 to R183, R287): the PLOAMu, the payload of each allocation with its fragments, the
DBRu, and encryption under the PON keys (R369, R370).
-/
namespace Sys2Proof.Machine

/-- The fill of one allocation: the place in the burst's content it has come to, the bytes left, and the XGEM frames it has taken. -/
structure Fill where
  pos : Nat
  room : Nat
  frames : List UpXgem
  deriving DecidableEq, Repr

/-- FRAG_MIN in force (R182). -/
def State.fragMin (s : State) : Nat := max 9 (s.fld F.UBE_CFG_FRAG_MIN 0)

/-- XGEM frames that carry `n` bytes of one SDU, each of 16,383 bytes at most (R182). -/
def xgemCount (n : Nat) : Nat := max 1 ((n + 16382) / 16383)

/-- The bytes an SDU or its remainder of `n` bytes takes with its XGEM headers. -/
def xgemBytes (n : Nat) : Nat := n + 8 * xgemCount n

/-- The XGEM frames that carry `n` bytes of an SDU from a place in the burst's content on, under one entry and key index; `ends` where they end the SDU (R181, R182). -/
def xgemFrames (pos entry port keyIdx n : Nat) (ends idle : Bool) : List UpXgem :=
  (List.range (xgemCount n)).map fun i =>
    { pos := pos + i * 16391, entry := entry, port := port, keyIdx := keyIdx, len := min 16383 (n - i * 16383), last := ends && i + 1 == xgemCount n, idle := idle }

/-- The XGEM Port-ID of a Port-ID table entry (R124, R181). -/
def State.portOf (s : State) (e : Nat) : Nat := match SMap.find s.dsf.ports e with | some x => x.port | none => 0

/-- `n` bytes of an SDU become XGEM frames and pass CPH (R369, R370): encrypted under the burst's key where the entry has UP_ENC 1, sent in clear, or replaced with idle
frames of the same length where the key may not serve, each counted. -/
def State.upFrames (s : State) (c e : Nat) (key : Option Nat) (pos n : Nat) (ends : Bool) : List UpXgem × State :=
  if !bit (s.portKey e) 2 then (xgemFrames pos e (s.portOf e) 0 n ends false, s)
  else match key with
    | some i => (xgemFrames pos e (s.portOf e) i n ends false, s)
    | none => (xgemFrames pos e (s.portOf e) 0 n ends true, s.satAdd F.CPH_PON_CH_COUNT_SPENT c (xgemCount n))

/-- What of an SDU of `n` bytes fits: all of it, a fragment with its remainder, or nothing where fewer than FRAG_MIN bytes remain (R182). -/
def State.fragment (s : State) (f : Fill) (n : Nat) : Option (Nat × Nat) :=
  if xgemBytes n ≤ f.room then some (n, 0)
  else if s.fragMin ≤ f.room then some (f.room - 8 * xgemCount (f.room - 8), n - (f.room - 8 * xgemCount (f.room - 8)))
  else none

/-- The payload takes a part of an SDU, the rest of which waits for the next allocation of the Alloc-ID. -/
def State.putPart (s : State) (c a e : Nat) (f : Fill) (key : Option Nat) (sent left : Nat) : Fill × State :=
  let s1 := s.setUbeCh c { s.ubeCh c with rem := if left = 0 then SMap.erase (s.ubeCh c).rem a else SMap.insert (s.ubeCh c).rem a (left, e) }
  let r := s1.upFrames c e key f.pos sent (left == 0)
  (⟨f.pos + xgemBytes sent, if left = 0 then f.room - xgemBytes sent else 0, f.frames ++ r.1⟩, r.2)

/-- An allocation is filled (R182, R287): a remainder first, then frames of its bound queues, as long as something fits; what no frame fits is left to idle. -/
def State.fillAlloc (s : State) (c a : Nat) (key : Option Nat) (f : Fill) : Nat → Fill × State
  | 0 => (f, s)
  | n + 1 =>
    match SMap.find (s.ubeCh c).rem a with
    | some (left, e) =>
      (match s.fragment f left with
       | none => ({ f with room := 0 }, s)
       | some (sent, rest) =>
         let r := s.putPart c a e f key sent rest
         if rest = 0 then r.2.fillAlloc c a key r.1 n else r)
    | none =>
      match s.pickUp (c % 4) a with
      | none => (f, s)
      | some k =>
        let s0 := s.dropSpoiled k (s.queue k).all.length
        match (s0.queue k).first with
        | none => s0.fillAlloc c a key f n
        | some q =>
          match s0.fragment f q.len with
          | none => ({ f with room := 0 }, s0)
          | some (sent, rest) =>
            match s0.serveQueue k with
            | none => (f, s0)
            | some (_, s1) =>
              let r := s1.putPart c a (s0.queue k).cfg.entry f key sent rest
              if rest = 0 then r.2.fillAlloc c a key r.1 n else r

/-- Queues bound on an Alloc-ID hold data none of which is on chip: it may yet come before the fill ends (R179). -/
def State.offChip (s : State) (c a : Nat) : Bool :=
  s.tmg.queues.any (fun q => keyDir q.1 == 0 && q.2.cfg.chan == c % 4 && q.2.cfg.parent == a && s.bound q.2 && q.2.first.isNone && !q.2.all.isEmpty)

/-- The DBRu of an Alloc-ID (R183): its occupancy, a held remainder included, in units of 4 bytes, 24 bits (log entry 24). -/
def State.dbru (s : State) (c a : Nat) : Nat :=
  let r := match SMap.find (s.ubeCh c).rem a with | some (n, _) => n + 8 | none => 0
  min (2 ^ 24 - 1) ((s.allocOcc (c % 4) a + r + 3) / 4)

/-- The bytes of an allocation that are the payload's: a DBRu takes 4 bytes of the grant (log entry 24). -/
def AllocPart.payRoom (p : AllocPart) : Nat := p.bytes - (if p.dbru then 4 else 0)

/-- One allocation of a burst is filled, or goes on being filled where it has room, from a place in the burst's content: payload, then the report as the fill ends (R183). -/
def State.fillPart (s : State) (c : Nat) (key : Option Nat) (first : Bool) (base : Nat) (p : AllocPart) : AllocPart × State :=
  if !first && p.room == 0 then (p, s) else
  let r := s.fillAlloc c p.alloc key ⟨base + (p.bytes - p.room), p.room, p.frames⟩ (sumOf (s.tmg.queues.map (fun q => q.2.all.length)) + 2)
  ({ p with report := if p.dbru && (first || decide (0 < p.room)) then r.2.dbru c p.alloc else p.report, room := r.1.room, frames := r.1.frames }, r.2)

/-- Every allocation of a burst, in order. -/
def State.fillParts (s : State) (c : Nat) (key : Option Nat) (first : Bool) (base : Nat) : List AllocPart → List AllocPart × State
  | [] => ([], s)
  | p :: ps =>
    let r := s.fillPart c key first base p
    let t := r.2.fillParts c key first (base + p.bytes) ps
    (r.1 :: t.1, t.2)

/-- The burst's PLOAMu (R153, R181): the response a serial-number or ranging grant calls for, the next message of service engine 0's queue, or the
no-message PLOAM. -/
def State.takePloamu (s : State) (c : Nat) (b : Burst) : Option (Option Ploamu) × State :=
  match b.response with
  | some m => (some (some m), s)
  | none =>
    if !b.wantPloamu then (none, s)
    else (some (s.ubeCh c).ploams.head?, s.setUbeCh c { s.ubeCh c with ploams := (s.ubeCh c).ploams.drop 1 })

/-- Some frame that a burst has room for is encrypted: an entry of a bound queue or of a remainder has UP_ENC 1. -/
def State.needsKey (s : State) (c : Nat) (b : Burst) : Bool :=
  b.parts.any (fun p => decide (0 < p.room) &&
    ((match SMap.find (s.ubeCh c).rem p.alloc with | some (_, e) => bit (s.portKey e) 2 | none => false) ||
      s.tmg.queues.any (fun q => keyDir q.1 == 0 && q.2.cfg.chan == c % 4 && q.2.cfg.parent == p.alloc && s.bound q.2 &&
        !q.2.all.isEmpty && bit (s.portKey q.2.cfg.entry) 2)))

/-- A burst's content is filled as far as its payload is on chip (R178, R179): a Registration carries reports alone, a serial-number response nothing. -/
def State.fillBurst (s : State) (c : Nat) (b : Burst) : Burst × State :=
  match b.response with
  | none =>
    let k := if b.key.isNone && s.needsKey c b then s.ponForBurst c b.frame else (b.key, s)
    let r := k.2.fillParts c k.1 (b.phase == 1) 0 b.parts
    ({ b with key := k.1, parts := r.1 }, r.2)
  | some .registration => ({ b with parts := b.parts.map (fun p => { p with report := if p.dbru then s.dbru c p.alloc else 0 }) }, s)
  | some _ => (b, s)

/-- Some allocation has room for payload that is not on chip. -/
def State.waitsFor (s : State) (c : Nat) (b : Burst) : Bool := b.response.isNone && b.parts.any (fun p => decide (0 < p.room) && s.offChip c p.alloc)

/-- The frame the burst would take first is discarded where a cell of it fails its check (R279). -/
def State.fillCell (s : State) (c : Nat) (b : Burst) (cell : Option (Nat × Nat × Nat)) : State :=
  match cell, b.parts.findSome? (fun p => if p.room = 0 ∨ (SMap.find (s.ubeCh c).rem p.alloc).isSome then none else s.pickUp (c % 4) p.alloc) with
  | some x, some k => if b.response.isNone then s.cellFails k x else s
  | _, _ => s

/-- FILLING (R178): the start stamp less FILL_LEAD of the channel's oldest planned burst is reached. `cell` is the buffer tile, macro and row of a cell
of the first frame to be taken that fails its check (R279). -/
def execFilling (c : Nat) (cell : Option (Nat × Nat × Nat)) (s : State) : Host.Outcome State Fault Refusal :=
  .next <|
    match s.pullBurst c 1 with
    | none => s
    | some (b, _) =>
      if s.lin < b.start - b.fillLead then s
      else
        let b0 : Burst := { b with parts := b.parts.map (fun q => { q with room := q.payRoom }) }
        let p := (s.refreshUp.fillCell c b0 cell).takePloamu c b
        let r := p.2.fillBurst c { b0 with ploamu := p.1 }
        r.2.setUbeCh c { r.2.ubeCh c with bursts := swapBurst 1 { r.1 with phase := 2 } (r.2.ubeCh c).bursts }

/-- HANDED (R178): the oldest FILLING burst takes what has come on chip since, and once its content is complete it is handed to the lane. -/
def execHanded (c : Nat) (cell : Option (Nat × Nat × Nat)) (s : State) : Host.Outcome State Fault Refusal :=
  .next <|
    match s.pullBurst c 2 with
    | none => s
    | some (b, rest) =>
      let r := (s.refreshUp.fillCell c b cell).fillBurst c b
      if r.2.waitsFor c r.1 then r.2.setUbeCh c { r.2.ubeCh c with bursts := swapBurst 2 r.1 (r.2.ubeCh c).bursts } else r.2.handBurst c r.1 rest

/-- Payload is left queued and idle takes its place: LATE_FILL (R179, R185). -/
def State.lateFill (s : State) (c : Nat) (b : Burst) : State :=
  ((s.satAdd F.UBE_CH_DISC2_LATE_FILL c 1).raise F.UBE_EVENT_LATE_FILL F.UBE_EVENT_EVCNT_LATE_FILL 0).notify 5 0x0002 c
    (stampAdd 0 b.start % 2 ^ 32)

/-- LATE_FILL (R178, R179, R185): 64 lc before the BEN rise of the oldest FILLING burst its fill ends, with idle in the place of payload that is not on chip, and it is
handed to the lane. -/
def execLateFill (c : Nat) (cell : Option (Nat × Nat × Nat)) (s : State) : Host.Outcome State Fault Refusal :=
  .next <|
    match s.pullBurst c 2 with
    | none => s
    | some (b, rest) =>
      if s.lin < b.start - b.lead - 64 then s
      else
        let r := (s.refreshUp.fillCell c b cell).fillBurst c b
        (if r.2.waitsFor c r.1 then r.2.lateFill c r.1 else r.2).handBurst c r.1 rest

end Sys2Proof.Machine
end

