-- ==== Sys2Proof/Machine/Steps.lean ====
section
/-!
DEFINITION. Sys2Proof/Machine/Steps.lean: a frame's arrival as every unit takes it (R27, R154, R190, R406) and the step of the stamp
(R37, R41 to R43).
-/
namespace Sys2Proof.Machine

/-- CAL and EqD that frame k's map is placed with (R154, R157, R187): those of the context in force, or the registers' where none has been exchanged. -/
def State.placing (s : State) (c k : Nat) : Int × Nat :=
  match s.ctxFor c k with
  | some x => (signed 16 x.cal, x.eqd)
  | none => (signed 16 (s.fld F.ACT_CH_CAL_CAL c), s.fld F.ACT_CH_EQD_EQD c)

/-- The burst reference of frame k on channel c, arriving at linear line time a, in delay units (R154). -/
def burstReference (a cal : Int) (eqd : Nat) : Int := 40 * a - 7840 + 1741824 - cal + eqd

/-- ACT takes a channel's arrival at linear line time `a` (R154): the reference of the frame's map; it gives the end of the grants before an agreed park (R149). -/
def State.actArrival (s : State) (c k : Nat) (a : Int) : State :=
  let p := s.placing c k
  let t := s.setActCh c { s.actCh c with refFrame := k, ref := burstReference a p.1 p.2, refEqd := p.2 }
  match (t.actCh c).parkAt, (t.actCh c).parkDue with
  | some fp, none => t.setActCh c { t.actCh c with parkDue := t.parkServed c fp }
  | _, _ => t

/-- PRT repeats a standby load as an offset has changed by more than 1 lc since the load, and makes the first one from O1.2 (R410). -/
def State.standbyArrival (s : State) (c : Nat) : State :=
  let k := c % 4
  let b := s.standbyChan k
  if s.fld F.ACT_STATUS_PATH 0 = 0 then s
  else if s.act_st b = stO12 then s.standbyLoad k
  else if s.act_st b = stO5S ∧
      60 * (65536 + (s.fld F.PRT_SB_CFG_RUP 0 : Int)) < (s.standbyEqd k - (s.fld F.ACT_CH_EQD_EQD b : Int) * 65536).natAbs then s.standbyLoad k
  else s

/-- A channel's frame that began `e` line cycles ago arrives with superframe counter `sfc` (R27, R41). -/
def State.takeArrival (s : State) (c sfc e : Nat) (pllLock : Bool) (trim : Option Nat) : State :=
  let k := sfc % 2 ^ 46
  let s1 := s.ltbArrival c sfc e pllLock trim
  let s2 := ((s1.bondSkew).bondSkewShown).reorder
  let a := s2.lin - e
  let s3 := (s2.actArrival c k a).whsStrobe c k a
  let s4 := s3.prtArrival c k
  let s5 := if c = s4.tc ∧ s4.tstate = 0 then s4.timEqd else s4
  let s6 := s5.standbyArrival c
  if s.tstate = 2 ∧ s6.tstate ≠ 2 then (List.range 8).foldl (fun t n => t.actRecheck n) s6 else s6

/-- ARRIVAL (R27, R112, R115): the frame that DSF found on channel `c` is reported, with its arrival line cycle and its superframe counter; `pllLock` is the core PLL's
phase lock, `trim` the trim of the running sleep source as measured now (R40). With nothing to report, and in a sample (R451), nothing happens. -/
def execArrival (c : Nat) (pllLock : Bool) (trim : Option Nat) (s : State) : Host.Outcome State Fault Refusal :=
  .next <|
    match (s.framing c).arr with
    | some (at', sfc) =>
      if !s.inSync c ∨ s.ltb.sleep.isSome then s
      else (s.setFraming c { s.framing c with arr := none }).takeArrival c sfc (s.ltb.lc - at') pllLock trim
    | none => s

/-- STEP (R37, R41 to R43, R140): a decided step takes effect at cycle 0 of its frame on the pre-step grid, on both dies and every consumer. An anchor taken since
the decision, by a change of timing channel, is carried to the new grid (DESIGN CHOICE, log entry 102). -/
def State.takeStep (s : State) (p : PendStep) : State :=
  let d := p.delta
  let s0 := s.setStamp (stampAdd s.stamp d)
  let an := if p.tc = s.tc then s.ltb.anchor else s.ltb.anchor + d
  let s1 : State := { s0 with ltb := { s0.ltb with pendStep := none, anchor := an, anchored := SMap.put s0.ltb.anchored s.tc an 0 } }
  let s2 := ((s1.setFld F.LTB_STEP_DELTA_LO_DELTA 0 (unsigned 64 d)).setFld F.LTB_STEP_DELTA_HI_DELTA 0 (unsigned 64 d / 2 ^ 32))
  let s3 := (s2.bumpEpoch 2 (unsigned 64 d)).raise F.LTB_EVENT_STEP F.LTB_EVENT_EVCNT_STEP 0
  let s4 := ((((List.range 8).foldl (fun t c => t.skipLate c) ((s3.ubeShift d).laneShift d)).whsShift d)).filterShift d
  let s5 := if 0 < d then s4.pmCloseAll else s4.pmMark 2
  (s5.timStep d).trigAll

def execStep (s : State) : Host.Outcome State Fault Refusal :=
  .next <|
    match s.ltb.pendStep with
    | none => s
    | some p => if s.ltb.sleep.isNone && s.ltb.cycle == 0 && s.ltb.frame == p.frame then s.takeStep p else s

end Sys2Proof.Machine
end

