-- ==== Sys2Proof/Machine/Bar.lean ====
section
/-!
DEFINITION. Sys2Proof/Machine/Bar.lean: BAR0 accesses of the host that have no row of their own (R10 to R17, R481): what a write of any register does,
the reads that clear and the reads that latch, status bits and their event counts, accesses of a wrong size or alignment.
-/
namespace Sys2Proof.Machine

/-! Status bits and their event counts (R15). -/

/-- The W1C status bits of a unit's block with their event counts. -/
def evPairs : Nat → List (Fld × Fld)
  | 0 => [(F.HIF_EVENT_PUNT_DROP, F.HIF_EVENT_EVCNT1_PUNT_DROP), (F.HIF_EVENT_EVT_LOST, F.HIF_EVENT_EVCNT1_EVT_LOST),
      (F.HIF_EVENT_SAUCER_FULL, F.HIF_EVENT_EVCNT1_SAUCER_FULL), (F.HIF_EVENT_BAR_ERROR, F.HIF_EVENT_EVCNT1_BAR_ERROR),
      (F.HIF_EVENT_ENGINE_RESTART, F.HIF_EVENT_EVCNT0_ENGINE_RESTART), (F.HIF_EVENT_CFG_REFUSED, F.HIF_EVENT_EVCNT0_CFG_REFUSED),
      (F.HIF_EVENT_MAGIC_MISMATCH, F.HIF_EVENT_EVCNT0_MAGIC_MISMATCH), (F.HIF_EVENT_BAD_INDEX, F.HIF_EVENT_EVCNT0_BAD_INDEX)]
  | 1 => [(F.LTB_EVENT_WAKE_RECONCILED, F.LTB_EVENT_EVCNT_WAKE_RECONCILED), (F.LTB_EVENT_TC_CHANGE, F.LTB_EVENT_EVCNT_TC_CHANGE),
      (F.LTB_EVENT_STEP, F.LTB_EVENT_EVCNT_STEP), (F.LTB_EVENT_STATE_CHANGE, F.LTB_EVENT_EVCNT_STATE_CHANGE)]
  | 2 => [(F.LLN_RX_EVENT_ACQ_RETRY, F.LLN_RX_EVENT_EVCNT_ACQ_RETRY), (F.LLN_RX_EVENT_SIG_LOSS, F.LLN_RX_EVENT_EVCNT_SIG_LOSS),
      (F.LLN_RX_EVENT_CDR_LOSS, F.LLN_RX_EVENT_EVCNT_CDR_LOSS), (F.LLN_TX_EVENT_TRUNCATED, F.LLN_TX_EVENT_EVCNT_TRUNCATED),
      (F.LLN_TX_EVENT_SHUT_SKIP, F.LLN_TX_EVENT_EVCNT_SHUT_SKIP), (F.LLN_TX_EVENT_RATE_SKIP, F.LLN_TX_EVENT_EVCNT_RATE_SKIP),
      (F.LLN_TX_EVENT_LATE_SKIP, F.LLN_TX_EVENT_EVCNT_LATE_SKIP)]
  | 3 => [(F.DSF_LOF_STATUS_LOF, F.DSF_LOF_STATUS_EVCNT_LOF), (F.DSF_BOND_EVENT_LATE, F.DSF_BOND_EVENT_EVCNT_LATE),
      (F.DSF_BOND_EVENT_OVERFLOW, F.DSF_BOND_EVENT_EVCNT_OVERFLOW), (F.DSF_BOND_EVENT_SUSPEND, F.DSF_BOND_EVENT_EVCNT_SUSPEND),
      (F.DSF_PRC_EVENT_CONFLICT, F.DSF_PRC_EVENT_EVCNT_CONFLICT), (F.DSF_PRC_EVENT_BAD_MSG, F.DSF_PRC_EVENT_EVCNT_BAD_MSG),
      (F.DSF_PRC_EVENT_ACCEPT_B, F.DSF_PRC_EVENT_EVCNT_ACCEPT_B), (F.DSF_PRC_EVENT_ACCEPT_A, F.DSF_PRC_EVENT_EVCNT_ACCEPT_A),
      (F.DSF_CH_EVENT_HUNT_OVF, F.DSF_CH_EVENT_EVCNT_HUNT_OVF), (F.DSF_CH_EVENT_SFC_MISMATCH, F.DSF_CH_EVENT_EVCNT_SFC_MISMATCH),
      (F.DSF_CH_EVENT_LOF_DECL, F.DSF_CH_EVENT_EVCNT_LOF_DECL), (F.DSF_CH_EVENT_LOS_DECL, F.DSF_CH_EVENT_EVCNT_LOS_DECL)]
  | 4 => [(F.ACT_CH_EVENT_ALLOC_FULL, F.ACT_CH_EVENT_EVCNT_ALLOC_FULL), (F.ACT_CH_EVENT_NACK_SENT, F.ACT_CH_EVENT_EVCNT_NACK_SENT),
      (F.ACT_CH_EVENT_TIMER_EXPIRED, F.ACT_CH_EVENT_EVCNT_TIMER_EXPIRED), (F.ACT_CH_EVENT_STATE_CHANGE, F.ACT_CH_EVENT_EVCNT_STATE_CHANGE)]
  | 5 => [(F.UBE_EVENT_FRAG_DROP, F.UBE_EVENT_EVCNT_FRAG_DROP), (F.UBE_EVENT_LATE_FILL, F.UBE_EVENT_EVCNT_LATE_FILL),
      (F.UBE_EVENT_OVERLAP, F.UBE_EVENT_EVCNT_OVERLAP), (F.UBE_EVENT_MAP_HEC, F.UBE_EVENT_EVCNT_MAP_HEC)]
  | 6 => [(F.STR_EVENT_RULE_MEM, F.STR_EVENT_EVCNT_RULE_MEM), (F.STR_EVENT_RESTEEP_FULL, F.STR_EVENT_EVCNT_RESTEEP_FULL),
      (F.STR_EVENT_LEN_CONFLICT, F.STR_EVENT_EVCNT_LEN_CONFLICT), (F.STR_EVENT_DEPTH_EXCEEDED, F.STR_EVENT_EVCNT_DEPTH_EXCEEDED)]
  | 7 => [(F.TBL_EVENT_AGE_GAP, F.TBL_EVENT_EVCNT_AGE_GAP), (F.TBL_EVENT_ARRAY_MEM, F.TBL_EVENT_EVCNT_ARRAY_MEM),
      (F.TBL_EVENT_STASH_FULL, F.TBL_EVENT_EVCNT_STASH_FULL), (F.TBL_EVENT_UNCORR, F.TBL_EVENT_EVCNT_UNCORR),
      (F.TBL_TCW_STATUS_COLLIDE, F.TBL_TCW_STATUS_EVCNT_COLLIDE)]
  | 8 => [(F.TMG_EVENT_CELL_MEM, F.TMG_EVENT_EVCNT_CELL_MEM), (F.TMG_EVENT_KETTLE_UNCORR, F.TMG_EVENT_EVCNT_KETTLE_UNCORR),
      (F.TMG_EVENT_KETTLE_FULL, F.TMG_EVENT_EVCNT_KETTLE_FULL), (F.TMG_EVENT_POOL_LOW, F.TMG_EVENT_EVCNT_POOL_LOW),
      (F.TMG_EVENT_CAL_LATE, F.TMG_CAL_STATUS_LATE_CNT)]
  | 9 => [(F.MEM_EVENT_FROZEN, F.MEM_EVENT_EVCNT_FROZEN), (F.MEM_EVENT_CHRONIC, F.MEM_EVENT_EVCNT_CHRONIC),
      (F.MEM_EVENT_UNCORR, F.MEM_EVENT_EVCNT_UNCORR), (F.MEM_EVENT_CORRECTED, F.MEM_EVENT_EVCNT_CORRECTED)]
  | 10 => [(F.HPM_EVENT_WAKE, F.HPM_EVENT_EVCNT_WAKE), (F.HPM_EVENT_PORT_DOWN, F.HPM_EVENT_EVCNT_PORT_DOWN),
      (F.HPM_EVENT_PORT_UP, F.HPM_EVENT_EVCNT_PORT_UP), (F.HPM_SD_EVENT_AN_RESTART, F.HPM_SD_EVENT_EVCNT_AN_RESTART),
      (F.HPM_SD_EVENT_TRAIN_FAIL, F.HPM_SD_EVENT_EVCNT_TRAIN_FAIL), (F.HPM_SD_EVENT_DESKEW_FAIL, F.HPM_SD_EVENT_EVCNT_DESKEW_FAIL),
      (F.HPM_SD_EVENT_LINK_DOWN, F.HPM_SD_EVENT_EVCNT_LINK_DOWN)]
  | 11 => [(F.CPH_EVENT_PON_KEY, F.CPH_EVENT_EVCNT_PON_KEY), (F.CPH_EVENT_CUT_FAIL, F.CPH_EVENT_EVCNT_CUT_FAIL),
      (F.CPH_EVENT_PN_EXHAUSTED, F.CPH_EVENT_EVCNT_PN_EXHAUSTED), (F.CPH_EVENT_PN_WARN, F.CPH_EVENT_EVCNT_PN_WARN)]
  | 12 => [(F.TIM_EVENT_CAP_OVERRUN, F.TIM_EVENT_EVCNT_CAP_OVERRUN), (F.TIM_EVENT_TRIG_MISSED, F.TIM_EVENT_EVCNT_TRIG_MISSED),
      (F.TIM_EVENT_TRIG_LATE, F.TIM_EVENT_EVCNT_TRIG_LATE), (F.TIM_EVENT_TOD_STEP, F.TIM_EVENT_EVCNT_TOD_STEP)]
  | 13 => [(F.PRT_EVENT_EXERCISE_FAIL, F.PRT_EVENT_EVCNT_EXERCISE_FAIL), (F.PRT_EVENT_PATH_RESTORED, F.PRT_EVENT_EVCNT_PATH_RESTORED),
      (F.PRT_EVENT_PATH_FAIL, F.PRT_EVENT_EVCNT_PATH_FAIL), (F.PRT_EVENT_SWITCH, F.PRT_EVENT_EVCNT_SWITCH)]
  | 14 => [(F.INF_C_EVENT_FAULT, F.INF_C_EVENT_EVCNT_FAULT), (F.INF_C_EVENT_STREAM_OVR, F.INF_C_EVENT_EVCNT_STREAM_OVR),
      (F.INF_C_EVENT_SSAT, F.INF_C_EVENT_EVCNT_SSAT), (F.INF_C_EVENT_GOV, F.INF_C_EVENT_EVCNT_GOV)]
  | 15 => [(F.PWR_EVENT_SAMPLE_MISS, F.PWR_EVENT_EVCNT_SAMPLE_MISS), (F.PWR_EVENT_WAKE_TIMEOUT, F.PWR_EVENT_EVCNT_WAKE_TIMEOUT),
      (F.PWR_EVENT_REFUSED, F.PWR_EVENT_EVCNT_REFUSED), (F.PWR_EVENT_STATE_CHANGE, F.PWR_EVENT_EVCNT_STATE_CHANGE)]
  | 16 => [(F.WHS_EVENT_LINK_LOSS, F.WHS_EVENT_EVCNT_LINK_LOSS), (F.WHS_EVENT_CONTEXT_FAULT, F.WHS_EVENT_EVCNT_CONTEXT_FAULT),
      (F.WHS_EVENT_MAP_GAP, F.WHS_EVENT_EVCNT_MAP_GAP), (F.WHS_EVENT_ROGUE, F.WHS_EVENT_EVCNT_ROGUE)]
  | 17 => [(F.CDY_EVENT_UNWRAP_FAIL, F.CDY_EVENT_EVCNT_UNWRAP_FAIL), (F.CDY_EVENT_BUS_FAULT, F.CDY_EVENT_EVCNT_BUS_FAULT),
      (F.CDY_EVENT_SLOT_MEM, F.CDY_EVENT_EVCNT_SLOT_MEM)]
  | 18 => [(F.LFG_EVENT_MIRROR_GAP, F.LFG_EVENT_EVCNT_MIRROR_GAP), (F.LFG_EVENT_MIRROR_STOPPED, F.LFG_EVENT_EVCNT_MIRROR_STOPPED),
      (F.LFG_EVENT_CAPACITY_SHRUNK, F.LFG_EVENT_EVCNT_CAPACITY_SHRUNK), (F.LFG_EVENT_SECTOR_RETIRED, F.LFG_EVENT_EVCNT_SECTOR_RETIRED)]
  | _ => []

/-- The event count of a status bit. -/
def evcntOf (f : Fld) : Option Fld := ((evPairs (f.base / 0x100000)).find? (fun p => p.1 == f)).map Prod.snd

/-- A hardware set of a status bit: its event count, where it has one, increments (R15). -/
def State.hwSet (s : State) (f : Fld) (i : Nat) : State :=
  match evcntOf f with
  | some c => s.raise f c i
  | none => s.setFld f i 1

/-- The hardware sets of status bits of one register that fall in one cycle. -/
def State.hwSets (s : State) (addr sets : Nat) : State :=
  (fieldsAt addr).foldl (fun t p => if p.1.acc = .w1c ∧ bits sets p.1.hi p.1.lo % 2 = 1 then t.hwSet p.1 p.2 else t) s

/-! Writes. -/

/-- The instance of a register array that an address names. -/
def instAt (addr base stride count : Nat) : Option Nat :=
  if base ≤ addr ∧ (addr - base) % stride = 0 ∧ (addr - base) / stride < count then some ((addr - base) / stride) else none

/-- HIF (R54, R88, R299): the doorbell page moves only while RINGS_EN is 0, the Saucer only outside RUN and while nothing is spilled. -/
def State.writeHif (s : State) (addr v : Nat) : State :=
  if addr = 0x0 then s.writeHifCtrl v
  else if addr = 0x10 ∨ addr = 0x14 then (if s.fld F.HIF_CTRL_RINGS_EN 0 = 1 then s else s.applyWrite addr v)
  else if addr = 0x20 then (if bit v 0 && s.polls then { s with hif := { s.hif with pollAsked := true } } else s)
  else if addr = 0x30 then s.writeImgCtrl v
  else if addr = 0x38 ∨ addr = 0x3C then
    (if s.fld F.HIF_STATUS_STAGE 0 = 4 ∨ (List.range 8).any (fun p => !(s.saucerAt p).isEmpty) then s else s.writeRegion addr v false)
  else match instAt addr 0x1008 0x20 16, instAt addr 0x1208 0x20 16, instAt addr 0x1408 0x20 8, instAt addr 0x1508 0x20 8,
      instAt addr 0x1608 0x20 8 with
    | some n, _, _, _, _ => s.writeRingCfg 0 n v
    | _, some n, _, _, _ => s.writeRingCfg 1 n v
    | _, _, some n, _, _ => s.writeRingCfg 2 n v
    | _, _, _, some n, _ => s.writeRingCfg 3 n v
    | _, _, _, _, some n => s.writeRingCfg 4 n v
    | _, _, _, _, _ => s.applyWrite addr v

/-- LTB (R45). -/
def State.writeLtb (s : State) (addr v : Nat) : State :=
  if addr = 0x100000 then s.writeLtbCtrl v
  else if addr = 0x100004 then s.writeTcCfg v
  else s.applyWrite addr v

/-- LLN (R110). -/
def State.writeLln (s : State) (addr v : Nat) : State :=
  match instAt addr 0x201000 0x40 8, instAt addr 0x202000 0x40 8, instAt (addr / 0x40 * 0x40) 0x201000 0x40 8 with
  | some n, _, _ => s.writeRxCfg n v
  | _, some n, _ => s.writeTxCfg n v
  | _, _, some n => if 0x10 ≤ addr % 0x40 ∧ addr % 0x40 < 0x24 then s.writeTap n ((addr % 0x40 - 0x10) / 4) v else s.applyWrite addr v
  | _, _, _ => s.applyWrite addr v

/-- DSF (R130, R138, R147): a change of DSF_PRC_CFG.PORT_ID restarts every run. -/
def State.writeDsf (s : State) (addr v : Nat) : State :=
  if addr = 0x300060 then s.writePmCfg v
  else if addr = 0x300020 then (s.applyWrite addr v).showHeld
  else if addr = 0x300040 then
    (let t := s.applyWrite addr v
     if t.fld F.DSF_PRC_CFG_PORT_ID 0 = s.fld F.DSF_PRC_CFG_PORT_ID 0 then t else { t with dsf := { t.dsf with prcRuns := [] } })
  else s.applyWrite addr v

/-- TBL (R75, R243, R254): HASH_SEED only while the table and the stash are empty; a GO is an operation of the window; the window's registers
while it is busy collide. -/
def State.writeTbl (s : State) (addr v : Nat) : State :=
  if addr = 0x700010 ∨ addr = 0x700014 then (if s.tbl.fps.isEmpty && s.tbl.stash.isEmpty then s.applyWrite addr v else s)
  else if addr = 0x700200 then
    (if bit v 31 then s.tcwGo v 0 0 else if s.fld F.TBL_TCW_STATUS_BUSY 0 = 1 then s.collide else s.applyWrite addr v)
  else if 0x700220 ≤ addr ∧ addr < 0x700240 then (if s.fld F.TBL_TCW_STATUS_BUSY 0 = 1 then s.collide else s.applyWrite addr v)
  else s.applyWrite addr v

/-- TMG (R297). -/
def State.writeTmg (s : State) (addr v : Nat) : State :=
  if addr = 0x800000 then s.writeTmgCfg v
  else if 0x800010 ≤ addr ∧ addr < 0x800020 then s.writeTmgPool ((addr - 0x800010) / 4) v
  else if addr = 0x800030 ∨ addr = 0x800034 ∨ addr = 0x800038 then s.writeRegion addr v true
  else if addr = 0x800044 then s.writeSampleCfg v
  else if addr = 0x800048 then s.writeFcCfg v
  else s.applyWrite addr v

/-- MEM (R299, R306, R335): the engine region moves only outside RUN. -/
def State.writeMem (s : State) (addr v : Nat) : State :=
  if addr = 0x900000 then s.writeDdrCfg v
  else if addr = 0x900008 then s.writeQdrCfg v
  else if addr = 0x900020 ∨ addr = 0x900024 then (if s.fld F.HIF_STATUS_STAGE 0 = 4 then s else s.writeRegion addr v false)
  else if 0x900080 ≤ addr ∧ addr < 0x9000A0 then s.writeTiming addr v
  else match instAt addr 0x901000 0x40 4 with
    | some n => s.writeMemChCfg n v
    | none => s.applyWrite addr v

/-- HPM (R361). -/
def State.writeHpm (s : State) (addr v : Nat) : State :=
  if addr = 0xA00000 then s.writeHpmCfg v
  else match instAt addr 0xA01000 0x100 4, instAt addr 0xA0100C 0x100 4, instAt addr 0xA08000 0x40 8, instAt addr 0xA08004 0x40 8 with
    | some p, _, _, _ => s.writePortCfg p v
    | _, some p, _, _ => s.writePfcMap p v
    | _, _, some n, _ => s.writeSdCfg n v
    | _, _, _, some n => s.writeTxffe n v
    | _, _, _, _ => s.applyWrite addr v

/-- TIM (R404). -/
def State.writeTim (s : State) (addr v : Nat) : State :=
  if addr = 0xC00000 then s.writeTimCfg v
  else if addr = 0xC0001C ∨ addr = 0xC0002C then s.writeTimRate addr v
  else if 0xC00040 ≤ addr ∧ addr < 0xC00080 then s.writeTimCh addr (addr % 0x20 / 4) v
  else s.applyWrite addr v

/-- WHS (R207): a written field takes effect at the next frame boundary, or at once while the line count is not running. -/
def State.writeWhs (s : State) (addr v : Nat) : State :=
  let t := s.applyWrite addr v
  if t.whsCounts then t else t.loadWhsCfg.whsApply

/-- The effect of a write of the word at a BAR0 address, as its register table states (R10, R17). -/
def State.writeReg (s : State) (addr v : Nat) : State :=
  match addr / 0x100000 with
    | 0 => s.writeHif addr v
    | 1 => s.writeLtb addr v
    | 2 => s.writeLln addr v
    | 3 => s.writeDsf addr v
    | 4 => if addr = 0x400010 then s.writeParkCfg v else s.applyWrite addr v
    | 7 => s.writeTbl addr v
    | 8 => s.writeTmg addr v
    | 9 => s.writeMem addr v
    | 10 => s.writeHpm addr v
    | 12 => s.writeTim addr v
    | 13 => if addr = 0xD00000 then s.writePrtCfg v else if addr = 0xD0000C then s.writeSbCfg v else s.applyWrite addr v
    | 14 => (match instAt addr 0xE01010 0x40 4 with | some n => s.writeInfIn n v | none => s.applyWrite addr v)
    | 15 => if addr = 0xF00000 then s.writeSimmerCfg v else if addr = 0xF00080 then s.applyWrite addr (v % 2 ^ 31) else s.applyWrite addr v
    | 16 => s.writeWhs addr v
    | 18 => if addr = 0x1200000 then s.writeLfgCfg v else s.applyWrite addr v
    | _ => s.applyWrite addr v

/-- A 32-bit write, with the hardware sets of the register's status bits that fall in the same cycle: the set wins (R14). -/
def State.barWriteSet (s : State) (addr v sets : Nat) : State :=
  s.hostWrite addr v (fun t => t.landed addr v (fun u => (u.writeReg addr v).hwSets addr sets))

/-- A 32-bit write. -/
def State.barWrite (s : State) (addr v : Nat) : State := s.barWriteSet addr v 0

/-- An access is aligned to its size, 4 or 8 bytes (R12). -/
def barAligned (addr : Nat) (wide : Bool) : Bool := addr % (if wide then 8 else 4) == 0

/-- SETUP_REGISTER_WRITE (R10, R12, R17, R481): `hi` is the high half of a 64-bit access, which follows the low half. -/
def execSetupRegisterWrite (addr : Nat) (v : Word) (hi : Option Word) (s : State) : Host.Outcome State Fault Refusal :=
  .next <|
    if !barAligned addr hi.isSome then s.barError addr true 0
    else match hi with
      | none => s.barWrite addr v.toNat
      | some h => (s.barWrite addr v.toNat).barWrite (addr + 4) h.toNat

/-- W1C_CLEAR (R10, R14, R15): a write of 1 to status bits; `sets` are the bits of the register that hardware sets in the same cycle. -/
def execW1cClear (addr : Nat) (v sets : Word) (s : State) : Host.Outcome State Fault Refusal :=
  .next (if !barAligned addr false then s.barError addr true 0 else s.barWriteSet addr v.toNat sets.toNat)

/-! Reads. -/

/-- The value an RC field is left with by a read (R10, R16): its reset value with the events `n` of the same cycle, or for a peak the level's present
value. -/
def State.rcLeft (s : State) (f : Fld) (i n : Nat) : Nat :=
  if f = F.STR_RQ_DEPTH_PEAK then s.rqDepth i
  else if f = F.TBL_STASH_PEAK then s.tbl.stash.length
  else min (f.rst + n) f.top

/-- What a read of the word at an address does: RC fields clear, keeping what `evs` (laid out as the register) adds in the same cycle (R16); the low
register of a pair latches the high one (R13). -/
def State.readEff (s : State) (addr evs : Nat) : State :=
  let s1 := (fieldsAt addr).foldl (fun t p =>
    if p.1.acc = .rc then t.setFld p.1 p.2 (s.rcLeft p.1 p.2 (bits evs p.1.hi p.1.lo)) else t) s
  match hiOf addr with
  | some h => { s1 with hif := { s1.hif with hiLatch := SMap.put s1.hif.hiLatch h (s.peek h) (resetWord h) } }
  | none => s1

/-- A 32-bit read. -/
def State.barRead (s : State) (addr evs : Nat) : State := s.hostRead addr (fun t => t.readEff addr evs)

/-- A read of 4 or 8 bytes; the two halves of a wide one, low first, give the data together (R12). -/
def State.barReads (s : State) (addr : Nat) (wide : Bool) (evs : Nat) : State :=
  if !barAligned addr wide then (s.barError addr false 0).returned (List.replicate (if wide then 2 else 1) 0xFFFFFFFF)
  else
    let a := s.barRead addr evs
    if wide then
      (let b := a.barRead (addr + 4) 0
       b.returned (a.hif.readData ++ b.hif.readData))
    else a

/-- RC_READ (R10, R16). -/
def execRcRead (addr : Nat) (wide : Bool) (evs : Word) (s : State) : Host.Outcome State Fault Refusal :=
  .next (s.barReads addr wide evs.toNat)

/-- LOW_REGISTER_READ (R13): the low register of a wide value, and with `wide` its high register in the same access. -/
def execLowRegisterRead (addr : Nat) (wide : Bool) (s : State) : Host.Outcome State Fault Refusal :=
  .next (s.barReads addr wide 0)

/-- All-ones of a number of bytes, in words. -/
def allOnes (n : Nat) : List Nat :=
  List.replicate (n / 4) 0xFFFFFFFF ++ (if n % 4 = 0 then [] else [2 ^ (8 * (n % 4)) - 1])

/-- BAD_BAR_ACCESS (R12): an access of `size` bytes that is not an aligned one of 4 or 8 bytes reads all-ones or is discarded, and is reported. -/
def execBadBarAccess (addr size : Nat) (write : Bool) (s : State) : Host.Outcome State Fault Refusal :=
  .next <|
    if (size = 4 ∨ size = 8) ∧ addr % size = 0 then s
    else if write then s.barError addr true 0
    else (s.barError addr false 0).returned (allOnes size)

end Sys2Proof.Machine
end

