-- ==== Sys2Proof/Machine/Domains.lean ====
section
/-!
DEFINITION. Sys2Proof/Machine/Domains.lean: the demands that stall on a domain: served once it is ON, or timed out (R444, R445).
-/
namespace Sys2Proof.Machine

/-- The stalled demands on a domain or slice, in order of arrival. -/
def State.demandsOn (s : State) (n sl : Nat) : List Demand := s.pwr.stalled.filter (fun d => d.dom == n && d.slice == sl)

/-- A stalled demand is served: a read or a write is carried out; a command, started already, and a hardware request go on with their units. -/
def State.serveDemand (s : State) (d : Demand) : State :=
  match d.kind with
  | 0 =>
    let t := s.barRead d.addr 0
    { t with hif := { t.hif with readData := s.hif.readData ++ t.hif.readData } }
  | 1 => s.barWrite d.addr d.value
  | _ => s

/-- DOMAIN_READY (R444, R445): a waking domain is ON, and its stalled demands are served in order of arrival. `qdrFail` and `keys` are what the
domain meets on its return (R446, R364). -/
def execDomainReady (n sl : Nat) (qdrFail : Bool) (keys : List (Nat × KeyFetch)) (s : State) : Host.Outcome State Fault Refusal :=
  .next <|
    if s.dom n sl ≠ 2 ∧ s.dom n sl ≠ 3 then s
    else
      let ds := s.demandsOn n sl
      let s1 := s.domUp qdrFail keys n sl
      let s2 : State := { s1 with pwr := { s1.pwr with stalled := s1.pwr.stalled.filter (fun d => !(d.dom == n && d.slice == sl)) } }
      let s3 : State := if ds.any (fun d => d.kind == 0) then { s2 with hif := { s2.hif with readData := [] } } else s2
      ds.foldl (fun t d => t.serveDemand d) s3

/-- A demand that was not served completes as a timeout (R444): a read returns all-ones, a write is discarded and journalled with that
read-back, a command retires with DOMAIN_WAKE_TIMEOUT, a hardware request is refused. -/
def State.timeoutDemand (s : State) (d : Demand) : State :=
  let s1 := s.wakeTimeoutEvent d.dom d.slice d.kind
  match d.kind with
  | 0 => s1.returned [0xFFFFFFFF]
  | 1 => s1.journalWrite d.addr d.value 0xFFFFFFFF
  | 2 =>
    (match d.desc with
      | some c => if d.inj then s1.finishInject c stWakeTimeout (errTile 0x0F d.dom) else s1.finish c stWakeTimeout (errTile 0x0F d.dom)
      | none => s1)
  | _ => s1

/-- WAKE_TIMEOUT (R444): 12 µs after the oldest stalled demand arrived its domain is not ON. The domain keeps trying. The
line-cycle count measures them, which stands still while the core clock is stopped (log entry 126). -/
def execWakeTimeout (s : State) : Host.Outcome State Fault Refusal :=
  .next <|
    match s.pwr.stalled with
    | [] => s
    | d :: rest =>
      if s.dom d.dom d.slice = 2 ∨ (s.ltb.lc < d.lc + usLc 12 ∧ s.ltb.sleep.isNone) then s
      else State.timeoutDemand { s with pwr := { s.pwr with stalled := rest } } d

end Sys2Proof.Machine
end

