-- ==== Sys2Proof/Machine/Resets.lean ====
section
/-!
DEFINITION. Sys2Proof/Machine/Resets.lean: the reset inputs (R467), function-level reset (R47), power (R83, R466), thermal alarms (R477), and the cold
start of the main die (R48, R81, R86).
-/
namespace Sys2Proof.Machine

/-! Cold start. -/

/-- The registers that show what the store holds (R480). -/
def State.loadStore (s : State) : State :=
  ((((s.showStore.setFld F.LFG_STATUS_USABLE 0 s.lfg.usable).setFld F.LFG_STATUS_SPARES 0 s.lfg.spares).setFld F.LFG_BOOT_BOOT 0
    s.lfg.nvBoot).setFld F.LFG_BOOT_WRAPS 0 s.lfg.nvWraps).setFld F.LFG_STATUS_VOLATILE_ONLY 0 (b2n (decide (s.lfg.usable < 32)))

/-- The count of SEQ begins at 0, or one beyond the store's highest while the mirror is stopped, which a cold reset re-evaluates (R86). -/
def State.startCount (s : State) : State :=
  let top := match s.lfg.nv with | [] => 0 | r :: _ => r.count + 1
  { s with lfg := { s.lfg with count := if s.lfg.usable < 32 then top else 0 } }

/-- The cold start of the main die (R48, R81, R86, R80): BOOT increments, the BOOT record with its cause is committed, and the stage becomes
IMAGE_WAIT with its STAGE record. Events kept on the keeping die come after it, where the link is already in service (R489). -/
def State.boot (s : State) (cause : Nat) : State :=
  let b := (s.lfg.nvBoot + 1) % 65536
  let w := if b = 0 then (s.lfg.nvWraps + 1) % 65536 else s.lfg.nvWraps
  let high := match s.lfg.nv with | [] => 0 | r :: _ => r.seq
  let s1 : State := { s with lfg := { s.lfg with nvBoot := b, nvWraps := w, resetCause := cause, volatile := [], unmirrored := 0, held := [], missed := [], gap := false } }
  let s2 := ((s1.loadStore.setFld F.LFG_STATUS_MIRROR_GAP 0 0).startCount).updLagging
  let s3 := s2.commit 8 0x23 [cause, w * 65536 + b, high % 2 ^ 32, high / 2 ^ 32, 0, 0]
  let s4 := (s3.stageRecord 0x24 0 1 2 0).setFld F.HIF_STATUS_STAGE 0 1
  if s4.linkOk then s4.handOver else s4

/-! The dies. -/

/-- A field lies on the keeping die (R7, R8). -/
def keepingField (id : Nat) : Bool := decide (0x10 ≤ id / (32 * 0x100000) ∧ id / (32 * 0x100000) ≤ 0x12)

/-- Every main-die unit returns to its reset state; the keeping die, what stands outside the block and the line-cycle count of the model stay. PON key slots
are emptied and no slot is bound (R362, R467). -/
def State.mainReset (s : State) : State :=
  { State.reset with
    regs := s.regs.filter (fun p => keepingField p.1)
    freeCount := s.freeCount
    pending := s.pending
    hif := { State.reset.hif with
      part := s.hif.part, pci := s.hif.pci, hostWrites := s.hif.hostWrites, msix := s.hif.msix, readData := s.hif.readData
      hiLatch := s.hif.hiLatch.filter (fun p => keepingAddr p.1) }
    lfg := { s.lfg with volatile := [], unmirrored := 0, count := 0, held := [], missed := [], gap := false }
    ltb := { State.reset.ltb with lc := s.ltb.lc, ticks := s.ltb.ticks, extSrc := s.ltb.extSrc, extStop := s.ltb.extStop }
    whs := { s.whs with waiters := [] }
    cdy := (s.cdy.filter (fun p => decide (0x038 ≤ p.1))).map (fun p => (p.1, if p.2.st = 2 then { p.2 with st := 1 } else p.2))
    pins := s.pins }

/-- The main die is in reset or unpowered (R188, R467): a dark signal ends with cause 3; the Whistle loses the link, with `lost` frames. -/
def State.mainDown (s : State) (lost : Nat) : State :=
  let s1 := (s.endDark 3).loseLink lost
  (s1.mainReset).whsApply

/-- The latches of the keeping die's high registers hold those registers' values at reset, which the store gives (R13, R480). -/
def State.latchKept (s : State) : State :=
  let l := [0x1000018, 0x1200014, 0x120001C].foldl (fun m h => SMap.put m h (s.peek h) (resetWord h)) (s.hif.hiLatch.filter (fun p => !keepingAddr p.1))
  { s with hif := { s.hif with hiLatch := l } }

/-- The keeping die returns to its reset state (R363, R467): the latch, the store and what is fixed at manufacture survive. -/
def State.keepReset (s : State) : State :=
  let s1 : State := { s with
    regs := s.regs.filter (fun p => !keepingField p.1)
    whs := { State.reset.whs with latch := s.whs.latch }
    cdy := s.cdy.filter (fun p => decide (p.1 < 0x038))
    ltb := { s.ltb with extSrc := false, extStop := false, ticks := 0, sleep := s.ltb.sleep.map (fun r => { r with lost := true }) } }
  let s2 := match s.whs.latch with
    | some l => ((((s1.setFld F.WHS_SHUT_INFO_LANES 0 l.lanes).setFld F.WHS_SHUT_INFO_CLASS 0 l.cls).setFld F.WHS_SHUT_INFO_COUNT 0 l.count).setFld
        F.WHS_SHUT_STAMP_LO_STAMP 0 l.stamp).setFld F.WHS_SHUT_STAMP_HI_STAMP 0 (l.stamp / 2 ^ 32)
    | none => s1
  s2.loadStore.latchKept.whsApply

/-- The main die's straps are sampled at the release of MRST_N (R462). -/
def State.sampleMain (s : State) (strap0 strap2 strap3 : Bool) : State :=
  { s with pins := { s.pins with strap0 := strap0, strap2 := strap2, strap3 := strap3 } }

/-- The main die leaves reset: a thermal trip holds it until every sensor reads below 110 °C (R477), and it does not resume without the keeping die
(R466). -/
def State.mainRelease (s : State) (cause : Nat) (deg : Int) : State :=
  let s1 : State := if s.pins.tripLow ∧ deg < 110 then { s with pins := { s.pins with tripLow := false } } else s
  if s1.diesUp then s1.boot cause else { s1 with lfg := { s1.lfg with resetCause := cause } }

/-- MRST_N (R467): its assertion and release. The rails of the main die are present at the release; `deg` is the hottest sensor in °C, `lost`
as the Whistle reports it. -/
def execMrstN (strap0 strap2 strap3 : Bool) (deg : Int) (lost : Nat) (s : State) : Host.Outcome State Fault Refusal :=
  .next <|
    let cause := if s.pins.tripLow then 5 else if s.pins.mainPower then 4 else 3
    let s1 := (s.mainDown lost).sampleMain strap0 strap2 strap3
    State.mainRelease { s1 with pins := { s1.pins with mainPower := true } } cause deg

/-- KRST_N (R467, R466): both dies; the Whistle goes through INIT to SELFTEST. The rails of the keeping die are present at the release; an unpowered main
die stays down. -/
def execKrstN (strap0 strap1 strap2 strap3 : Bool) (deg : Int) (s : State) : Host.Outcome State Fault Refusal :=
  .next <|
    let cause := if s.pins.keepPower then 2 else 1
    let s1 := (s.mainReset.keepReset).sampleMain strap0 strap2 strap3
    let s2 := State.startSelftest { s1 with pins := { s1.pins with strap1 := strap1, keepPower := true } }
    if s2.pins.mainPower then s2.mainRelease cause deg else s2

/-- MAIN_DIE_POWER_LOSS (R83, R188): what the main die held is lost, the keeping die runs on. -/
def execMainDiePowerLoss (lost : Nat) (s : State) : Host.Outcome State Fault Refusal :=
  .next <|
    if !s.pins.mainPower then s
    else
      let s1 := s.mainDown lost
      { s1 with pins := { s1.pins with mainPower := false } }

/-- KEEPING_DIE_POWER_LOSS (R466, R363): TX_DISABLE falls to the board's pulls, the link fails, the host's keys are lost, records stop mirroring. -/
def execKeepingDiePowerLoss (s : State) : Host.Outcome State Fault Refusal :=
  .next <|
    if !s.pins.keepPower then s
    else
      let s1 := s.keepReset
      State.ubeFollowAll { s1 with pins := { s1.pins with keepPower := false } }

/-! Thermal alarms. -/

/-- THERM_ALERT (R477): `deg` is the hottest sensor in °C; the output changes nothing in the terminal. -/
def execThermAlert (deg : Int) (s : State) : Host.Outcome State Fault Refusal :=
  .next (if 105 ≤ deg then { s with pins := { s.pins with alertLow := true } }
    else if deg < 100 then { s with pins := { s.pins with alertLow := false } } else s)

/-- THERMTRIP (R477): THERMTRIP_N latches low, and the main die enters cold reset until MRST_N is asserted and released. -/
def execThermtrip (lost : Nat) (s : State) : Host.Outcome State Fault Refusal :=
  .next <|
    if !s.pins.mainPower ∨ s.pins.tripLow then s
    else
      let s1 := s.mainDown lost
      { s1 with pins := { s1.pins with tripLow := true } }

/-! The endpoint. -/

/-- The HIF registers that an FLR keeps (R47): HIF_IMG_STATUS, HIF_JRN_HEAD, HIF_SAUCER_BASE and HIF_DISPATCH_CFG; RUNNING shows the engines, which keep
running. -/
def flrKeeps : List Nat :=
  ([F.HIF_IMG_STATUS_MAJOR, F.HIF_IMG_STATUS_MINOR, F.HIF_IMG_STATUS_PATCH, F.HIF_IMG_STATUS_ERROR, F.HIF_JRN_HEAD_LO_SEQ, F.HIF_JRN_HEAD_HI_SEQ,
    F.HIF_SAUCER_BASE_LO_ADDR, F.HIF_SAUCER_BASE_HI_ADDR, F.HIF_DISPATCH_CFG_SAUCER_EN, F.HIF_DISPATCH_CFG_AGE_LIMIT, F.HIF_ENGINE_STATUS_RUNNING0,
    F.HIF_ENGINE_STATUS_RUNNING1, F.HIF_ENGINE_STATUS_RUNNING2, F.HIF_ENGINE_STATUS_RUNNING3] : List Fld).map Fld.id

/-- A function-level reset (R47, R48): the rings stop, HIF's registers return to their reset values, entries not yet written are discarded, and STAGE moves;
commands already fetched go on. -/
def State.flr (s : State) : State :=
  let old := s.fld F.HIF_STATUS_STAGE 0
  let new := if old = 3 ∨ old = 4 then 3 else if old = 2 then 1 else old
  let s1 : State := { s with
    regs := s.regs.filter (fun p => p.1 / (32 * 0x100000) != 0 || flrKeeps.contains p.1)
    hif := { s.hif with
      rings := [], shown := [], vecs := [], posted := [], hiLatch := s.hif.hiLatch.filter (fun p => p.1 / 0x100000 != 0), pollAsked := false, imgDma := none
      flight := s.hif.flight.map (fun f => { f with drop := true }) } }
  let s2 := s1.setFld F.HIF_STATUS_STAGE 0 new
  let s3 := if old = 2 then s2.setFld F.HIF_IMG_STATUS_ERROR 0 6 else s2
  s3.stageRecord 0x24 old new 1 0

/-- FLR (R47). -/
def execFlr (s : State) : Host.Outcome State Fault Refusal :=
  .next (if s.pins.mainPower ∧ !s.pins.tripLow then s.flr else s)

/-- PERST_N (R467): low acts on HIF as link loss (R87); its release leaves HIF as after FLR. -/
def execPerstN (low : Bool) (s : State) : Host.Outcome State Fault Refusal :=
  .next <|
    if low then
      { s.setFld F.HIF_STATUS_BME 0 0 with hif := { s.hif with linkUp := false }, pins := { s.pins with perstLow := true } }
    else if !s.pins.perstLow then s
    else
      let s1 : State := { s with pins := { s.pins with perstLow := false } }
      if s1.pins.mainPower ∧ !s1.pins.tripLow then s1.flr else s1

/-- TRST_N (R467): the JTAG test logic alone, which the model does not hold. -/
def execTrstN (s : State) : Host.Outcome State Fault Refusal := .next s

end Sys2Proof.Machine
end

