-- ==== Sys2Proof/Machine/Dispatch.lean ====
section
/-!
DEFINITION. Sys2Proof/Machine/Dispatch.lean: one arm per command, each one call of its meaning.
-/
namespace Sys2Proof.Machine

/-- The effect of a command on everything but the queue. -/
def exec (i : Instr) (s : State) : Host.Outcome State Fault Refusal :=
  match i with
  | .badBarAccess addr size write => Sys2Proof.Machine.execBadBarAccess addr size write s
  | .setupRegisterWrite addr v hi => Sys2Proof.Machine.execSetupRegisterWrite addr v hi s
  | .w1cClear addr v sets => Sys2Proof.Machine.execW1cClear addr v sets s
  | .rcRead addr wide evs => Sys2Proof.Machine.execRcRead addr wide evs s
  | .lowRegisterRead addr wide => Sys2Proof.Machine.execLowRegisterRead addr wide s
  | .krstN strap0 strap1 strap2 strap3 deg => Sys2Proof.Machine.execKrstN strap0 strap1 strap2 strap3 deg s
  | .mrstN strap0 strap2 strap3 deg lost => Sys2Proof.Machine.execMrstN strap0 strap2 strap3 deg lost s
  | .perstN low => Sys2Proof.Machine.execPerstN low s
  | .trstN => Sys2Proof.Machine.execTrstN s
  | .keepingDiePowerLoss => Sys2Proof.Machine.execKeepingDiePowerLoss s
  | .mainDiePowerLoss lost => Sys2Proof.Machine.execMainDiePowerLoss lost s
  | .thermAlert deg => Sys2Proof.Machine.execThermAlert deg s
  | .thermtrip lost => Sys2Proof.Machine.execThermtrip lost s
  | .flr => Sys2Proof.Machine.execFlr s
  | .load v => Sys2Proof.Machine.execLoad v s
  | .imageLoadEnd magic hdrLen version crcOk sigOk dmaOk progs => Sys2Proof.Machine.execImageLoadEnd magic hdrLen version crcOk sigOk dmaOk progs s
  | .run v => Sys2Proof.Machine.execRun v s
  | .hifNudge v => Sys2Proof.Machine.execHifNudge v s
  | .doorbellPoll pg => Sys2Proof.Machine.execDoorbellPoll pg s
  | .commandFetch inj ring words data => Sys2Proof.Machine.execCommandFetch inj ring words data s
  | .saucerReturn p fails => Sys2Proof.Machine.execSaucerReturn p fails s
  | .agePromotion p => Sys2Proof.Machine.execAgePromotion p s
  | .dispatch => Sys2Proof.Machine.execDispatch s
  | .retire inj ring => Sys2Proof.Machine.execRetire inj ring s
  | .nop d => Sys2Proof.Machine.execNop d s
  | .journalMark d => Sys2Proof.Machine.execJournalMark d s
  | .journalRead d => Sys2Proof.Machine.execJournalRead d s
  | .ringStart d => Sys2Proof.Machine.execRingStart d s
  | .ringStop d => Sys2Proof.Machine.execRingStop d s
  | .engineQuery d => Sys2Proof.Machine.execEngineQuery d s
  | .ringCfgWrite kind n v => Sys2Proof.Machine.execRingCfgWrite kind n v s
  | .engineRestart k pc work tasks => Sys2Proof.Machine.execEngineRestart k pc work tasks s
  | .injectDownstream d => Sys2Proof.Machine.execInjectDownstream d s
  | .injectUpstream d => Sys2Proof.Machine.execInjectUpstream d s
  | .vectorRaise kind n => Sys2Proof.Machine.execVectorRaise kind n s
  | .hostLoss bme link => Sys2Proof.Machine.execHostLoss bme link s
  | .mirrorRecord verified => Sys2Proof.Machine.execMirrorRecord verified s
  | .mirrorEn v => Sys2Proof.Machine.execMirrorEn v s
  | .keptEventHandover => Sys2Proof.Machine.execKeptEventHandover s
  | .arrival c pllLock trim => Sys2Proof.Machine.execArrival c pllLock trim s
  | .step => Sys2Proof.Machine.execStep s
  | .arrivalMissed => Sys2Proof.Machine.execArrivalMissed s
  | .forceLocal v => Sys2Proof.Machine.execForceLocal v s
  | .tcRequest v => Sys2Proof.Machine.execTcRequest v s
  | .slewDone => Sys2Proof.Machine.execSlewDone s
  | .extStopped => Sys2Proof.Machine.execExtStopped s
  | .sleepSourceSwitch => Sys2Proof.Machine.execSleepSourceSwitch s
  | .rxLaneEnable n v => Sys2Proof.Machine.execRxLaneEnable n v s
  | .cdrLock n ctle => Sys2Proof.Machine.execCdrLock n ctle s
  | .trackEntry n => Sys2Proof.Machine.execTrackEntry n s
  | .acqRetry n sig => Sys2Proof.Machine.execAcqRetry n sig s
  | .cdrLoss n sigLost => Sys2Proof.Machine.execCdrLoss n sigLost s
  | .tapWrite n k v => Sys2Proof.Machine.execTapWrite n k v s
  | .txLaneEnable n v => Sys2Proof.Machine.execTxLaneEnable n v s
  | .benRise n => Sys2Proof.Machine.execBenRise n s
  | .lastBitSerialised n => Sys2Proof.Machine.execLastBitSerialised n s
  | .benFall n => Sys2Proof.Machine.execBenFall n s
  | .txDisableAsserted n => Sys2Proof.Machine.execTxDisableAsserted n s
  | .txDisableReleased n => Sys2Proof.Machine.execTxDisableReleased n s
  | .laneLoopSet d => Sys2Proof.Machine.execLaneLoopSet d s
  | .laneLoopRemove d => Sys2Proof.Machine.execLaneLoopRemove d s
  | .laneTest d => Sys2Proof.Machine.execLaneTest d s
  | .osaRead d held data => Sys2Proof.Machine.execOsaRead d held data s
  | .osaWrite d held ack => Sys2Proof.Machine.execOsaWrite d held ack s
  | .portEn v => Sys2Proof.Machine.execPortEn v s
  | .anResolved port partner => Sys2Proof.Machine.execAnResolved port partner s
  | .anRestart port => Sys2Proof.Machine.execAnRestart port s
  | .trainComplete port coeffs => Sys2Proof.Machine.execTrainComplete port coeffs s
  | .trainFail port => Sys2Proof.Machine.execTrainFail port s
  | .alignDone p skew => Sys2Proof.Machine.execAlignDone p skew s
  | .deskewFail port skew => Sys2Proof.Machine.execDeskewFail port skew s
  | .linkDown p lane cdr marker => Sys2Proof.Machine.execLinkDown p lane cdr marker s
  | .psyncMatch c align sfc => Sys2Proof.Machine.execPsyncMatch c align sfc s
  | .candidateCheck c align diff sfc third thirdOk => Sys2Proof.Machine.execCandidateCheck c align diff sfc third thirdOk s
  | .psbdCheck c diff sfc third thirdOk => Sys2Proof.Machine.execPsbdCheck c diff sfc third thirdOk s
  | .huntRestart d => Sys2Proof.Machine.execHuntRestart d s
  | .codewordDecode c zero1 zero2 iters bitsChanged decoded => Sys2Proof.Machine.execCodewordDecode c zero1 zero2 iters bitsChanged decoded s
  | .xgemFrame x => Sys2Proof.Machine.execXgemFrame x s
  | .reorderRelease fail => Sys2Proof.Machine.execReorderRelease fail s
  | .bondStall c => Sys2Proof.Machine.execBondStall c s
  | .parkingDone c => Sys2Proof.Machine.execParkingDone c s
  | .losDeclared c => Sys2Proof.Machine.execLosDeclared c s
  | .losCleared c => Sys2Proof.Machine.execLosCleared c s
  | .prcFrameJudged p k => Sys2Proof.Machine.execPrcFrameJudged p k s
  | .lineSecond frame => Sys2Proof.Machine.execLineSecond frame s
  | .pmBinClosed day frame => Sys2Proof.Machine.execPmBinClosed day frame s
  | .pmPhaseChange v => Sys2Proof.Machine.execPmPhaseChange v s
  | .portSet d => Sys2Proof.Machine.execPortSet d s
  | .pmRead d => Sys2Proof.Machine.execPmRead d s
  | .pmThreshold d => Sys2Proof.Machine.execPmThreshold d s
  | .actIdentity d => Sys2Proof.Machine.execActIdentity d s
  | .chEnable d => Sys2Proof.Machine.execChEnable d s
  | .chDisable d => Sys2Proof.Machine.execChDisable d s
  | .bondSet d => Sys2Proof.Machine.execBondSet d s
  | .park d => Sys2Proof.Machine.execPark d s
  | .unpark d => Sys2Proof.Machine.execUnpark d s
  | .actQuery d => Sys2Proof.Machine.execActQuery d s
  | .allocRead d => Sys2Proof.Machine.execAllocRead d s
  | .burstProfile c k p m => Sys2Proof.Machine.execBurstProfile c k p m s
  | .assignOnuId c onu eqd m => Sys2Proof.Machine.execAssignOnuId c onu eqd m s
  | .rangingTime c eqd m => Sys2Proof.Machine.execRangingTime c eqd m s
  | .assignAllocId c alloc add m => Sys2Proof.Machine.execAssignAllocId c alloc add m s
  | .deactivateOnuId c m => Sys2Proof.Machine.execDeactivateOnuId c m s
  | .disableSerialNumber c disable m => Sys2Proof.Machine.execDisableSerialNumber c disable m s
  | .tuningControl c target rollout both cancel reason m => Sys2Proof.Machine.execTuningControl c target rollout both cancel reason m s
  | .keyRequest c k frame long fetch m => Sys2Proof.Machine.execKeyRequest c k frame long fetch m s
  | .timerExpired c timer => Sys2Proof.Machine.execTimerExpired c timer s
  | .parkEntry c => Sys2Proof.Machine.execParkEntry c s
  | .unparkApply c => Sys2Proof.Machine.execUnparkApply c s
  | .rollout c => Sys2Proof.Machine.execRollout c s
  | .parkWindow => Sys2Proof.Machine.execParkWindow s
  | .parkAnswer c frame agreed m => Sys2Proof.Machine.execParkAnswer c frame agreed m s
  | .parkTimeout => Sys2Proof.Machine.execParkTimeout s
  | .allocationStructure a => Sys2Proof.Machine.execAllocationStructure a s
  | .filling c cell => Sys2Proof.Machine.execFilling c cell s
  | .handed c cell => Sys2Proof.Machine.execHanded c cell s
  | .lateFill c cell => Sys2Proof.Machine.execLateFill c cell s
  | .contextExchange c mismatches => Sys2Proof.Machine.execContextExchange c mismatches s
  | .contextCheck c crcOk parityOk => Sys2Proof.Machine.execContextCheck c crcOk parityOk s
  | .linkLoss frames => Sys2Proof.Machine.execLinkLoss frames s
  | .mapGap c k cause => Sys2Proof.Machine.execMapGap c k cause s
  | .timeDiverge diff => Sys2Proof.Machine.execTimeDiverge diff s
  | .crystalSpanCheck spanNs => Sys2Proof.Machine.execCrystalSpanCheck spanNs s
  | .outsideWindow c a b => Sys2Proof.Machine.execOutsideWindow c a b s
  | .darkViolation c samples quiet => Sys2Proof.Machine.execDarkViolation c samples quiet s
  | .sweep mask => Sys2Proof.Machine.execSweep mask s
  | .eyeSample c code => Sys2Proof.Machine.execEyeSample c code s
  | .selftestEnd failed => Sys2Proof.Machine.execSelftestEnd failed s
  | .periodicSelftest failed => Sys2Proof.Machine.execPeriodicSelftest failed s
  | .whsReenable d => Sys2Proof.Machine.execWhsReenable d s
  | .whsSelftest d => Sys2Proof.Machine.execWhsSelftest d s
  | .whsQuery d => Sys2Proof.Machine.execWhsQuery d s
  | .strainerPass bytes memErr => Sys2Proof.Machine.execStrainerPass bytes memErr s
  | .lengthCheck id => Sys2Proof.Machine.execLengthCheck id s
  | .drainEnd => Sys2Proof.Machine.execDrainEnd s
  | .ruleWrite d => Sys2Proof.Machine.execRuleWrite d s
  | .ruleRead d memErr => Sys2Proof.Machine.execRuleRead d memErr s
  | .ruleCopy d memErr => Sys2Proof.Machine.execRuleCopy d memErr s
  | .ruleSwap d => Sys2Proof.Machine.execRuleSwap d s
  | .profileSet d => Sys2Proof.Machine.execProfileSet d s
  | .selectorSet d => Sys2Proof.Machine.execSelectorSet d s
  | .ingressMap d => Sys2Proof.Machine.execIngressMap d s
  | .resteepSet d => Sys2Proof.Machine.execResteepSet d s
  | .lookup fails => Sys2Proof.Machine.execLookup fails s
  | .insert fails during => Sys2Proof.Machine.execInsert fails during s
  | .update fails during => Sys2Proof.Machine.execUpdate fails during s
  | .delete fails during => Sys2Proof.Machine.execDelete fails during s
  | .read fails during => Sys2Proof.Machine.execRead fails during s
  | .readSlot slot fails during => Sys2Proof.Machine.execReadSlot slot fails during s
  | .writeSlot slot during => Sys2Proof.Machine.execWriteSlot slot during s
  | .deleteSlot slot during => Sys2Proof.Machine.execDeleteSlot slot during s
  | .tableBatch d fails during => Sys2Proof.Machine.execTableBatch d fails during s
  | .flowCountRead d => Sys2Proof.Machine.execFlowCountRead d s
  | .tableReady => Sys2Proof.Machine.execTableReady s
  | .fpRebuild array n tile mac row bad => Sys2Proof.Machine.execFpRebuild array n tile mac row bad s
  | .ageEpoch => Sys2Proof.Machine.execAgeEpoch s
  | .deleteIfStale fails => Sys2Proof.Machine.execDeleteIfStale fails s
  | .freshnessClamp => Sys2Proof.Machine.execFreshnessClamp s
  | .filterExpiry => Sys2Proof.Machine.execFilterExpiry s
  | .admission => Sys2Proof.Machine.execAdmission s
  | .tailWrite k => Sys2Proof.Machine.execTailWrite k s
  | .refill k bad => Sys2Proof.Machine.execRefill k bad s
  | .downstreamDequeue p sfd cell => Sys2Proof.Machine.execDownstreamDequeue p sfd cell s
  | .calendarRelease => Sys2Proof.Machine.execCalendarRelease s
  | .coarseRedistribute => Sys2Proof.Machine.execCoarseRedistribute s
  | .farListScan => Sys2Proof.Machine.execFarListScan s
  | .depthSample => Sys2Proof.Machine.execDepthSample s
  | .queueSet d => Sys2Proof.Machine.execQueueSet d s
  | .queueRead d => Sys2Proof.Machine.execQueueRead d s
  | .queueFlush d => Sys2Proof.Machine.execQueueFlush d s
  | .groupSet d => Sys2Proof.Machine.execGroupSet d s
  | .portTcSet d => Sys2Proof.Machine.execPortTcSet d s
  | .meterSet d => Sys2Proof.Machine.execMeterSet d s
  | .meterRead d => Sys2Proof.Machine.execMeterRead d s
  | .watchSet d => Sys2Proof.Machine.execWatchSet d s
  | .samplerRead d => Sys2Proof.Machine.execSamplerRead d s
  | .ddrTrain v => Sys2Proof.Machine.execDdrTrain v s
  | .ddrTrainingEnd fails => Sys2Proof.Machine.execDdrTrainingEnd fails s
  | .qdrTrain v => Sys2Proof.Machine.execQdrTrain v s
  | .qdrTrainingEnd fail => Sys2Proof.Machine.execQdrTrainingEnd fail s
  | .parityAlert n reqs sub rank row => Sys2Proof.Machine.execParityAlert n reqs sub rank row s
  | .entryRetire n reqs => Sys2Proof.Machine.execEntryRetire n reqs s
  | .qdrParityError => Sys2Proof.Machine.execQdrParityError s
  | .refetch itf line client fails work => Sys2Proof.Machine.execRefetch itf line client fails work s
  | .narrowWrite e a fails bytes work => Sys2Proof.Machine.execNarrowWrite e a fails bytes work s
  | .regulatorPeriod => Sys2Proof.Machine.execRegulatorPeriod s
  | .settleEnd n => Sys2Proof.Machine.execSettleEnd n s
  | .rinsePass itf skipped ecs => Sys2Proof.Machine.execRinsePass itf skipped ecs s
  | .memResume d => Sys2Proof.Machine.execMemResume d s
  | .memFreeze d => Sys2Proof.Machine.execMemFreeze d s
  | .memTestEntry d => Sys2Proof.Machine.execMemTestEntry d s
  | .memTestExit d => Sys2Proof.Machine.execMemTestExit d s
  | .memFreq d us escalated failed => Sys2Proof.Machine.execMemFreq d us escalated failed s
  | .memTest d errors => Sys2Proof.Machine.execMemTest d errors s
  | .memDiagRead d => Sys2Proof.Machine.execMemDiagRead d s
  | .memTrackRead d => Sys2Proof.Machine.execMemTrackRead d s
  | .memTrackClear d => Sys2Proof.Machine.execMemTrackClear d s
  | .memLineRewrite d fails => Sys2Proof.Machine.execMemLineRewrite d fails s
  | .memPageRetire d => Sys2Proof.Machine.execMemPageRetire d s
  | .rinseRead d => Sys2Proof.Machine.execRinseRead d s
  | .rxFrame p bytes pcsErr fcsOk sfd tag => Sys2Proof.Machine.execRxFrame p bytes pcsErr fcsOk sfd tag s
  | .pauseTimerExpiry p k => Sys2Proof.Machine.execPauseTimerExpiry p k s
  | .fcRefresh p => Sys2Proof.Machine.execFcRefresh p s
  | .portStats d fec => Sys2Proof.Machine.execPortStats d fec s
  | .wakePatternEnable d => Sys2Proof.Machine.execWakePatternEnable d s
  | .wakePatternDisable d => Sys2Proof.Machine.execWakePatternDisable d s
  | .saEnable d fetch => Sys2Proof.Machine.execSaEnable d fetch s
  | .saDisable d => Sys2Proof.Machine.execSaDisable d s
  | .saRead d => Sys2Proof.Machine.execSaRead d s
  | .txSaSelect d => Sys2Proof.Machine.execTxSaSelect d s
  | .portKeySet d => Sys2Proof.Machine.execPortKeySet d s
  | .keyImport d plain => Sys2Proof.Machine.execKeyImport d plain s
  | .keyErase d => Sys2Proof.Machine.execKeyErase d s
  | .keyQuery d => Sys2Proof.Machine.execKeyQuery d s
  | .upIndexSwitch c => Sys2Proof.Machine.execUpIndexSwitch c s
  | .todSet d => Sys2Proof.Machine.execTodSet d s
  | .todRead d => Sys2Proof.Machine.execTodRead d s
  | .servoSample d => Sys2Proof.Machine.execServoSample d s
  | .trigSet d => Sys2Proof.Machine.execTrigSet d s
  | .todSlewDone => Sys2Proof.Machine.execTodSlewDone s
  | .servoFallback => Sys2Proof.Machine.execServoFallback s
  | .ppsEdge => Sys2Proof.Machine.execPpsEdge s
  | .trigFired t => Sys2Proof.Machine.execTrigFired t s
  | .capture c rising ago fine => Sys2Proof.Machine.execCapture c rising ago fine s
  | .psyncUnit => Sys2Proof.Machine.execPsyncUnit s
  | .keepAliveUnit => Sys2Proof.Machine.execKeepAliveUnit s
  | .pathChange => Sys2Proof.Machine.execPathChange s
  | .standbyLoad k => Sys2Proof.Machine.execStandbyLoad k s
  | .wtrExpiry => Sys2Proof.Machine.execWtrExpiry s
  | .exerciseEnd => Sys2Proof.Machine.execExerciseEnd s
  | .prtEn v => Sys2Proof.Machine.execPrtEn v s
  | .sbFaultClr v => Sys2Proof.Machine.execSbFaultClr v s
  | .lockout d => Sys2Proof.Machine.execLockout d s
  | .forcedSwitch d => Sys2Proof.Machine.execForcedSwitch d s
  | .manualSwitch d => Sys2Proof.Machine.execManualSwitch d s
  | .exercise d => Sys2Proof.Machine.execExercise d s
  | .clear d => Sys2Proof.Machine.execClear d s
  | .streamSet src ws => Sys2Proof.Machine.execStreamSet src ws s
  | .coreNop n p => Sys2Proof.Machine.execCoreNop n p s
  | .halt n p => Sys2Proof.Machine.execHalt n p s
  | .sig n p => Sys2Proof.Machine.execSig n p s
  | .wait n p => Sys2Proof.Machine.execWait n p s
  | .loop n p => Sys2Proof.Machine.execLoop n p s
  | .br n p => Sys2Proof.Machine.execBr n p s
  | .ldi n p => Sys2Proof.Machine.execLdi n p s
  | .ld n p => Sys2Proof.Machine.execLd n p s
  | .st n p => Sys2Proof.Machine.execSt n p s
  | .mld n p => Sys2Proof.Machine.execMld n p s
  | .mac n p => Sys2Proof.Machine.execMac n p s
  | .msb n p => Sys2Proof.Machine.execMsb n p s
  | .mul n p => Sys2Proof.Machine.execMul n p s
  | .add n p => Sys2Proof.Machine.execAdd n p s
  | .sub n p => Sys2Proof.Machine.execSub n p s
  | .and n p => Sys2Proof.Machine.execAnd n p s
  | .or n p => Sys2Proof.Machine.execOr n p s
  | .xor n p => Sys2Proof.Machine.execXor n p s
  | .mov n p => Sys2Proof.Machine.execMov n p s
  | .shf n p => Sys2Proof.Machine.execShf n p s
  | .sgnb n p => Sys2Proof.Machine.execSgnb n p s
  | .blkx n p => Sys2Proof.Machine.execBlkx n p s
  | .clr n p => Sys2Proof.Machine.execClr n p s
  | .lda n p => Sys2Proof.Machine.execLda n p s
  | .addx n p => Sys2Proof.Machine.execAddx n p s
  | .sha n p => Sys2Proof.Machine.execSha n p s
  | .sta n p => Sys2Proof.Machine.execSta n p s
  | .inp n p => Sys2Proof.Machine.execInp n p s
  | .inComplete n => Sys2Proof.Machine.execInComplete n s
  | .out n room p => Sys2Proof.Machine.execOut n room p s
  | .outComplete n => Sys2Proof.Machine.execOutComplete n s
  | .infLoad d => Sys2Proof.Machine.execInfLoad d s
  | .infStart d => Sys2Proof.Machine.execInfStart d s
  | .infHalt d => Sys2Proof.Machine.execInfHalt d s
  | .infDataRead d bad => Sys2Proof.Machine.execInfDataRead d bad s
  | .infDataWrite d bad => Sys2Proof.Machine.execInfDataWrite d bad s
  | .domainPowerDown n sl => Sys2Proof.Machine.execDomainPowerDown n sl s
  | .domainReady n sl qdrFail keys => Sys2Proof.Machine.execDomainReady n sl qdrFail keys s
  | .wakeTimeout => Sys2Proof.Machine.execWakeTimeout s
  | .holdIntervalEnd => Sys2Proof.Machine.execHoldIntervalEnd s
  | .simmerEntry => Sys2Proof.Machine.execSimmerEntry s
  | .entryTimeout c => Sys2Proof.Machine.execEntryTimeout c s
  | .darkGuardEnd => Sys2Proof.Machine.execDarkGuardEnd s
  | .lowPowerEnd => Sys2Proof.Machine.execLowPowerEnd s
  | .awareEnd => Sys2Proof.Machine.execAwareEnd s
  | .sample => Sys2Proof.Machine.execSample s
  | .sampleEnd forced ploams => Sys2Proof.Machine.execSampleEnd forced ploams s
  | .sampleTimeout => Sys2Proof.Machine.execSampleTimeout s
  | .waking arr memFail qdrFail keys => Sys2Proof.Machine.execWaking arr memFail qdrFail keys s
  | .wakeComplete => Sys2Proof.Machine.execWakeComplete s
  | .simmerWake d => Sys2Proof.Machine.execSimmerWake d s
  | .simmerHold d => Sys2Proof.Machine.execSimmerHold d s
  | .simmerRelease d => Sys2Proof.Machine.execSimmerRelease d s
  | .pwrQuery d => Sys2Proof.Machine.execPwrQuery d s
  | .txPllLock n => Sys2Proof.Machine.execTxPllLock n s
  | .lightPresent c code a b => Sys2Proof.Machine.execLightPresent c code a b s
  | .headEndPark c frame park m => Sys2Proof.Machine.execHeadEndPark c frame park m s
  | .headEndPowerMessage c msg m => Sys2Proof.Machine.execHeadEndPowerMessage c msg m s
  | .groupKeyMessage c k plain fetch => Sys2Proof.Machine.execGroupKeyMessage c k plain fetch s
  | .mapGapHoldEnd c => Sys2Proof.Machine.execMapGapHoldEnd c s
  | .pulseWidthEnd w => Sys2Proof.Machine.execPulseWidthEnd w s

end Sys2Proof.Machine
end

