-- ==== Sys2Proof/Machine/Tick.lean ====
section
/-!
DEFINITION. Sys2Proof/Machine/Tick.lean: what the block does when no command waits: one line cycle passes (log entry 8), and from reset the dies
start (R48, R196).
-/
namespace Sys2Proof.Machine

/-- A frame boundary of the line count (R25): the frame counter wraps at 46 bits, the PLL takes its written bandwidth (0b11 as 0b01) and LTB_HOLD_FRAMES counts in HOLDOVER (R45), and the Whistle takes its
written fields while its line count runs (R207). -/
def State.nextFrame (s : State) : State :=
  let bw := s.fld F.LTB_PLL_CFG_BW 0
  let s1 : State := { s with ltb := { s.ltb with cycle := 0, frame := (s.ltb.frame + 1) % 2 ^ 46, bw := if bw = 3 then 1 else bw } }
  let s2 := if s1.tstate = 1 then s1.satAdd F.LTB_HOLD_FRAMES_FRAMES 0 1 else s1
  if s2.whsCounts then s2.whsFrame else s2

/-- The span of a map gap begins in this line cycle, and its hold with it (R191). -/
def State.gapBegins (s : State) : Bool := s.whs.chans.any (fun p => p.2.holds.any (fun h => h.1 == s.lin))

/-- One line cycle of the core clock (R24, R25), in which a slew may move the grid by SLEW_PPB 10^-9 lc (R36), the pattern checkers that are on count (R108), the aging scanner visits a slot (R261), and idle
times are counted (R443, R448). -/
def State.nextCycle (s : State) : State :=
  let acc := if s.fld F.LTB_STATUS_SLEWING 0 = 1 then s.ltb.slewAcc + s.slewPpb else s.ltb.slewAcc
  let s1 := State.checkHost (State.checkLines { s with ltb := { s.ltb with lc := s.ltb.lc + 1, slewAcc := acc } })
  let s2 := if s.ltb.cycle + 1 < frameLc then { s1 with ltb := { s1.ltb with cycle := s.ltb.cycle + 1 } } else s1.nextFrame
  ((if s2.gapBegins then s2.whsApply else s2).scanStep).idleStep

/-- The Whistle leaves INIT once the keeping die is out of reset (R196). -/
def State.whsStart (s : State) : State :=
  if s.pins.keepPower && s.is F.WHS_STATUS_STATE 0 0 then s.startSelftest else s

/-- One tick of the sleep clock while the core clock is stopped (R18, R38): it runs on the keeping die. -/
def State.sleepTick (s : State) : State :=
  if s.pins.keepPower then { s with ltb := { s.ltb with ticks := s.ltb.ticks + 1 } } else s

/-- One line cycle in a watchful-sleep sample (R451): the core clock runs from the local reference, the stamp stays, and no consumer is started. -/
def State.sampleCycle (s : State) : State := { s with ltb := { s.ltb with lc := s.ltb.lc + 1 } }

/-- With nothing waiting: from reset the Whistle starts its self-test and the main die boots; while the core clock is stopped (R38) a sleep tick
passes; else a line cycle passes. -/
def State.tick (s : State) : State :=
  let s1 := s.whsStart
  if s1.is F.HIF_STATUS_STAGE 0 0 then
    (if s1.diesUp then s1.boot s1.lfg.resetCause else { s1 with ltb := { s1.ltb with lc := s1.ltb.lc + 1 } })
  else if s1.ltb.sleep.isSome then (if s1.simmer = 7 then s1.sampleCycle else s1.sleepTick)
  else s1.nextCycle

end Sys2Proof.Machine
end

