-- ==== Sys2Proof/Safety.lean ====
section
/-!
DEFINITION. Sys2Proof/Safety.lean: the words claims use: what a command leaves unchanged, how a command of a command ring ends, and the invariants of
the block.
-/
namespace Sys2Proof.Machine

/-- The command answers a next state, and that state has the property. -/
def Gives (c : Instr) (s : State) (p : State → Prop) : Prop := ∃ t, exec c s = .next t ∧ p t

/-- Every register field outside the list reads as before, in every instance. -/
def KeepsRegs (s t : State) (l : List Fld) : Prop := ∀ (f : Fld) (i : Nat), f.id ∉ l.map Fld.id → t.fld f i = s.fld f i

/-- Of one instance of the listed fields only: every other field, and every other instance, reads as before. -/
def KeepsAt (s t : State) (n : Nat) (l : List Fld) : Prop :=
  ∀ (f : Fld) (i : Nat), (f.id ∉ l.map Fld.id ∨ i ≠ n) → t.fld f i = s.fld f i

/-- Nothing but registers differs, and of those only the listed fields. -/
def OnlyRegs (s t : State) (l : List Fld) : Prop := t = { s with regs := t.regs } ∧ KeepsRegs s t l

/-- Nothing but registers differs, and of those only instance `n` of the listed fields. -/
def OnlyRegsAt (s t : State) (n : Nat) (l : List Fld) : Prop := t = { s with regs := t.regs } ∧ KeepsAt s t n l

/-- Nothing but registers and lanes differs, and of the registers only instance `n` of the listed fields. -/
def OnlyLaneAt (s t : State) (n : Nat) (l : List Fld) : Prop := t = { s with regs := t.regs, lln := t.lln } ∧ KeepsAt s t n l

/-- The fields a committed record may change (R78, R82). -/
def commitFlds : List Fld :=
  [F.HIF_JRN_HEAD_LO_SEQ, F.HIF_JRN_HEAD_HI_SEQ, F.LFG_STATUS_LAGGING, F.LFG_STATUS_MIRROR_GAP, F.LFG_EVENT_MIRROR_GAP,
    F.LFG_EVENT_EVCNT_MIRROR_GAP]

/-- The fields an event record may change (R71): those of a committed record, and where the event is lost. -/
def eventFlds : List Fld := commitFlds ++ [F.HIF_EVT_STATUS_LOST, F.HIF_EVENT_EVT_LOST, F.HIF_EVENT_EVCNT1_EVT_LOST]

/-- The command has ended with a status and a RESULT (R61, R62, R79, R80): its COMMAND record is the newest of the journal, and it waits to retire. -/
def EndsAtOnce (d : Desc) (status result : Nat) (t : State) : Prop :=
  (∃ r, t.lfg.volatile.head? = some r ∧ r.type = 1 ∧ r.src = d.ring ∧ r.opcode = d.opcode ∧ r.tag = d.tag ∧ r.status = status ∧
    r.result = result ∧ r.index = d.index ∧ r.payload = (List.range 6).map (fun k => d.dw (5 + k))) ∧
  ∃ f ∈ t.hif.flight, f.inj = false ∧ f.desc.ring = d.ring ∧ f.desc.index = d.index ∧
    ∃ dn, f.done = some dn ∧ dn.status = status ∧ dn.result = result

/-- The command's effect is complete and its record is either committed or, while LFG_STATUS.LAGGING is 1, the last of those that wait for the mirror (R82, R83). -/
def Ends (d : Desc) (status result : Nat) (t : State) : Prop :=
  EndsAtOnce d status result t ∨ (t.fld F.LFG_STATUS_LAGGING 0 = 1 ∧ t.lfg.held.getLast? = some ⟨d, status, result⟩)

/-- A command that fails a check changes nothing but the journal and its own entry (R61). -/
def EndsOnly (d : Desc) (status result : Nat) (s t : State) : Prop :=
  Ends d status result t ∧ t = { s with regs := t.regs, hif := { s.hif with flight := t.hif.flight }, lfg := t.lfg } ∧ KeepsRegs s t commitFlds

/-- Core `n` stands at an instruction of a kind, with its word: running, its latest instruction's cycles over, inside program memory, and legal there (R433 to R435). -/
def CoreAt (s : State) (n : Nat) (op : CoreOp) (w : Nat) : Prop :=
  (s.core n).st = 1 ∧ (s.core n).due ≤ s.ltb.lc ∧ (s.core n).pc ≤ 8191 ∧ SMap.get (s.core n).prog (s.core n).pc 0 = w ∧ coreOp w = some op ∧
    coreLegal (coreLand (s.core n)) w = true

/-- No load of the previous cycle becomes readable in register `k` in the cycle of a result (R434). -/
def NoClash (c : Core) (k : Nat) : Prop := ∀ l ∈ c.loads, l.reg = k → l.due ≠ c.cycle + 1

/-- Core `n` has issued one instruction and goes on: the next address, the cycles it took, the ring turned by SPIN; its memories' other words, the other cores
and the bus requests stay. -/
def CoreWent (s t : State) (n cycles : Nat) : Prop :=
  (t.core n).st = 1 ∧ (t.core n).pc = (loopEnd 3 (s.core n).loops ((s.core n).pc + 1)).1 ∧ (t.core n).cycle = (s.core n).cycle + cycles ∧
    (t.core n).due = s.ltb.lc + 2 * cycles ∧ (t.core n).prog = (s.core n).prog ∧ (∀ m, m ≠ n → t.core m = s.core m) ∧ t.inf.requests = s.inf.requests

/-- The registers of core `n` but those listed, and TURN, which SPIN turns, are as loads that became readable left them. -/
def CoreKeeps (s t : State) (n w : Nat) (ks : List Nat) : Prop :=
  (∀ j, j ∉ ks → j ≠ 0x33 → SMap.get (t.core n).regs j 0 = SMap.get (coreLand (s.core n)).regs j 0) ∧
    (0x33 ∉ ks → coreTurn (t.core n) = (coreTurn (coreLand (s.core n)) + 32 - bits w 25 24) % 32)

/-- A result of the ALU: register `k` of core `n` takes `v`, and nothing else of the core changes but its place and the ring (R423, R433). -/
def CoreWrites (s t : State) (n w k v : Nat) : Prop :=
  CoreWent s t n 1 ∧ SMap.get (t.core n).regs k 0 = coreMask k v ∧ CoreKeeps s t n w [k] ∧ (t.core n).data = (s.core n).data ∧
    (t.core n).loads = (coreLand (s.core n)).loads ∧ (t.core n).a0 = (s.core n).a0 ∧ (t.core n).a1 = (s.core n).a1 ∧
    (t.core n).fifos = (s.core n).fifos

/-- Accumulator `a` of core `n` takes a value, saturated to 40 bits, and the other one stays (R428). -/
def AccTakes (s t : State) (n a : Nat) (x : Int) (mac : Bool) : Prop :=
  (if a = 0 then (t.core n).a0.head? = some ⟨(s.core n).cycle, clampI (-2 ^ 39) (2 ^ 39 - 1) x, mac⟩ ∧ (t.core n).a1 = (s.core n).a1
    else (t.core n).a1.head? = some ⟨(s.core n).cycle, clampI (-2 ^ 39) (2 ^ 39 - 1) x, mac⟩ ∧ (t.core n).a0 = (s.core n).a0) ∧
  (x ≠ clampI (-2 ^ 39) (2 ^ 39 - 1) x → t.fld F.INF_C_EVENT_GOV n = 1) ∧
  (x = clampI (-2 ^ 39) (2 ^ 39 - 1) x → t = { s with inf := t.inf })

/-- The fields that the Whistle's answer to its state may change (R178, R189): TX_DISABLE, and the counts of the bursts that a held channel loses. -/
def applyFlds : List Fld := [F.WHS_STATUS_TXDIS, F.UBE_CH_DISC_STATE, F.UBE_CH_LOSS_FRAMES]

/-- The fields a violation may change (R195, R197, R205). -/
def violFlds : List Fld := applyFlds ++ eventFlds ++ [F.WHS_STATUS_STATE, F.WHS_STATUS_ROGUE, F.WHS_SHUT_INFO_LANES, F.WHS_SHUT_INFO_CLASS,
  F.WHS_SHUT_INFO_COUNT, F.WHS_SHUT_STAMP_LO_STAMP, F.WHS_SHUT_STAMP_HI_STAMP, F.WHS_EVENT_ROGUE, F.WHS_EVENT_EVCNT_ROGUE]

/-- The Whistle is ARMED with no latch stored, and no exercise of path protection is in progress. -/
def Armed (s : State) : Prop := s.fld F.WHS_STATUS_STATE 0 = 2 ∧ s.whs.latch = none ∧ s.prt.exercise = none

/-- The lanes a violation shuts (R195): every lane with SHUT_ALL in force or class 5. -/
def shutMask (s : State) (lanes cls : Nat) : Nat := if s.whs.force.shutAll = 1 ∨ cls = 5 then 0xFF else lanes

/-- A violation has been taken (R195, R197): ROGUE_SHUT, the latch stored with its lanes and class, TX_DISABLE asserted on every lane it shuts. -/
def Shuts (s t : State) (lanes cls : Nat) : Prop :=
  t.fld F.WHS_STATUS_STATE 0 = 3 ∧ (∃ stamp, t.whs.latch = some ⟨shutMask s lanes cls, lanes, cls, 1, stamp⟩) ∧
    t.fld F.WHS_STATUS_ROGUE 0 = shutMask s lanes cls % 256 ∧ t.fld F.WHS_SHUT_INFO_CLASS 0 = cls % 16 ∧ t.fld F.WHS_EVENT_ROGUE 0 = 1 ∧
    (∀ c < 8, bit (shutMask s lanes cls) c = true → bit (t.fld F.WHS_STATUS_TXDIS 0) c = true) ∧
    t = { s with regs := t.regs, hif := t.hif, lfg := t.lfg, ube := t.ube, whs := t.whs } ∧ KeepsRegs s t violFlds

/-- The fields of a host lane that a move of its state may change (R101, R103). -/
def sdFlds : List Fld := [F.HPM_SD_STATUS_STATE, F.HPM_SD_STATUS_CDR_LOCK, F.HPM_SD_STATUS_AM_LOCK, F.HPM_SD_TXFFE_CM2, F.HPM_SD_TXFFE_CM1, F.HPM_SD_TXFFE_C0, F.HPM_SD_TXFFE_C1]

/-- Nothing waits in the bonding reorder, no SDU is under reassembly, and no performance threshold is set (R123, R126, R142). -/
def DsfQuiet (s : State) : Prop := s.dsf.held = [] ∧ s.dsf.losses = [] ∧ s.dsf.reasm = [] ∧ s.dsf.thresholds = []

/-- Service engine 0 takes a good PLOAM message that is addressed to the channel (R68, R149, R152). -/
def PloamHeard (s : State) (c : Nat) (m : Ploam) : Prop := s.fld (engRunning 0) 0 ≠ 0 ∧ m.lost = false ∧ m.mic = true ∧ s.addressed c m.dest = true

/-- It takes one whose integrity check fails (R152). -/
def PloamBad (s : State) (m : Ploam) : Prop := s.fld (engRunning 0) 0 ≠ 0 ∧ m.lost = false ∧ m.mic = false

/-- A defect of the channel concerns its framing alone (R132, R134, R149): it is not ranged, not ACTIVE in the bonding group, and neither AIS nor RDI of its path
is in force. -/
def DefectAlone (s : State) (c : Nat) : Prop := (s.act_st c = 0x00 ∨ s.act_st c = 0x11) ∧ s.tstate ≠ 0 ∧ s.member c ≠ 1 ∧ s.simmer ≠ 4 ∧
  s.fld (aisFld (c / 4)) 0 ≠ 1 ∧ s.fld (rdiFld (c / 4)) 0 ≠ 1

/-- The fields a declared LOF may change (R132, R135). -/
def lofFlds : List Fld := eventFlds ++ [F.DSF_CH_STATUS_LOF, F.DSF_CH_EVENT_LOF_DECL, F.DSF_CH_EVENT_EVCNT_LOF_DECL, F.DSF_LOF_STATUS_LOF,
  F.DSF_LOF_STATUS_EVCNT_LOF, F.DSF_BOND_HELD_UNITS]

/-- Simmer has nothing to follow (R450): EN is 0 and its state is OFF. -/
def SimmerOff (s : State) : Prop := s.fld F.PWR_SIMMER_CFG_EN 0 ≠ 1 ∧ s.simmer = 0

/-- The fields a change of a channel's state may change (R149, R170, R174). -/
def actFlds : List Fld := eventFlds ++ [F.ACT_CH_STATUS_STATE, F.ACT_CH_EVENT_STATE_CHANGE, F.ACT_CH_EVENT_EVCNT_STATE_CHANGE, F.ACT_STATUS_ASSOC,
  F.ACT_STATUS_PARKED, F.UBE_CH_DISC_STATE, F.UBE_CH_LOSS_FRAMES]

/-- The fields that show the bonding group's members (R127). -/
def memberFlds : List Fld := [F.DSF_BOND_STATUS_MSTATE, F.DSF_BOND_STATUS_SKEW]

/-- A load window of parking has ended with engine 3 running on path A, parking enabled, no exchange pending and PRT steady (R163). -/
def WindowOver (s : State) (w : LoadWindow) : Prop := s.fld (engRunning 3) 0 ≠ 0 ∧ w.start + 12441600 * w.units ≤ s.ltb.lc ∧ s.fld F.ACT_PARK_CFG_EN 0 = 1 ∧
  s.fld F.ACT_STATUS_PATH 0 = 1 ∧ s.act.exchange = none ∧ s.prtSteady = true

/-- The fields of a channel's burst profiles (R175). -/
def profFlds : List Fld := F.UBE_CH_STATUS_PROF_VALID :: [0, 1, 2, 3].flatMap (fun k =>
  [(profFields k).1, (profFields k).2.1, (profFields k).2.2.1, (profFields k).2.2.2.1, (profFields k).2.2.2.2])

/-- The fields that hold a channel's context, dropped with it (R149, R162). -/
def contextFlds : List Fld := [F.ACT_CH_STATUS_ONU_ID, F.ACT_CH_STATUS_ALLOCS, F.ACT_CH_EQD_EQD, F.ACT_CH_EQD_VALID, F.ACT_CH_STATUS_PARK_PENDING,
  F.ACT_CH_STATUS_TUNE_PENDING, F.ACT_CH_STATUS_ESTOP, F.ACT_CH_STATUS_MEMBER, F.DSF_BOND_STATUS_MSTATE, F.DSF_BOND_STATUS_SKEW, F.CPH_PON_CH_KEY_UP_INDEX, F.CPH_PON_CH_KEY_HELD,
  F.CPH_PON_CH_KEY_SPENT]

/-- The channel's context can be dropped with no other unit concerned: no exchange, no park or unpark agreed, no fragment remainder, not the timing channel, Simmer off. -/
def ContextAlone (s : State) (c : Nat) : Prop := s.act.exchange = none ∧ (s.actCh c).parkAt = none ∧ (s.actCh c).unparkAt = none ∧ (s.ubeCh c).rem = [] ∧ s.tc ≠ c ∧ SimmerOff s

/-- Path protection works on path A with nothing asked of it but by the host, no signal failure, nobody waiting, and path B off (R405 to R417). -/
def PrtWorking (s : State) : Prop := s.prtState = 1 ∧ s.fld F.ACT_STATUS_PATH 0 = 1 ∧ s.workPath = 0 ∧ (s.path 0).remote = none ∧ (s.path 1).remote = none ∧
  s.sf 0 = false ∧ s.sf 1 = false ∧ s.prt.exercise = none ∧ s.prt.waiters = [] ∧ s.act.exchange = none ∧ s.fld F.PRT_SB_CFG_PRERANGE 0 ≠ 1 ∧
  ∀ c, 4 ≤ c → c < 8 → s.act_st c = 0 ∧ s.fld F.LLN_RX_CFG_EN c ≠ 1

/-- The fields of the request in force, and those a switch decision may change besides (R408, R412, R417). -/
def reqFlds : List Fld := [F.PRT_STATUS_REQ, F.PRT_STATUS_REQ_SRC]
def gapFlds : List Fld := reqFlds ++ [F.PRT_STATUS_STATE, F.UBE_CH_DISC_STATE, F.UBE_CH_LOSS_FRAMES]

/-- A switch has been decided (R412): STATE is GAP, every channel is held, the new path and the cause are kept, F1 is the next frame. -/
def Switches (s t : State) (path cause : Nat) : Prop :=
  t.prtState = 4 ∧ t.prt.held = 0xFF ∧ t.prt.newPath = path ∧ t.prt.cause = cause ∧ t.prt.passed = false ∧ t.prt.gapFrom = s.ltb.lc ∧
    t.prt.f1 = (s.ltb.frame + 1) % 2 ^ 46

/-- An inject descriptor has ended (R62, R73): nothing is journalled, and it waits to retire with its status and RESULT. -/
def InjEnds (d : Desc) (status result : Nat) (t : State) : Prop :=
  ∃ f ∈ t.hif.flight, f.inj = true ∧ f.desc.ring = d.ring ∧ f.desc.index = d.index ∧ f.done = some ⟨status, result, 0, false⟩

/-- The command has ended with OK and has written one run of words to its buffer; nothing else but its entry and the journal differs. -/
def EndsWriting (d : Desc) (result : Nat) (ws : List Nat) (s t : State) : Prop :=
  Ends d stOk result t ∧ t.hif.hostWrites = s.hif.hostWrites ++ [⟨d.bufAddr, ws⟩] ∧
    t = { s with regs := t.regs, hif := { s.hif with flight := t.hif.flight, hostWrites := t.hif.hostWrites }, lfg := t.lfg } ∧ KeepsRegs s t commitFlds

/-- Counter `i` of host port `p` has advanced by `n` (R356). -/
def Counted (s t : State) (p i n : Nat) : Prop :=
  SMap.get (t.hport p).counters i 0 = min (SMap.get (s.hport p).counters i 0 + n) (2 ^ 64 - 1)

/-- Of the host ports only `p` differs. -/
def OnlyPort (s t : State) (p : Nat) : Prop := ∀ q, q ≠ p → t.hport q = s.hport q

/-- The command has ended with OK and has written bank `b` of the Strainer alone (R235, R237). -/
def BankWritten (d : Desc) (result b : Nat) (s t : State) : Prop :=
  Ends d stOk result t ∧ t.bank (b + 1) = s.bank (b + 1) ∧
    t = { s with regs := t.regs, hif := { s.hif with flight := t.hif.flight }, lfg := t.lfg,
                 str := { s.str with bank0 := t.str.bank0, bank1 := t.str.bank1 } } ∧ KeepsRegs s t commitFlds

/-- The Table Command Window takes an operation (R251, R253): the write reaches it, no operation is in progress, and the table is ready. -/
def TcwReady (s : State) : Prop := s.access 0x700200 = .ok ∧ s.fld F.TBL_TCW_STATUS_BUSY 0 = 0 ∧ s.fld F.TBL_STATUS_READY 0 = 1

/-- The fields an operation of the Table Command Window may change. -/
def tcwFlds : List Fld := commitFlds ++ [F.TBL_TCW_OP_SLOT, F.TBL_TCW_OP_OP, F.TBL_TCW_STATUS_BUSY, F.TBL_TCW_STATUS_CODE, F.TBL_TCW_RESULT_RESULT,
  F.TBL_TCW_INFO_FRESH, F.TBL_TCW_INFO_MOVES, F.TBL_TCW_INFO_STASH, F.TBL_TCW_INFO_FOUND, F.TBL_TCW_STAGE_ENTRY, F.TBL_TCW_STATUS_COLLIDE,
  F.TBL_TCW_STATUS_EVCNT_COLLIDE]

/-- The window shows an operation's answer and the staging out, BUSY is 0, and its TCW_OP record is the newest of the journal (R254). -/
def TcwEnds (op slot : Nat) (o : TcwOut) (t : State) : Prop :=
  t.fld F.TBL_TCW_STATUS_CODE 0 = o.status % 2 ^ 8 ∧ t.fld F.TBL_TCW_RESULT_RESULT 0 = o.result % 2 ^ 32 ∧
  t.fld F.TBL_TCW_INFO_FRESH 0 = o.fresh % 2 ^ 16 ∧ t.fld F.TBL_TCW_INFO_MOVES 0 = o.moves % 2 ^ 8 ∧
  t.fld F.TBL_TCW_INFO_STASH 0 = b2n o.stash ∧ t.fld F.TBL_TCW_INFO_FOUND 0 = b2n o.found ∧ t.fld F.TBL_TCW_STATUS_BUSY 0 = 0 ∧
  (∀ i < 8, t.fld F.TBL_TCW_STAGE_ENTRY i = leNum ((o.image.drop (4 * i)).take 4) % 2 ^ 32) ∧
  ∃ r, t.lfg.volatile.head? = some r ∧ r.type = 3 ∧ r.src = 0x21 ∧ r.status = o.status ∧ r.result = o.result ∧
    r.payload.head? = some (2 ^ 31 + slot * 16 + op)

/-- An operation that changes no entry: the window and the journal alone. -/
def TcwOnly (op slot : Nat) (o : TcwOut) (s t : State) : Prop :=
  TcwEnds op slot o t ∧ t = { s with regs := t.regs, lfg := t.lfg } ∧ KeepsRegs s t tcwFlds

/-- Of the table, slot `n` alone differs: line, fingerprint, stamp, stash way. -/
def OnlySlot (s t : State) (n : Nat) : Prop :=
  ∀ m, m ≠ n → t.tblLine m = s.tblLine m ∧ t.fp m = s.fp m ∧ t.fresh m = s.fresh m ∧ SMap.find t.tbl.stash m = SMap.find s.tbl.stash m

/-- An operation that changes slot `n`: the window, the journal, the slot, and the QDR-IV writes in the retry buffer. -/
def TcwChanges (op slot n : Nat) (o : TcwOut) (s t : State) : Prop :=
  TcwEnds op slot o t ∧ OnlySlot s t n ∧
    t = { s with regs := t.regs, lfg := t.lfg, mem := { s.mem with qdrWrites := t.mem.qdrWrites },
                 tbl := { s.tbl with lines := t.tbl.lines, fps := t.tbl.fps, fresh := t.tbl.fresh, stash := t.tbl.stash } } ∧
    KeepsRegs s t (tcwFlds ++ [F.TBL_STASH_PEAK])

/-- The hash of the key and format in an image of an entry (R243). -/
def State.hashOf (s : State) (b : List Nat) : Nat := s.tblHash (entryOf b).fmt (entryOf b).key

/-- The key of an image is nowhere in the table (R244): no stash way holds it, and no slot of its pair holds its fingerprint. -/
def KeyAbsent (s : State) (b : List Nat) : Prop :=
  s.stashFind (s.hashOf b) (entryOf b).fmt (entryOf b).key = none ∧ s.fpFind (s.hashOf b) = none

/-- The key of an image is in table slot `n`, whose line has a valid CRC. -/
def KeyAt (s : State) (b : List Nat) (n : Nat) : Prop :=
  s.stashFind (s.hashOf b) (entryOf b).fmt (entryOf b).key = none ∧ s.fpFind (s.hashOf b) = some n ∧ (s.tblLine n).key = (entryOf b).key ∧
    (s.tblLine n).fmt = (entryOf b).fmt ∧ s.lineGood n = true

/-- The fields a change of Simmer's state may change (R450), those of a refusal (R454), those that record a wake (R450), and those of a receive slice that
powers down (R112, R442). -/
def simmerFlds : List Fld := eventFlds ++ [F.PWR_STATUS_STATE, F.PWR_EVENT_STATE_CHANGE, F.PWR_EVENT_EVCNT_STATE_CHANGE]
def refuseFlds : List Fld := eventFlds ++ [F.PWR_REFUSE_CNT_U0, F.PWR_REFUSE_CNT_U1, F.PWR_REFUSE_CNT_U2, F.PWR_REFUSE_CNT_U3, F.PWR_EVENT_REFUSED,
  F.PWR_EVENT_EVCNT_REFUSED, F.PWR_LAST_REFUSE_VALID, F.PWR_LAST_REFUSE_ABORT, F.PWR_LAST_REFUSE_UNIT, F.PWR_LAST_REFUSE_REASON, F.PWR_LAST_REFUSE_MODE]
def wakeFlds : List Fld := [F.PWR_WAKE_SRC_VALID, F.PWR_WAKE_SRC_SRC, F.PWR_WAKE_SRC_MODE, F.PWR_WAKE_SRC_SAMPLES]
def sliceFlds : List Fld := [F.LLN_RX_STATUS_STATE, F.LLN_RX_STATUS_CDR_LOCK, F.LLN_RX_STATUS_SIG_DET, F.DSF_CH_STATUS_STATE, F.DSF_CH_STATUS_LOS,
  F.DSF_CH_STATUS_LOF, F.DSF_CH_STATUS_CANDIDATES, F.DSF_BOND_STATUS_MSTATE, F.DSF_BOND_HELD_UNITS, F.LLN_TX_STATUS_STATE]

/-- The register file is in its one canonical form: fields and instances strictly rising, nothing listed that is empty. -/
def State.regsCanonical (s : State) : Prop :=
  SMap.wf s.regs = true ∧ ∀ p ∈ s.regs, SMap.wf p.2 = true ∧ p.2 ≠ []

/-- A line stamp is legal (R25): cycles 0 to 155,519 of a 46-bit frame. -/
def stampLegal (st : Nat) : Prop := st % 2 ^ 18 < 155520 ∧ st / 2 ^ 18 < 2 ^ 46

/-- The line count and what the keeping die recorded of a sleep are legal stamps. -/
def State.timeLegal (s : State) : Prop :=
  s.ltb.cycle < 155520 ∧ s.ltb.frame < 2 ^ 46 ∧ ∀ r, s.ltb.sleep = some r → stampLegal r.stamp

end Sys2Proof.Machine
end

