-- ==== Sys2Proof/WellFormed.lean ====
section
/-!
DEFINITION. Sys2Proof/WellFormed.lean: which operands a command of the block can carry: numbers within the fields the spec gives
them (R3, R57, R53). The meanings are total; `Instr.wf` says which terms stand for something the hardware can meet.
-/
namespace Sys2Proof

/-- A descriptor as R57 lays it out: ring 0 to 31 of its kind, 16-bit index, tag and opcode, eleven argument words. -/
def Desc.wf (d : Desc) : Bool :=
  decide (d.ring < 32) && decide (d.index < 2 ^ 32) && decide (d.tag < 2 ^ 16) && decide (d.opcode < 2 ^ 16) && decide (d.bufAddr < 2 ^ 64) &&
    decide (d.bufLen < 2 ^ 24) && decide (d.args.length = 11)

/-- A doorbell page as R53 lays it out: sixteen command tails, and 32-bit indices throughout. -/
def DbPage.wf (p : DbPage) : Bool :=
  (p.cmdTail ++ p.injTail ++ p.cplHead ++ p.evtHead ++ p.puntTail).all (fun x => decide (x < 2 ^ 32)) && decide (p.magic < 2 ^ 32)

/-- A place in a memory as an ERR_LOC names it: TILE or MACRO, and ROW, within their fields (R5). -/
def placeWf (mac row : Nat) : Bool := decide (mac < 256) && decide (row < 512)

/-- A failing cell's tile, macro and row. -/
def cellWf (x : Option (Nat × Nat × Nat)) : Bool := x.all (fun p => decide (p.1 < 256) && placeWf p.2.1 p.2.2)

/-- The transfer of a key ends (R365). -/
def KeyFetch.wf : KeyFetch → Bool
  | .ok => true
  | .busFault => true
  | .slotMem tile m r => decide (tile < 256) && placeWf m r

/-- What the words of an instruction meet (R422, R435). -/
def CoreParity.wf : CoreParity → Bool
  | .good => true
  | .program m r => placeWf m r
  | .data m r => placeWf m r

/-- A PLOAM message is addressed to an ONU-ID of ten bits, or to a serial number of 64 (R149). -/
def Ploam.wf (m : Ploam) : Bool :=
  match m.dest with
  | .onu n => decide (n < 1024)
  | .serial n => decide (n < 18446744073709551616)

/-- A request of a DDR5 channel within the fields of the freeze snapshot's record (R330). -/
def MemReq.wf (r : MemReq) : Bool :=
  decide (1 ≤ r.cmd) && decide (r.cmd < 8) && decide (r.place < 256) && decide (r.col < 65536) && decide (r.row < 4294967296) && decide (r.client < 6) &&
    decide (r.addr < 18446744073709551616) && decide (r.crc < 4294967296)

/-- A failed training step (R302, R303). -/
def TrainFail.wf (f : TrainFail) : Bool := decide (f.chan < 4) && decide (f.step < 8) && placeWf f.mac f.row

/-- A failure of the reorder memory (R146). -/
def ReorderFail.wf (f : ReorderFail) : Bool := decide (f.tile < 256) && placeWf f.mac f.row

/-- An XGEM header within its fields (R121, R125): a counter of 51 bits, an offset within the frame's 777,600 bytes, payload bytes. -/
def XgemHdr.wf (x : XgemHdr) : Bool :=
  decide (x.chan < 8) && decide (x.sfc < 2251799813685248) && decide (x.offset < 777600) && decide (x.hec < 3) && decide (x.pli < 16384) &&
    decide (x.keyIdx < 4) && decide (x.port < 65536) && x.prc.all (fun b => decide (b < 256))

/-- A burst profile (R175): one of three rates, a preamble and a delimiter within their lengths. -/
def Profile.wf (p : Profile) : Bool := decide (p.rate < 3) && decide (p.pre < 2 ^ p.preBits) && decide (p.del < 2 ^ (8 * p.delBytes))

/-- An allocation structure (R172, R173). -/
def AllocStruct.wf (a : AllocStruct) : Bool := decide (a.chan < 8) && decide (a.alloc < 16384) && decide (a.profile < 4)

/-- Sixteen words of 32 bits (R57). -/
def wordsWf (ws : List Nat) : Bool := decide (ws.length = 16) && ws.all (fun w => decide (w < 4294967296))

/-- The operands of a command lie in their ranges. -/
def Instr.wf : Instr → Bool
  | .badBarAccess addr size _ => decide (addr < 33554432) && decide (0 < size)
  | .setupRegisterWrite addr _ _ => decide (addr < 33554432)
  | .w1cClear addr _ _ => decide (addr < 33554432)
  | .rcRead addr _ _ => decide (addr < 33554432)
  | .lowRegisterRead addr _ => decide (addr < 33554432)
  | .krstN _ _ _ _ _ => true
  | .mrstN _ _ _ _ lost => decide (lost < 4294967296)
  | .perstN _ => true
  | .trstN => true
  | .keepingDiePowerLoss => true
  | .mainDiePowerLoss lost => decide (lost < 4294967296)
  | .thermAlert _ => true
  | .thermtrip lost => decide (lost < 4294967296)
  | .flr => true
  | .load _ => true
  | .imageLoadEnd _ _ version _ _ _ _ => decide (version < 4294967296)
  | .run _ => true
  | .hifNudge _ => true
  | .doorbellPoll pg => pg.wf
  | .commandFetch inj ring words _ => decide (ring < if inj then 8 else 16) && wordsWf words
  | .saucerReturn p _ => decide (p < 8)
  | .agePromotion p => decide (p < 8)
  | .dispatch => true
  | .retire inj ring => decide (ring < if inj then 8 else 16)
  | .nop d => d.wf
  | .journalMark d => d.wf
  | .journalRead d => d.wf
  | .ringStart d => d.wf
  | .ringStop d => d.wf
  | .engineQuery d => d.wf
  | .ringCfgWrite kind n _ => decide (kind < 5) && decide (n < 32)
  | .engineRestart k pc work _ => decide (k < 4) && decide (pc < 4294967296) && work.all Desc.wf
  | .injectDownstream d => d.wf
  | .injectUpstream d => d.wf
  | .vectorRaise kind n => decide (kind < 5) && decide (n < 32)
  | .hostLoss _ _ => true
  | .mirrorRecord _ => true
  | .mirrorEn _ => true
  | .keptEventHandover => true
  | .arrival c _ trim => decide (c < 8) && decide (trim.all (· < 16777216))
  | .step => true
  | .arrivalMissed => true
  | .forceLocal _ => true
  | .tcRequest _ => true
  | .slewDone => true
  | .extStopped => true
  | .sleepSourceSwitch => true
  | .rxLaneEnable n _ => decide (n < 8)
  | .cdrLock n _ => decide (n < 8)
  | .trackEntry n => decide (n < 8)
  | .acqRetry n _ => decide (n < 8)
  | .cdrLoss n _ => decide (n < 8)
  | .tapWrite n k _ => decide (n < 8) && decide (k < 5)
  | .txLaneEnable n _ => decide (n < 8)
  | .benRise n => decide (n < 8)
  | .lastBitSerialised n => decide (n < 8)
  | .benFall n => decide (n < 8)
  | .txDisableAsserted n => decide (n < 8)
  | .txDisableReleased n => decide (n < 8)
  | .laneLoopSet d => d.wf
  | .laneLoopRemove d => d.wf
  | .laneTest d => d.wf
  | .osaRead d _ data => d.wf && decide (data.all (· < 256))
  | .osaWrite d _ _ => d.wf
  | .portEn _ => true
  | .anResolved port _ => decide (port < 4)
  | .anRestart port => decide (port < 4)
  | .trainComplete port _ => decide (port < 4)
  | .trainFail port => decide (port < 4)
  | .alignDone p _ => decide (p < 4)
  | .deskewFail port _ => decide (port < 4)
  | .linkDown p lane _ _ => decide (p < 4) && decide (lane < 8)
  | .psyncMatch c _ sfc => decide (c < 8) && decide (sfc.all (· < 2251799813685248))
  | .candidateCheck c _ diff sfc _ _ => decide (c < 8) && decide (diff ≤ 64) && decide (sfc.all (· < 2251799813685248))
  | .psbdCheck c diff sfc _ _ => decide (c < 8) && decide (diff ≤ 64) && decide (sfc.all (· < 2251799813685248))
  | .huntRestart d => d.wf
  | .codewordDecode c _ _ _ _ _ => decide (c < 8)
  | .xgemFrame x => x.wf
  | .reorderRelease fail => fail.all ReorderFail.wf
  | .bondStall c => decide (c < 8)
  | .parkingDone c => decide (c < 8)
  | .losDeclared c => decide (c < 8)
  | .losCleared c => decide (c < 8)
  | .prcFrameJudged p _ => decide (p < 2)
  | .lineSecond frame => decide (frame < 70368744177664)
  | .pmBinClosed _ frame => decide (frame < 70368744177664)
  | .pmPhaseChange _ => true
  | .portSet d => d.wf
  | .pmRead d => d.wf
  | .pmThreshold d => d.wf
  | .actIdentity d => d.wf
  | .chEnable d => d.wf
  | .chDisable d => d.wf
  | .bondSet d => d.wf
  | .park d => d.wf
  | .unpark d => d.wf
  | .actQuery d => d.wf
  | .allocRead d => d.wf
  | .burstProfile c k p m => decide (c < 8) && decide (k < 4) && p.wf && m.wf
  | .assignOnuId c onu eqd m => decide (c < 8) && decide (onu < 1023) && decide (eqd.all (· < 16777216)) && m.wf
  | .rangingTime c _ m => decide (c < 8) && m.wf
  | .assignAllocId c alloc _ m => decide (c < 8) && decide (alloc < 16384) && m.wf
  | .deactivateOnuId c m => decide (c < 8) && m.wf
  | .disableSerialNumber c _ m => decide (c < 8) && m.wf
  | .tuningControl c target _ _ _ _ m => decide (c < 8) && decide (target < 8) && m.wf
  | .keyRequest c i _ _ fetch m => decide (c < 8) && decide (i < 4) && fetch.wf && m.wf
  | .timerExpired c timer => decide (c < 8) && decide (1 ≤ timer) && decide (timer ≤ 5)
  | .parkEntry c => decide (c < 8)
  | .unparkApply c => decide (c < 8)
  | .rollout c => decide (c < 8)
  | .parkWindow => true
  | .parkAnswer c _ _ m => decide (c < 8) && m.wf
  | .parkTimeout => true
  | .allocationStructure a => a.wf
  | .filling c cell => decide (c < 8) && cellWf cell
  | .handed c cell => decide (c < 8) && cellWf cell
  | .lateFill c cell => decide (c < 8) && cellWf cell
  | .contextExchange c _ => decide (c < 8)
  | .contextCheck c _ _ => decide (c < 8)
  | .linkLoss _ => true
  | .mapGap c _ _ => decide (c < 8)
  | .timeDiverge _ => true
  | .crystalSpanCheck _ => true
  | .outsideWindow c _ _ => decide (c < 8)
  | .darkViolation c _ _ => decide (c < 8)
  | .sweep mask => decide (mask < 256)
  | .eyeSample c code => decide (c < 8) && decide (code < 4096)
  | .selftestEnd failed => decide (failed ≤ 8)
  | .periodicSelftest failed => decide (failed ≤ 8)
  | .whsReenable d => d.wf
  | .whsSelftest d => d.wf
  | .whsQuery d => d.wf
  | .strainerPass bytes _ => bytes.all (fun b => decide (b < 256))
  | .lengthCheck _ => true
  | .drainEnd => true
  | .ruleWrite d => d.wf
  | .ruleRead d _ => d.wf
  | .ruleCopy d _ => d.wf
  | .ruleSwap d => d.wf
  | .profileSet d => d.wf
  | .selectorSet d => d.wf
  | .ingressMap d => d.wf
  | .resteepSet d => d.wf
  | .lookup _ => true
  | .insert _ _ => true
  | .update _ _ => true
  | .delete _ _ => true
  | .read _ _ => true
  | .readSlot slot _ _ => decide (slot < 4194304)
  | .writeSlot slot _ => decide (slot < 4194304)
  | .deleteSlot slot _ => decide (slot < 4194304)
  | .tableBatch d _ _ => d.wf
  | .flowCountRead d => d.wf
  | .tableReady => true
  | .fpRebuild array n tile m r _ => decide (n < if array = 0 then 65536 else if array = 1 then 65664 else 4096) && decide (array < 3) && decide (tile < 256) && placeWf m r
  | .ageEpoch => true
  | .deleteIfStale _ => true
  | .freshnessClamp => true
  | .filterExpiry => true
  | .admission => true
  | .tailWrite k => decide (k < 131072)
  | .refill k _ => decide (k < 131072)
  | .downstreamDequeue p _ cell => decide (p < 4) && cellWf cell
  | .calendarRelease => true
  | .coarseRedistribute => true
  | .farListScan => true
  | .depthSample => true
  | .queueSet d => d.wf
  | .queueRead d => d.wf
  | .queueFlush d => d.wf
  | .groupSet d => d.wf
  | .portTcSet d => d.wf
  | .meterSet d => d.wf
  | .meterRead d => d.wf
  | .watchSet d => d.wf
  | .samplerRead d => d.wf
  | .ddrTrain _ => true
  | .ddrTrainingEnd fails => fails.all TrainFail.wf
  | .qdrTrain _ => true
  | .qdrTrainingEnd fail => fail.all TrainFail.wf
  | .parityAlert n reqs sc rank row => decide (n < 4) && reqs.all MemReq.wf && decide (sc < 2) && decide (rank < 2) && decide (row < 512)
  | .entryRetire n reqs => decide (n < 4) && reqs.all MemReq.wf
  | .qdrParityError => true
  | .refetch itf _ client _ _ => decide (itf < 5) && decide (client < 6)
  | .narrowWrite e _ _ bytes _ => decide (e < 4) && decide (4 ≤ bytes.length) && decide (bytes.length ≤ 32)
  | .regulatorPeriod => true
  | .settleEnd n => decide (n < 4)
  | .rinsePass itf _ _ => decide (itf < 5)
  | .memResume d => d.wf
  | .memFreeze d => d.wf
  | .memTestEntry d => d.wf
  | .memTestExit d => d.wf
  | .memFreq d us escalated failed => d.wf && decide (us ≤ 200) && escalated.all (fun p => decide (p.1 < 4) && placeWf p.2.1 p.2.2) && failed.all (fun n => decide (n < 4))
  | .memTest d _ => d.wf
  | .memDiagRead d => d.wf
  | .memTrackRead d => d.wf
  | .memTrackClear d => d.wf
  | .memLineRewrite d _ => d.wf
  | .memPageRetire d => d.wf
  | .rinseRead d => d.wf
  | .rxFrame p bytes _ _ _ _ => decide (p < 4) && bytes.all (fun b => decide (b < 256))
  | .pauseTimerExpiry p i => decide (p < 4) && decide (i < 9)
  | .fcRefresh p => decide (p < 4)
  | .portStats d _ => d.wf
  | .wakePatternEnable d => d.wf
  | .wakePatternDisable d => d.wf
  | .saEnable d fetch => d.wf && fetch.wf
  | .saDisable d => d.wf
  | .saRead d => d.wf
  | .txSaSelect d => d.wf
  | .portKeySet d => d.wf
  | .keyImport d _ => d.wf
  | .keyErase d => d.wf
  | .keyQuery d => d.wf
  | .upIndexSwitch c => decide (c < 8)
  | .todSet d => d.wf
  | .todRead d => d.wf
  | .servoSample d => d.wf
  | .trigSet d => d.wf
  | .todSlewDone => true
  | .servoFallback => true
  | .ppsEdge => true
  | .trigFired t => decide (t < 8)
  | .capture c _ _ fine => decide (c < 4) && decide (fine < 16)
  | .psyncUnit => true
  | .keepAliveUnit => true
  | .pathChange => true
  | .standbyLoad k => decide (k < 4)
  | .wtrExpiry => true
  | .exerciseEnd => true
  | .prtEn _ => true
  | .sbFaultClr _ => true
  | .lockout d => d.wf
  | .forcedSwitch d => d.wf
  | .manualSwitch d => d.wf
  | .exercise d => d.wf
  | .clear d => d.wf
  | .streamSet src _ => decide (src < 64)
  | .coreNop n p => decide (n < 4) && p.wf
  | .halt n p => decide (n < 4) && p.wf
  | .sig n p => decide (n < 4) && p.wf
  | .wait n p => decide (n < 4) && p.wf
  | .loop n p => decide (n < 4) && p.wf
  | .br n p => decide (n < 4) && p.wf
  | .ldi n p => decide (n < 4) && p.wf
  | .ld n p => decide (n < 4) && p.wf
  | .st n p => decide (n < 4) && p.wf
  | .mld n p => decide (n < 4) && p.wf
  | .mac n p => decide (n < 4) && p.wf
  | .msb n p => decide (n < 4) && p.wf
  | .mul n p => decide (n < 4) && p.wf
  | .add n p => decide (n < 4) && p.wf
  | .sub n p => decide (n < 4) && p.wf
  | .and n p => decide (n < 4) && p.wf
  | .or n p => decide (n < 4) && p.wf
  | .xor n p => decide (n < 4) && p.wf
  | .mov n p => decide (n < 4) && p.wf
  | .shf n p => decide (n < 4) && p.wf
  | .sgnb n p => decide (n < 4) && p.wf
  | .blkx n p => decide (n < 4) && p.wf
  | .clr n p => decide (n < 4) && p.wf
  | .lda n p => decide (n < 4) && p.wf
  | .addx n p => decide (n < 4) && p.wf
  | .sha n p => decide (n < 4) && p.wf
  | .sta n p => decide (n < 4) && p.wf
  | .inp n p => decide (n < 4) && p.wf
  | .inComplete n => decide (n < 4)
  | .out n _ p => decide (n < 4) && p.wf
  | .outComplete n => decide (n < 4)
  | .infLoad d => d.wf
  | .infStart d => d.wf
  | .infHalt d => d.wf
  | .infDataRead d bad => d.wf && bad.all (fun p => placeWf p.1 p.2)
  | .infDataWrite d bad => d.wf && bad.all (fun p => placeWf p.1 p.2)
  | .domainPowerDown n sl => decide (n < 14) && decide (sl < 4)
  | .domainReady n sl _ keys => decide (n < 14) && decide (sl < 4) && keys.all (fun p => p.2.wf)
  | .wakeTimeout => true
  | .holdIntervalEnd => true
  | .simmerEntry => true
  | .entryTimeout c => decide (c < 8)
  | .darkGuardEnd => true
  | .lowPowerEnd => true
  | .awareEnd => true
  | .sample => true
  | .sampleEnd _ _ => true
  | .sampleTimeout => true
  | .waking arr memFail _ keys => decide (arr.all (fun p => decide (p.1 < 8) && decide (p.2 < 2251799813685248))) && memFail.all (fun n => decide (n < 4)) && keys.all (fun p => p.2.wf)
  | .wakeComplete => true
  | .simmerWake d => d.wf
  | .simmerHold d => d.wf
  | .simmerRelease d => d.wf
  | .pwrQuery d => d.wf
  | .txPllLock n => decide (n < 8)
  | .lightPresent c code _ _ => decide (c < 8) && decide (code < 4096)
  | .headEndPark c _ _ m => decide (c < 8) && m.wf
  | .headEndPowerMessage c _ m => decide (c < 8) && m.wf
  | .groupKeyMessage c i _ fetch => decide (c < 8) && decide (i < 4) && fetch.wf
  | .mapGapHoldEnd c => decide (c < 8)
  | .pulseWidthEnd w => decide (w < 9)

end Sys2Proof
end

