-- ==== Sys2Proof/Certificates/Slice0/Obligations.lean ====
section
/-!
DEFINITION. Sys2Proof/Certificates/Slice0/Obligations.lean: the statements for the provers.
-/
open Sys2Proof Sys2Proof.Machine


/-- The block's step: the command at the front of the queue runs on the state with the queue's rest, whatever the command. -/
def Obligations.StepTakesTheFrontCommand : Prop :=
  ∀ (s : State) (c : Instr) (rest : List Instr), s.pending = c :: rest → step s = exec c { s with pending := rest }

/-- A step with nothing waiting (the model's choice, log entry 8): from reset the main die boots; with the stage past RESET and no sleep a line cycle passes
(R24, R25), in which a slew moves the grid (R36), the aging scanner visits its next slot (R261), and of the registers only the error counts of pattern checkers, the
count of passes, and the Whistle's answer to its state change, LTB_HOLD_FRAMES and the bandwidth in force at a frame boundary; while the core clock is stopped a
sleep tick passes (R18, R38). -/
def Obligations.IdleStepPassesALineCycle : Prop :=
  (∀ s : State, s.pending = [] → s.pins.keepPower = true → s.pins.mainPower = true → s.pins.tripLow = false → s.fld F.HIF_STATUS_STAGE 0 = 0 →
    ∃ t, step s = .next t ∧ t.fld F.HIF_STATUS_STAGE 0 = 1 ∧ t.fld F.LFG_BOOT_BOOT 0 = (s.lfg.nvBoot + 1) % 65536 ∧
      t.lfg.volatile.getLast?.map Record.type = some 8 ∧ (s.linkOk = false → t.lfg.volatile.map Record.type = [4, 8])) ∧
  (∀ s : State, s.pending = [] → s.fld F.HIF_STATUS_STAGE 0 ≠ 0 → s.fld F.WHS_STATUS_STATE 0 ≠ 0 → s.ltb.sleep = none → s.ltb.cycle + 1 < 155520 →
    ∃ t, step s = .next t ∧ t.ltb = { s.ltb with lc := s.ltb.lc + 1, cycle := s.ltb.cycle + 1, slewAcc := s.ltb.slewAcc +
          (if s.fld F.LTB_STATUS_SLEWING 0 = 1 then s.slewPpb else 0) } ∧ t.pending = [] ∧ t.hif = s.hif ∧ t.lfg = s.lfg ∧
      t.tbl.scan = (if 64 ≤ s.tbl.deletes.length then s.tbl.scan else if s.tbl.scan < 0x200FFF then s.tbl.scan + 1 else 0) ∧
      KeepsRegs s t (applyFlds ++ [F.LLN_RX_PRBS_ERR_ERRORS, F.HPM_SD_PRBS_ERR_ERRORS, F.TBL_AGE_PASSES_PASSES])) ∧
  (∀ s : State, s.pending = [] → s.fld F.HIF_STATUS_STAGE 0 ≠ 0 → s.fld F.WHS_STATUS_STATE 0 ≠ 0 → s.ltb.sleep = none → s.ltb.cycle = 155519 →
    ∃ t, step s = .next t ∧ t.ltb.cycle = 0 ∧ t.ltb.frame = (s.ltb.frame + 1) % 2 ^ 46 ∧ t.ltb.lc = s.ltb.lc + 1 ∧ t.pending = [] ∧
      t.ltb.bw = (if s.fld F.LTB_PLL_CFG_BW 0 = 3 then 1 else s.fld F.LTB_PLL_CFG_BW 0) ∧
      t.fld F.LTB_HOLD_FRAMES_FRAMES 0 = (if s.tstate = 1 then min (s.fld F.LTB_HOLD_FRAMES_FRAMES 0 + 1) F.LTB_HOLD_FRAMES_FRAMES.top
        else s.fld F.LTB_HOLD_FRAMES_FRAMES 0) ∧ t.hif = s.hif ∧ t.lfg = s.lfg ∧
      KeepsRegs s t (applyFlds ++ [F.LTB_HOLD_FRAMES_FRAMES, F.LLN_RX_PRBS_ERR_ERRORS, F.HPM_SD_PRBS_ERR_ERRORS, F.TBL_AGE_PASSES_PASSES])) ∧
  (∀ s : State, s.pending = [] → s.fld F.HIF_STATUS_STAGE 0 ≠ 0 → s.fld F.WHS_STATUS_STATE 0 ≠ 0 → s.ltb.sleep.isSome = true → s.simmer ≠ 7 →
    s.pins.keepPower = true → step s = .next { s with ltb := { s.ltb with ticks := s.ltb.ticks + 1 } })

/-- The machine right after reset: every register at its reset value (R480), the HIF stage RESET, the Whistle in INIT with every lane's TX_DISABLE asserted, no
domain off, nothing waiting. -/
def Obligations.ResetState : Prop :=
  (∀ (f : Fld) (i : Nat), State.reset.fld f i = f.rst) ∧ State.reset.fld F.HIF_STATUS_STAGE 0 = 0 ∧ State.reset.fld F.WHS_STATUS_STATE 0 = 0 ∧
  State.reset.fld F.WHS_STATUS_TXDIS 0 = 0xFF ∧ State.reset.tstate = 2 ∧ (∀ n sl, State.reset.dom n sl = 2) ∧ State.reset.pending = [] ∧
  State.reset.stamp = 0 ∧ State.reset.lfg.volatile = [] ∧ State.reset.hif.flight = []

/-- The invariants hold at reset. -/
def Obligations.ResetMeetsTheInvariants : Prop := State.reset.regsCanonical ∧ State.reset.timeLegal

/-- Every step keeps the register file in its one canonical form, so that equal register files are equal data. -/
def Obligations.EveryStepKeepsTheRegisterFileCanonical : Prop :=
  ∀ s t : State, s.regsCanonical → step s = .next t → t.regsCanonical

/-- Every step keeps the line time legal (R25): the line cycle below 155,520, the frame below 2^46, and the stamp recorded for a sleep legal. -/
def Obligations.EveryStepKeepsTheLineTimeLegal : Prop :=
  ∀ s t : State, s.timeLegal → step s = .next t → t.timeLegal

/-- R10, R17, R481 for the units whose registers have no side effect: an aligned 32-bit write sets the RW fields of its word and clears the W1C bits written 1, and
nothing else changes but the journal, which takes one REG_WRITE record from the first entry to RUN on. -/
def Obligations.RegisterWritesTakeEffect : Prop :=
  (∀ (s : State) (addr : Nat) (v : Word), addr / 0x100000 ∈ [4, 5, 6, 11, 17] → addr % 4 = 0 → s.access addr = .ok → s.absentReg addr = false →
    Gives (.setupRegisterWrite addr v none) s (fun t =>
      (∀ p ∈ fieldsAt addr, p.1.acc = .rw → t.fld p.1 p.2 = bits v.toNat p.1.hi p.1.lo) ∧
      (∀ p ∈ fieldsAt addr, p.1.acc = .w1c → bits v.toNat p.1.hi p.1.lo % 2 = 1 → t.fld p.1 p.2 = 0) ∧
      (∀ (f : Fld) (i : Nat), f.id ∉ commitFlds.map Fld.id →
        (∀ p ∈ fieldsAt addr, p.1.id = f.id → p.2 = i → p.1.acc ≠ .rw ∧ p.1.acc ≠ .w1c) → t.fld f i = s.fld f i) ∧
      t = { s with regs := t.regs, lfg := t.lfg } ∧
      (if s.hif.regsJournalled && isSetup addr then ∃ r, t.lfg.volatile.head? = some r ∧ r.type = 2 ∧ r.src = 0x20 ∧ r.payload.take 2 = [addr, v.toNat]
        else t.lfg = s.lfg))) ∧
  (∀ (s : State) (addr : Nat) (v : Word), addr % 4 = 0 → keepingAddr addr = true → s.linkOk = false → Gives (.setupRegisterWrite addr v none) s (fun t =>
      t.fld F.HIF_EVENT_BAR_ERROR 0 = 1 ∧ t.fld F.HIF_ERR_LOC_ERR_LOC 0 = errUnit 0 ∧ t = { s with regs := t.regs, hif := t.hif, lfg := t.lfg } ∧
      KeepsRegs s t (eventFlds ++ [F.HIF_EVENT_BAR_ERROR, F.HIF_EVENT_EVCNT1_BAR_ERROR, F.HIF_ERR_LOC_ERR_LOC])))

/-- R14: where a hardware set of a status bit falls in the cycle of the host's write, the bit reads 1 afterwards, in every unit. Without one, a written 1
clears the bit and a written 0 leaves it; said for the units whose registers have no side effect. -/
def Obligations.AHardwareSetWinsOverAClear : Prop :=
  (∀ (s : State) (addr : Nat) (v sets : Word) (p : Fld × Nat), addr % 4 = 0 → s.access addr = .ok → p ∈ fieldsAt addr → p.1.acc = .w1c →
    bits sets.toNat p.1.hi p.1.lo % 2 = 1 → Gives (.w1cClear addr v sets) s (fun t => s.absentReg addr = false → t.fld p.1 p.2 = 1)) ∧
  (∀ (s : State) (addr : Nat) (v : Word) (p : Fld × Nat), addr / 0x100000 ∈ [4, 5, 6, 11, 17] → addr % 4 = 0 → s.access addr = .ok →
    s.absentReg addr = false → p ∈ fieldsAt addr → p.1.acc = .w1c → Gives (.w1cClear addr v 0) s (fun t =>
      t.fld p.1 p.2 = (if bits v.toNat p.1.hi p.1.lo % 2 = 1 then 0 else s.fld p.1 p.2) ∧ t = { s with regs := t.regs, lfg := t.lfg }))

/-- R16: a read of an RC counter returns the value before the event of its own cycle and leaves that event alone; no other field changes. -/
def Obligations.AReadThatClears : Prop :=
  ∀ (s : State) (addr : Nat) (evs : Word), addr % 4 = 0 → s.access addr = .ok → hiOf addr = none → Gives (.rcRead addr false evs) s (fun t =>
    t.hif.readData = [s.readWord addr] ∧
    (∀ p ∈ fieldsAt addr, p.1.acc = .rc → p.1 ≠ F.STR_RQ_DEPTH_PEAK → p.1 ≠ F.TBL_STASH_PEAK →
      t.fld p.1 p.2 = min (p.1.rst + bits evs.toNat p.1.hi p.1.lo) p.1.top) ∧
    (∀ (f : Fld) (i : Nat), (∀ p ∈ fieldsAt addr, p.1.id = f.id → p.2 = i → p.1.acc ≠ .rc) → t.fld f i = s.fld f i) ∧
    t = { s with regs := t.regs, hif := { s.hif with readData := t.hif.readData } })

/-- R13, R12: a read of a low register latches its high register, and later reads of the high register return the latch; an access of a wrong size or
alignment is reported and changes nothing else. -/
def Obligations.LatchedAndBadReads : Prop :=
  (∀ (s : State) (addr h : Nat), s.access addr = .ok → hiOf addr = some h → Gives (.lowRegisterRead addr false) s (fun t =>
    t.hif.readData = [s.readWord addr] ∧ t.readWord h = s.peek h ∧
    t = { s with hif := { s.hif with readData := t.hif.readData, hiLatch := t.hif.hiLatch } })) ∧
  (∀ (s : State) (addr size : Nat), ¬ ((size = 4 ∨ size = 8) ∧ addr % size = 0) → Gives (.badBarAccess addr size false) s (fun t =>
    t.hif.readData = allOnes size ∧ t.fld F.HIF_EVENT_BAR_ERROR 0 = 1 ∧ t.fld F.HIF_ERR_LOC_ERR_LOC 0 = errUnit 0 ∧
    t = { s with regs := t.regs, hif := t.hif, lfg := t.lfg } ∧
    KeepsRegs s t (eventFlds ++ [F.HIF_EVENT_BAR_ERROR, F.HIF_EVENT_EVCNT1_BAR_ERROR, F.HIF_ERR_LOC_ERR_LOC]))) ∧
  (∀ (s : State) (addr size : Nat), ¬ ((size = 4 ∨ size = 8) ∧ addr % size = 0) → Gives (.badBarAccess addr size true) s (fun t =>
    t.hif.readData = s.hif.readData ∧ t.fld F.HIF_EVENT_BAR_ERROR 0 = 1 ∧ t = { s with regs := t.regs, hif := t.hif, lfg := t.lfg } ∧
    KeepsRegs s t (eventFlds ++ [F.HIF_EVENT_BAR_ERROR, F.HIF_EVENT_EVCNT1_BAR_ERROR, F.HIF_ERR_LOC_ERR_LOC])))

/-- R467, R466, R83, R477: what each reset input and power event resets and what survives it. -/
def Obligations.ResetInputs : Prop :=
  (∀ (s : State) (a b c : Bool) (deg : Int) (lost : Nat), s.pins.keepPower = true → s.pins.mainPower = true → s.pins.tripLow = false →
    Gives (.mrstN a b c deg lost) s (fun t =>
      t.fld F.HIF_STATUS_STAGE 0 = 1 ∧ t.fld F.LFG_BOOT_BOOT 0 = (s.lfg.nvBoot + 1) % 65536 ∧ t.lfg.nv = s.lfg.nv ∧ t.lfg.resetCause = 4 ∧
      t.linkOk = false ∧ (s.linkOk = true → t.fld F.WHS_STATUS_TXDIS 0 = 0xFF) ∧ t.whs.latch = s.whs.latch ∧ t.pending = s.pending ∧
      (∀ p ∈ t.cdy, 0x038 ≤ p.1) ∧ t.hif.flight = [] ∧ t.dsf = State.reset.dsf ∧ t.tmg = State.reset.tmg ∧ t.inf = State.reset.inf ∧
      (∀ (f : Fld) (i : Nat), keepingField f.id = false → f.id ∉ [F.HIF_STATUS_STAGE, F.HIF_JRN_HEAD_LO_SEQ, F.HIF_JRN_HEAD_HI_SEQ].map Fld.id →
        t.fld f i = f.rst))) ∧
  (∀ (s : State) (a b c d : Bool) (deg : Int), s.pins.keepPower = true → s.pins.mainPower = true → s.pins.tripLow = false →
    Gives (.krstN a b c d deg) s (fun t =>
      t.fld F.HIF_STATUS_STAGE 0 = 1 ∧ t.fld F.WHS_STATUS_STATE 0 = 1 ∧ t.whs.latch = s.whs.latch ∧ t.lfg.nv = s.lfg.nv ∧ t.lfg.resetCause = 2 ∧
      t.cdy = [] ∧ t.pins.strap1 = b ∧ t.pending = s.pending ∧
      (∀ (f : Fld) (i : Nat), keepingField f.id = false → f.id ∉ [F.HIF_STATUS_STAGE, F.HIF_JRN_HEAD_LO_SEQ, F.HIF_JRN_HEAD_HI_SEQ].map Fld.id →
        t.fld f i = f.rst))) ∧
  (∀ (s : State) (lost : Nat), s.pins.mainPower = true → Gives (.mainDiePowerLoss lost) s (fun t =>
      t.pins = { s.pins with mainPower := false } ∧ t.lfg.nv = s.lfg.nv ∧ t.lfg.unmirrored = 0 ∧ t.lfg.volatile = [] ∧ t.whs.latch = s.whs.latch ∧
      (s.linkOk = true → t.fld F.WHS_STATUS_TXDIS 0 = 0xFF) ∧ (∀ (f : Fld) (i : Nat), keepingField f.id = false → t.fld f i = f.rst))) ∧
  (∀ (s : State), s.pins.keepPower = true → Gives .keepingDiePowerLoss s (fun t =>
      t.pins = { s.pins with keepPower := false } ∧ t.fld F.WHS_STATUS_LINK_OK 0 = 0 ∧ t.fld F.WHS_STATUS_TXDIS 0 = 0xFF ∧ (∀ p ∈ t.cdy, p.1 < 0x038) ∧
      t.lfg = s.lfg ∧ t.hif = s.hif ∧ t.whs.latch = s.whs.latch ∧
      (∀ (f : Fld) (i : Nat), keepingField f.id = false → f.id ∉ [F.UBE_CH_DISC_STATE, F.UBE_CH_LOSS_FRAMES].map Fld.id → t.fld f i = s.fld f i))) ∧
  (∀ (s : State) (lost : Nat), s.pins.mainPower = true → s.pins.tripLow = false → Gives (.thermtrip lost) s (fun t =>
      t.pins = { s.pins with tripLow := true } ∧ t.fld F.HIF_STATUS_STAGE 0 = 0 ∧ t.lfg.nv = s.lfg.nv ∧
      (∀ (f : Fld) (i : Nat), keepingField f.id = false → t.fld f i = f.rst))) ∧
  (∀ (s : State) (deg : Int), 105 ≤ deg → Gives (.thermAlert deg) s (fun t => t = { s with pins := { s.pins with alertLow := true } })) ∧
  (∀ (s : State) (deg : Int), deg < 100 → Gives (.thermAlert deg) s (fun t => t = { s with pins := { s.pins with alertLow := false } })) ∧
  (∀ s : State, Gives .trstN s (fun t => t = s))

/-- R47, R48, R467: a function-level reset returns HIF's registers, but for those it keeps, to their reset values and moves the stage; PERST_N low is a link
loss, and its release leaves HIF as after a function-level reset. Every other unit keeps running. -/
def Obligations.FunctionLevelReset : Prop :=
  (∀ s : State, s.pins.mainPower = true → s.pins.tripLow = false → Gives .flr s (fun t =>
      t.fld F.HIF_STATUS_STAGE 0 = (if s.fld F.HIF_STATUS_STAGE 0 = 3 ∨ s.fld F.HIF_STATUS_STAGE 0 = 4 then 3
        else if s.fld F.HIF_STATUS_STAGE 0 = 2 then 1 else s.fld F.HIF_STATUS_STAGE 0 % 2 ^ F.HIF_STATUS_STAGE.width) ∧
      t.hif.rings = [] ∧ t.hif.ready = s.hif.ready ∧ t.hif.saucer = s.hif.saucer ∧ t.hif.engines = s.hif.engines ∧
      (∃ r, t.lfg.volatile.head? = some r ∧ r.type = 4 ∧ r.payload.getD 2 0 = 1) ∧
      (∀ (f : Fld) (i : Nat), f.base < 0x100000 → f.lo < 32 → f.id ∉ flrKeeps → f.id ∉ [F.HIF_STATUS_STAGE].map Fld.id → t.fld f i = f.rst) ∧
      (∀ (f : Fld) (i : Nat), 0x100000 ≤ f.base → f.id ∉ commitFlds.map Fld.id → t.fld f i = s.fld f i) ∧
      t = { s with regs := t.regs, hif := t.hif, lfg := t.lfg })) ∧
  (∀ s : State, Gives (.perstN true) s (fun t => t.hostUp = false ∧ t.fld F.HIF_STATUS_BME 0 = 0 ∧ t.pins.perstLow = true ∧
      t = { s with regs := t.regs, hif := { s.hif with linkUp := false }, pins := { s.pins with perstLow := true } } ∧
      KeepsRegs s t [F.HIF_STATUS_BME])) ∧
  (∀ s : State, s.pins.perstLow = true → s.pins.mainPower = true → s.pins.tripLow = false → Gives (.perstN false) s (fun t =>
      t.pins = { s.pins with perstLow := false } ∧ t.hif.rings = [] ∧
      (∀ (f : Fld) (i : Nat), f.base < 0x100000 → f.lo < 32 → f.id ∉ flrKeeps → f.id ∉ [F.HIF_STATUS_STAGE].map Fld.id → t.fld f i = f.rst)))

/-- R444, R445: a waking domain comes ON and its stalled demands are served in order; one that waited 12 µs completes as a timeout, and a stalled read then
returns all-ones. -/
def Obligations.DomainDemands : Prop :=
  (∀ (s : State) (n sl : Nat) (q : Bool) (ks : List (Nat × KeyFetch)), s.dom n sl = 3 → (∀ d ∈ s.pwr.stalled, ¬ (d.dom = n ∧ d.slice = sl)) →
    Gives (.domainReady n sl q ks) s (fun t => t.dom n sl = 2 ∧ t.pwr.stalled = s.pwr.stalled)) ∧
  (∀ (s : State) (d : Demand) (rest : List Demand), s.pwr.stalled = d :: rest → s.dom d.dom d.slice ≠ 2 → d.kind = 0 →
    d.lc + usLc 12 ≤ s.ltb.lc → Gives .wakeTimeout s (fun t =>
      t.hif.readData = [0xFFFFFFFF] ∧ t.pwr = { s.pwr with stalled := rest } ∧ t.fld F.PWR_EVENT_WAKE_TIMEOUT 0 = 1 ∧
      KeepsRegs s t (eventFlds ++ [F.PWR_EVENT_WAKE_TIMEOUT, F.PWR_EVENT_EVCNT_WAKE_TIMEOUT]) ∧
      t = { s with regs := t.regs, hif := t.hif, lfg := t.lfg, pwr := t.pwr }))

/-- R52 to R56: a poll that is due takes each open ring's producer index, where it neither moves backwards nor lies beyond the ring, and stops the ring otherwise, and
writes the terminal's own index where it changed; a wrong MAGIC clears RINGS_EN. A poll that is not due does nothing; a nudge asks for one and changes nothing else. -/
def Obligations.DoorbellPolls : Prop :=
  (∀ (s : State) (pg : DbPage) (n : Nat), n < 16 → s.polls = true → s.pollDue = true → s.fld F.HIF_CTRL_DB_CHECK 0 = 0 ∨ pg.magic = s.fld F.HIF_DB_MAGIC_MAGIC 0 →
    s.ringOpen 0 n = true → Gives (.doorbellPoll pg) s (fun t =>
      let v := pg.cmdTail.getD n 0
      (idxDist v (s.ring 0 n).tail < 2 ^ 31 → idxDist v (s.ring 0 n).head ≤ s.ringSize 0 n → t.ring 0 n = { s.ring 0 n with tail := v % 2 ^ 32 }) ∧
      (2 ^ 31 ≤ idxDist v (s.ring 0 n).tail → t.ring 0 n = s.ring 0 n ∧ t.fld F.HIF_CMD_STATUS_STOPPED n = 1 ∧ t.fld F.HIF_EVENT_BAD_INDEX 0 = 1) ∧
      (idxDist v (s.ring 0 n).tail < 2 ^ 31 → s.ringSize 0 n < idxDist v (s.ring 0 n).head →
        t.ring 0 n = s.ring 0 n ∧ t.fld F.HIF_CMD_STATUS_STOPPED n = 1) ∧
      (SMap.get s.hif.shown n 0 ≠ (s.ring 0 n).head → ⟨s.dbBase + 0x100 + 4 * n, [(s.ring 0 n).head]⟩ ∈ t.hif.hostWrites) ∧
      t.hif.pollAsked = false ∧ t.hif.lastPoll = s.ltb.lc ∧ t = { s with regs := t.regs, hif := t.hif, lfg := t.lfg } ∧
      KeepsRegs s t (eventFlds ++ [F.HIF_CMD_STATUS_STOPPED, F.HIF_CPL_STATUS_STOPPED, F.HIF_EVT_STATUS_STOPPED, F.HIF_PUNT_STATUS_STOPPED,
        F.HIF_INJ_STATUS_STOPPED, F.HIF_EVENT_BAD_INDEX, F.HIF_EVENT_EVCNT0_BAD_INDEX, F.HIF_ERR_LOC_ERR_LOC]))) ∧
  (∀ (s : State) (pg : DbPage), s.polls = true → s.pollDue = true → s.fld F.HIF_CTRL_DB_CHECK 0 = 1 → pg.magic ≠ s.fld F.HIF_DB_MAGIC_MAGIC 0 →
    Gives (.doorbellPoll pg) s (fun t => t.fld F.HIF_CTRL_RINGS_EN 0 = 0 ∧ t.fld F.HIF_EVENT_MAGIC_MISMATCH 0 = 1 ∧
      t = { s with regs := t.regs, hif := { s.hif with pollAsked := false, lastPoll := s.ltb.lc } } ∧
      KeepsRegs s t [F.HIF_CTRL_RINGS_EN, F.HIF_EVENT_MAGIC_MISMATCH, F.HIF_EVENT_EVCNT0_MAGIC_MISMATCH])) ∧
  (∀ (s : State) (pg : DbPage), s.polls = false ∨ s.pollDue = false → Gives (.doorbellPoll pg) s (fun t => t = s)) ∧
  (∀ (s : State) (v : Word), s.polls = true → v.toNat % 2 = 1 → Gives (.hifNudge v) s (fun t => t = { s with hif := { s.hif with pollAsked := true } }))

/-- R57: every well-formed descriptor comes back whole from its sixteen 32-bit words, every field at every value it can hold, and sixteen words whose reserved bits
are zero come back from the descriptor they spell. -/
def Obligations.ADescriptorsWordsSpellItBothWays : Prop :=
  (∀ (d : Desc), d.wf = true → (descWords d).length = 16 ∧ (∀ w ∈ descWords d, w < 2 ^ 32) ∧ descOf d.ring d.index (descWords d) d.data = d) ∧
  (∀ (ring index : Nat) (ws : List Nat) (data : List Word), ws.length = 16 → (∀ w ∈ ws, w < 2 ^ 32) → bits (ws.getD 1 0) 31 5 = 0 →
    bits (ws.getD 4 0) 31 24 = 0 → descWords (descOf ring index ws data) = ws)

/-- R57, R60, R63 to R66: a descriptor is fetched, its sixteen words laid out, with its completion space reserved, and enters its ring's ready list; spilled entries
return in order, or are lost and journalled where their refetch fails; an entry that waited at the head of its list longer than AGE_LIMIT rises one priority; the
first entry able to start is dispatched, and an undefined opcode completes at once. -/
def Obligations.CommandsAreFetchedAndDispatched : Prop :=
  (∀ (s : State) (inj : Bool) (n : Nat) (ws : List Nat) (data : List Word), let kind := if inj then 4 else 0
    n < 16 → s.fld (ringCpl kind) n < 16 → s.polls = true → s.fld F.HIF_CTRL_RINGS_EN 0 = 1 → s.ringOpen kind n = true →
    (s.ring kind n).head ≠ (s.ring kind n).tail → s.cplRoom kind n = true → s.roomAt (s.ringPriority kind n) = .chip →
    Gives (.commandFetch inj n ws data) s (fun t =>
      let d := descOf n (s.ring kind n).head ws data
      t.ring kind n = { s.ring kind n with head := ((s.ring kind n).head + 1) % 2 ^ 32 } ∧
      (t.ring 1 (s.fld (ringCpl kind) n)).reserved = (s.ring 1 (s.fld (ringCpl kind) n)).reserved + 1 ∧
      t.hif.flight = s.hif.flight ++ [⟨inj, d, false, false, none⟩] ∧
      t.readyAt (s.ringPriority kind n) = s.readyAt (s.ringPriority kind n) ++ [.cmd inj d] ∧ t = { s with hif := t.hif })) ∧
  (∀ (s : State) (inj : Bool) (n : Nat) (ws : List Nat) (data : List Word), let kind := if inj then 4 else 0
    s.polls = true → s.fld F.HIF_CTRL_RINGS_EN 0 = 1 → s.ringOpen kind n = true → (s.ring kind n).head ≠ (s.ring kind n).tail → s.cplRoom kind n = true →
    s.roomAt (s.ringPriority kind n) = .none → Gives (.commandFetch inj n ws data) s (fun t =>
      t.fld F.HIF_EVENT_SAUCER_FULL 0 = 1 ∧ OnlyRegs s t [F.HIF_EVENT_SAUCER_FULL, F.HIF_EVENT_EVCNT1_SAUCER_FULL])) ∧
  (∀ (s : State) (p : Nat) (e : Entry) (rest : List Entry), s.saucerAt p = e :: rest → (s.readyAt p).length < 1024 → s.ddrInService = true →
    s.ddrGood (s.oldestSpill p / 64) = true → Gives (.saucerReturn p 0) s (fun t =>
      t.readyAt p = s.readyAt p ++ [e] ∧ t.saucerAt p = rest ∧ t = { s with hif := t.hif })) ∧
  (∀ (s : State) (p fails : Nat) (d : Desc) (rest : List Entry), s.saucerAt p = .cmd false d :: rest → (s.readyAt p).length < 1024 → s.ddrInService = true →
    s.refetchMax < fails → Gives (.saucerReturn p fails) s (fun t => t.saucerAt p = rest ∧ t.readyAt p = s.readyAt p ∧
      (∃ r, t.lfg.volatile.head? = some r ∧ r.status = 6 ∧ r.flags = 1 ∧ r.opcode = 0 ∧ r.tag = 0 ∧ r.result = s.ddrLoc (s.oldestSpill p) ∧
        r.src = d.ring ∧ r.index = d.index) ∧
      t = { s with regs := t.regs, hif := t.hif, lfg := t.lfg } ∧
      KeepsRegs s t (commitFlds ++ [F.MEM_CH_COUNT_UNCORR, F.MEM_EVENT_UNCORR, F.MEM_EVENT_EVCNT_UNCORR]))) ∧
  (∀ (s : State) (p : Nat) (e : Entry) (rest : List Entry), s.fld F.HIF_DISPATCH_CFG_AGE_LIMIT 0 ≠ 0 → 2 ≤ p → s.readyAt p = e :: rest →
    usLc (s.fld F.HIF_DISPATCH_CFG_AGE_LIMIT 0) < s.ltb.lc - SMap.get s.hif.headSince p 0 → s.roomAt (p - 1) = .chip → Gives (.agePromotion p) s (fun t =>
      t.readyAt p = rest ∧ t.readyAt (p - 1) = s.readyAt (p - 1) ++ [e] ∧ t = { s with hif := t.hif })) ∧
  (∀ (s : State) (p : Nat), s.fld F.HIF_DISPATCH_CFG_AGE_LIMIT 0 = 0 ∨ p < 2 ∨
      s.ltb.lc - SMap.get s.hif.headSince p 0 ≤ usLc (s.fld F.HIF_DISPATCH_CFG_AGE_LIMIT 0) → Gives (.agePromotion p) s (fun t => t = s)) ∧
  (∀ (s : State) (p : Nat) (d : Desc) (rest : List Entry), s.nextEntry (List.range 8) = some (p, .cmd false d, rest) → opcodeDefined d.opcode = true →
    s.domOfCmd d = none → (∀ k < 4, (s.engine k).waiting = []) → Gives .dispatch s (fun t => t.readyAt p = rest ∧
      (∀ f ∈ t.hif.flight, f.inj = false → f.desc.ring = d.ring → f.desc.index = d.index → f.started = true) ∧ t = { s with hif := t.hif })) ∧
  (∀ (s : State) (p : Nat) (d : Desc) (rest : List Entry), s.nextEntry (List.range 8) = some (p, .cmd false d, rest) → opcodeDefined d.opcode = false →
    (∀ k < 4, (s.engine k).waiting = []) → Gives .dispatch s (fun t => t.readyAt p = rest ∧ Ends d stBadOpcode 0 t ∧
      t = { s with regs := t.regs, hif := t.hif, lfg := t.lfg } ∧ KeepsRegs s t commitFlds))

/-- R59, R67, R82, R84, R74: the oldest command of a ring that is done writes its completion, gives its reserved space back, and accumulates toward its vector; no
command retires while LAGGING is 1, and none that is DURABLE before its record is mirrored. A vector is raised once COUNT entries have accumulated, or HOLDOFF has
passed since the first that it has not signalled. -/
def Obligations.CommandsRetire : Prop :=
  (∀ (s : State) (ring : Nat) (f : Flight) (rest : List Flight) (dn : Done), s.fld F.LFG_STATUS_LAGGING 0 ≠ 1 →
    firstOf false ring s.hif.flight = some (f, rest) → f.done = some dn → f.drop = false → f.desc.durable = false → dn.saucerLost = false →
    s.hostUp = true → f.desc.quiet = false ∨ dn.status ≠ 0 → f.desc.irq = false → Gives (.retire false ring) s (fun t =>
      let c := s.fld F.HIF_CMD_CFG_CPL f.desc.ring
      let r := s.ring 1 c
      let v := s.fld F.HIF_CPL_CFG_VEC c
      t.hif.hostWrites = s.hif.hostWrites ++ [⟨s.ringBase 1 c + (r.head % s.ringSize 1 c) * 16,
        [phaseAt r.head (s.ringSize 1 c) * 2 ^ 31 + dn.status * 2 ^ 16 + f.desc.tag, dn.seq % 2 ^ 32, dn.result,
          f.desc.ring * 2 ^ 27 + f.desc.index % 2 ^ 16]⟩] ∧
      t.ring 1 c = ⟨(r.head + 1) % 2 ^ 32, r.tail, r.reserved - 1⟩ ∧ (t.vec v).owed = (s.vec v).owed + 1 ∧ t.hif.flight = rest ∧
      t = { s with hif := t.hif, lfg := { s.lfg with missed := t.lfg.missed } })) ∧
  (∀ (s : State) (ring : Nat) (f : Flight) (rest : List Flight) (dn : Done), firstOf true ring s.hif.flight = some (f, rest) → f.done = some dn →
    s.hostUp = false → Gives (.retire true ring) s (fun t => t.hif.flight = rest ∧ t.hif.hostWrites = s.hif.hostWrites ∧
      t = { s with hif := t.hif, lfg := { s.lfg with missed := t.lfg.missed } })) ∧
  (∀ (s : State) (ring : Nat), s.fld F.LFG_STATUS_LAGGING 0 = 1 → Gives (.retire false ring) s (fun t => t = s)) ∧
  (∀ (s : State) (ring : Nat) (f : Flight) (rest : List Flight) (dn : Done), firstOf false ring s.hif.flight = some (f, rest) → f.done = some dn →
    f.desc.durable = true → s.unmirroredSeq dn.seq = true → s.mirrorOn = true → Gives (.retire false ring) s (fun t => t = s)) ∧
  (∀ (s : State) (kind n : Nat), let v := s.fld (ringVec kind) n
    0 < (s.vec v).owed → s.vecCount v ≤ (s.vec v).owed ∨ s.vecHeldOff v = true → Gives (.vectorRaise kind n) s (fun t =>
      t.hif.msix = s.hif.msix ++ [v] ∧ t.vec v = ⟨0, 0⟩ ∧ t = { s with hif := t.hif })) ∧
  (∀ (s : State) (kind n : Nat), let v := s.fld (ringVec kind) n
    (s.vec v).owed < s.vecCount v → s.vecHeldOff v = false → Gives (.vectorRaise kind n) s (fun t => t = s))

/-- R58, R69: the HIF commands end with their status and RESULT, or are refused with an argument out of range; RING_START and RING_STOP move STOPPED, JOURNAL_READ and
ENGINE_QUERY write the host's buffer; a service engine that restarts is counted and journalled, and the commands it was executing end with FAULT. -/
def Obligations.HostInterfaceCommands : Prop :=
  (∀ (s : State) (d : Desc), d.opcode = 0x0000 → Gives (.nop d) s (EndsOnly d stOk 0 s)) ∧
  (∀ (s : State) (d : Desc), d.opcode = 0x0001 → Gives (.journalMark d) s (EndsOnly d stOk 0 s)) ∧
  (∀ (s : State) (d : Desc), d.opcode = 0x0002 → d.buf = true → 1 ≤ d.dw 7 % 2 ^ 17 → d.dw 7 % 2 ^ 17 ≤ 65536 → d.dw 7 % 2 ^ 17 * 64 ≤ d.bufLen →
    Gives (.journalRead d) s (fun t =>
      let rs := ((s.available (bit (d.dw 8) 0)).filter (fun p => decide ((d.dw 8 / 2 ^ 16) * 2 ^ 64 + d.dw 6 * 2 ^ 32 + d.dw 5 ≤ p.1))).take (d.dw 7 % 2 ^ 17)
      Ends d stOk rs.length t ∧ t.hif.hostWrites = s.hif.hostWrites ++ [⟨d.bufAddr, (rs.map (fun p => p.2.words)).flatten⟩] ∧
      t = { s with regs := t.regs, hif := t.hif, lfg := t.lfg } ∧ KeepsRegs s t commitFlds)) ∧
  (∀ (s : State) (d : Desc), d.opcode = 0x0002 → d.buf = false ∨ d.bufLen < d.dw 7 % 2 ^ 17 * 64 → Gives (.journalRead d) s (EndsOnly d stBadArg 4 s)) ∧
  (∀ (s : State) (d : Desc), d.opcode = 0x0002 → d.buf = true → d.dw 7 % 2 ^ 17 = 0 ∨ 65536 < d.dw 7 % 2 ^ 17 → d.dw 7 % 2 ^ 17 * 64 ≤ d.bufLen →
    Gives (.journalRead d) s (EndsOnly d stBadArg 7 s)) ∧
  (∀ (s : State) (d : Desc), d.opcode = 0x0003 → bit (d.dw 5) 8 = true → ringControlBad d = false → s.fld (ringEn (bits (d.dw 5) 7 5)) (bits (d.dw 5) 4 0) ≠ 0 → Gives (.ringStart d) s (fun t =>
      Ends d stOk 0 t ∧ t.fld (ringStopped (bits (d.dw 5) 7 5)) (bits (d.dw 5) 4 0) = 0 ∧
      t = { s with regs := t.regs, hif := t.hif, lfg := t.lfg } ∧ KeepsRegs s t (commitFlds ++ [ringStopped (bits (d.dw 5) 7 5)]))) ∧
  (∀ (s : State) (d : Desc), d.opcode = 0x0003 → bit (d.dw 5) 8 = true → ringControlBad d = false →
    s.fld (ringEn (bits (d.dw 5) 7 5)) (bits (d.dw 5) 4 0) = 0 → Gives (.ringStart d) s (EndsOnly d stStateRefused
      (refusedWord 0x08 (bits (d.dw 5) 7 5 * 32 + bits (d.dw 5) 4 0) (s.fld (ringStopped (bits (d.dw 5) 7 5)) (bits (d.dw 5) 4 0) * 2)) s)) ∧
  (∀ (s : State) (d : Desc), d.opcode = 0x0003 → bit (d.dw 5) 8 = false → ringControlBad d = false → Gives (.ringStop d) s (fun t =>
      Ends d stOk 0 t ∧ t.fld (ringStopped (bits (d.dw 5) 7 5)) (bits (d.dw 5) 4 0) = 1 ∧
      t = { s with regs := t.regs, hif := t.hif, lfg := t.lfg } ∧ KeepsRegs s t (commitFlds ++ [ringStopped (bits (d.dw 5) 7 5)]))) ∧
  (∀ (s : State) (d : Desc), d.opcode = 0x0003 → bit (d.dw 5) 8 = true → ringControlBad d = true → Gives (.ringStart d) s (EndsOnly d stBadArg 5 s)) ∧
  (∀ (s : State) (d : Desc), d.opcode = 0x0003 → bit (d.dw 5) 8 = false → ringControlBad d = true → Gives (.ringStop d) s (EndsOnly d stBadArg 5 s)) ∧
  (∀ (s : State) (d : Desc), d.opcode = 0x0004 → d.buf = true → 64 ≤ d.bufLen → Gives (.engineQuery d) s (fun t => Ends d stOk 0 t ∧
      t.hif.hostWrites = s.hif.hostWrites ++ [⟨d.bufAddr, ((List.range 4).map (fun k =>
        [s.fld (engRunning k) 0, (s.engine k).restarts, (s.engine k).pc, 0])).flatten⟩] ∧
      t = { s with regs := t.regs, hif := t.hif, lfg := t.lfg } ∧ KeepsRegs s t commitFlds)) ∧
  (∀ (s : State) (d : Desc), d.opcode = 0x0004 → d.buf = false ∨ d.bufLen < 64 → Gives (.engineQuery d) s (EndsOnly d stBadArg 4 s)) ∧
  (∀ (s : State) (k pc : Nat) (work : List Desc) (tasks : List Nat), s.fld (engRunning k) 0 ≠ 0 → Gives (.engineRestart k pc work tasks) s (fun t =>
      (t.engine k).restarts = min ((s.engine k).restarts + 1) 0xFFFFFFFF ∧ (t.engine k).pc = pc ∧ t.fld F.HIF_EVENT_ENGINE_RESTART 0 = 1 ∧
      t.fld (engRestarts k) 0 = min (s.fld (engRestarts k) 0 + 1) (engRestarts k).top ∧
      (∀ d ∈ work, ⟨d, stFault, errUnit 0⟩ ∈ t.lfg.held ∨ ∃ f ∈ t.hif.flight, f.inj = false ∧ f.desc.ring = d.ring ∧ f.desc.index = d.index ∧
        ∃ dn, f.done = some dn ∧ dn.status = stFault ∧ dn.result = errUnit 0) ∧
      (∃ r, t.lfg.volatile.head? = some r ∧ r.type = 7 ∧ r.payload = [k, min ((s.engine k).restarts + 1) 0xFFFFFFFF, pc, 0, 0, 0]) ∧
      t = { s with regs := t.regs, hif := t.hif, lfg := t.lfg, mem := { s.mem with lines := t.mem.lines } } ∧
      KeepsRegs s t (commitFlds ++ [engRestarts k, F.HIF_EVENT_ENGINE_RESTART, F.HIF_EVENT_EVCNT0_ENGINE_RESTART])))

/-- R48, R49, R88, R87: an idle ring takes its CFG and begins at index 0 when enabled; LOAD and RUN move the stage with a STAGE record; a good image starts
the engines and the Infuser cores marked AUTO; the loss of the host clears BME. -/
def Obligations.StagesAndRingSetup : Prop :=
  (∀ (s : State) (kind n : Nat) (v : Word), kind < 5 → n < ringCount kind → s.fld (ringEn kind) n = 0 → s.ringIdle kind n = true →
    6 ≤ bits v.toNat 4 0 → bits v.toNat 4 0 ≤ 16 → Gives (.ringCfgWrite kind n v) s (fun t =>
      t.fld (ringEn kind) n = bits v.toNat 31 31 ∧ t.fld (ringPrio kind) n = bits v.toNat 26 24 ∧ t.fld (ringCpl kind) n = bits v.toNat 23 20 ∧
      t.fld (ringVec kind) n = bits v.toNat 13 8 ∧ t.fld (ringLog kind) n = bits v.toNat 4 0 ∧
      (bits v.toNat 31 31 = 1 → t.ring kind n = ⟨0, 0, 0⟩ ∧ t.fld (ringStopped kind) n = 0) ∧
      t = { s with regs := t.regs, hif := { s.hif with rings := t.hif.rings }, lfg := t.lfg } ∧
      KeepsRegs s t (commitFlds ++ [ringEn kind, ringPrio kind, ringCpl kind, ringVec kind, ringLog kind, ringStopped kind]))) ∧
  (∀ (s : State) (kind n : Nat) (v : Word), kind < 5 → n < ringCount kind → s.fld (ringEn kind) n = 1 → s.fld (ringPrio kind) n ≠ bits v.toNat 26 24 →
    Gives (.ringCfgWrite kind n v) s (fun t => t.fld F.HIF_EVENT_CFG_REFUSED 0 = 1 ∧ t.fld (ringEn kind) n = bits v.toNat 31 31 ∧
      t = { s with regs := t.regs, hif := { s.hif with rings := t.hif.rings, flight := t.hif.flight }, lfg := t.lfg } ∧
      KeepsRegs s t (commitFlds ++ [ringEn kind, F.HIF_EVENT_CFG_REFUSED, F.HIF_EVENT_EVCNT0_CFG_REFUSED]))) ∧
  (∀ (s : State) (v : Word), s.fld F.HIF_STATUS_STAGE 0 = 1 → bit v.toNat 31 = true → Gives (.load v) s (fun t =>
      t.fld F.HIF_STATUS_STAGE 0 = 2 ∧ t.fld F.HIF_IMG_CTRL_LEN 0 = bits v.toNat 23 0 ∧
      (∃ r ∈ t.lfg.volatile, r.type = 4 ∧ r.payload = [1, 2, 0, 0, 0, 0]) ∧
      t = { s with regs := t.regs, lfg := t.lfg, hif := { s.hif with
        imgDma := some (s.fld F.HIF_IMG_ADDR_HI_ADDR 0 * 2 ^ 32 + s.fld F.HIF_IMG_ADDR_LO_ADDR 0 * 2 ^ 6, bits v.toNat 23 0) } } ∧
      KeepsRegs s t (commitFlds ++ [F.HIF_IMG_CTRL_LEN, F.HIF_STATUS_STAGE]))) ∧
  (∀ (s : State) (v : Word), s.fld F.HIF_STATUS_STAGE 0 = 3 → bit v.toNat 0 = true → s.whs.kept = [] → Gives (.run v) s (fun t =>
      t.fld F.HIF_STATUS_STAGE 0 = 4 ∧ t.fld F.HIF_CTRL_RINGS_EN 0 = bits v.toNat 1 1 ∧ t.hif.regsJournalled = true ∧
      (∃ r ∈ t.lfg.volatile, r.type = 4 ∧ r.payload = [3, 4, 0, 0, 0, 0]) ∧
      (∃ r, t.lfg.volatile.head? = some r ∧ r.type = 2 ∧ r.payload.take 2 = [0, v.toNat]) ∧
      t = { s with regs := t.regs, hif := { s.hif with regsJournalled := true }, lfg := t.lfg } ∧
      KeepsRegs s t (commitFlds ++ [F.HIF_STATUS_STAGE, F.HIF_CTRL_RUN, F.HIF_CTRL_RINGS_EN, F.HIF_CTRL_DB_CHECK]))) ∧
  (∀ (s : State) (magic hdrLen ver : Nat) (progs : List (List Nat)), s.fld F.HIF_STATUS_STAGE 0 = 2 → magic = 0x4C444E55 →
    s.fld F.HIF_IMG_CTRL_LEN 0 = hdrLen + 96 → hdrLen ≤ 3145728 → Gives (.imageLoadEnd magic hdrLen ver true true true progs) s (fun t =>
      t.fld F.HIF_STATUS_STAGE 0 = 3 ∧ t.fld F.HIF_IMG_STATUS_ERROR 0 = 0 ∧ t.fld F.HIF_IMG_STATUS_MAJOR 0 = bits ver 31 24 ∧
      (∀ k < 4, t.fld (engRunning k) 0 = 1) ∧ t.hif = { s.hif with imageLoaded := true, imgDma := none } ∧
      (∀ n < 4, bit (s.fld F.INF_CFG_AUTO 0) n = true → (s.core n).st = 0 → (t.core n).st = 1) ∧
      (∀ k < 3, k < progs.length → ∀ i < 8192, SMap.get (t.core k).prog i 0 = (progs.getD k []).getD i 0) ∧
      t = { s with regs := t.regs, hif := t.hif, lfg := t.lfg, inf := t.inf })) ∧
  (∀ (s : State) (magic hdrLen ver : Nat) (crc sig : Bool) (progs : List (List Nat)), s.fld F.HIF_STATUS_STAGE 0 = 2 →
    Gives (.imageLoadEnd magic hdrLen ver crc sig false progs) s (fun t => t.fld F.HIF_STATUS_STAGE 0 = 1 ∧ t.fld F.HIF_IMG_STATUS_ERROR 0 = 5 ∧
      t = { s with regs := t.regs, hif := { s.hif with imgDma := none }, lfg := t.lfg } ∧
      KeepsRegs s t (commitFlds ++ [F.HIF_STATUS_STAGE, F.HIF_IMG_STATUS_ERROR]))) ∧
  (∀ (s : State) (bme link : Bool), Gives (.hostLoss bme link) s (fun t => t.hostUp = (bme && link) ∧ t = { s with regs := t.regs, hif := { s.hif with linkUp := link } } ∧
      KeepsRegs s t [F.HIF_STATUS_BME]))

/-- R82, R83, R85, R86, R486: the mirror writes the oldest unmirrored record to the sector in use, and a command whose record waited for it has it committed; a sector
that does not verify is retired, and fewer than 32 usable sectors stop the mirror; clearing MIRROR_EN stops it, clears LAGGING and lets everything go on that
waited. -/
def Obligations.TheMirror : Prop :=
  (∀ (s : State) (r : Record), s.mirrorRuns = true → s.oldestUnmirrored = some r → s.lfg.held = [] → Gives (.mirrorRecord true) s (fun t =>
      t.lfg = { s.lfg with nv := (r :: s.lfg.nv).take (s.lfg.sectors.length * 1023), unmirrored := s.lfg.unmirrored - 1,
                           place := if 1022 ≤ s.lfg.fill then (s.lfg.place + 1) % max 1 s.lfg.sectors.length else s.lfg.place,
                           fill := if 1022 ≤ s.lfg.fill then 0 else s.lfg.fill + 1 } ∧
      t.fld F.LFG_STATUS_LAGGING 0 = b2n (decide (s.lagLimit ≤ s.lfg.unmirrored - 1)) ∧
      (0 < s.lfg.sectors.length → t.fld F.LFG_NV_SEQ_LO_SEQ 0 = r.seq % 2 ^ 32) ∧ t = { s with regs := t.regs, lfg := t.lfg } ∧
      KeepsRegs s t [F.LFG_NV_SEQ_LO_SEQ, F.LFG_NV_SEQ_HI_SEQ, F.LFG_OLDEST_SEQ_LO_SEQ, F.LFG_OLDEST_SEQ_HI_SEQ, F.LFG_STATUS_LAGGING])) ∧
  (∀ (s : State) (r : Record) (e : Ended), s.mirrorRuns = true → s.oldestUnmirrored = some r → s.lfg.held = [e] → s.lfg.unmirrored - 1 < s.lagLimit →
    Gives (.mirrorRecord true) s (fun t => EndsAtOnce e.desc e.status e.result t ∧ t.lfg.held = [] ∧
      t = { s with regs := t.regs, hif := { s.hif with flight := t.hif.flight }, lfg := t.lfg })) ∧
  (∀ (s : State) (r : Record), s.mirrorRuns = true → s.oldestUnmirrored = some r → s.lfg.held = [] → Gives (.mirrorRecord false) s (fun t =>
      t.lfg.usable = s.lfg.usable - 1 ∧ t.lfg.spares = s.lfg.spares - 1 ∧ t.fld F.LFG_EVENT_SECTOR_RETIRED 0 = 1 ∧
      t.lfg.sectors.length = (if s.lfg.spares = 0 then (s.lfg.sectors.eraseIdx s.lfg.place).length else s.lfg.sectors.length) ∧
      (s.lfg.usable ≤ 32 → t.fld F.LFG_STATUS_VOLATILE_ONLY 0 = 1 ∧ t.lfg.nv = s.lfg.nv.take (t.lfg.sectors.length * 1023)) ∧
      (32 < s.lfg.usable → t.lfg.nv = (r :: s.lfg.nv.take (t.lfg.sectors.length * 1023)).take (t.lfg.sectors.length * 1023)) ∧
      (∃ x, t.lfg.volatile.head? = some x ∧ x.type = 6 ∧ x.payload.getD 0 0 = s.lfg.sectors.getD s.lfg.place 0) ∧
      t = { s with regs := t.regs, lfg := t.lfg })) ∧
  (∀ (s : State) (v : Word), s.linkOk = true → bit v.toNat 16 = false → Gives (.mirrorEn v) s (fun t =>
      t.fld F.LFG_CFG_MIRROR_EN 0 = 0 ∧ t.fld F.LFG_CFG_LAG_LIMIT 0 = bits v.toNat 15 0 ∧ t.fld F.LFG_STATUS_LAGGING 0 = 0 ∧ t.lfg.nv = s.lfg.nv ∧
      t.lfg.held = [] ∧ t = { s with regs := t.regs, hif := t.hif, lfg := t.lfg } ∧
      KeepsRegs s t (commitFlds ++ [F.LFG_CFG_MIRROR_EN, F.LFG_CFG_LAG_LIMIT])))

/-- R423, R426, R430, R433: the ALU's instructions write one register of the core, wrapping or saturating, and the ring turns afterwards. -/
def Obligations.InfuserAluInstructions : Prop :=
  (∀ (s : State) (n w k : Nat), CoreAt s n .ldi w → coreReg (coreLand (s.core n)) (bits w 23 18) = some k → NoClash (coreLand (s.core n)) k →
    Gives (.ldi n .good) s (fun t => t = { s with inf := t.inf } ∧ CoreWrites s t n w k (bits w 15 0))) ∧
  (∀ (s : State) (n w k : Nat), coreReg (coreLand (s.core n)) (bits w 17 12) = some k → NoClash (coreLand (s.core n)) k →
    let c := coreLand (s.core n)
    let x : Int := signed 16 (aluRs c w)
    let y : Int := signed 16 (aluRt c w)
    (CoreAt s n .and w → Gives (.and n .good) s (fun t => t = { s with inf := t.inf } ∧ CoreWrites s t n w k (aluRs c w &&& aluRt c w))) ∧
    (CoreAt s n .or w → Gives (.or n .good) s (fun t => t = { s with inf := t.inf } ∧ CoreWrites s t n w k (aluRs c w ||| aluRt c w))) ∧
    (CoreAt s n .xor w → Gives (.xor n .good) s (fun t => t = { s with inf := t.inf } ∧ CoreWrites s t n w k (aluRs c w ^^^ aluRt c w))) ∧
    (CoreAt s n .mov w → Gives (.mov n .good) s (fun t => t = { s with inf := t.inf } ∧ CoreWrites s t n w k (aluRs c w))) ∧
    (CoreAt s n .sgnb w → Gives (.sgnb n .good) s (fun t => t = { s with inf := t.inf } ∧ CoreWrites s t n w k (signBits (aluRs c w)))) ∧
    (CoreAt s n .add w → bit w 19 = false → Gives (.add n .good) s (fun t => t = { s with inf := t.inf } ∧ CoreWrites s t n w k (unsigned 16 (x + y)))) ∧
    (CoreAt s n .sub w → bit w 19 = false → Gives (.sub n .good) s (fun t => t = { s with inf := t.inf } ∧ CoreWrites s t n w k (unsigned 16 (x - y)))) ∧
    (CoreAt s n .shf w → bit w 19 = false → Gives (.shf n .good) s (fun t => t = { s with inf := t.inf } ∧
      CoreWrites s t n w k (unsigned 16 (shiftI x (if bit w 5 then (coreBe c : Int) - signed 5 (bits w 4 0) else signed 5 (bits w 4 0)))))) ∧
    (CoreAt s n .add w → bit w 19 = true → Gives (.add n .good) s (fun t => t = { s with regs := t.regs, inf := t.inf } ∧
      CoreWrites s t n w k (unsigned 16 (clampI (-32768) 32767 (x + y))) ∧ KeepsAt s t n [F.INF_C_EVENT_SSAT, F.INF_C_EVENT_EVCNT_SSAT] ∧
      (x + y ≠ clampI (-32768) 32767 (x + y) → t.fld F.INF_C_EVENT_SSAT n = 1))) ∧
    (CoreAt s n .sub w → bit w 19 = true → Gives (.sub n .good) s (fun t => t = { s with regs := t.regs, inf := t.inf } ∧
      CoreWrites s t n w k (unsigned 16 (clampI (-32768) 32767 (x - y))) ∧ KeepsAt s t n [F.INF_C_EVENT_SSAT, F.INF_C_EVENT_EVCNT_SSAT] ∧
      (x - y ≠ clampI (-32768) 32767 (x - y) → t.fld F.INF_C_EVENT_SSAT n = 1)))) ∧
  (∀ (s : State) (n w : Nat), CoreAt s n .blkx w → NoClash (coreLand (s.core n)) 0x30 → Gives (.blkx n .good) s (fun t => t = { s with inf := t.inf } ∧
    CoreWrites s t n w 0x30 (min (coreBe (coreLand (s.core n))) (signBits (aluRs (coreLand (s.core n)) w)))))

/-- R427 to R429: the accumulators take exact results saturated to 40 bits, with a guard-bit overflow noted; STA shifts, rounds at bit 15 and writes a register. -/
def Obligations.InfuserAccumulatorInstructions : Prop :=
  (∀ (s : State) (n w : Nat), let c := coreLand (s.core n)
    (CoreAt s n .clr w → Gives (.clr n .good) s (fun t => AccTakes s t n (accOf w) 0 false ∧ CoreWent s t n 1 ∧ CoreKeeps s t n w [])) ∧
    (CoreAt s n .lda w → Gives (.lda n .good) s (fun t => AccTakes s t n (accOf w) (signed 16 (aluRs c w) * 65536) false ∧ CoreWent s t n 1 ∧
      CoreKeeps s t n w [])) ∧
    (CoreAt s n .addx w → Gives (.addx n .good) s (fun t => AccTakes s t n (accOf w) (coreAcc c (accOf w) false + coreAcc c (1 - accOf w) false) false ∧
      CoreWent s t n 1 ∧ CoreKeeps s t n w [])) ∧
    (CoreAt s n .sha w → Gives (.sha n .good) s (fun t => AccTakes s t n (accOf w) (shiftI (coreAcc c (accOf w) false) (signed 6 (bits w 5 0))) false ∧
      CoreWent s t n 1 ∧ CoreKeeps s t n w []))) ∧
  (∀ (s : State) (n w : Nat), NoClash (coreLand (s.core n)) 0x20 → NoClash (coreLand (s.core n)) 0x21 →
    let c := coreLand (s.core n)
    let prod := coreProduct (coreFrac c) (coreRead c (bits w 20 16)) (coreRead c (bits w 15 11))
    let moves (t : State) : Prop := CoreWent s t n 1 ∧ CoreKeeps s t n w [0x20, 0x21] ∧ (t.core n).data = (s.core n).data ∧
      (t.core n).loads = c.loads ++ (if bit w 10 then [⟨coreTurn c % 32, coreMem c (coreRead c 0x20), c.cycle + 2⟩] else []) ++
        (if bit w 9 then [⟨(1 + coreTurn c) % 32, coreMem c (coreRead c 0x21), c.cycle + 2⟩] else []) ∧
      SMap.get (t.core n).regs 0x20 0 = (if bit w 10 then mldStep (coreRead c 0x20) (bits w 8 6) (bit w 2) % 65536 else SMap.get c.regs 0x20 0) ∧
      SMap.get (t.core n).regs 0x21 0 = (if bit w 9 then mldStep (coreRead c 0x21) (bits w 5 3) (bit w 1) % 65536 else SMap.get c.regs 0x21 0)
    (CoreAt s n .mld w → Gives (.mld n .good) s (fun t => moves t ∧ (t.core n).a0 = (s.core n).a0 ∧ (t.core n).a1 = (s.core n).a1 ∧
      t = { s with inf := t.inf })) ∧
    (CoreAt s n .mul w → Gives (.mul n .good) s (fun t => moves t ∧ AccTakes s t n (bits w 23 23) prod true)) ∧
    (CoreAt s n .mac w → Gives (.mac n .good) s (fun t => moves t ∧ AccTakes s t n (bits w 23 23) (coreAcc c (bits w 23 23) true + prod) true)) ∧
    (CoreAt s n .msb w → Gives (.msb n .good) s (fun t => moves t ∧ AccTakes s t n (bits w 23 23) (coreAcc c (bits w 23 23) true - prod) true))) ∧
  (∀ (s : State) (n w k : Nat), CoreAt s n .sta w → coreReg (coreLand (s.core n)) (bits w 11 6) = some k → NoClash (coreLand (s.core n)) k → bit w 13 = true →
    Gives (.sta n .good) s (fun t => t = { s with regs := t.regs, inf := t.inf } ∧ KeepsAt s t n [F.INF_C_EVENT_SSAT, F.INF_C_EVENT_EVCNT_SSAT] ∧
      CoreWrites s t n w k (unsigned 16 (clampI (-32768) 32767 (roundAt (bits w 15 14)
        (shiftI (coreAcc (coreLand (s.core n)) (accOf w) false) (signed 6 (bits w 5 0)))))))) ∧
  (∀ (s : State) (n w k : Nat), CoreAt s n .sta w → coreReg (coreLand (s.core n)) (bits w 11 6) = some k → NoClash (coreLand (s.core n)) k → bit w 13 = false →
    Gives (.sta n .good) s (fun t => t = { s with inf := t.inf } ∧ CoreWrites s t n w k (unsigned 16 (roundAt (bits w 15 14)
        (shiftI (coreAcc (coreLand (s.core n)) (accOf w) false) (signed 6 (bits w 5 0)))))))

/-- R433 to R435: what the control instructions do to the core's place: HALT stops it, WAIT takes its cycles, LOOP enters or skips its body, BR goes or does not,
SIG notifies the host. -/
def Obligations.InfuserControlInstructions : Prop :=
  ∀ (s : State) (n w : Nat), let c := coreLand (s.core n)
    (CoreAt s n .nop w → Gives (.coreNop n .good) s (fun t => CoreWent s t n 1 ∧ CoreKeeps s t n w [] ∧ t = { s with inf := t.inf })) ∧
    (CoreAt s n .halt w → Gives (.halt n .good) s (fun t => (t.core n).st = 0 ∧ (t.core n).taps = [] ∧ (t.core n).bus = [] ∧
      (t.core n).data = (s.core n).data ∧ (t.core n).prog = (s.core n).prog ∧ (∀ m, m ≠ n → t.core m = s.core m) ∧ t = { s with inf := t.inf })) ∧
    (CoreAt s n .sig w → Gives (.sig n .good) s (fun t => CoreWent s t n 1 ∧ CoreKeeps s t n w [] ∧
      t.hif = (s.notify 0x0E 0x0001 (n + bits w 7 0 * 256) (coreIter c)).hif ∧ t = { s with regs := t.regs, hif := t.hif, inf := t.inf } ∧
      KeepsRegs s t eventFlds)) ∧
    (CoreAt s n .wait w → Gives (.wait n .good) s (fun t => CoreWent s t n (bits w 15 0 + 1) ∧ CoreKeeps s t n w [] ∧ t = { s with inf := t.inf })) ∧
    (CoreAt s n .loop w → Gives (.loop n .good) s (fun t =>
      let count := if bit w 23 then coreRead c (0x20 + bits w 14 11) else bits w 22 11
      let stop := c.pc + 2 + bits w 7 0
      (count ≠ 0 → (t.core n).pc = c.pc + 1 ∧ (t.core n).loops = ⟨c.pc + 1, stop, count, 0⟩ :: c.loops) ∧
      (count = 0 → (t.core n).pc = (loopEnd 3 c.loops stop).1) ∧ (t.core n).cycle = c.cycle + 1 ∧ (t.core n).due = s.ltb.lc + 2 ∧ CoreKeeps s t n w [] ∧
      (∀ m, m ≠ n → t.core m = s.core m) ∧ t = { s with inf := t.inf })) ∧
    (CoreAt s n .br w → bits w 23 20 < 7 →
      let taken : Prop := bits w 23 20 = 0 ∨ (bits w 23 20 = 1 ∧ coreAcc c 0 false = 0) ∨ (bits w 23 20 = 2 ∧ coreAcc c 0 false < 0) ∨
        (bits w 23 20 = 3 ∧ coreAcc c 1 false = 0) ∨ (bits w 23 20 = 4 ∧ coreAcc c 1 false < 0) ∨
        (bits w 23 20 = 5 ∧ s.fld F.INF_C_EVENT_GOV n = 1) ∨ (bits w 23 20 = 6 ∧ coreFifo c (bits w 17 16) ≠ [])
      Gives (.br n .good) s (fun t => (taken → (t.core n).pc = bits w 12 0 ∧ (t.core n).cycle = c.cycle + 2 ∧ (t.core n).due = s.ltb.lc + 4) ∧
        (¬ taken → (t.core n).pc = c.pc + 1 ∧ (t.core n).cycle = c.cycle + 1 ∧ (t.core n).due = s.ltb.lc + 2) ∧ CoreKeeps s t n w [] ∧ (∀ m, m ≠ n → t.core m = s.core m) ∧
        t = { s with inf := t.inf }))

/-- R424, R431, R432, R435: loads and stores with their pointers, words taken from inputs and sent to ports, and the wait of a core whose input is empty or whose
port has no room. -/
def Obligations.InfuserMemoryAndStreams : Prop :=
  (∀ (s : State) (n w k : Nat), CoreAt s n .ld w → coreReg (coreLand (s.core n)) (bits w 23 18) = some k →
    let c := coreLand (s.core n)
    (∀ j v, (coreAddr c w).2 = some (j, v) → NoClash c j) → Gives (.ld n .good) s (fun t => CoreWent s t n 1 ∧ t = { s with inf := t.inf } ∧
      (t.core n).loads = c.loads ++ [⟨k, coreMem c (coreAddr c w).1, c.cycle + 2⟩] ∧ (t.core n).data = c.data ∧
      ((coreAddr c w).2 = none → CoreKeeps s t n w []) ∧
      (∀ j v, (coreAddr c w).2 = some (j, v) → SMap.get (t.core n).regs j 0 = v % 65536 ∧ CoreKeeps s t n w [j]))) ∧
  (∀ (s : State) (n w : Nat), CoreAt s n .st w →
    let c := coreLand (s.core n)
    (∀ j v, (coreAddr c w).2 = some (j, v) → NoClash c j) → Gives (.st n .good) s (fun t => CoreWent s t n 1 ∧ t = { s with inf := t.inf } ∧
      SMap.get (t.core n).data (coreAddr c w).1 0 = coreRead c (bits w 23 18) ∧
      (∀ a, a ≠ (coreAddr c w).1 → SMap.get (t.core n).data a 0 = SMap.get c.data a 0) ∧
      ((coreAddr c w).2 = none → CoreKeeps s t n w []) ∧
      (∀ j v, (coreAddr c w).2 = some (j, v) → SMap.get (t.core n).regs j 0 = v % 65536 ∧ CoreKeeps s t n w [j]))) ∧
  (∀ (s : State) (n w k v : Nat) (rest : List Nat), CoreAt s n .inp w → coreReg (coreLand (s.core n)) (bits w 23 18) = some k →
    coreFifo (coreLand (s.core n)) (bits w 17 16) = v :: rest → Gives (.inp n .good) s (fun t => CoreWent s t n 1 ∧ CoreKeeps s t n w [] ∧
      coreFifo (t.core n) (bits w 17 16) = rest ∧
      (t.core n).loads = (coreLand (s.core n)).loads ++ [⟨k, v, (s.core n).cycle + 2⟩] ∧ t = { s with inf := t.inf })) ∧
  (∀ (s : State) (n w : Nat), CoreAt s n .inp w → coreFifo (coreLand (s.core n)) (bits w 17 16) = [] → Gives (.inp n .good) s (fun t =>
      t.core n = { coreLand (s.core n) with st := 2 } ∧ (∀ m, m ≠ n → t.core m = s.core m) ∧ t = { s with inf := t.inf })) ∧
  (∀ (s : State) (n w k v : Nat) (rest : List Nat), (s.core n).st = 2 → (s.core n).due + 2 ≤ s.ltb.lc → SMap.get (s.core n).prog (s.core n).pc 0 = w → coreOp w = some .inp →
    coreFifo (s.core n) (bits w 17 16) = v :: rest → coreReg (coreLand { s.core n with st := 1, cycle := (s.core n).cycle + 1 }) (bits w 23 18) = some k →
    Gives (.inComplete n) s (fun t => (t.core n).st = 1 ∧ coreFifo (t.core n) (bits w 17 16) = rest ∧
      (⟨k, v, (s.core n).cycle + 3⟩ : CoreLoad) ∈ (t.core n).loads ∧ (t.core n).pc = (loopEnd 3 (s.core n).loops ((s.core n).pc + 1)).1 ∧
      (∀ m, m ≠ n → t.core m = s.core m) ∧ t = { s with inf := t.inf })) ∧
  (∀ (s : State) (n w : Nat), CoreAt s n .out w → Gives (.out n false .good) s (fun t =>
      t.core n = { coreLand (s.core n) with st := 2 } ∧ (∀ m, m ≠ n → t.core m = s.core m) ∧ t = { s with inf := t.inf })) ∧
  (∀ (s : State) (n w : Nat), CoreAt s n .out w → bits w 3 0 < 8 → (SMap.get (s.core n).taps (bits w 3 0) []).length < 17 →
    Gives (.out n true .good) s (fun t => CoreWent s t n 1 ∧ CoreKeeps s t n w [] ∧
      SMap.get (t.core n).taps (bits w 3 0) [] =
        SMap.get (s.core n).taps (bits w 3 0) [] ++ [coreRead (coreLand (s.core n)) (bits w 11 6) % 256] ∧ t = { s with inf := t.inf })) ∧
  (∀ (s : State) (n w : Nat), (s.core n).st = 2 → (s.core n).due + 2 ≤ s.ltb.lc → SMap.get (s.core n).prog (s.core n).pc 0 = w → coreOp w = some .out → 8 ≤ bits w 3 0 →
    SMap.find (s.core n).bus (bits w 3 0 - 8) = none →
    let v := coreRead (coreLand { s.core n with st := 1, cycle := (s.core n).cycle + 1 }) (bits w 11 6)
    bit v 15 = true → Gives (.outComplete n) s (fun t => (t.core n).st = 1 ∧ t.inf.requests = s.inf.requests ++ [(bits w 3 0 - 8, v, none)] ∧
      (t.core n).pc = (loopEnd 3 (s.core n).loops ((s.core n).pc + 1)).1 ∧ (∀ m, m ≠ n → t.core m = s.core m) ∧ t = { s with inf := t.inf })) ∧
  (∀ (s : State) (src n k : Nat) (ws : List Nat), 0x08 ≤ src → src < 0x10 → s.rxState (src - 8) = 3 →
    s.fld F.LLN_RX_CFG_ADAPT (src - 8) = 0 → s.hasChannel (src - 8) = true → s.boundTo src = some (n, k) → (s.core n).st ≠ 4 →
    (∀ l, SMap.find s.inf.setLc (src - 8) = some l → l + 64 ≤ s.ltb.lc) → (coreFifo (s.core n) k).length ≤ 492 → Gives (.streamSet src ws) s (fun t =>
      coreFifo (t.core n) k = coreFifo (s.core n) k ++ ((List.range 19).map (fun i => ws.getD i 0 % 65536) ++ [s.ltb.cycle % 65536]) ∧
      SMap.find t.inf.setLc (src - 8) = some s.ltb.lc ∧ (∀ m, m ≠ n → t.core m = s.core m) ∧ t = { s with inf := t.inf })) ∧
  (∀ (s : State) (src n k r : Nat) (w : Option Nat) (rest : List (Nat × Nat × Option Nat)) (ws : List Nat), src = 0x18 ∨ src = 0x19 →
    s.inf.requests = (src - 0x18, r, w) :: rest → s.boundTo src = some (n, k) → (s.core n).st ≠ 4 → (coreFifo (s.core n) k).length ≤ 511 →
    Gives (.streamSet src ws) s (fun t => coreFifo (t.core n) k = coreFifo (s.core n) k ++ [ws.getD 0 0 % 512] ∧ t.inf.requests = rest ∧
      (∀ m, m ≠ n → t.core m = s.core m) ∧ t = { s with inf := t.inf }))

/-- R437, R438: the Infuser's commands write and read a core's memories, start it at its entry address and halt it; a running core's program is not replaced. -/
def Obligations.InfuserCommands : Prop :=
  (∀ (s : State) (d : Desc), let n := bits (d.dw 5) 1 0
    let first := bits (d.dw 6) 12 0
    let count := bits (d.dw 7) 13 0
    d.opcode = 0x3801 → d.buf = true → 4 * count ≤ d.bufLen → first + count ≤ 8192 → count ≠ 0 →
    ((s.core n).st = 0 ∨ (s.core n).st = 3 → Gives (.infLoad d) s (fun t => Ends d stOk count t ∧
      (∀ i < count, SMap.get (t.core n).prog (first + i) 0 = d.word i) ∧
      (∀ a, a < first ∨ first + count ≤ a → SMap.get (t.core n).prog a 0 = SMap.get (s.core n).prog a 0) ∧ (∀ m, m ≠ n → t.core m = s.core m) ∧
      t = { s with regs := t.regs, hif := t.hif, lfg := t.lfg, inf := t.inf } ∧ KeepsRegs s t commitFlds)) ∧
    ((s.core n).st = 1 ∨ (s.core n).st = 2 ∨ (s.core n).st = 4 → Gives (.infLoad d) s
      (EndsOnly d stStateRefused (refusedWord 0x70 n (s.core n).st) s))) ∧
  (∀ (s : State) (d : Desc), let n := bits (d.dw 5) 1 0
    d.opcode = 0x3802 → bit (d.dw 5) 8 = true → (s.core n).st = 0 ∨ (s.core n).st = 3 → Gives (.infStart d) s (fun t => Ends d stOk 1 t ∧ (t.core n).st = 1 ∧
      (t.core n).pc = bits (d.dw 6) 12 0 ∧ coreTurn (t.core n) = 0 ∧ coreBe (t.core n) = 15 ∧ (t.core n).loops = [] ∧
      t.fld F.INF_C_ENTRY_ENTRY n = bits (d.dw 6) 12 0 ∧ (∀ m, m ≠ n → t.core m = s.core m) ∧
      t = { s with regs := t.regs, hif := t.hif, lfg := t.lfg, inf := t.inf } ∧ KeepsRegs s t (commitFlds ++ [F.INF_C_ENTRY_ENTRY]))) ∧
  (∀ (s : State) (d : Desc), let n := bits (d.dw 5) 1 0
    d.opcode = 0x3802 → bit (d.dw 5) 8 = false → (s.core n).st = 1 ∨ (s.core n).st = 2 → Gives (.infHalt d) s (fun t => Ends d stOk 0 t ∧ (t.core n).st = 0 ∧
      (t.core n).taps = [] ∧ (t.core n).bus = [] ∧ (t.core n).prog = (s.core n).prog ∧ (∀ m, m ≠ n → t.core m = s.core m) ∧
      t = { s with regs := t.regs, hif := t.hif, lfg := t.lfg, inf := t.inf } ∧ KeepsRegs s t commitFlds)) ∧
  (∀ (s : State) (d : Desc), let n := bits (d.dw 5) 1 0
    let first := bits (d.dw 6) 14 0
    let count := bits (d.dw 7) 15 0
    d.opcode = 0x3803 → d.buf = true → 2 * count ≤ d.bufLen → first + count ≤ 32768 → count ≠ 0 →
    (bit (d.dw 5) 8 = false → Gives (.infDataRead d none) s (fun t => Ends d stOk count t ∧
      t.hif.hostWrites = s.hif.hostWrites ++ [⟨d.bufAddr, pair16 ((List.range count).map (fun i => coreMem (s.core n) (first + i)))⟩] ∧
      t = { s with regs := t.regs, hif := t.hif, lfg := t.lfg } ∧ KeepsRegs s t commitFlds)) ∧
    (bit (d.dw 5) 8 = true → Gives (.infDataWrite d none) s (fun t => Ends d stOk count t ∧
      (∀ i < count, SMap.get (t.core n).data (first + i) 0 = d.word (i / 2) / 65536 ^ (i % 2) % 65536) ∧
      (∀ a, a < first ∨ first + count ≤ a → SMap.get (t.core n).data a 0 = SMap.get (s.core n).data a 0) ∧ (∀ m, m ≠ n → t.core m = s.core m) ∧
      t = { s with regs := t.regs, hif := t.hif, lfg := t.lfg, inf := t.inf } ∧ KeepsRegs s t commitFlds)) ∧
    (∀ (m r : Nat), bit (d.dw 5) 8 = false → Gives (.infDataRead d (some (m, r))) s (EndsOnly d stMemUncorr (errLoc 0x0E n m r) s)))

/-- R172 to R180, R190: a structure whose HEC fails is counted and joins nothing; one that is admitted in RUN becomes a planned burst, placed from the frame's
reference. -/
def Obligations.AllocationStructures : Prop :=
  (∀ (s : State) (a : AllocStruct), s.inSync a.chan = false → Gives (.allocationStructure a) s (fun t => t = s)) ∧
  (∀ (s : State) (a : AllocStruct), s.inSync a.chan = true → a.hecOk = false → Gives (.allocationStructure a) s (fun t =>
      t.fld F.UBE_CH_DISC_HEC a.chan = min (s.fld F.UBE_CH_DISC_HEC a.chan + 1) F.UBE_CH_DISC_HEC.top ∧ t.fld F.UBE_EVENT_MAP_HEC 0 = 1 ∧
      (t.ubeCh a.chan).bursts = (s.ubeCh a.chan).bursts ∧ t = { s with regs := t.regs, ube := t.ube, whs := t.whs } ∧
      KeepsRegs s t [F.UBE_CH_DISC_HEC, F.UBE_EVENT_MAP_HEC, F.UBE_EVENT_EVCNT_MAP_HEC])) ∧
  (∀ (s : State) (a : AllocStruct) (x : Ctx) (p : Profile), s.inSync a.chan = true → a.hecOk = true → a.contiguous = false → a.inFrame = true → s.ubeMode a.chan = 3 →
    a.alloc ∈ (s.actCh a.chan).allocs → s.entryQuiet = false → s.ctxFor a.chan (s.actCh a.chan).refFrame = some x → x.profs.getD a.profile none = some p →
    (s.ubeCh a.chan).lastFall = none → Gives (.allocationStructure a) s (fun t =>
      ∃ b, (t.ubeCh a.chan).bursts = (s.ubeCh a.chan).bursts ++ [b] ∧ b.frame = (s.actCh a.chan).refFrame ∧ b.phase = 1 ∧ b.profile = a.profile ∧ b.onu = x.onu ∧
        b.lead = x.lead ∧ b.lag = x.lag ∧
        b.start = duLc ((s.actCh a.chan).ref + a.startDu - ((profOverhead p * duPerBit p.rate : Nat) : Int)) ∧
        b.len = burstLen (profOverhead p) (a.bytes + if p.fec then a.parity else 0) (duPerBit p.rate) ∧
        b.parts = [⟨a.alloc, a.bytes, a.dbru, 0, 0, []⟩] ∧ (t.ubeCh a.chan).lastFall = some (b.fall, b.eqd) ∧
        t = { s with ube := t.ube, whs := t.whs } ∧ t.whs = { s.whs with chans := t.whs.chans })) ∧
  (∀ (s : State) (a : AllocStruct) (x : Ctx) (p : Profile) (f : Int) (e : Nat), s.inSync a.chan = true → a.hecOk = true → a.contiguous = false → a.inFrame = true →
    s.ubeMode a.chan = 3 → a.alloc ∈ (s.actCh a.chan).allocs → s.entryQuiet = false → s.ctxFor a.chan (s.actCh a.chan).refFrame = some x →
    x.profs.getD a.profile none = some p → (s.ubeCh a.chan).lastFall = some (f, e) → e = (s.actCh a.chan).refEqd →
    duLc ((s.actCh a.chan).ref + a.startDu - ((profOverhead p * duPerBit p.rate : Nat) : Int)) - x.lead < f + 8 → Gives (.allocationStructure a) s (fun t =>
      (t.ubeCh a.chan).bursts = (s.ubeCh a.chan).bursts ∧ t.fld F.UBE_EVENT_OVERLAP 0 = 1 ∧
      t.fld F.UBE_CH_DISC_OVERLAP a.chan = min (s.fld F.UBE_CH_DISC_OVERLAP a.chan + 1) F.UBE_CH_DISC_OVERLAP.top ∧
      t = { s with regs := t.regs, ube := t.ube, whs := t.whs } ∧ KeepsRegs s t [F.UBE_CH_DISC_OVERLAP, F.UBE_EVENT_OVERLAP, F.UBE_EVENT_EVCNT_OVERLAP])) ∧
  (∀ (s : State) (a : AllocStruct), s.inSync a.chan = true → a.hecOk = true → s.ubeMode a.chan = 4 → a.alloc ∈ (s.actCh a.chan).allocs → s.entryQuiet = false →
    Gives (.allocationStructure a) s (fun t => t.fld F.UBE_CH_DISC_STATE a.chan = min (s.fld F.UBE_CH_DISC_STATE a.chan + 1) F.UBE_CH_DISC_STATE.top ∧
      (t.ubeCh a.chan).bursts = (s.ubeCh a.chan).bursts ∧ t = { s with regs := t.regs, ube := t.ube, whs := t.whs } ∧
      KeepsRegs s t [F.UBE_CH_DISC_STATE]))

/-- R187, R188, R489, R191: contexts committed on both dies, a failed check or a lost link that shuts the lanes, the events kept meanwhile, and a map gap that
holds its lane until it ends. -/
def Obligations.WhistleContextsAndLink : Prop :=
  (∀ (s : State) (c m : Nat), s.linkOk = true → m < 2 → (s.actCh c).unparkAt = none → Gives (.contextExchange c m) s (fun t =>
      (∃ x, (t.whsCh c).ctxs.head? = some x ∧ x.perm = s.permOf c ∧ x.first = (s.mapFrame c + 1) % 2 ^ 46 ∧ x.allocs = (s.actCh c).allocs ∧ x.eqd = s.fld F.ACT_CH_EQD_EQD c ∧
        x.seq = (match (s.whsCh c).ctxs with | [] => 1 | y :: _ => (y.seq + 1) % 2 ^ 16)) ∧
      (t.whsCh c).fault = false ∧ (t.whsCh c).stale = false ∧ t = { s with regs := t.regs, ube := t.ube, whs := t.whs } ∧
      KeepsRegs s t (applyFlds ++ [F.WHS_CH_COUNT_CTX_RETRY]))) ∧
  (∀ (s : State) (c m : Nat), s.linkOk = true → 2 ≤ m → (s.whsCh c).fault = false → Gives (.contextExchange c m) s (fun t =>
      (t.whsCh c).fault = true ∧ t.whsPerm c = 0 ∧ t.fld F.WHS_EVENT_CONTEXT_FAULT 0 = 1)) ∧
  (∀ (s : State) (c : Nat), Gives (.contextCheck c true true) s (fun t => t = s)) ∧
  (∀ (s : State) (c : Nat) (crc parity : Bool), s.fld F.PWR_STATUS_DARK 0 = 1 → Gives (.contextCheck c crc parity) s (fun t => t = s)) ∧
  (∀ (s : State) (c : Nat) (crc parity : Bool), s.linkOk = true → s.fld F.PWR_STATUS_DARK 0 ≠ 1 → s.ltb.cycle = 0 → (s.whsCh c).ctxs ≠ [] →
    (s.whsCh c).fault = false → crc = false ∨ parity = false → Gives (.contextCheck c crc parity) s (fun t =>
      (t.whsCh c).fault = true ∧ t.whsPerm c = 0 ∧ t.fld F.WHS_EVENT_CONTEXT_FAULT 0 = 1)) ∧
  (∀ s : State, s.pending = [] → s.fld F.HIF_STATUS_STAGE 0 ≠ 0 → s.fld F.WHS_STATUS_STATE 0 ≠ 0 → s.ltb.sleep = none → s.ltb.cycle = 155519 →
    s.linkOk = true → ∃ t, step s = .next t ∧ t.whs.force.shutAll = s.fld F.WHS_CFG_SHUT_ALL 0 ∧ t.whs.force.deb = s.fld F.WHS_CFG_DEB 0 ∧
      t.whs.force.eyeN = max 1 (min 8 (s.fld F.WHS_CFG_EYE_N 0)) ∧ t.whs.force.tol = min 8 (s.fld F.WHS_CFG_TOL_LC 0) ∧
      ∀ c < 8, t.whs.force.limits.getD c 0 = s.fld F.WHS_CH_EYE_LIMIT c ∧ t.whs.force.thresh.getD c 0 = s.fld F.WHS_CH_LIGHT_THRESH c) ∧
  (∀ (s : State) (frames : Nat), s.fld F.PWR_STATUS_DARK 0 ≠ 1 → 2 < frames → s.linkOk = true → Gives (.linkLoss frames) s (fun t =>
      t.linkOk = false ∧ t.fld F.WHS_STATUS_TXDIS 0 = 0xFF ∧ (∀ c < 8, t.whsPerm c = 0) ∧ t.fld F.WHS_EVENT_LINK_LOSS 0 = 1 ∧
      t = { s with regs := t.regs, ube := t.ube, whs := t.whs } ∧ KeepsRegs s t (applyFlds ++ [F.WHS_STATUS_LINK_OK, F.WHS_TIME_DIFF_VALID,
        F.WHS_EVENT_LINK_LOSS, F.WHS_EVENT_EVCNT_LINK_LOSS]))) ∧
  (∀ s : State, s.diesUp = true → s.fld F.HIF_STATUS_STAGE 0 ≠ 0 → Gives .keptEventHandover s (fun t => t.linkOk = true ∧
      (s.fld F.HIF_CTRL_RINGS_EN 0 = 1 → t.whs.kept = []) ∧ t = { s with regs := t.regs, hif := t.hif, lfg := t.lfg, ube := t.ube, whs := t.whs } ∧
      KeepsRegs s t (applyFlds ++ eventFlds ++ [F.WHS_STATUS_LINK_OK]))) ∧
  (∀ s : State, s.diesUp = true → s.fld F.HIF_STATUS_STAGE 0 = 0 → Gives .keptEventHandover s (fun t => t.linkOk = true ∧
      t.whs.kept = s.whs.kept ∧ t.lfg = s.lfg ∧ t.hif = s.hif)) ∧
  (∀ (s : State) (c k : Nat), c < 8 → 2 ≤ s.permInForce c → Gives (.mapGap c k .linkFrame) s (fun t =>
      let span := s.gapSpan c k ((s.whsCh c).expect.getD s.lin)
      (t.whsCh c).holds = (s.whsCh c).holds ++ [span] ∧ (t.whsCh c).expect = (s.whsCh c).expect ∧
      (span.1 ≤ s.lin → bit (t.fld F.WHS_STATUS_TXDIS 0) c = true) ∧ t.fld F.WHS_EVENT_MAP_GAP 0 = 1 ∧
      t.fld F.WHS_CH_COUNT_MAP_GAP c = min (s.fld F.WHS_CH_COUNT_MAP_GAP c + 1) F.WHS_CH_COUNT_MAP_GAP.top ∧
      t = { s with regs := t.regs, hif := t.hif, ube := t.ube, whs := t.whs } ∧
      KeepsRegs s t (applyFlds ++ eventFlds ++ [F.WHS_CH_COUNT_MAP_GAP, F.WHS_EVENT_MAP_GAP, F.WHS_EVENT_EVCNT_MAP_GAP]))) ∧
  (∀ (s : State) (c k : Nat) (e : Int), c < 8 → 2 ≤ s.permInForce c → (s.whsCh c).expect = some e → Gives (.mapGap c k .missing) s (fun t =>
      (t.whsCh c).holds = (s.whsCh c).holds ++ [s.gapSpan c k (e + 155520)] ∧ (t.whsCh c).expect = some (e + 155520) ∧ t.fld F.WHS_EVENT_MAP_GAP 0 = 1)) ∧
  (∀ (s : State) (c k : Nat) (e a : Int), c < 8 → 2 ≤ s.permInForce c → (s.whsCh c).expect = some e → Gives (.mapGap c k (.misplaced a)) s (fun t =>
      ((a - (e + 155520)).natAbs ≤ 1 → t = s) ∧ (1 < (a - (e + 155520)).natAbs →
        (t.whsCh c).holds = (s.whsCh c).holds ++ [s.gapSpan c k (e + 155520)] ∧ (t.whsCh c).expect = some a ∧ t.fld F.WHS_EVENT_MAP_GAP 0 = 1))) ∧
  (∀ (s : State) (c k : Nat) (g : GapCause), s.permInForce c < 2 → Gives (.mapGap c k g) s (fun t => t = s)) ∧
  (∀ (s : State) (c : Nat), Gives (.mapGapHoldEnd c) s (fun t => (t.whsCh c).holds = (s.whsCh c).holds.filter (fun h => decide (s.lin ≤ h.2)) ∧
      t = { s with regs := t.regs, ube := t.ube, whs := t.whs } ∧ KeepsRegs s t applyFlds))

/-- R193 to R197: each class of violation shuts and latches in ARMED; what lies within the limits does not. -/
def Obligations.ViolationsShut : Prop :=
  (∀ (s : State) (c : Nat) (a b : Int), Armed s → s.fld F.PWR_STATUS_DARK 0 ≠ 1 → s.permInForce c ≠ 0 → (s.whs.force.deb : Int) ≤ b - a →
    s.outside c a b = true → (s.whsCh c).emitUntil = none → Gives (.outsideWindow c a b) s (fun t => Shuts s t (2 ^ c) 1)) ∧
  (∀ (s : State) (c : Nat) (a b : Int), b - a < s.whs.force.deb → Gives (.outsideWindow c a b) s (fun t => t = s)) ∧
  (∀ (s : State) (c code : Nat) (a b : Int), Armed s → s.fld F.PWR_STATUS_DARK 0 ≠ 1 → s.permInForce c ≠ 0 → s.whs.force.thresh.getD c 0 < code →
    s.outside c a b = true → (s.whsCh c).emitUntil = none → Gives (.lightPresent c code a b) s (fun t => Shuts s t (2 ^ c) 1)) ∧
  (∀ (s : State) (c n q : Nat), Armed s → s.fld F.PWR_STATUS_DARK 0 = 1 → s.simmer = 9 → 8 ≤ n → (s.whsCh c).darkOn = false →
    Gives (.darkViolation c n q) s (fun t => Shuts s t (2 ^ c) 2)) ∧
  (∀ (s : State) (c n q : Nat), Armed s → s.fld F.PWR_STATUS_DARK 0 = 1 → s.lowPower = true → 8 ≤ n → (s.whsCh c).darkOn = false →
    Gives (.darkViolation c n q) s (fun t => t.fld F.WHS_STATUS_STATE 0 = 3 ∧ t.fld F.WHS_SHUT_INFO_CLASS 0 = 2 ∧ t.simmer = 9)) ∧
  (∀ (s : State) (c : Nat), Armed s → s.fld F.PWR_STATUS_DARK 0 ≠ 1 → c < 8 → s.whsPerm c = 0 → (s.whsCh c).sweepOn = false →
    Gives (.sweep (2 ^ c)) s (fun t => Shuts s t (2 ^ c) 3 ∧ (t.whsCh c).sweepOn = true)) ∧
  (∀ s : State, Gives (.sweep 0) s (fun t => (∀ c < 8, (t.whsCh c).sweepOn = false) ∧ t = { s with whs := t.whs })) ∧
  (∀ (s : State) (c code : Nat), code < 4096 → code ≤ s.whs.force.limits.getD c 0 → Gives (.eyeSample c code) s (fun t =>
      t.fld F.WHS_CH_PMON_LAST c = code ∧ (s.fld F.WHS_CH_PMON_MAX c < 4096 → t.fld F.WHS_CH_PMON_MAX c = max (s.fld F.WHS_CH_PMON_MAX c) code) ∧
      (t.whsCh c).eyeRun = 0 ∧ t = { s with regs := t.regs, whs := t.whs } ∧ KeepsAt s t c [F.WHS_CH_PMON_LAST, F.WHS_CH_PMON_MAX])) ∧
  (∀ (s : State) (c code : Nat), Armed s → s.fld F.PWR_STATUS_DARK 0 ≠ 1 → s.whs.force.limits.getD c 0 < code → (s.whsCh c).eyeOn = false →
    s.whs.force.eyeN ≤ (s.whsCh c).eyeRun + 1 → Gives (.eyeSample c code) s (fun t => t.fld F.WHS_STATUS_STATE 0 = 3 ∧
      t.fld F.WHS_SHUT_INFO_CLASS 0 = 4 ∧ t.fld F.WHS_EVENT_ROGUE 0 = 1 ∧ KeepsRegs s t (violFlds ++ [F.WHS_CH_PMON_LAST, F.WHS_CH_PMON_MAX]))) ∧
  (∀ (s : State) (d : Int), Armed s → s.fld F.PWR_STATUS_DARK 0 ≠ 1 → s.whsCounts = true → s.ltb.cycle = 0 → 8 < d.natAbs → s.whs.diverged = false →
    Gives (.timeDiverge d) s (fun t => t.fld F.WHS_STATUS_STATE 0 = 3 ∧ t.fld F.WHS_SHUT_INFO_CLASS 0 = 5 ∧ t.fld F.WHS_STATUS_ROGUE 0 = 0xFF ∧
      t.fld F.WHS_STATUS_TXDIS 0 = 0xFF)) ∧
  (∀ (s : State) (d : Int), s.whsCounts = true → s.ltb.cycle = 0 → d.natAbs ≤ 8 → Gives (.timeDiverge d) s (fun t => t.fld F.WHS_TIME_DIFF_VALID 0 = 1 ∧
      t.fld F.WHS_TIME_DIFF_DIFF 0 = unsigned 16 d ∧ t.whs.diverged = false ∧ t = { s with regs := t.regs, ube := t.ube, whs := t.whs } ∧
      KeepsRegs s t (applyFlds ++ [F.WHS_TIME_DIFF_VALID, F.WHS_TIME_DIFF_DIFF]))) ∧
  (∀ (s : State) (ns : Nat), Armed s → s.fld F.PWR_STATUS_DARK 0 ≠ 1 → s.whsCounts = true → 1600 < ((ns : Int) - 8000000).natAbs →
    s.whs.diverged = false → Gives (.crystalSpanCheck ns) s (fun t => Shuts s t 0xFF 5)) ∧
  (∀ (s : State) (ns : Nat), ((ns : Int) - 8000000).natAbs ≤ 1600 → Gives (.crystalSpanCheck ns) s (fun t => t = s))

/-- R196 to R204, R175: the self-test arms the Whistle or ends in SELFTEST_FAIL; the WHS commands; and a burst profile that is received. -/
def Obligations.WhistleSelftestAndCommands : Prop :=
  (∀ s : State, s.fld F.WHS_STATUS_STATE 0 = 1 → s.linkOk = true → s.whs.latch = none → s.whs.waiters = [] → Gives (.selftestEnd 0) s (fun t =>
      t.fld F.WHS_STATUS_STATE 0 = 2 ∧ t.fld F.WHS_SELFTEST_RESULT 0 = 1 ∧ t.fld F.WHS_SELFTEST_FAIL_STEP 0 = 0 ∧
      t = { s with regs := t.regs, hif := t.hif, ube := t.ube, whs := t.whs } ∧
      KeepsRegs s t (applyFlds ++ eventFlds ++ [F.WHS_STATUS_STATE, F.WHS_SELFTEST_RESULT, F.WHS_SELFTEST_FAIL_STEP]))) ∧
  (∀ (s : State) (d : Desc), s.fld F.WHS_STATUS_STATE 0 = 1 → s.linkOk = true → s.whs.waiters = [d] → Gives (.selftestEnd 0) s (fun t =>
      Ends d stOk 0 t ∧ t.whs.waiters = [] ∧ t.fld F.WHS_STATUS_STATE 0 = (if s.whs.latch.isSome then 3 else 2))) ∧
  (∀ (s : State) (step : Nat), s.fld F.WHS_STATUS_STATE 0 = 1 → step ≠ 0 → s.linkOk = true ∨ (step ≠ 2 ∧ step ≠ 7) → Gives (.selftestEnd step) s (fun t =>
      t.fld F.WHS_STATUS_STATE 0 = 4 ∧ t.fld F.WHS_SELFTEST_RESULT 0 = 2 ∧ t.fld F.WHS_SELFTEST_FAIL_STEP 0 = step % 256 ∧
      t.fld F.WHS_STATUS_TXDIS 0 = 0xFF ∧ t.whs.waiters = [])) ∧
  (∀ (s : State) (step : Nat), s.fld F.WHS_STATUS_STATE 0 = 2 → s.whs.force.periodic ≠ 0 → step ≠ 0 →
    s.whs.repeatAt + 32768 ≤ s.sleepCount → s.linkOk = true ∨ step ≠ 2 → Gives (.periodicSelftest step) s (fun t =>
      t.fld F.WHS_STATUS_STATE 0 = 4 ∧ t.fld F.WHS_SELFTEST_RESULT 0 = 2 ∧ t.fld F.WHS_STATUS_TXDIS 0 = 0xFF)) ∧
  (∀ s : State, s.fld F.WHS_STATUS_STATE 0 = 2 → s.whs.force.periodic ≠ 0 → s.whs.repeatAt + 32768 ≤ s.sleepCount → Gives (.periodicSelftest 0) s (fun t =>
      t = { s with whs := { s.whs with repeatAt := s.sleepCount } })) ∧
  (∀ (s : State) (step : Nat), s.sleepCount < s.whs.repeatAt + 32768 → Gives (.periodicSelftest step) s (fun t => t = s)) ∧
  (∀ (s : State) (d : Desc), d.opcode = 0x4001 → s.fld F.WHS_STATUS_STATE 0 = 3 → s.recentViolation = false → s.fld F.WHS_STATUS_RELEASE_SEEN 0 ≠ 0 →
    Gives (.whsReenable d) s (fun t => Ends d stOk 0 t ∧ t.fld F.WHS_STATUS_STATE 0 = 2 ∧ t.fld F.WHS_STATUS_ROGUE 0 = 0 ∧ t.whs.latch = none ∧
      t.fld F.WHS_STATUS_RELEASE_SEEN 0 = 0 ∧ t = { s with regs := t.regs, hif := t.hif, lfg := t.lfg, ube := t.ube, whs := t.whs } ∧
      KeepsRegs s t (applyFlds ++ eventFlds ++ [F.WHS_STATUS_STATE, F.WHS_STATUS_ROGUE, F.WHS_STATUS_RELEASE_SEEN]))) ∧
  (∀ (s : State) (d : Desc), d.opcode = 0x4001 → s.fld F.WHS_STATUS_STATE 0 ≠ 3 ∨ s.recentViolation = true ∨ s.fld F.WHS_STATUS_RELEASE_SEEN 0 = 0 →
    Gives (.whsReenable d) s (fun t => ∃ r, EndsOnly d stStateRefused r s t)) ∧
  (∀ (s : State) (d : Desc), d.opcode = 0x4002 → s.fld F.WHS_STATUS_STATE 0 = 4 ∨ (s.fld F.WHS_STATUS_STATE 0 = 2 ∧ s.anyPermitted = false) → Gives (.whsSelftest d) s (fun t =>
      t.fld F.WHS_STATUS_STATE 0 = 1 ∧ t.fld F.WHS_SELFTEST_RESULT 0 = 3 ∧ t.fld F.WHS_STATUS_TXDIS 0 = 0xFF ∧ t.whs.waiters = s.whs.waiters ++ [d] ∧
      t = { s with regs := t.regs, ube := t.ube, whs := t.whs } ∧
      KeepsRegs s t (applyFlds ++ [F.WHS_STATUS_STATE, F.WHS_SELFTEST_RESULT, F.WHS_SELFTEST_RUNS]))) ∧
  (∀ (s : State) (d : Desc), d.opcode = 0x4003 → d.buf = true → 64 ≤ d.bufLen → Gives (.whsQuery d) s (fun t => Ends d stOk 0 t ∧
      t.hif.hostWrites = s.hif.hostWrites ++ [⟨d.bufAddr, [0x1000004, 0x1000010, 0x1000014, 0x1000018, 0x100001C, 0x1000020].map s.peek ++
        (List.range 8).map (fun c => s.peek (0x1001000 + 0x40 * c)) ++ [0, 0]⟩] ∧ t = { s with regs := t.regs, hif := t.hif, lfg := t.lfg } ∧
      KeepsRegs s t commitFlds)) ∧
  (∀ (s : State) (c : Nat) (p : Profile) (m : Ploam), PloamHeard s c m → s.act_st c ≠ stDisabled → s.act_st c ≠ stO11 → s.act_st c ≠ stO12 →
    s.act_st c ≠ stO82 → Gives (.burstProfile c 0 p m) s (fun t => t.profile c 0 = some p ∧ t.fld F.UBE_CH_PROF0_VALID c = 1 ∧
      t.fld F.UBE_CH_PROF0_RATE c = p.rate % 4 ∧ t.fld F.UBE_CH_PROF0_DEL_BYTES c = p.delBytes % 256 ∧ t.fld F.UBE_CH_PROF0_PRE_BITS c = p.preBits % 65536 ∧
      (∀ n k, n ≠ c ∨ k ≠ 0 → t.profile n k = s.profile n k) ∧
      t = { s with regs := t.regs, hif := t.hif, ube := t.ube } ∧ KeepsRegs s t (eventFlds ++ [F.UBE_CH_PROF0_VALID, F.UBE_CH_PROF0_RATE, F.UBE_CH_PROF0_FEC,
        F.UBE_CH_PROF0_DEL_BYTES, F.UBE_CH_PROF0_PRE_BITS, F.UBE_CH_STATUS_PROF_VALID]))) ∧
  (∀ (s : State) (c k : Nat) (p : Profile) (m : Ploam), PloamBad s m → Gives (.burstProfile c k p m) s (fun t =>
      t.fld F.ACT_CH_COUNT_PLOAM_BAD c = min (s.fld F.ACT_CH_COUNT_PLOAM_BAD c + 1) F.ACT_CH_COUNT_PLOAM_BAD.top ∧
      OnlyRegsAt s t c [F.ACT_CH_COUNT_PLOAM_BAD]))

/-- R27, R28, R37, R40, R41: an arrival of the timing channel in LOCKED reports its offset and ends coasting where it comes on time; arrivals in UNKNOWN are counted, and
the one of first lock loads the stamp; a decided step moves the stamp by its delta at cycle 0 of its frame and advances the epoch. -/
def Obligations.ArrivalsAndSteps : Prop :=
  (∀ (s : State) (c at' sfc : Nat) (pll : Bool) (trim : Option Nat), (s.framing c).arr = some (at', sfc) → s.inSync c = true → s.ltb.sleep = none → s.tstate = 0 →
    s.tc = c → s.prt.passed = false → Gives (.arrival c pll trim) s (fun t =>
      let e : Int := ((s.ltb.lc - at' : Nat) : Int)
      let o := stampDiff (stampAdd s.stamp (-e)) (stampOf sfc 0)
      t.fld F.LTB_CH_OFS_OFS c = unsigned 20 o ∧ (s.onTime o = true → t.fld F.LTB_STATUS_COASTING 0 = 0) ∧
      (s.onTime o = false → t.fld F.LTB_STATUS_COASTING 0 = s.fld F.LTB_STATUS_COASTING 0) ∧
      t.fld F.LTB_STATUS_PLL_LOCK 0 = b2n pll ∧ t.tstate = 0 ∧ t.stamp = s.stamp ∧ t.ltb.sfc = sfc % 2 ^ 51 ∧ (t.framing c).arr = none ∧
      (∀ v, trim = some v → s.ltb.extSrc = false → t.fld F.LTB_SLEEP_TRIM_INT_TRIM 0 = v % 2 ^ 24 ∧ t.fld F.LTB_SLEEP_TRIM_INT_VALID 0 = 1) ∧
      (s.linkOk = true → (t.whsCh c).strobe = some (sfc % 2 ^ 46, s.lin - e)) ∧ t.pending = s.pending)) ∧
  (∀ (s : State) (c at' sfc : Nat) (pll : Bool) (trim : Option Nat), (s.framing c).arr = some (at', sfc) → s.inSync c = true → s.ltb.sleep = none → s.tstate = 2 →
    s.tc = c → s.onActive c = true → s.fld F.LTB_CTRL_FORCE_LOCAL 0 = 0 → s.ltb.lockReady = true → s.prt.passed = false → Gives (.arrival c pll trim) s (fun t =>
      t.tstate = 0 ∧ t.stamp = stampAdd (stampOf sfc 0) ((s.ltb.lc - at' : Nat) : Int) ∧ t.ltb.anchor = 0 ∧ t.fld F.LTB_EPOCH_CAUSE 0 = 1 ∧
      t.fld F.LTB_EPOCH_EPOCH 0 = (s.fld F.LTB_EPOCH_EPOCH 0 + 1) % 2 ^ F.LTB_EPOCH_EPOCH.width)) ∧
  (∀ (s : State) (c at' sfc : Nat) (pll : Bool) (trim : Option Nat), (s.framing c).arr = some (at', sfc) → at' ≤ s.ltb.lc → s.inSync c = true → s.ltb.sleep = none →
    s.tstate = 2 → s.tc = c → s.ltb.lockReady = false → s.prt.passed = false → Gives (.arrival c pll trim) s (fun t => t.tstate = 2 ∧ t.stamp = s.stamp ∧
      t.ltb.prevArrival = some at' ∧ (s.ltb.prevArrival = none → t.ltb.goodRun = 0) ∧
      (∀ p, s.ltb.prevArrival = some p → t.ltb.goodRun = if p + 155519 ≤ at' ∧ at' ≤ p + 155521 then s.ltb.goodRun + 1 else 0))) ∧
  (∀ (s : State) (c : Nat) (pll : Bool) (trim : Option Nat), (s.framing c).arr = none ∨ s.inSync c = false ∨ s.ltb.sleep.isSome = true →
    Gives (.arrival c pll trim) s (fun t => t = s)) ∧
  (∀ (s : State) (p : PendStep), s.ltb.pendStep = some p → s.ltb.sleep = none → s.ltb.cycle = 0 → s.ltb.frame = p.frame → Gives .step s (fun t =>
      t.stamp = stampAdd s.stamp p.delta ∧ t.ltb.pendStep = none ∧ t.fld F.LTB_STEP_DELTA_LO_DELTA 0 = unsigned 64 p.delta % 2 ^ 32 ∧
      t.fld F.LTB_EPOCH_CAUSE 0 = 2 ∧ t.fld F.LTB_EVENT_STEP 0 = 1 ∧
      t.fld F.LTB_EPOCH_EPOCH 0 = (s.fld F.LTB_EPOCH_EPOCH 0 + 1) % 2 ^ F.LTB_EPOCH_EPOCH.width ∧
      (∀ b ∈ (s.ubeCh 0).bursts, b.phase < 3 → { b with start := b.start + p.delta } ∈ (t.ubeCh 0).bursts) ∧ t.pending = s.pending)) ∧
  (∀ s : State, s.ltb.pendStep = none → Gives .step s (fun t => t = s)) ∧
  (∀ (s : State) (p : PendStep), s.ltb.pendStep = some p → s.ltb.sleep.isSome = true ∨ s.ltb.cycle ≠ 0 ∨ s.ltb.frame ≠ p.frame → Gives .step s (fun t => t = s))

/-- R32, R35, R36, R40: a missed arrival coasts, the local reference is forced, a channel is asked for, a slew ends, and the sleep clock's source changes or
stops. -/
def Obligations.TimeBaseEvents : Prop :=
  (∀ s : State, s.tstate = 0 → s.ltb.sleep = none → s.arrivalLate = true → s.fld F.DSF_CH_STATUS_LOS s.tc ≠ 1 → s.fld F.DSF_CH_STATUS_LOF s.tc ≠ 1 →
    Gives .arrivalMissed s (fun t => t.fld F.LTB_STATUS_COASTING 0 = 1 ∧ OnlyRegs s t [F.LTB_STATUS_COASTING])) ∧
  (∀ s : State, s.tstate = 0 → s.ltb.sleep = none → s.arrivalLate = true → s.fld F.DSF_CH_STATUS_LOS s.tc = 1 → s.fld F.LTB_TC_CFG_AUTO_CHANGE 0 = 0 →
    Gives .arrivalMissed s (fun t => t.tstate = 1 ∧ t.fld F.LTB_HOLD_FRAMES_FRAMES 0 = 0 ∧ t.fld F.LTB_EVENT_STATE_CHANGE 0 = 1 ∧ t.stamp = s.stamp)) ∧
  (∀ s : State, s.tstate ≠ 0 ∨ s.arrivalLate = false ∨ s.ltb.sleep.isSome = true → Gives .arrivalMissed s (fun t => t = s)) ∧
  (∀ (s : State) (v : Word), bit v.toNat 0 = true → s.tstate = 0 → Gives (.forceLocal v) s (fun t => t.fld F.LTB_CTRL_FORCE_LOCAL 0 = 1 ∧ t.tstate = 1 ∧
      t.fld F.LTB_STATUS_PLL_REF 0 = 0 ∧ t.fld F.LTB_STATUS_SLEWING 0 = 0 ∧ t.fld F.LTB_HOLD_FRAMES_FRAMES 0 = 0 ∧ t.stamp = s.stamp)) ∧
  (∀ (s : State) (v : Word), bit v.toNat 0 = false → Gives (.forceLocal v) s (fun t => t.fld F.LTB_CTRL_FORCE_LOCAL 0 = 0 ∧
      t = { s with regs := t.regs, lfg := t.lfg } ∧ KeepsRegs s t (commitFlds ++ [F.LTB_CTRL_FORCE_LOCAL]))) ∧
  (∀ (s : State) (v : Word), s.hasChannel (bits v.toNat 2 0) = true → Gives (.tcRequest v) s (fun t =>
      t.fld F.LTB_TC_CFG_TC 0 = bits v.toNat 2 0 ∧ t.fld F.LTB_TC_CFG_AUTO_CHANGE 0 = bits v.toNat 3 3 ∧ t.tc = s.tc ∧
      t.ltb = { s.ltb with pendTc := if bits v.toNat 2 0 = s.tc then none else some (bits v.toNat 2 0) } ∧
      t = { s with regs := t.regs, ltb := t.ltb, lfg := t.lfg } ∧
      KeepsRegs s t (commitFlds ++ [F.LTB_TC_CFG_TC, F.LTB_TC_CFG_AUTO_CHANGE, F.LTB_TC_CFG_PRIO]))) ∧
  (∀ (s : State) (v : Word), s.hasChannel (bits v.toNat 2 0) = false → Gives (.tcRequest v) s (fun t => t = { s with regs := t.regs, lfg := t.lfg } ∧
      KeepsRegs s t commitFlds)) ∧
  (∀ s : State, s.fld F.LTB_STATUS_SLEWING 0 = 1 → s.slewMet = true → Gives .slewDone s (fun t => t.stamp = s.stamp ∧ t.ltb.slew = 0 ∧
      t.fld F.LTB_STATUS_SLEWING 0 = 0 ∧ t = { s with regs := t.regs, ltb := t.ltb } ∧ KeepsRegs s t [F.LTB_STATUS_SLEWING])) ∧
  (∀ s : State, s.fld F.LTB_STATUS_SLEWING 0 = 0 ∨ s.slewMet = false → Gives .slewDone s (fun t => t = s)) ∧
  (∀ s : State, s.fld F.LTB_SLEEP_CFG_SRC 0 ≠ 0 → s.pins.keepPower = true → Gives .extStopped s (fun t => t.fld F.LTB_SLEEP_CFG_SRC 0 = 0 ∧
      t.fld F.LTB_WAKE_INFO_EXT_STOPPED 0 = 1 ∧ t.ltb.extSrc = false ∧ t.ltb.extStop = true ∧ t = { s with regs := t.regs, ltb := t.ltb } ∧
      (∀ r, s.ltb.sleep = some r → s.ltb.extSrc = true → t.ltb.sleep = some { r with switches := r.switches ++ [(s.sleepCount, false)], extStops := r.extStops + 1 }) ∧
      KeepsRegs s t [F.LTB_SLEEP_CFG_SRC, F.LTB_WAKE_INFO_EXT_STOPPED])) ∧
  (∀ s : State, s.ltb.extSrc = false → s.pins.keepPower = true → s.fld F.LTB_SLEEP_CFG_SRC 0 = 1 → Gives .sleepSourceSwitch s (fun t => t.ltb.extSrc = true ∧
      (∀ r, s.ltb.sleep = some r → t.ltb.sleep = some { r with switches := r.switches ++ [(s.sleepCount, true)] }) ∧ t = { s with ltb := t.ltb })) ∧
  (∀ s : State, s.ltb.extSrc = true → s.pins.keepPower = true → s.fld F.LTB_SLEEP_CFG_SRC 0 ≠ 1 → Gives .sleepSourceSwitch s (fun t => t.ltb.extSrc = false ∧
      (∀ r, s.ltb.sleep = some r → t.ltb.sleep = some { r with switches := r.switches ++ [(s.sleepCount, false)] }) ∧ t = { s with ltb := t.ltb }))
/-- R90, R91: the receive lane's moves between its states, each with the time it takes and what it leaves unchanged. -/
def Obligations.ReceiveLaneMoves : Prop :=
  (∀ (s : State) (n ctle : Nat), n < 8 → ctle < 16 → s.rxState n = 1 → (s.rxLane n).since + 4096 ≤ s.ltb.lc → Gives (.cdrLock n ctle) s (fun t =>
    t.rxState n = 2 ∧ t.fld F.LLN_RX_STATUS_CDR_LOCK n = 1 ∧ t.fld F.LLN_RX_STATUS_SIG_DET n = 1 ∧ t.fld F.LLN_RX_STATUS_CTLE n = ctle ∧
    OnlyLaneAt s t n [F.LLN_RX_STATUS_STATE, F.LLN_RX_STATUS_CDR_LOCK, F.LLN_RX_STATUS_SIG_DET, F.LLN_RX_STATUS_CTLE])) ∧
  (∀ (s : State) (n ctle : Nat), s.rxState n ≠ 1 ∨ s.ltb.lc < (s.rxLane n).since + 4096 → Gives (.cdrLock n ctle) s (fun t => t = s)) ∧
  (∀ (s : State) (n : Nat), n < 8 → s.rxState n = 2 → (s.rxLane n).since + 4096 ≤ s.ltb.lc → Gives (.trackEntry n) s (fun t =>
    t.rxState n = 3 ∧ (s.fld F.DSF_CH_STATUS_STATE n ≠ 0 → OnlyLaneAt s t n [F.LLN_RX_STATUS_STATE]))) ∧
  (∀ (s : State) (n : Nat) (sig : Bool), n < 8 → s.rxState n = 1 → (s.rxLane n).since + usLc (max 1 (s.fld F.LLN_RX_CFG_ACQ_TIMEOUT n)) ≤ s.ltb.lc →
    Gives (.acqRetry n sig) s (fun t => t.rxState n = 1 ∧ t.fld F.LLN_RX_STATUS_SIG_DET n = b2n sig ∧
    t.fld F.LLN_RX_STATUS_CTLE n = s.fld F.LLN_RX_CFG_CTLE_START n % 16 ∧ t.fld F.LLN_RX_EVENT_ACQ_RETRY n = 1 ∧
    t.fld F.LLN_RX_EVENT_EVCNT_ACQ_RETRY n = (s.fld F.LLN_RX_EVENT_EVCNT_ACQ_RETRY n + 1) % 256 ∧
    OnlyLaneAt s t n [F.LLN_RX_STATUS_STATE, F.LLN_RX_STATUS_SIG_DET, F.LLN_RX_STATUS_CTLE, F.LLN_RX_EVENT_ACQ_RETRY, F.LLN_RX_EVENT_EVCNT_ACQ_RETRY])) ∧
  (∀ (s : State) (n : Nat) (lost : Bool), n < 8 → s.rxState n = 2 ∨ s.rxState n = 3 → lost = true ∨ (s.rxLane n).since + 64 ≤ s.ltb.lc →
    s.fld F.DSF_CH_STATUS_STATE n = 0 → s.tc ≠ n → s.fld F.LTB_STATUS_COASTING 0 = 0 → Gives (.cdrLoss n lost) s (fun t =>
    t.rxState n = 1 ∧ t.fld F.LLN_RX_STATUS_CDR_LOCK n = 0 ∧ t.fld F.LLN_RX_EVENT_CDR_LOSS n = 1 ∧
    (lost = true → t.fld F.LLN_RX_STATUS_SIG_DET n = 0 ∧ t.fld F.LLN_RX_EVENT_SIG_LOSS n = 1) ∧
    OnlyLaneAt s t n [F.LLN_RX_STATUS_STATE, F.LLN_RX_STATUS_CDR_LOCK, F.LLN_RX_STATUS_SIG_DET, F.LLN_RX_EVENT_CDR_LOSS,
      F.LLN_RX_EVENT_EVCNT_CDR_LOSS, F.LLN_RX_EVENT_SIG_LOSS, F.LLN_RX_EVENT_EVCNT_SIG_LOSS]))

/-- R95, R96: the transmit lane's moves. A burst handed over rises at its stamp less LEAD, is counted at its end and leaves the lane DARK; TX_DISABLE shuts it. -/
def Obligations.TransmitLaneMoves : Prop :=
  (∀ (s : State) (n : Nat), n < 8 → s.txState n = 0 → s.fld F.LLN_TX_CFG_EN n = 1 → s.dom (4 + n / 4) (n % 4) = 2 → s.txStandby n = false →
    Gives (.txPllLock n) s (fun t => t.fld F.LLN_TX_STATUS_PLL_LOCK n = 1 ∧
      t.txState n = (if s.fld F.LLN_TX_STATUS_TXDIS_SENSED n = 1 then 3 else 1) ∧
      OnlyRegsAt s t n [F.LLN_TX_STATUS_PLL_LOCK, F.LLN_TX_STATUS_STATE])) ∧
  (∀ (s : State) (n : Nat) (b : Burst) (rest : List Burst), n < 8 → s.pullBurst n 3 = some (b, rest) → b.start - b.lead ≤ s.lin → s.txState n = 1 →
    s.txBusy n = false → b.rate < 8 → bit (s.fld F.LLN_TX_CFG_RATE_EN n) b.rate = true →
    (s.txLane n).retunes b = false → Gives (.benRise n) s (fun t =>
      t.txState n = 2 ∧ t.fld F.LLN_TX_STATUS_RATE n = b.rate % 4 ∧ (t.txLane n).ben = true ∧ (t.txLane n).burst = some b ∧
      (t.txLane n).emph = ⟨s.fld F.LLN_TX_EMPH_POST n, s.fld F.LLN_TX_EMPH_PRE n, min 60 (s.fld F.LLN_TX_EMPH_AMPL n)⟩ ∧
      (t.ubeCh n).bursts = { b with phase := 4 } :: rest ∧ (bit (s.fld F.INF_TRACE_CFG_LANES 0) n = false → t.inf = s.inf) ∧
      t = { s with regs := t.regs, lln := t.lln, ube := t.ube, inf := t.inf } ∧ KeepsAt s t n [F.LLN_TX_STATUS_STATE, F.LLN_TX_STATUS_RATE])) ∧
  (∀ (s : State) (n : Nat) (b : Burst) (rest : List Burst), s.pullBurst n 3 = some (b, rest) → s.lin < b.start - b.lead → Gives (.benRise n) s (fun t => t = s)) ∧
  (∀ (s : State) (n : Nat) (b : Burst), n < 8 → (s.txLane n).burst = some b → s.txState n = 2 → b.start + b.len - 1 ≤ s.lin → Gives (.lastBitSerialised n) s (fun t =>
      t.txState n = 1 ∧ OnlyRegsAt s t n [F.LLN_TX_STATUS_STATE])) ∧
  (∀ (s : State) (n : Nat) (b : Burst), n < 8 → (s.txLane n).burst = some b → s.txState n = 1 → b.fall ≤ s.lin → s.fld F.LLN_TX_CFG_EN n = 1 →
      Gives (.benFall n) s (fun t =>
      t.txState n = (if s.fld F.LLN_TX_STATUS_TXDIS_SENSED n = 1 then 3 else 1) ∧ (t.txLane n).ben = false ∧ (t.txLane n).burst = none ∧
      (t.txLane n).lastFall = some b.fall ∧ t.fld F.LLN_TX_BURSTS_BURSTS n = min (s.fld F.LLN_TX_BURSTS_BURSTS n + 1) (2 ^ 32 - 1) ∧
      t.fld F.UBE_CH_BURSTS_BURSTS n = min (s.fld F.UBE_CH_BURSTS_BURSTS n + 1) F.UBE_CH_BURSTS_BURSTS.top ∧
      (∀ x ∈ (t.ubeCh n).bursts, x.phase < 4) ∧ t = { s with regs := t.regs, lln := t.lln, ube := t.ube } ∧
      KeepsAt s t n [F.LLN_TX_STATUS_STATE, F.LLN_TX_BURSTS_BURSTS, F.UBE_CH_BURSTS_BURSTS, F.UBE_CH_PAYLOAD_UNITS, F.ACT_CH_COUNT_SN_SENT, F.ACT_CH_COUNT_RNG_SENT])) ∧
  (∀ (s : State) (n : Nat), n < 8 → s.txState n = 1 → (s.txLane n).burst = none → Gives (.txDisableAsserted n) s (fun t =>
      t.txState n = 3 ∧ t.fld F.LLN_TX_STATUS_TXDIS_SENSED n = 1 ∧ OnlyRegsAt s t n [F.LLN_TX_STATUS_STATE, F.LLN_TX_STATUS_TXDIS_SENSED])) ∧
  (∀ (s : State) (n : Nat), n < 8 → s.txState n = 3 → Gives (.txDisableReleased n) s (fun t =>
      t.txState n = 1 ∧ t.fld F.LLN_TX_STATUS_TXDIS_SENSED n = 0 ∧ OnlyRegsAt s t n [F.LLN_TX_STATUS_STATE, F.LLN_TX_STATUS_TXDIS_SENSED]))

/-- R96, R178, R179, R181 to R183: a planned burst is filled FILL_LEAD before its start with its PLOAMu, its DBRus and what its allocations have room for, a fragment where the rest
does not fit; the filled burst is handed to its lane, or waits for what is off chip, or is skipped where it is too late; LEAD and 64 lc before its start it is handed
over whatever is missing, which is counted where something is. -/
def Obligations.BurstsAreFilledAndHandedOver : Prop :=
  (∀ (s : State) (c : Nat) (b : Burst) (rest : List Burst) (cell : Option (Nat × Nat × Nat)), c < 8 → s.pullBurst c 2 = some (b, rest) →
    let r := (s.refreshUp.fillCell c b cell).fillBurst c b
    (r.2.waitsFor c r.1 = false → r.2.tooLate r.1 = false → Gives (.handed c cell) s (fun t =>
      (t.ubeCh c).bursts = swapBurst r.1.phase { r.1 with phase := 3 } (r.2.ubeCh c).bursts ∧ (∀ n, n ≠ c → t.ubeCh n = r.2.ubeCh n) ∧
      (r.2.dom (4 + c / 4) (c % 4) = 2 → t = { r.2 with ube := t.ube }))) ∧
    (r.2.waitsFor c r.1 = true → Gives (.handed c cell) s (fun t => (t.ubeCh c).bursts = swapBurst 2 r.1 (r.2.ubeCh c).bursts ∧ t = { r.2 with ube := t.ube })) ∧
    (r.2.waitsFor c r.1 = false → r.2.tooLate r.1 = true → Gives (.handed c cell) s (fun t => (t.ubeCh c).bursts = rest ∧ t.fld F.LLN_TX_EVENT_LATE_SKIP c = 1 ∧
      t.fld F.LLN_TX_SKIP_LATE c = min (r.2.fld F.LLN_TX_SKIP_LATE c + 1) F.LLN_TX_SKIP_LATE.top)) ∧
    (b.start - b.lead - 64 ≤ s.lin → r.2.waitsFor c r.1 = true → r.2.tooLate r.1 = false → Gives (.lateFill c cell) s (fun t =>
      (t.ubeCh c).bursts = swapBurst r.1.phase { r.1 with phase := 3 } (r.2.ubeCh c).bursts ∧ t.fld F.UBE_EVENT_LATE_FILL 0 = 1 ∧
      t.fld F.UBE_CH_DISC2_LATE_FILL c = min (r.2.fld F.UBE_CH_DISC2_LATE_FILL c + 1) F.UBE_CH_DISC2_LATE_FILL.top ∧
      (r.2.dom (4 + c / 4) (c % 4) = 2 → t = { r.2 with regs := t.regs, hif := t.hif, ube := t.ube } ∧
        KeepsRegs r.2 t (eventFlds ++ [F.UBE_CH_DISC2_LATE_FILL, F.UBE_EVENT_LATE_FILL, F.UBE_EVENT_EVCNT_LATE_FILL])))) ∧
    (b.start - b.lead - 64 ≤ s.lin → r.2.waitsFor c r.1 = false → r.2.tooLate r.1 = false → Gives (.lateFill c cell) s (fun t =>
      (t.ubeCh c).bursts = swapBurst r.1.phase { r.1 with phase := 3 } (r.2.ubeCh c).bursts ∧ t.fld F.UBE_CH_DISC2_LATE_FILL c = r.2.fld F.UBE_CH_DISC2_LATE_FILL c)) ∧
    (s.lin < b.start - b.lead - 64 → Gives (.lateFill c cell) s (fun t => t = s))) ∧
  (∀ (s : State) (c : Nat) (b : Burst) (rest : List Burst), c < 8 → s.pullBurst c 2 = some (b, rest) → (∀ p ∈ b.parts, p.room = 0) → b.response = none →
    s.tooLate b = false → s.dom (4 + c / 4) (c % 4) = 2 → Gives (.handed c none) s (fun t =>
      (t.ubeCh c).bursts = swapBurst 2 { b with phase := 3 } (s.ubeCh c).bursts ∧ t = { s.refreshUp with ube := t.ube })) ∧
  (∀ (s : State) (c : Nat) (x : Option (Nat × Nat × Nat)), s.pullBurst c 1 = none → Gives (.filling c x) s (fun t => t = s)) ∧
  (∀ (s : State) (c : Nat) (x : Option (Nat × Nat × Nat)) (b : Burst) (rest : List Burst), s.pullBurst c 1 = some (b, rest) → s.lin < b.start - b.fillLead →
    Gives (.filling c x) s (fun t => t = s)) ∧
  (∀ (s : State) (c : Nat) (x : Option (Nat × Nat × Nat)) (b : Burst) (m : Ploamu) (rest : List Burst), s.pullBurst c 1 = some (b, rest) → b.start - b.fillLead ≤ s.lin →
    b.response = some m → m ≠ .registration → Gives (.filling c x) s (fun t =>
      (t.ubeCh c).bursts = swapBurst 1 { b with phase := 2, ploamu := some (some m), parts := b.parts.map (fun q => { q with room := q.payRoom }) } (s.ubeCh c).bursts ∧
      t = { s with ube := t.ube, tmg := t.tmg })) ∧
  (∀ (s : State) (c : Nat) (x : Option (Nat × Nat × Nat)) (b : Burst) (m : Ploamu) (ms : List Ploamu) (rest : List Burst), s.pullBurst c 1 = some (b, rest) →
    b.start - b.fillLead ≤ s.lin → b.response = none → b.wantPloamu = true → b.parts = [] → (s.ubeCh c).ploams = m :: ms → Gives (.filling c x) s (fun t =>
      (t.ubeCh c).bursts = swapBurst 1 { b with phase := 2, ploamu := some (some m) } (s.ubeCh c).bursts ∧ (t.ubeCh c).ploams = ms ∧
      t = { s with ube := t.ube, tmg := t.tmg })) ∧
  (∀ (s : State) (c a n left e : Nat) (x : Option (Nat × Nat × Nat)) (b : Burst) (rest : List Burst), s.pullBurst c 1 = some (b, rest) → b.start - b.fillLead ≤ s.lin →
    b.response = none → b.wantPloamu = false → b.parts = [⟨a, n, false, 0, 0, []⟩] → SMap.find (s.ubeCh c).rem a = some (left, e) → bit (s.portKey e) 2 = false →
    xgemBytes left ≤ n → s.tmg.queues = [] → Gives (.filling c x) s (fun t => (t.ubeCh c).bursts = swapBurst 1 { b with
        phase := 2, ploamu := none, parts := [⟨a, n, false, 0, n - xgemBytes left, xgemFrames 0 e (s.portOf e) 0 left true false⟩] } (s.ubeCh c).bursts ∧
      SMap.find (t.ubeCh c).rem a = none ∧ t = { s with ube := t.ube })) ∧
  (∀ (s : State) (c a n left e : Nat) (x : Option (Nat × Nat × Nat)) (b : Burst) (rest : List Burst), s.pullBurst c 1 = some (b, rest) → b.start - b.fillLead ≤ s.lin →
    b.response = none → b.wantPloamu = false → b.parts = [⟨a, n, false, 0, 0, []⟩] → SMap.find (s.ubeCh c).rem a = some (left, e) → bit (s.portKey e) 2 = false →
    left ≤ 16383 → n < left + 8 → s.fragMin ≤ n → s.tmg.queues = [] → Gives (.filling c x) s (fun t => (t.ubeCh c).bursts = swapBurst 1 { b with
        phase := 2, ploamu := none, parts := [⟨a, n, false, 0, 0, xgemFrames 0 e (s.portOf e) 0 (n - 8) false false⟩] } (s.ubeCh c).bursts ∧
      SMap.find (t.ubeCh c).rem a = some (left - (n - 8), e) ∧ t = { s with ube := t.ube })) ∧
  (∀ (s : State) (c a n left e i : Nat) (x : Option (Nat × Nat × Nat)) (b : Burst) (rest : List Burst), s.pullBurst c 1 = some (b, rest) → b.start - b.fillLead ≤ s.lin →
    b.response = none → b.wantPloamu = false → b.parts = [⟨a, n, false, 0, 0, []⟩] → SMap.find (s.ubeCh c).rem a = some (left, e) → bit (s.portKey e) 2 = true →
    b.key = some i → xgemBytes left ≤ n → s.tmg.queues = [] → Gives (.filling c x) s (fun t => (t.ubeCh c).bursts = swapBurst 1 { b with
        phase := 2, ploamu := none, parts := [⟨a, n, false, 0, n - xgemBytes left, xgemFrames 0 e (s.portOf e) i left true false⟩] } (s.ubeCh c).bursts ∧
      t = { s with ube := t.ube })) ∧
  (∀ (s : State) (c a : Nat) (x : Option (Nat × Nat × Nat)) (b : Burst) (rest : List Burst), s.pullBurst c 1 = some (b, rest) → b.start - b.fillLead ≤ s.lin →
    b.response = none → b.wantPloamu = false → b.parts = [⟨a, 4, true, 0, 0, []⟩] → SMap.find (s.ubeCh c).rem a = none → s.tmg.queues = [] →
    Gives (.filling c x) s (fun t => (t.ubeCh c).bursts = swapBurst 1 { b with phase := 2, ploamu := none, parts := [⟨a, 4, true, s.dbru c a, 0, []⟩] } (s.ubeCh c).bursts ∧
      t = { s with ube := t.ube }))

/-- R104 to R108: loops and test patterns of a line lane pair and of a host port, and the optics buses: the command ends with OK and its lanes move, or it is refused with
what it found. -/
def Obligations.LaneCommandsComplete : Prop :=
  (∀ (s : State) (d : Desc), let n := laneArg d
    let kind := bits (d.dw 5) 9 8
    d.opcode = 0x0801 → hostArg d = false → s.hasLane false n = true →
    (kind ≠ 0 → kind ≠ 3 → s.rxState n = 0 → s.txState n = 0 → Gives (.laneLoopSet d) s (fun t =>
      Ends d stOk 0 t ∧ t.rxState n = 4 ∧ t.txState n = 4 ∧ (t.rxLane n).loop = kind ∧ (t.txLane n).loop = kind ∧ (t.txLane n).ben = false ∧
      t = { s with regs := t.regs, hif := t.hif, lfg := t.lfg, lln := t.lln } ∧ KeepsRegs s t (commitFlds ++ [F.LLN_RX_STATUS_STATE, F.LLN_TX_STATUS_STATE]))) ∧
    (kind ≠ 0 → kind ≠ 3 → s.rxState n ≠ 0 → Gives (.laneLoopSet d) s (EndsOnly d stStateRefused (refusedWord 0x01 n (s.rxState n)) s)) ∧
    (kind ≠ 0 → kind ≠ 3 → s.rxState n = 0 → s.txState n ≠ 0 → Gives (.laneLoopSet d) s (EndsOnly d stStateRefused (refusedWord 0x02 n (s.txState n)) s)) ∧
    (kind = 3 → Gives (.laneLoopSet d) s (EndsOnly d stBadArg 5 s)) ∧
    (kind = 0 → s.rxState n = 4 → s.txState n = 4 → Gives (.laneLoopRemove d) s (fun t => Ends d stOk 0 t ∧
      t.rxState n = (if s.fld F.LLN_RX_CFG_EN n = 1 ∧ s.dom (2 + n / 4) (n % 4) = 2 then 1 else 0) ∧ t.txState n = 0 ∧ (t.rxLane n).loop = 0 ∧
      (t.rxLane n).checker = 0 ∧ (t.txLane n).loop = 0 ∧ (t.txLane n).generator = 0 ∧ t = { s with regs := t.regs, hif := t.hif, lfg := t.lfg, lln := t.lln } ∧
      KeepsRegs s t (commitFlds ++ [F.LLN_RX_STATUS_STATE, F.LLN_TX_STATUS_STATE, F.LLN_RX_STATUS_CTLE] ++ tapFields))) ∧
    (kind = 0 → s.rxState n ≠ 4 → Gives (.laneLoopRemove d) s (EndsOnly d stStateRefused (refusedWord 0x01 n (s.rxState n)) s))) ∧
  (∀ (s : State) (d : Desc), let n := laneArg d
    let kind := bits (d.dw 5) 9 8
    d.opcode = 0x0801 → hostArg d = true → s.hasLane true n = true →
    (kind ≠ 0 → s.hostState n = 0 → Gives (.laneLoopSet d) s (fun t => Ends d stOk 0 t ∧
      (∀ l ∈ s.lanesWith n, t.fld F.HPM_SD_STATUS_STATE l = 5 ∧ (t.hostLane l).loop = kind) ∧
      (∀ l, l ∉ s.lanesWith n → t.fld F.HPM_SD_STATUS_STATE l = s.fld F.HPM_SD_STATUS_STATE l ∧ t.hostLane l = s.hostLane l) ∧
      t = { s with regs := t.regs, hif := t.hif, lfg := t.lfg, lln := t.lln } ∧ KeepsRegs s t (commitFlds ++ [F.HPM_SD_STATUS_STATE]))) ∧
    (kind ≠ 0 → s.hostState n ≠ 0 → Gives (.laneLoopSet d) s (EndsOnly d stStateRefused (refusedWord 0x03 n (s.hostState n)) s)) ∧
    (kind = 0 → s.hostState n = 5 → Gives (.laneLoopRemove d) s (fun t => Ends d stOk 0 t ∧
      (∀ l ∈ s.lanesWith n, t.fld F.HPM_SD_STATUS_STATE l ≠ 5 ∧ (t.hostLane l).loop = 0 ∧ (s.fld F.HPM_CFG_PORT_EN 0 = 0 → t.fld F.HPM_SD_STATUS_STATE l = 0)) ∧
      t = { s with regs := t.regs, hif := t.hif, lfg := t.lfg, lln := t.lln } ∧ KeepsRegs s t (commitFlds ++ sdFlds))) ∧
    (kind = 0 → s.hostState n ≠ 5 → Gives (.laneLoopRemove d) s (EndsOnly d stStateRefused (refusedWord 0x03 n (s.hostState n)) s))) ∧
  (∀ (s : State) (d : Desc), d.opcode = 0x0801 → s.hasLane (hostArg d) (laneArg d) = false →
    (bits (d.dw 5) 9 8 ≠ 0 → Gives (.laneLoopSet d) s (EndsOnly d stBadArg 5 s)) ∧
    (bits (d.dw 5) 9 8 = 0 → Gives (.laneLoopRemove d) s (EndsOnly d stBadArg 5 s))) ∧
  (∀ (s : State) (d : Desc), let n := laneArg d
    let pat := bits (d.dw 6) 3 0
    d.opcode = 0x0802 → hostArg d = false → s.hasLane false n = true → pat < 3 →
    pat = 0 ∨ (s.rxState n = 4 ∧ s.txState n = 4 ∧ (bit (d.dw 6) 8 = true ∨ bit (d.dw 6) 9 = true)) → Gives (.laneTest d) s (fun t => Ends d stOk 0 t ∧
      (t.txLane n).generator = (if bit (d.dw 6) 8 then pat else 0) ∧ (t.rxLane n).checker = (if bit (d.dw 6) 9 then pat else 0) ∧
      t = { s with regs := t.regs, hif := t.hif, lfg := t.lfg, lln := t.lln } ∧ KeepsRegs s t commitFlds)) ∧
  (∀ (s : State) (d : Desc), let n := laneArg d
    let pat := bits (d.dw 6) 3 0
    d.opcode = 0x0802 → hostArg d = true → s.hasLane true n = true → pat < 6 →
    pat = 0 ∨ (s.hostState n = 5 ∧ (bit (d.dw 6) 8 = true ∨ bit (d.dw 6) 9 = true)) → Gives (.laneTest d) s (fun t => Ends d stOk 0 t ∧
      (t.hostLane n).generator = (if bit (d.dw 6) 8 then pat else 0) ∧ (t.hostLane n).checker = (if bit (d.dw 6) 9 then pat else 0) ∧
      t = { s with regs := t.regs, hif := t.hif, lfg := t.lfg, lln := t.lln } ∧ KeepsRegs s t commitFlds)) ∧
  (∀ (s : State) (d : Desc), let n := laneArg d
    d.opcode = 0x0802 → hostArg d = false → s.hasLane false n = true → 0 < bits (d.dw 6) 3 0 → bits (d.dw 6) 3 0 < 3 → s.rxState n ≠ 4 →
    Gives (.laneTest d) s (EndsOnly d stStateRefused (refusedWord 0x01 n (s.rxState n)) s)) ∧
  (∀ (s : State) (d : Desc) (x : Nat), d.opcode = 0x0803 → bit (d.dw 5) 1 = true → Gives (.osaRead d false (some x)) s (fun t => Ends d stOk (x % 256) t ∧
      t.lln.osa = s.lln.osa ++ [⟨bits (d.dw 5) 0 0, true, bits (d.dw 5) 8 2, bits (d.dw 5) 23 16, d.dw 6 % 256⟩] ∧
      t = { s with regs := t.regs, hif := t.hif, lfg := t.lfg, lln := { s.lln with osa := t.lln.osa } } ∧ KeepsRegs s t commitFlds)) ∧
  (∀ (s : State) (d : Desc), d.opcode = 0x0803 → bit (d.dw 5) 1 = false → Gives (.osaWrite d false true) s (fun t => Ends d stOk 0 t ∧
      t.lln.osa = s.lln.osa ++ [⟨bits (d.dw 5) 0 0, false, bits (d.dw 5) 8 2, bits (d.dw 5) 23 16, d.dw 6 % 256⟩] ∧
      t = { s with regs := t.regs, hif := t.hif, lfg := t.lfg, lln := { s.lln with osa := t.lln.osa } } ∧ KeepsRegs s t commitFlds)) ∧
  (∀ (s : State) (d : Desc), d.opcode = 0x0803 →
    (∀ (data : Option Nat), bit (d.dw 5) 1 = true → Gives (.osaRead d true data) s (EndsOnly d stBusy 0 s)) ∧
    (∀ (ack : Bool), bit (d.dw 5) 1 = false → Gives (.osaWrite d true ack) s (EndsOnly d stBusy 0 s)) ∧
    (bit (d.dw 5) 1 = true → Gives (.osaRead d false none) s (Ends d stFault (osaLoc (bits (d.dw 5) 0 0)))) ∧
    (bit (d.dw 5) 1 = false → Gives (.osaWrite d false false) s (Ends d stFault (osaLoc (bits (d.dw 5) 0 0)))))

/-- R100, R101: a host port's lanes move through negotiation, training and alignment; a failure returns them to DOWN and starts them again. -/
def Obligations.HostLaneBringUp : Prop :=
  (∀ (s : State) (p : Nat) (partner : List Ability), p < 4 → s.portState p = 1 → (advertised (s.fld F.HPM_CFG_MODE 0)).any (fun a => partner.contains a) = true →
    Gives (.anResolved p partner) s (fun t => t.portState p = (if s.ltEn (s.firstLane p) then 2 else 3) ∧ t = { s with regs := t.regs, lln := t.lln } ∧
      KeepsRegs s t [F.HPM_SD_STATUS_STATE, F.HPM_SD_TXFFE_CM2, F.HPM_SD_TXFFE_CM1, F.HPM_SD_TXFFE_C0, F.HPM_SD_TXFFE_C1])) ∧
  (∀ (s : State) (p : Nat) (partner : List Ability), s.portState p ≠ 1 ∨ (advertised (s.fld F.HPM_CFG_MODE 0)).any (fun a => partner.contains a) = false →
    Gives (.anResolved p partner) s (fun t => t = s)) ∧
  (∀ (s : State) (p : Nat), p < 4 → s.portState p = 1 → Gives (.anRestart p) s (fun t => t.portState p = 1 ∧
    (∀ l ∈ s.lanesOf p, t.fld F.HPM_SD_EVENT_AN_RESTART l = 1) ∧ t = { s with regs := t.regs, lln := t.lln } ∧
    KeepsRegs s t [F.HPM_SD_STATUS_STATE, F.HPM_SD_EVENT_AN_RESTART, F.HPM_SD_EVENT_EVCNT_AN_RESTART])) ∧
  (∀ (s : State) (p : Nat) (cs : List (Nat × Nat × Nat × Nat)), p < 4 → s.portState p = 2 → cs.length = (s.lanesOf p).length → Gives (.trainComplete p cs) s (fun t =>
    t.portState p = 3 ∧ t = { s with regs := t.regs, lln := t.lln } ∧
    KeepsRegs s t [F.HPM_SD_STATUS_STATE, F.HPM_SD_TXFFE_CM2, F.HPM_SD_TXFFE_CM1, F.HPM_SD_TXFFE_C0, F.HPM_SD_TXFFE_C1])) ∧
  (∀ (s : State) (p : Nat), p < 4 → s.portState p = 2 → Gives (.trainFail p) s (fun t =>
    (∀ l ∈ s.lanesOf p, t.fld F.HPM_SD_EVENT_TRAIN_FAIL l = 1 ∧ t.fld F.HPM_SD_STATUS_CDR_LOCK l = 0) ∧ t.portState p ≠ 0 ∧
    t = { s with regs := t.regs, lln := t.lln } ∧ KeepsRegs s t (sdFlds ++ [F.HPM_SD_EVENT_TRAIN_FAIL, F.HPM_SD_EVENT_EVCNT_TRAIN_FAIL]))) ∧
  (∀ (s : State) (p : Nat) (skew : Option Nat), p < 4 → s.portState p = 3 → (∀ x, skew = some x → 200 < x) →
    (skew = none → (s.hostLane (s.firstLane p)).since + 12441600 ≤ s.ltb.lc) → Gives (.deskewFail p skew) s (fun t =>
    (∀ l ∈ s.lanesOf p, t.fld F.HPM_SD_EVENT_DESKEW_FAIL l = 1) ∧ t.portState p ≠ 0 ∧
    t = { s with regs := t.regs, lln := t.lln } ∧ KeepsRegs s t (sdFlds ++ [F.HPM_SD_EVENT_DESKEW_FAIL, F.HPM_SD_EVENT_EVCNT_DESKEW_FAIL]))) ∧
  (∀ (s : State) (p x : Nat), x ≤ 200 → Gives (.deskewFail p (some x)) s (fun t => t = s))

/-- R121 to R128: what becomes of a delineated XGEM frame and of a frame the reorder buffer releases. A plain frame that holds a whole SDU is handed on at
once; an uncorrectable header loses the rest of its frame's delineation; a frame of no entry is counted; a frame of a bonded Port-ID waits while another
member's position has not passed it. -/
def Obligations.DownstreamFrames : Prop :=
  (∀ (s : State) (x : XgemHdr) (e : Nat) (pe : PortEntry), x.chan < 8 → s.inSync x.chan = true → s.ltb.sleep = none →
    s.fld F.DSF_CH_STATUS_FEC_IN_USE x.chan ≠ 0 → (s.framing x.chan).lostFrame ≠ some x.sfc → x.hec = 0 → x.idle = false →
    (s.fld F.DSF_PRC_CFG_EN 0 = 1 → x.port ≠ s.fld F.DSF_PRC_CFG_PORT_ID 0) → s.portEntry x.port = some (e, pe) → pe.bonded = false →
    bit pe.mask (x.chan % 4) = true → s.onActive x.chan = true → s.member x.chan ≠ 2 → x.errored = false → x.keyIdx = 0 →
    bit (s.portKey e) 0 = false → x.lf = true → 0 < x.pli → DsfQuiet s → Gives (.xgemFrame x) s (fun t =>
      t.dsf.out = s.dsf.out ++ [⟨x.port, e, x.chan, 0, x.options, x.pli, s.stamp, [⟨0, xgemKeyLc x / 155520, x.offset, x.pli⟩]⟩] ∧
      (t.framing x.chan).pos = x.sfc * 155520 + (x.offset + 7 + x.pli) / 5 ∧
      t = { s with regs := t.regs, dsf := { s.dsf with chans := t.dsf.chans, out := t.dsf.out, pm := t.dsf.pm, bondOn := t.dsf.bondOn } } ∧
      KeepsRegs s t [F.DSF_BOND_HELD_UNITS])) ∧
  (∀ (s : State) (x : XgemHdr), x.chan < 8 → s.inSync x.chan = true → s.ltb.sleep = none → s.fld F.DSF_CH_STATUS_FEC_IN_USE x.chan ≠ 0 →
    (s.framing x.chan).lostFrame ≠ some x.sfc → x.hec = 2 → DsfQuiet s → Gives (.xgemFrame x) s (fun t =>
      t.fld F.DSF_CH_HEC_HEC_UNCORR x.chan = min (s.fld F.DSF_CH_HEC_HEC_UNCORR x.chan + 1) F.DSF_CH_HEC_HEC_UNCORR.top ∧
      (t.framing x.chan).lostFrame = some x.sfc ∧ (t.pm x.chan).secErr = true ∧ t.dsf.out = s.dsf.out ∧
      t = { s with regs := t.regs, dsf := { s.dsf with chans := t.dsf.chans, pm := t.dsf.pm, losses := t.dsf.losses, bondOn := t.dsf.bondOn } } ∧
      KeepsRegs s t [F.DSF_CH_HEC_HEC_UNCORR, F.DSF_BOND_HELD_UNITS])) ∧
  (∀ (s : State) (x : XgemHdr), x.chan < 8 → s.inSync x.chan = true → s.ltb.sleep = none → s.fld F.DSF_CH_STATUS_FEC_IN_USE x.chan ≠ 0 →
    (s.framing x.chan).lostFrame ≠ some x.sfc → x.hec = 0 → x.idle = false → s.fld F.DSF_PRC_CFG_EN 0 = 0 → s.portEntry x.port = none →
    s.member x.chan ≠ 2 → DsfQuiet s → Gives (.xgemFrame x) s (fun t =>
      t.fld F.DSF_CH_XGEM_DISC_UNKNOWN_PORT x.chan = min (s.fld F.DSF_CH_XGEM_DISC_UNKNOWN_PORT x.chan + 1) F.DSF_CH_XGEM_DISC_UNKNOWN_PORT.top ∧
      t.dsf.out = s.dsf.out ∧
      t = { s with regs := t.regs, dsf := { s.dsf with chans := t.dsf.chans, pm := t.dsf.pm, bondOn := t.dsf.bondOn } } ∧
      KeepsRegs s t [F.DSF_CH_XGEM_DISC_UNKNOWN_PORT, F.DSF_BOND_HELD_UNITS])) ∧
  (∀ (s : State) (x : XgemHdr) (e k : Nat) (pe : PortEntry), x.chan < 8 → s.inSync x.chan = true → s.ltb.sleep = none →
    s.fld F.DSF_CH_STATUS_FEC_IN_USE x.chan ≠ 0 → (s.framing x.chan).lostFrame ≠ some x.sfc → x.hec = 0 → x.idle = false →
    (s.fld F.DSF_PRC_CFG_EN 0 = 1 → x.port ≠ s.fld F.DSF_PRC_CFG_PORT_ID 0) → s.portEntry x.port = some (e, pe) → pe.bonded = true →
    s.dsf.bondOn = true → bit pe.mask (x.chan % 4) = true → s.onActive x.chan = true → s.member x.chan = 1 → x.pli < 2 ^ 14 →
    s.dsf.released = none → k < 4 → s.chanOf k ≠ x.chan → s.member k = 1 → (s.framing (s.chanOf k)).pos < xgemKeyLc x → DsfQuiet s →
    Gives (.xgemFrame x) s (fun t =>
      t.dsf.held = [⟨x.chan, e, x.port, xgemKeyLc x, x.offset, x.pli, x.keyIdx, x.options, x.lf, x.errored⟩] ∧
      t.fld F.DSF_BOND_HELD_UNITS 0 = (8 + x.pli + 31) / 32 + 1 ∧ t.dsf.out = s.dsf.out ∧
      t = { s with regs := t.regs, dsf := { s.dsf with chans := t.dsf.chans, held := t.dsf.held } } ∧ KeepsRegs s t [F.DSF_BOND_HELD_UNITS])) ∧
  (∀ (s : State) (x : Xgem), s.dsf.held = [x] → s.releasable x = true → s.dsf.losses = [] → s.dsf.reasm = [] → s.dsf.thresholds = [] →
    x.errored = false → x.keyIdx = 0 → bit (s.portKey x.entry) 0 = false → x.lf = true → 0 < x.pli → Gives (.reorderRelease none) s (fun t =>
      t.dsf.held = [] ∧ t.dsf.released = some (x.keyLc, x.chan, x.offset) ∧
      t.dsf.out = s.dsf.out ++ [⟨x.port, x.entry, x.chan, 0, x.options, x.pli, s.stamp, [⟨0, x.keyLc / 155520, x.offset, x.pli⟩]⟩] ∧ t.fld F.DSF_BOND_HELD_UNITS 0 = 0 ∧
      t = { s with regs := t.regs, dsf := { s.dsf with held := [], released := t.dsf.released, out := t.dsf.out, pm := t.dsf.pm, bondOn := t.dsf.bondOn } } ∧
      KeepsRegs s t [F.DSF_BOND_HELD_UNITS])) ∧
  (∀ (s : State) (x : Xgem) (rest : List Xgem), s.dsf.held = x :: rest → s.releasable x = false → s.dsf.losses = [] → Gives (.reorderRelease none) s (fun t =>
      t.dsf = s.dsf ∧ OnlyRegs s t [F.DSF_BOND_HELD_UNITS])) ∧
  (∀ (s : State) (x : Xgem) (rest : List Xgem) (f : ReorderFail), s.dsf.held = x :: rest → s.releasable x = false → s.dsf.losses = [] →
    Gives (.reorderRelease (some f)) s (fun t =>
      t.dsf.held = s.dsf.held.map (fun y => if f.frames.contains y.place then { y with errored := true } else y) ∧
      (∃ r, t.lfg.volatile.head? = some r ∧ r.payload.take 2 = [2 ^ 22 + 3 * 2 ^ 16 + 0xF0, errLoc 3 f.tile f.mac f.row]) ∧
      t = { s with regs := t.regs, hif := t.hif, lfg := t.lfg, dsf := { s.dsf with held := t.dsf.held } } ∧ KeepsRegs s t (eventFlds ++ [F.DSF_BOND_HELD_UNITS]))) ∧
  (∀ (s : State) (c : Nat), s.onActive c = true → s.member c = 1 → s.dsf.held = [] → s.dsf.losses = [] →
    (s.framing c).posLc + s.stallLc ≤ s.ltb.lc → Gives (.bondStall c) s (fun t =>
      t.member c = 2 ∧ t.fld F.DSF_BOND_EVENT_SUSPEND 0 = 1 ∧ (∀ j, j % 4 ≠ c % 4 → t.member j = s.member j) ∧
      t = { s with regs := t.regs, hif := t.hif, dsf := { s.dsf with bondOn := t.dsf.bondOn } } ∧
      KeepsRegs s t (eventFlds ++ [F.DSF_BOND_STATUS_MSTATE, F.DSF_BOND_STATUS_SKEW, F.DSF_BOND_EVENT_SUSPEND, F.DSF_BOND_EVENT_EVCNT_SUSPEND, F.DSF_BOND_HELD_UNITS]))) ∧
  (∀ (s : State) (c : Nat), s.ltb.lc < (s.framing c).posLc + s.stallLc → Gives (.bondStall c) s (fun t => t = s)) ∧
  (∀ (s : State) (c fp : Nat), SMap.find s.dsf.parkAt c = some fp → (s.framing c).pos < fp * 155520 → Gives (.parkingDone c) s (fun t => t = s)) ∧
  (∀ (s : State) (c fp : Nat), s.onActive c = true → s.member c = 3 → s.dsf.held = [] → s.dsf.losses = [] → SMap.find s.dsf.parkAt c = some fp →
    fp * 155520 ≤ (s.framing c).pos → Gives (.parkingDone c) s (fun t =>
      t.member c = 0 ∧ SMap.find t.dsf.parkAt c = none ∧ (∀ j, j % 4 ≠ c % 4 → t.member j = s.member j) ∧
      t = { s with regs := t.regs, dsf := { s.dsf with parkAt := t.dsf.parkAt, bondOn := t.dsf.bondOn } } ∧
      KeepsRegs s t [F.DSF_BOND_STATUS_MSTATE, F.DSF_BOND_STATUS_SKEW, F.DSF_BOND_HELD_UNITS]))

/-- R112 to R118, R131, R132, R135, R144: the frame hunt, the defects of a channel and its codewords. -/
def Obligations.FramingAndDefects : Prop :=
  (∀ (s : State) (c align : Nat) (sfc : Option Nat), (s.fld F.DSF_CH_STATUS_STATE c = 1 ∨ s.fld F.DSF_CH_STATUS_STATE c = 2) →
    (s.framing c).cands.length < 8 → Gives (.psyncMatch c align sfc) s (fun t =>
      t.fld F.DSF_CH_STATUS_STATE c = 2 ∧ (t.framing c).cands = (s.framing c).cands ++ [⟨s.ltb.lc, align, sfc⟩] ∧
      t.fld F.DSF_CH_STATUS_CANDIDATES c = (s.framing c).cands.length + 1 ∧
      t = { s with regs := t.regs, dsf := { s.dsf with chans := t.dsf.chans } } ∧
      KeepsAt s t c [F.DSF_CH_STATUS_STATE, F.DSF_CH_STATUS_CANDIDATES])) ∧
  (∀ (s : State) (c align : Nat) (sfc : Option Nat), (s.fld F.DSF_CH_STATUS_STATE c = 1 ∨ s.fld F.DSF_CH_STATUS_STATE c = 2) →
    8 ≤ (s.framing c).cands.length → Gives (.psyncMatch c align sfc) s (fun t => t.fld F.DSF_CH_EVENT_HUNT_OVF c = 1 ∧
      OnlyRegsAt s t c [F.DSF_CH_EVENT_HUNT_OVF, F.DSF_CH_EVENT_EVCNT_HUNT_OVF])) ∧
  (∀ (s : State) (c align diff v w third : Nat) (ok : Bool) (k : Candidate) (rest : List Candidate), s.fld F.DSF_CH_STATUS_STATE c = 2 →
    pullFirst (fun k => k.align == align) (s.framing c).cands = some (k, rest) → k.sfc = some w → v = (w + 1) % 2 ^ 51 → diff ≤ s.psyncTol →
    k.at_ + 155528 ≤ s.ltb.lc → k.first rest = true → s.simmer ≠ 7 → s.act_st c = 0 → s.fld F.DSF_CH_STATUS_LOF c = 0 → s.member c ≠ 2 → Gives (.candidateCheck c align diff (some v) third ok) s (fun t =>
      t.fld F.DSF_CH_STATUS_STATE c = 3 ∧ (t.framing c).expSfc = v ∧ (t.framing c).cands = [] ∧
      (t.framing c).arr = some (k.at_ + 155520, v) ∧ (t.framing c).pos = v * 155520 ∧ (t.framing c).third = third ∧ t.fld F.DSF_CH_STATUS_CANDIDATES c = 0 ∧
      t = { s with regs := t.regs, dsf := { s.dsf with chans := t.dsf.chans } } ∧
      KeepsAt s t c [F.DSF_CH_STATUS_STATE, F.DSF_CH_STATUS_CANDIDATES])) ∧
  (∀ (s : State) (c align diff third : Nat) (ok : Bool) (sfc : Option Nat) (k : Candidate), s.fld F.DSF_CH_STATUS_STATE c = 2 →
    pullFirst (fun k => k.align == align) (s.framing c).cands = some (k, []) → (sfc = none ∨ s.psyncTol < diff) → k.at_ + 155528 ≤ s.ltb.lc → s.dsf.thresholds = [] →
    Gives (.candidateCheck c align diff sfc third ok) s (fun t =>
      t.fld F.DSF_CH_STATUS_STATE c = 1 ∧ (t.framing c).cands = [] ∧
      t = { s with regs := t.regs, dsf := { s.dsf with chans := t.dsf.chans, pm := t.dsf.pm } } ∧
      KeepsAt s t c [F.DSF_CH_STATUS_STATE, F.DSF_CH_STATUS_FEC_IN_USE, F.DSF_CH_STATUS_CANDIDATES])) ∧
  (∀ (s : State) (c align diff third : Nat) (ok : Bool) (sfc : Option Nat) (k : Candidate) (rest : List Candidate),
    pullFirst (fun k => k.align == align) (s.framing c).cands = some (k, rest) → s.ltb.lc < k.at_ + 155528 ∨ k.first rest = false →
    Gives (.candidateCheck c align diff sfc third ok) s (fun t => t = s)) ∧
  (∀ (s : State) (c diff third : Nat) (ok : Bool) (sfc : Option Nat), s.inSync c = false ∨ s.ltb.lc < (s.framing c).lastPs + 155520 →
    Gives (.psbdCheck c diff sfc third ok) s (fun t => t = s)) ∧
  (∀ (s : State) (c diff third : Nat) (ok : Bool), s.inSync c = true → (s.framing c).lastPs + 155520 ≤ s.ltb.lc → s.simmer ≠ 7 → diff ≤ s.psyncTol →
    Gives (.psbdCheck c diff (some (((s.framing c).expSfc + 1) % 2 ^ 51)) third ok) s (fun t =>
      t.framing c = { s.framing c with
        expSfc := ((s.framing c).expSfc + 1) % 2 ^ 51, misses := 0, third := third, thirdOk := ok, lastPs := (s.framing c).lastPs + 155520, arr := some ((s.framing c).lastPs + 155520, ((s.framing c).expSfc + 1) % 2 ^ 51) } ∧
      t = { s with dsf := { s.dsf with chans := t.dsf.chans } })) ∧
  (∀ (s : State) (c diff third : Nat) (ok : Bool), s.inSync c = true → (s.framing c).lastPs + 155520 ≤ s.ltb.lc → s.simmer ≠ 7 →
    s.psyncTol < diff → (s.framing c).misses + 1 < s.missLimit →
    s.dsf.thresholds = [] → Gives (.psbdCheck c diff none third ok) s (fun t =>
      t.framing c = { s.framing c with
        expSfc := ((s.framing c).expSfc + 1) % 2 ^ 51, misses := (s.framing c).misses + 1, third := third, thirdOk := ok, lastPs := (s.framing c).lastPs + 155520, arr := none } ∧
      t.inSync c = true ∧ t = { s with dsf := { s.dsf with chans := t.dsf.chans, pm := t.dsf.pm } })) ∧
  (∀ (s : State) (c diff third : Nat) (ok : Bool), s.inSync c = true → (s.framing c).lastPs + 155520 ≤ s.ltb.lc → s.psyncTol < diff → s.missLimit ≤ (s.framing c).misses + 1 →
    s.quietLine = false → DsfQuiet s → DefectAlone s c → Gives (.psbdCheck c diff none third ok) s (fun t =>
      t.fld F.DSF_CH_STATUS_STATE c = 1 ∧ t.fld F.DSF_CH_STATUS_LOF c = 1 ∧ t.fld F.DSF_CH_EVENT_LOF_DECL c = 1 ∧
      t.fld F.DSF_LOF_STATUS_LOF 0 = 1 ∧ (t.framing c).cands = [] ∧ (t.framing c).arr = none ∧
      t = { s with regs := t.regs, hif := t.hif, dsf := { s.dsf with chans := t.dsf.chans, pm := t.dsf.pm, losses := t.dsf.losses, bondOn := t.dsf.bondOn } } ∧
      KeepsRegs s t (lofFlds ++ [F.DSF_CH_STATUS_STATE, F.DSF_CH_STATUS_FEC_IN_USE, F.DSF_CH_STATUS_CANDIDATES]))) ∧
  (∀ (s : State) (c : Nat), s.quietLine = false → s.fld F.LLN_RX_CFG_EN c ≠ 0 → s.fld F.DSF_CH_STATUS_LOS c ≠ 1 →
    s.sigFor c 0 (usLc (max 1 (s.fld F.DSF_DEF_CFG_LOS_SET_US 0))) = true → DsfQuiet s → DefectAlone s c →
    Gives (.losDeclared c) s (fun t => t.fld F.DSF_CH_STATUS_LOS c = 1 ∧ t.fld F.DSF_CH_EVENT_LOS_DECL c = 1 ∧
      t.fld F.DSF_CH_STATUS_LOF c = 1 ∧ (t.pm c).secLos = true ∧ (t.pm c).secLof = true ∧ t = { s with regs := t.regs, hif := t.hif, dsf := { s.dsf with pm := t.dsf.pm, bondOn := t.dsf.bondOn } } ∧
      KeepsRegs s t (lofFlds ++ [F.DSF_CH_STATUS_LOS, F.DSF_CH_EVENT_LOS_DECL, F.DSF_CH_EVENT_EVCNT_LOS_DECL]))) ∧
  (∀ (s : State) (c : Nat), s.fld F.LLN_RX_CFG_EN c = 0 ∨ s.sigFor c 0 (usLc (max 1 (s.fld F.DSF_DEF_CFG_LOS_SET_US 0))) = false →
    Gives (.losDeclared c) s (fun t => t = s)) ∧
  (∀ (s : State) (c : Nat), s.fld F.DSF_CH_STATUS_LOS c = 1 → s.sigFor c 1 (155520 * max 1 (s.fld F.DSF_DEF_CFG_LOS_CLR_FR 0)) = true →
    Gives (.losCleared c) s (fun t =>
      t.fld F.DSF_CH_STATUS_LOS c = 0 ∧ (s.inSync c = true → t.fld F.DSF_CH_STATUS_LOF c ≠ 1) ∧ t = { s with regs := t.regs, hif := t.hif } ∧
      KeepsRegs s t (eventFlds ++ [F.DSF_CH_STATUS_LOS, F.DSF_CH_STATUS_LOF]))) ∧
  (∀ (s : State) (c iters bits : Nat) (z1 z2 : Bool), s.inSync c = true → s.fld F.DSF_CH_STATUS_FEC_IN_USE c ≠ 0 → s.dsf.thresholds = [] →
    0 < bits → iters < max 4 (s.fld F.DSF_CH_CFG_ITER_MAX c) → Gives (.codewordDecode c z1 z2 iters bits true) s (fun t =>
      t.fld F.DSF_CH_CW_COUNT c = min (s.fld F.DSF_CH_CW_COUNT c + 1) F.DSF_CH_CW_COUNT.top ∧
      t.fld F.DSF_CH_CW_CORR_COUNT c = min (s.fld F.DSF_CH_CW_CORR_COUNT c + 1) F.DSF_CH_CW_CORR_COUNT.top ∧
      t.fld F.DSF_CH_BITS_CORR_COUNT c = min (s.fld F.DSF_CH_BITS_CORR_COUNT c + bits) F.DSF_CH_BITS_CORR_COUNT.top ∧
      t = { s with regs := t.regs, dsf := { s.dsf with pm := t.dsf.pm } } ∧
      KeepsAt s t c [F.DSF_CH_CW_COUNT, F.DSF_CH_CW_CORR_COUNT, F.DSF_CH_BITS_CORR_COUNT, F.DSF_CH_ITER_PEAK])) ∧
  (∀ (s : State) (c iters bits : Nat) (z1 z2 : Bool), s.inSync c = true → s.fld F.DSF_CH_STATUS_FEC_IN_USE c ≠ 0 → s.dsf.thresholds = [] →
    Gives (.codewordDecode c z1 z2 iters bits false) s (fun t =>
      t.fld F.DSF_CH_CW_UNCORR_COUNT c = min (s.fld F.DSF_CH_CW_UNCORR_COUNT c + 1) F.DSF_CH_CW_UNCORR_COUNT.top ∧
      (t.pm c).secUncorr = (s.pm c).secUncorr + 1 ∧
      t = { s with regs := t.regs, dsf := { s.dsf with pm := t.dsf.pm } } ∧
      KeepsAt s t c [F.DSF_CH_CW_COUNT, F.DSF_CH_CW_UNCORR_COUNT, F.DSF_CH_ITER_PEAK])) ∧
  (∀ (s : State) (c iters bits : Nat) (z2 d : Bool), s.inSync c = true → s.fld F.DSF_CH_STATUS_FEC_IN_USE c = 0 → 7 ≤ (s.framing c).run1 →
    Gives (.codewordDecode c true z2 iters bits d) s (fun t => t.fld F.DSF_CH_STATUS_FEC_IN_USE c = 1 ∧
      t = { s with regs := t.regs, dsf := { s.dsf with chans := t.dsf.chans } } ∧ KeepsAt s t c [F.DSF_CH_STATUS_FEC_IN_USE])) ∧
  (∀ (s : State) (d : Desc), d.opcode = 0x0C04 → s.hasChannel (bits (d.dw 5) 2 0) = true → s.fld F.DSF_CH_STATUS_STATE (bits (d.dw 5) 2 0) ≠ 0 →
    s.inSync (bits (d.dw 5) 2 0) = false → Gives (.huntRestart d) s (fun t =>
      Ends d stOk 0 t ∧ t.fld F.DSF_CH_STATUS_STATE (bits (d.dw 5) 2 0) = 1 ∧ (t.framing (bits (d.dw 5) 2 0)).cands = [] ∧
      t = { s with regs := t.regs, hif := t.hif, lfg := t.lfg, dsf := { s.dsf with chans := t.dsf.chans } } ∧
      KeepsRegs s t (commitFlds ++ [F.DSF_CH_STATUS_STATE, F.DSF_CH_STATUS_FEC_IN_USE, F.DSF_CH_STATUS_CANDIDATES]))) ∧
  (∀ (s : State) (d : Desc), d.opcode = 0x0C04 → s.hasChannel (bits (d.dw 5) 2 0) = true → s.fld F.DSF_CH_STATUS_STATE (bits (d.dw 5) 2 0) = 0 →
    Gives (.huntRestart d) s (EndsOnly d stStateRefused (refusedWord 0x10 (bits (d.dw 5) 2 0) 0) s))

/-- R134, R138 to R144: the protection request channel, line seconds, performance bins and the DSF commands on them. -/
def Obligations.PerformanceAndRequests : Prop :=
  (∀ (s : State) (p k : Nat), s.pathPassed p k = false → Gives (.prcFrameJudged p k) s (fun t => t = s)) ∧
  (∀ (s : State) (p k : Nat), s.pathPassed p k = true → (∀ m ∈ s.dsf.prcMsgs, ¬ (m.chan / 4 = p ∧ m.frame = k)) → Gives (.prcFrameJudged p k) s (fun t =>
      SMap.find t.dsf.prcRuns p = none ∧ (∀ q, q ≠ p → SMap.find t.dsf.prcRuns q = SMap.find s.dsf.prcRuns q) ∧
      t = { s with dsf := { s.dsf with prcMsgs := t.dsf.prcMsgs, prcRuns := t.dsf.prcRuns } })) ∧
  (∀ (s : State) (p k c arg target : Nat), s.pathPassed p k = true → p < 2 → c / 4 = p → s.dsf.prcMsgs = [⟨c, k, true, 0x20, target, arg⟩] →
    SMap.find s.dsf.prcRuns p = some ⟨0x20, target, arg, 2, k - 1, false⟩ → 0 < k → k < 2 ^ 51 → s.fld (rdiFld p) 0 ≠ 1 →
    Gives (.prcFrameJudged p k) s (fun t =>
      t.fld (aisFld p) 0 = 1 ∧ t.fld (prcCodeFld p) 0 = 0x20 ∧ t.dsf.prcMsgs = [] ∧ (t.path p).alive = true ∧
      SMap.find t.dsf.prcRuns p = some ⟨0x20, target, arg, 3, k, true⟩ ∧
      t = { s with regs := t.regs, hif := t.hif, dsf := { s.dsf with prcMsgs := [], prcRuns := t.dsf.prcRuns }, prt := { s.prt with paths := t.prt.paths } } ∧
      KeepsRegs s t (eventFlds ++ [aisFld p, prcCodeFld p, F.DSF_PRC_EVENT_ACCEPT_A, F.DSF_PRC_EVENT_EVCNT_ACCEPT_A, F.DSF_PRC_EVENT_ACCEPT_B,
        F.DSF_PRC_EVENT_EVCNT_ACCEPT_B]))) ∧
  (∀ (s : State) (f c : Nat), s.boundary f 8000 = true → s.dsf.lastSecond = none → s.dsf.thresholds = [] → s.quietLine = false → s.hasChannel c = true →
    Gives (.lineSecond f) s (fun t =>
      (t.pm c).cur.seconds = (s.pm c).cur.seconds + 1 ∧ (t.pm c).day.seconds = (s.pm c).day.seconds + 1 ∧
      t.dsf.lastSecond = some (stampOf f 0) ∧ t.dsf.limits = [] ∧
      t = { s with dsf := { s.dsf with pm := t.dsf.pm, lastSecond := t.dsf.lastSecond, limits := [] } })) ∧
  (∀ (s : State) (f : Nat) (st : Nat), s.dsf.lastSecond = some st → stampDiff (stampOf f 0) st ≤ 0 → Gives (.lineSecond f) s (fun t => t = s)) ∧
  (∀ (s : State) (f c : Nat), s.boundary f 7200000 = true → s.hasChannel c = true →
    0 < stampDiff (stampOf f 0) (s.pm c).cur.start → Gives (.pmBinClosed false f) s (fun t =>
      (t.pm c).closed = ({ (s.pm c).cur with stop := stampOf f 0 } :: (s.pm c).closed).take 32 ∧ (t.pm c).cur.start = stampOf f 0 ∧
      (t.pm c).cur.counters = List.replicate 18 0 ∧ (t.pm c).day = (s.pm c).day ∧
      t = { s with regs := t.regs, hif := t.hif, dsf := { s.dsf with pm := t.dsf.pm } } ∧ KeepsRegs s t eventFlds)) ∧
  (∀ (s : State) (day : Bool) (f : Nat), s.boundary f (if day then 691200000 else 7200000) = false → Gives (.pmBinClosed day f) s (fun t => t = s)) ∧
  (∀ (s : State) (f : Nat), s.boundary f 8000 = false → Gives (.lineSecond f) s (fun t => t = s)) ∧
  (∀ (s : State) (v : Word), s.dom 6 0 = 2 → min 7199999 (v.toNat % 2 ^ 23) ≠ min 7199999 (s.fld F.DSF_PM_CFG_PHASE 0) → s.quietLine = true →
    Gives (.pmPhaseChange v) s (fun t => t.fld F.DSF_PM_CFG_PHASE 0 = v.toNat % 2 ^ 23 ∧ t.dsf.limits = [] ∧ t.dsf.lastSecond = some s.stamp ∧
      (∀ c, s.hasChannel c = true → (t.pm c).cur.start = s.stamp ∧ (t.pm c).day.start = s.stamp) ∧
      t = { s with regs := t.regs, hif := t.hif, lfg := t.lfg, dsf := { s.dsf with pm := t.dsf.pm, limits := [], lastSecond := t.dsf.lastSecond } } ∧
      KeepsRegs s t (eventFlds ++ [F.DSF_PM_CFG_PHASE]))) ∧
  (∀ (s : State) (d : Desc), d.opcode = 0x0C01 → bits (d.dw 5) 15 14 = 0 → bit (d.dw 6) 0 = false →
    (∀ p ∈ s.dsf.ports, p.1 ≠ bits (d.dw 5) 13 0 → p.2.port ≠ bits (d.dw 5) 31 16) →
    s.fld F.DSF_PRC_CFG_EN 0 = 0 ∨ bits (d.dw 5) 31 16 ≠ s.fld F.DSF_PRC_CFG_PORT_ID 0 → Gives (.portSet d) s (fun t => Ends d stOk 0 t ∧
      SMap.find t.dsf.ports (bits (d.dw 5) 13 0) = none ∧
      (∀ e, e ≠ bits (d.dw 5) 13 0 → SMap.find t.dsf.ports e = SMap.find s.dsf.ports e) ∧
      t = { s with regs := t.regs, hif := t.hif, lfg := t.lfg, dsf := { s.dsf with ports := t.dsf.ports } } ∧ KeepsRegs s t commitFlds)) ∧
  (∀ (s : State) (d : Desc), d.opcode = 0x0C01 → bits (d.dw 5) 15 14 = 0 → bit (d.dw 6) 0 = true →
    s.fld F.DSF_PRC_CFG_EN 0 = 0 ∨ bits (d.dw 5) 31 16 ≠ s.fld F.DSF_PRC_CFG_PORT_ID 0 →
    (∀ p ∈ s.dsf.ports, p.1 ≠ bits (d.dw 5) 13 0 → p.2.port ≠ bits (d.dw 5) 31 16) → bits (d.dw 6) 7 4 ≠ 0 → s.hif.part = .lk9540 →
    Gives (.portSet d) s (fun t => Ends d stOk 0 t ∧
      SMap.find t.dsf.ports (bits (d.dw 5) 13 0) = some ⟨bits (d.dw 5) 31 16, bit (d.dw 6) 1, bits (d.dw 6) 7 4⟩ ∧
      (∀ e, e ≠ bits (d.dw 5) 13 0 → SMap.find t.dsf.ports e = SMap.find s.dsf.ports e) ∧
      t = { s with regs := t.regs, hif := t.hif, lfg := t.lfg, dsf := { s.dsf with ports := t.dsf.ports } } ∧ KeepsRegs s t commitFlds)) ∧
  (∀ (s : State) (d : Desc), d.opcode = 0x0C02 → d.buf = true → 192 ≤ d.bufLen → s.hasChannel (bits (d.dw 5) 2 0) = true → bits (d.dw 5) 5 4 = 0 →
    Gives (.pmRead d) s (fun t => Ends d stOk 0 t ∧
      t.hif.hostWrites = s.hif.hostWrites ++ [⟨d.bufAddr, (s.pm (bits (d.dw 5) 2 0)).cur.words true⟩] ∧
      t = { s with regs := t.regs, hif := { s.hif with flight := t.hif.flight, hostWrites := t.hif.hostWrites }, lfg := t.lfg } ∧
      KeepsRegs s t commitFlds)) ∧
  (∀ (s : State) (d : Desc), d.opcode = 0x0C03 → bits (d.dw 5) 4 0 ≤ 17 → Gives (.pmThreshold d) s (fun t => Ends d stOk 0 t ∧
      SMap.get t.dsf.thresholds (bits (d.dw 5) 4 0) 0 = d.dw 6 ∧
      (∀ i, i ≠ bits (d.dw 5) 4 0 → SMap.get t.dsf.thresholds i 0 = SMap.get s.dsf.thresholds i 0) ∧
      t = { s with regs := t.regs, hif := t.hif, lfg := t.lfg, dsf := { s.dsf with thresholds := t.dsf.thresholds } } ∧ KeepsRegs s t commitFlds)) ∧
  (∀ (s : State) (d : Desc), d.opcode = 0x0C03 → 17 < bits (d.dw 5) 4 0 → Gives (.pmThreshold d) s (EndsOnly d stBadArg 5 s))

/-- R90, R91, R95, R98: host writes of the line lanes' registers: a receive lane starts to acquire and stops, its taps follow the host in TRACK under ADAPT HOST only,
a transmit lane is enabled and turned off. -/
def Obligations.LaneRegisterWrites : Prop :=
  (∀ (s : State) (n : Nat) (v : Word), s.hasChannel n = true → s.dom (2 + n / 4) (n % 4) = 2 → s.fld F.LLN_RX_CFG_EN n = 0 → bit v.toNat 0 = true →
    s.rxState n = 0 → s.inSync n = false → s.quietLine = false → Gives (.rxLaneEnable n v) s (fun t =>
      t.fld F.LLN_RX_CFG_EN n = 1 ∧ t.rxState n = 1 ∧ t.fld F.DSF_CH_STATUS_LOF n = 1 ∧
      ((s.rxLane n).kept = false → t.fld F.LLN_RX_STATUS_CTLE n = t.fld F.LLN_RX_CFG_CTLE_START n % 2 ^ F.LLN_RX_STATUS_CTLE.width ∧
        ∀ f ∈ tapFields, t.fld f n = f.rst % 2 ^ f.width) ∧
      ((s.rxLane n).kept = true → t.fld F.LLN_RX_STATUS_CTLE n = s.fld F.LLN_RX_STATUS_CTLE n ∧ ∀ f ∈ tapFields, t.fld f n = s.fld f n) ∧
      t = { s with regs := t.regs, hif := t.hif, lfg := t.lfg, lln := t.lln, dsf := { s.dsf with pm := t.dsf.pm } } ∧
      KeepsRegs s t (eventFlds ++ tapFields ++ [aisFld (n / 4), rdiFld (n / 4), F.LLN_RX_CFG_EN, F.LLN_RX_CFG_ADAPT, F.LLN_RX_CFG_CTLE_START, F.LLN_RX_CFG_ACQ_TIMEOUT, F.LLN_RX_STATUS_STATE,
        F.LLN_RX_STATUS_CTLE, F.DSF_CH_STATUS_LOF]))) ∧
  (∀ (s : State) (n : Nat) (v : Word), s.hasChannel n = true → s.dom (2 + n / 4) (n % 4) = 2 → s.fld F.LLN_RX_CFG_EN n = 1 → bit v.toNat 0 = false →
    0 < s.rxState n → s.rxState n < 4 → s.inSync n = false → Gives (.rxLaneEnable n v) s (fun t =>
      t.fld F.LLN_RX_CFG_EN n = 0 ∧ t.rxState n = 0 ∧ t.fld F.LLN_RX_STATUS_CDR_LOCK n = 0 ∧ t.fld F.LLN_RX_STATUS_SIG_DET n = 0 ∧
      (t.rxLane n).kept = true ∧ t.fld F.DSF_CH_STATUS_STATE n = 0 ∧ t.fld F.DSF_CH_STATUS_LOS n ≠ 1 ∧ t.fld F.DSF_CH_STATUS_LOF n ≠ 1 ∧
      t = { s with regs := t.regs, hif := t.hif, lfg := t.lfg, lln := t.lln, dsf := { s.dsf with chans := t.dsf.chans, pm := t.dsf.pm } } ∧
      KeepsRegs s t (eventFlds ++ [F.LLN_RX_CFG_EN, F.LLN_RX_CFG_ADAPT, F.LLN_RX_CFG_CTLE_START, F.LLN_RX_CFG_ACQ_TIMEOUT, F.LLN_RX_STATUS_STATE,
        F.LLN_RX_STATUS_CDR_LOCK, F.LLN_RX_STATUS_SIG_DET, F.DSF_CH_STATUS_STATE, F.DSF_CH_STATUS_CANDIDATES, F.DSF_CH_STATUS_LOS,
        F.DSF_CH_STATUS_LOF]))) ∧
  (∀ (s : State) (n k : Nat) (v : Word), s.hasChannel n = true → k < 5 → s.dom (2 + n / 4) (n % 4) = 2 → s.rxState n = 3 → s.fld F.LLN_RX_CFG_ADAPT n = 1 →
    Gives (.tapWrite n k v) s (fun t => (∀ p ∈ fieldsAt (tapAddr n k), p.1.acc = .rw → t.fld p.1 p.2 = bits v.toNat p.1.hi p.1.lo) ∧
      t = { s with regs := t.regs, lfg := t.lfg } ∧ KeepsRegs s t (commitFlds ++ (fieldsAt (tapAddr n k)).map (fun p => p.1)))) ∧
  (∀ (s : State) (n k : Nat) (v : Word), n < 8 → k < 5 → s.dom (2 + n / 4) (n % 4) = 2 → s.rxState n ≠ 3 ∨ s.fld F.LLN_RX_CFG_ADAPT n ≠ 1 →
    Gives (.tapWrite n k v) s (fun t => t = { s with regs := t.regs, lfg := t.lfg } ∧ KeepsRegs s t commitFlds)) ∧
  (∀ (s : State) (n : Nat) (v : Word), s.hasChannel n = true → s.dom (4 + n / 4) (n % 4) = 2 → bit v.toNat 0 = true → s.act_st n ≠ 0x12 →
    Gives (.txLaneEnable n v) s (fun t => t.fld F.LLN_TX_CFG_EN n = 1 ∧ t.fld F.LLN_TX_CFG_LEAD n = bits v.toNat F.LLN_TX_CFG_LEAD.hi F.LLN_TX_CFG_LEAD.lo ∧
      t = { s with regs := t.regs, lfg := t.lfg } ∧
      KeepsRegs s t (commitFlds ++ [F.LLN_TX_CFG_EN, F.LLN_TX_CFG_RATE_EN, F.LLN_TX_CFG_LAG, F.LLN_TX_CFG_LEAD]))) ∧
  (∀ (s : State) (n : Nat) (v : Word), s.hasChannel n = true → s.dom (4 + n / 4) (n % 4) = 2 → s.fld F.LLN_TX_CFG_EN n = 1 → bit v.toNat 0 = false →
    (s.txState n = 1 ∨ s.txState n = 3) → s.txBusy n = false → s.act_st n ≠ 0x12 → Gives (.txLaneEnable n v) s (fun t =>
      t.fld F.LLN_TX_CFG_EN n = 0 ∧ t.txState n = 0 ∧ t.fld F.LLN_TX_STATUS_PLL_LOCK n = 0 ∧
      t = { s with regs := t.regs, lfg := t.lfg, lln := t.lln } ∧
      KeepsRegs s t (commitFlds ++ [F.LLN_TX_CFG_EN, F.LLN_TX_CFG_RATE_EN, F.LLN_TX_CFG_LAG, F.LLN_TX_CFG_LEAD, F.LLN_TX_STATUS_STATE,
        F.LLN_TX_STATUS_PLL_LOCK])))

/-- R149, R152: a message of the head end that fails its integrity check is discarded and counted, whichever it is; a good one that is not addressed to the channel, and one that
the restart of its engine loses or that comes while the engine stands, changes nothing. -/
def Obligations.BadMessagesAreDiscarded : Prop :=
  (∀ (s : State) (c x y : Nat) (e : Int) (o : Option Nat) (a b l : Bool) (p : Profile) (k : KeyFetch) (m : Ploam) (i : Instr), PloamBad s m →
    i ∈ [Instr.assignOnuId c x o m, .rangingTime c e m, .assignAllocId c x a m, .deactivateOnuId c m, .disableSerialNumber c a m,
      .tuningControl c x y a b x m, .parkAnswer c x a m, .headEndPark c x a m, .burstProfile c x p m, .keyRequest c x y l k m] →
    Gives i s (fun t => t.fld F.ACT_CH_COUNT_PLOAM_BAD c = min (s.fld F.ACT_CH_COUNT_PLOAM_BAD c + 1) F.ACT_CH_COUNT_PLOAM_BAD.top ∧
      OnlyRegsAt s t c [F.ACT_CH_COUNT_PLOAM_BAD])) ∧
  (∀ (s : State) (c : Nat) (w : PowerMsg) (m : Ploam), PloamBad s m → s.simmer < 5 ∨ 7 < s.simmer → s.fld F.PWR_STATUS_RX_DARK 0 ≠ 1 →
    Gives (.headEndPowerMessage c w m) s (fun t => t.fld F.ACT_CH_COUNT_PLOAM_BAD c = min (s.fld F.ACT_CH_COUNT_PLOAM_BAD c + 1) F.ACT_CH_COUNT_PLOAM_BAD.top ∧
      OnlyRegsAt s t c [F.ACT_CH_COUNT_PLOAM_BAD])) ∧
  (∀ (s : State) (c x y : Nat) (e : Int) (o : Option Nat) (a b l : Bool) (p : Profile) (k : KeyFetch) (w : PowerMsg) (m : Ploam) (i : Instr),
    s.fld (engRunning 0) 0 = 0 ∨ m.lost = true ∨ (m.mic = true ∧ s.addressed c m.dest = false) →
    i ∈ [Instr.assignOnuId c x o m, .rangingTime c e m, .assignAllocId c x a m, .deactivateOnuId c m,
      .disableSerialNumber c true m, .tuningControl c x y a b x m, .parkAnswer c x a m, .headEndPark c x a m, .burstProfile c x p m, .keyRequest c x y l k m,
      .headEndPowerMessage c w m] → Gives i s (fun t => t = s))

/-- R149, R156, R158, R161, R162: the messages of the head end and the timers that move a channel between its states. -/
def Obligations.ActivationStates : Prop :=
  (∀ (s : State) (c onu : Nat) (e : Option Nat) (m : Ploam), PloamHeard s c m → s.act_st c = 0x23 → onu < 1023 → e.getD 0 < 2 ^ 24 → SimmerOff s →
    Gives (.assignOnuId c onu e m) s (fun t =>
      t.act_st c = 0x40 ∧ t.fld F.ACT_CH_STATUS_ONU_ID c = onu ∧ (t.actCh c).allocs = [onu] ∧ t.fld F.ACT_CH_EQD_EQD c = e.getD 0 ∧
      (t.actCh c).timer = 1 ∧ (t.actCh c).due = s.ltb.lc + 12441600 * max 1 (s.fld F.ACT_TIMER_CFG0_TO1 0) ∧
      t.fld F.ACT_CH_EVENT_STATE_CHANGE c = 1 ∧ (t.slot (kekSlot c)).st = 1 ∧
      t = { s with regs := t.regs, freeCount := t.freeCount, hif := t.hif, act := t.act, ube := t.ube, cdy := t.cdy } ∧
      KeepsRegs s t (actFlds ++ [F.ACT_CH_STATUS_ONU_ID, F.ACT_CH_STATUS_ALLOCS, F.ACT_CH_EQD_EQD]))) ∧
  (∀ (s : State) (c onu : Nat) (e : Option Nat) (m : Ploam), PloamHeard s c m → s.act_st c ≠ 0x23 → Gives (.assignOnuId c onu e m) s (fun t => t = s)) ∧
  (∀ (s : State) (c e : Nat) (m : Ploam), PloamHeard s c m → s.act_st c = 0x40 → e < 2 ^ 24 → SimmerOff s → s.fld F.PRT_SB_CFG_PRERANGE 0 = 0 →
    Gives (.rangingTime c e m) s (fun t => t.act_st c = 0x51 ∧ t.fld F.ACT_CH_EQD_EQD c = e ∧ t.fld F.ACT_CH_EQD_VALID c = 1 ∧
      (t.actCh c).timer = 0 ∧ (s.fld F.ACT_CH_STATUS_MEMBER c = 1 → s.onActive c = true → s.member c = 0 → t.member c = 1) ∧
      t = { s with regs := t.regs, hif := t.hif, act := t.act, ube := t.ube } ∧
      KeepsRegs s t (actFlds ++ memberFlds ++ [F.ACT_CH_EQD_EQD, F.ACT_CH_EQD_VALID]))) ∧
  (∀ (s : State) (c e : Nat) (m : Ploam), PloamHeard s c m → s.act_st c = 0x51 → e < 2 ^ 24 → s.fld F.PRT_SB_CFG_PRERANGE 0 = 0 → Gives (.rangingTime c e m) s (fun t =>
      t.fld F.ACT_CH_EQD_EQD c = e ∧ t.fld F.ACT_CH_EQD_VALID c = 1 ∧ t = { s with regs := t.regs, hif := t.hif } ∧
      KeepsRegs s t (eventFlds ++ [F.ACT_CH_EQD_EQD, F.ACT_CH_EQD_VALID]))) ∧
  (∀ (s : State) (c : Nat) (e : Int) (m : Ploam), PloamHeard s c m → (s.act_st c = 0x40 ∨ s.act_st c = 0x51) → (e < 0 ∨ 2 ^ 24 ≤ e) → Gives (.rangingTime c e m) s (fun t =>
      t.fld F.ACT_CH_EVENT_NACK_SENT c = 1 ∧ (t.ubeCh c).ploams = (s.ubeCh c).ploams ++ [.nack] ∧ t = { s with regs := t.regs, ube := t.ube } ∧
      KeepsAt s t c [F.ACT_CH_EVENT_NACK_SENT, F.ACT_CH_EVENT_EVCNT_NACK_SENT])) ∧
  (∀ (s : State) (c a : Nat) (m : Ploam), PloamHeard s c m → s.fld F.ACT_CH_STATUS_ONU_ID c ≠ 0x3FF → a ∉ (s.actCh c).allocs → (s.actCh c).allocs.length < 256 →
    Gives (.assignAllocId c a true m) s (fun t => (t.actCh c).allocs = (s.actCh c).allocs ++ [a] ∧
      t.fld F.ACT_CH_STATUS_ALLOCS c = (s.actCh c).allocs.length + 1 ∧ t = { s with regs := t.regs, act := t.act } ∧
      KeepsAt s t c [F.ACT_CH_STATUS_ALLOCS])) ∧
  (∀ (s : State) (c a : Nat) (m : Ploam), PloamHeard s c m → s.fld F.ACT_CH_STATUS_ONU_ID c ≠ 0x3FF → a ∉ (s.actCh c).allocs → 256 ≤ (s.actCh c).allocs.length →
    Gives (.assignAllocId c a true m) s (fun t => t.act = s.act ∧ t.fld F.ACT_CH_EVENT_ALLOC_FULL c = 1 ∧ t.fld F.ACT_CH_EVENT_NACK_SENT c = 1 ∧
      (t.ubeCh c).ploams = (s.ubeCh c).ploams ++ [.nack] ∧ t = { s with regs := t.regs, hif := t.hif, ube := t.ube })) ∧
  (∀ (s : State) (c a : Nat) (m : Ploam), PloamHeard s c m → s.fld F.ACT_CH_STATUS_ONU_ID c ≠ 0x3FF → a ∈ (s.actCh c).allocs → a ≠ s.fld F.ACT_CH_STATUS_ONU_ID c →
    SMap.find (s.ubeCh c).rem a = none → Gives (.assignAllocId c a false m) s (fun t => (t.actCh c).allocs = (s.actCh c).allocs.filter (fun b => b != a) ∧
      t = { s with regs := t.regs, act := t.act } ∧ KeepsAt s t c [F.ACT_CH_STATUS_ALLOCS])) ∧
  (∀ (s : State) (c : Nat) (m : Ploam), PloamHeard s c m → Gives (.assignAllocId c (s.fld F.ACT_CH_STATUS_ONU_ID c) false m) s (fun t => t = s)) ∧
  (∀ (s : State) (c : Nat) (m : Ploam), PloamHeard s c m → s.act_st c = 0x51 → s.inSync c = true → ContextAlone s c → Gives (.deactivateOnuId c m) s (fun t =>
      t.act_st c = 0x12 ∧ t.fld F.ACT_CH_STATUS_ONU_ID c = 0x3FF ∧ t.fld F.ACT_CH_EQD_VALID c = 0 ∧ (t.actCh c).allocs = [] ∧
      (t.slot (ponSlot c 1)).st = 0 ∧ (s.onActive c = true → t.member c = 0) ∧
      t = { s with regs := t.regs, hif := t.hif, act := t.act, ube := t.ube, cdy := t.cdy, cph := t.cph } ∧
      KeepsRegs s t (actFlds ++ contextFlds))) ∧
  (∀ (s : State) (c : Nat) (m : Ploam), PloamHeard s c m → s.act_st c = 0x51 → ContextAlone s c → Gives (.disableSerialNumber c true m) s (fun t =>
      t.act_st c = 0x70 ∧ t.fld F.ACT_CH_STATUS_ESTOP c = 1 ∧ (t.actCh c).allocs = [] ∧
      t = { s with regs := t.regs, hif := t.hif, act := t.act, ube := t.ube, cdy := t.cdy, cph := t.cph } ∧
      KeepsRegs s t (actFlds ++ contextFlds))) ∧
  (∀ (s : State) (c : Nat) (m : Ploam), PloamHeard s c m → s.act_st c = 0x70 → s.inSync c = true → s.whs.latch = none → SimmerOff s →
    Gives (.disableSerialNumber c false m) s (fun t => t.act_st c = 0x12 ∧ t.fld F.ACT_CH_STATUS_ESTOP c = 0 ∧ t = { s with regs := t.regs, hif := t.hif, ube := t.ube } ∧
      KeepsRegs s t (actFlds ++ [F.ACT_CH_STATUS_ESTOP]))) ∧
  (∀ (s : State) (c g f r : Nat) (m : Ploam), PloamHeard s c m → s.act_st c = 0x51 → s.fld F.ACT_CH_STATUS_PARK_PENDING c = 0 → s.act.exchange = none → s.onActive g = true →
    s.act_st g = 0 → s.fld F.LLN_RX_CFG_EN g = 1 → s.fld F.LLN_TX_CFG_EN g = 1 → s.fld F.ACT_CH_STATUS_ESTOP g = 0 → SimmerOff s →
    Gives (.tuningControl c g f true false r m) s (fun t => t.act_st c = 0x52 ∧ (t.actCh c).tuning = some ⟨g, f⟩ ∧ (t.actCh c).timer = 5 ∧
      t.fld F.ACT_CH_STATUS_TUNE_PENDING c = 1 ∧ (t.ubeCh c).ploams = (s.ubeCh c).ploams ++ [.tuneResponse true 0] ∧
      t = { s with regs := t.regs, hif := t.hif, act := t.act, ube := t.ube } ∧ KeepsRegs s t (actFlds ++ [F.ACT_CH_STATUS_TUNE_PENDING]))) ∧
  (∀ (s : State) (c g f r : Nat) (b : Bool) (m : Ploam), PloamHeard s c m → s.act_st c ≠ 0x51 → Gives (.tuningControl c g f b false r m) s (fun t =>
      t.fld F.ACT_CH_EVENT_NACK_SENT c = 1 ∧ (t.ubeCh c).ploams = (s.ubeCh c).ploams ++ [.tuneResponse false r] ∧
      t = { s with regs := t.regs, ube := t.ube } ∧ KeepsAt s t c [F.ACT_CH_EVENT_NACK_SENT, F.ACT_CH_EVENT_EVCNT_NACK_SENT])) ∧
  (∀ (s : State) (c g f r : Nat) (b : Bool) (m : Ploam), PloamHeard s c m → s.act_st c = 0x52 → SimmerOff s → Gives (.tuningControl c g f b true r m) s (fun t =>
      t.act_st c = 0x51 ∧ (t.actCh c).tuning = none ∧ (t.actCh c).timer = 0 ∧ t.fld F.ACT_CH_STATUS_TUNE_PENDING c = 0 ∧
      t = { s with regs := t.regs, hif := t.hif, act := t.act, ube := t.ube } ∧ KeepsRegs s t (actFlds ++ memberFlds ++ [F.ACT_CH_STATUS_TUNE_PENDING]))) ∧
  (∀ (s : State) (c g f : Nat), (s.actCh c).tuning = some ⟨g, f⟩ → s.reached c f = false → Gives (.rollout c) s (fun t => t = s)) ∧
  (∀ (s : State) (c g f : Nat), (s.actCh c).tuning = some ⟨g, f⟩ → s.act_st c = 0x52 → s.reached c f = true → g ≠ c → c < 8 → g < 8 → s.act_st g = 0 →
    s.tc ≠ c → SimmerOff s → Gives (.rollout c) s (fun t => t.act_st c = 0 ∧ t.act_st g = (if s.inSync g then 0x82 else 0x81) ∧
      (t.actCh c).allocs = [] ∧ (s.member c = 1 → t.member c = 3 ∧ SMap.find t.dsf.parkAt c = some f) ∧ (s.member c = 2 → t.member c = 0) ∧
      (t.actCh g).allocs = (s.actCh c).allocs ∧ (t.actCh g).timer = (if s.inSync g then 4 else 3) ∧ (t.actCh g).tunedFrom = some c ∧ t.fld F.ACT_CH_STATUS_ONU_ID c = 0x3FF ∧
      t.fld F.ACT_CH_STATUS_ONU_ID g = s.fld F.ACT_CH_STATUS_ONU_ID c % 2 ^ 10 ∧ t.slot (ponSlot g 1) = s.slot (ponSlot c 1) ∧
      (t.slot (ponSlot c 1)).st = 0 ∧ t.fld F.ACT_CH_STATUS_MEMBER g = s.fld F.ACT_CH_STATUS_MEMBER c % 2 ∧
      t = { s with regs := t.regs, hif := t.hif, act := t.act, ube := t.ube, cdy := t.cdy, cph := t.cph, dsf := { s.dsf with parkAt := t.dsf.parkAt } } ∧
      KeepsRegs s t (actFlds ++ profFlds ++ contextFlds))) ∧
  (∀ (s : State) (c : Nat), (s.actCh c).timer = 1 → (s.actCh c).due ≤ s.ltb.lc → s.act_st c = 0x40 → (s.ubeCh c).rem = [] → SimmerOff s → Gives (.timerExpired c 1) s (fun t =>
      t.act_st c = 0x23 ∧ (t.actCh c).timer = 0 ∧ t.fld F.ACT_CH_EVENT_TIMER_EXPIRED c = 1 ∧ t.fld F.ACT_CH_STATUS_ONU_ID c = 0x3FF ∧
      (t.actCh c).allocs = [] ∧ t = { s with regs := t.regs, hif := t.hif, act := t.act, ube := t.ube } ∧
      KeepsRegs s t (actFlds ++ [F.ACT_CH_EVENT_TIMER_EXPIRED, F.ACT_CH_EVENT_EVCNT_TIMER_EXPIRED, F.ACT_CH_STATUS_ONU_ID, F.ACT_CH_STATUS_ALLOCS]))) ∧
  (∀ (s : State) (c : Nat), (s.actCh c).timer = 2 → (s.actCh c).due ≤ s.ltb.lc → s.act_st c = 0x60 → s.inSync c = false → ContextAlone s c → Gives (.timerExpired c 2) s (fun t =>
      t.act_st c = 0x11 ∧ t.fld F.ACT_CH_STATUS_ONU_ID c = 0x3FF ∧ t.fld F.ACT_CH_EVENT_TIMER_EXPIRED c = 1 ∧ (t.actCh c).allocs = [])) ∧
  (∀ (s : State) (c : Nat), (s.actCh c).timer = 5 → (s.actCh c).due ≤ s.ltb.lc → s.act_st c = 0x52 → SimmerOff s → Gives (.timerExpired c 5) s (fun t =>
      t.act_st c = 0x51 ∧ (t.actCh c).tuning = none ∧ (t.actCh c).timer = 0 ∧ t.fld F.ACT_CH_STATUS_TUNE_PENDING c = 0 ∧
      t = { s with regs := t.regs, hif := t.hif, act := t.act, ube := t.ube })) ∧
  (∀ (s : State) (c n : Nat), (s.actCh c).timer ≠ n ∨ s.ltb.lc < (s.actCh c).due → Gives (.timerExpired c n) s (fun t => t = s))

/-- R163 to R168: parking, and the ACT commands. -/
def Obligations.ParkingAndActCommands : Prop :=
  (∀ (s : State) (c : Nat) (at' : Int), s.act_st c = 0x51 → s.fld F.ACT_CH_STATUS_PARK_PENDING c = 1 → (s.actCh c).parkDue = some at' → at' ≤ s.lin → SimmerOff s →
    Gives (.parkEntry c) s (fun t =>
      t.act_st c = 0x53 ∧ t.fld F.ACT_CH_STATUS_PARK_PENDING c = 0 ∧ (t.actCh c).parkAt = none ∧
      t = { s with regs := t.regs, hif := t.hif, act := t.act, ube := t.ube } ∧ KeepsRegs s t (actFlds ++ [F.ACT_CH_STATUS_PARK_PENDING]))) ∧
  (∀ (s : State) (c : Nat) (at' : Int), (s.actCh c).parkDue = some at' → s.lin < at' → Gives (.parkEntry c) s (fun t => t = s)) ∧
  (∀ (s : State) (c fu : Nat), (s.actCh c).unparkAt = some fu → s.reached c fu = false → Gives (.unparkApply c) s (fun t => t = s)) ∧
  (∀ (s : State) (c fu : Nat), s.act_st c = 0x53 → (s.actCh c).unparkAt = some fu → s.reached c fu = true → s.fld F.ACT_CH_STATUS_MEMBER c = 1 → s.onActive c = true →
    s.member c = 0 → SimmerOff s → Gives (.unparkApply c) s (fun t => t.act_st c = 0x51 ∧ t.member c = 1 ∧ (t.actCh c).unparkAt = none ∧
      t = { s with regs := t.regs, hif := t.hif, act := t.act, ube := t.ube } ∧
      KeepsRegs s t (actFlds ++ memberFlds ++ [F.ACT_CH_STATUS_PARK_PENDING]))) ∧
  (∀ (s : State) (c f : Nat) (d : Desc) (x : Exchange) (m : Ploam), PloamHeard s c m → s.act.exchange = some x → x = ⟨c, true, false, some d, x.start⟩ →
    s.parkOverdue x = false → s.reached c f = false → s.member c = 1 → Gives (.parkAnswer c f true m) s (fun t => Ends d stOk (2 ^ 31 + f % 2 ^ 29) t ∧
      t.act.exchange = none ∧ (t.actCh c).parkAt = some f ∧ (t.actCh c).own = false ∧
      t.fld F.ACT_CH_STATUS_PARK_PENDING c = 1 ∧ t.member c = 3 ∧ SMap.find t.dsf.parkAt c = some f ∧
      t = { s with regs := t.regs, hif := t.hif, lfg := t.lfg, act := t.act, dsf := { s.dsf with parkAt := t.dsf.parkAt } } ∧
      KeepsRegs s t (eventFlds ++ memberFlds ++ [F.ACT_CH_STATUS_PARK_PENDING]))) ∧
  (∀ (s : State) (c f : Nat) (d : Desc) (x : Exchange) (m : Ploam), PloamHeard s c m → s.act.exchange = some x → x = ⟨c, x.park, false, some d, x.start⟩ →
    s.parkOverdue x = false → Gives (.parkAnswer c f false m) s (fun t => Ends d stOk (2 ^ 29) t ∧
      t.act = { s.act with exchange := none, waiting := c :: s.act.waiting } ∧ t = { s with regs := t.regs, hif := t.hif, lfg := t.lfg, act := t.act } ∧
      KeepsRegs s t eventFlds)) ∧
  (∀ (s : State) (c f : Nat) (a : Bool) (m : Ploam), PloamHeard s c m → s.act.exchange = none → s.act.timedOut.find? (fun x => x.chan == c) = none →
    Gives (.parkAnswer c f a m) s (fun t => t.fld F.ACT_CH_EVENT_NACK_SENT c = 1 ∧ (t.ubeCh c).ploams = (s.ubeCh c).ploams ++ [.nack] ∧
      t = { s with regs := t.regs, ube := t.ube } ∧ KeepsAt s t c [F.ACT_CH_EVENT_NACK_SENT, F.ACT_CH_EVENT_EVCNT_NACK_SENT])) ∧
  (∀ (s : State) (c f : Nat) (x : Exchange) (m : Ploam), PloamHeard s c m → s.act.exchange = none → s.act.timedOut.find? (fun x => x.chan == c) = some x →
    Gives (.parkAnswer c f true m) s (fun t => t.fld F.ACT_CH_EVENT_NACK_SENT c = 1 ∧ (t.ubeCh c).ploams = (s.ubeCh c).ploams ++ [.nack] ∧
      t.act = { s.act with timedOut := s.act.timedOut.filter (fun y => y.chan != c) } ∧ t = { s with regs := t.regs, hif := t.hif, act := t.act, ube := t.ube } ∧
      KeepsRegs s t (eventFlds ++ [F.ACT_CH_EVENT_NACK_SENT, F.ACT_CH_EVENT_EVCNT_NACK_SENT]))) ∧
  (∀ (s : State) (c : Nat) (d : Desc) (x : Exchange), s.act.exchange = some x → x = ⟨c, x.park, x.own, some d, x.start⟩ → s.parkOverdue x = true →
    Gives .parkTimeout s (fun t => Ends d stOk (2 ^ 30) t ∧ t.act = { s.act with
        exchange := none, waiting := c :: s.act.waiting, timedOut := s.act.timedOut.filter (fun y => y.chan != c) ++ [{ x with desc := none }] } ∧
      t = { s with regs := t.regs, hif := t.hif, lfg := t.lfg, act := t.act } ∧ KeepsRegs s t eventFlds)) ∧
  (∀ s : State, s.act.exchange = none → Gives .parkTimeout s (fun t => t = s)) ∧
  (∀ (s : State) (x : Exchange), s.act.exchange = some x → s.ltb.lc < x.start + 1244160 * max 1 (s.fld F.ACT_PARK_CFG_AGREE_MS 0) →
    Gives .parkTimeout s (fun t => t = s)) ∧
  (∀ (s : State) (c f : Nat) (m : Ploam), PloamHeard s c m → s.act_st c = 0x51 → s.member c = 0 → Gives (.headEndPark c f true m) s (fun t =>
      (t.actCh c).parkAt = some (if s.reached c f = true ∧ (s.actCh c).refFrame ≠ f then ((s.actCh c).refFrame + 1) % 2 ^ 46 else f) ∧
      t.fld F.ACT_CH_STATUS_PARK_PENDING c = 1 ∧ t = { s with regs := t.regs, act := t.act } ∧ KeepsAt s t c [F.ACT_CH_STATUS_PARK_PENDING])) ∧
  (∀ (s : State) (c f : Nat) (m : Ploam), PloamHeard s c m → s.act_st c = 0x53 → Gives (.headEndPark c f false m) s (fun t =>
      (t.actCh c).unparkAt = some (if s.reached c f then ((s.actCh c).refFrame + 1) % 2 ^ 46 else f) ∧ t = { s with act := t.act })) ∧
  (∀ s : State, s.act.window = none → Gives .parkWindow s (fun t => t = s)) ∧
  (∀ (s : State) (w : LoadWindow), s.act.window = some w → s.fld (engRunning 3) 0 = 0 ∨ s.ltb.lc < w.start + 12441600 * w.units → Gives .parkWindow s (fun t => t = s)) ∧
  (∀ (s : State) (w : LoadWindow), s.act.window = some w → WindowOver s w → 0 < s.windowLoad w →
    s.fld F.ACT_PARK_LOAD_LOW_PCT 0 < s.fld F.ACT_PARK_LOAD_HIGH_PCT 0 → s.fld F.ACT_PARK_LOAD_HIGH_PCT 0 ≤ 100 → (∀ c < 4, s.act_st c ≠ 0x51) →
    s.act_st 0 = 0x53 → 0 ∉ s.act.waiting → Gives .parkWindow s (fun t => t.act = { s.act with
        exchange := some ⟨0, false, true, none, s.ltb.lc⟩, waiting := [], window := some ⟨s.ltb.lc, max 1 (s.fld F.ACT_PARK_CFG_WINDOW 0), s.enqueued⟩ } ∧
      (t.ubeCh 0).ploams = (s.ubeCh 0).ploams ++ [.parkRequest false] ∧ t = { s with act := t.act, ube := t.ube })) ∧
  (∀ (s : State) (w : LoadWindow), s.act.window = some w → WindowOver s w → s.windowLoad w = 0 → 0 < w.units →
    0 < s.fld F.ACT_PARK_LOAD_LOW_PCT 0 → s.fld F.ACT_PARK_LOAD_LOW_PCT 0 < s.fld F.ACT_PARK_LOAD_HIGH_PCT 0 →
    s.fld F.ACT_PARK_LOAD_HIGH_PCT 0 ≤ 100 → s.act_st 0 = 0x51 → s.act_st 1 = 0x51 → s.act_st 2 ≠ 0x51 → s.act_st 3 ≠ 0x51 → s.member 0 ≠ 0 →
    s.member 1 ≠ 0 → s.tc = 0 → s.fld F.ACT_PARK_CFG_MIN_ACTIVE 0 ≤ 1 → 1 ∉ s.act.waiting → Gives .parkWindow s (fun t => t.act = { s.act with
        exchange := some ⟨1, true, true, none, s.ltb.lc⟩, waiting := [], window := some ⟨s.ltb.lc, max 1 (s.fld F.ACT_PARK_CFG_WINDOW 0), s.enqueued⟩ } ∧
      (t.ubeCh 1).ploams = (s.ubeCh 1).ploams ++ [.parkRequest true] ∧ t = { s with act := t.act, ube := t.ube })) ∧
  (∀ (s : State) (w : LoadWindow), s.act.window = some w → s.fld (engRunning 3) 0 ≠ 0 → w.start + 12441600 * w.units ≤ s.ltb.lc →
    s.act.exchange.isSome = true ∨ s.prtSteady = false → Gives .parkWindow s (fun t =>
      t.act = { s.act with waiting := [], window := t.act.window } ∧ t = { s with act := t.act })) ∧
  (∀ (s : State) (d : Desc), d.opcode = 0x1001 → d.buf = true → 36 ≤ d.bufLen → (∀ c < 8, s.act_st c = 0) → Gives (.actIdentity d) s (fun t => Ends d stOk 0 t ∧
      t.fld F.ACT_SERIAL_HI_SERIAL 0 = d.dw 5 ∧ t.fld F.ACT_SERIAL_LO_SERIAL 0 = d.dw 6 ∧ t.act = { s.act with regId := (List.range 9).map d.word } ∧
      t = { s with regs := t.regs, hif := { s.hif with flight := t.hif.flight }, lfg := t.lfg, act := t.act } ∧
      KeepsRegs s t (commitFlds ++ [F.ACT_SERIAL_HI_SERIAL, F.ACT_SERIAL_LO_SERIAL]))) ∧
  (∀ (s : State) (d : Desc), d.opcode = 0x1003 → d.dw 5 < 16 → s.hif.part = .lk9540 → Gives (.bondSet d) s (fun t => Ends d stOk s.memberMask t ∧
      (∀ k < 4, t.fld F.ACT_CH_STATUS_MEMBER (s.chanOf k) = b2n (bit (d.dw 5) k)) ∧
      t = { s with regs := t.regs, hif := { s.hif with flight := t.hif.flight }, lfg := t.lfg } ∧
      KeepsRegs s t (commitFlds ++ memberFlds ++ [F.ACT_CH_STATUS_MEMBER]))) ∧
  (∀ (s : State) (d : Desc), d.opcode = 0x1004 → bit (d.dw 5) 8 = true → s.hasChannel (bits (d.dw 5) 2 0) = true → s.act_st (bits (d.dw 5) 2 0) = 0x51 → s.act.exchange = none → s.prtSteady = true →
    s.onActive (bits (d.dw 5) 2 0) = true → s.member (bits (d.dw 5) 2 0) ≠ 0 → s.fld F.ACT_CH_STATUS_PARK_PENDING (bits (d.dw 5) 2 0) = 0 →
    s.minActive < s.membersUp → Gives (.park d) s (fun t =>
      t.act = { s.act with exchange := some ⟨bits (d.dw 5) 2 0, true, false, some d, s.ltb.lc⟩ } ∧
      (t.ubeCh (bits (d.dw 5) 2 0)).ploams = (s.ubeCh (bits (d.dw 5) 2 0)).ploams ++ [.parkRequest true] ∧
      t = { s with act := t.act, ube := t.ube })) ∧
  (∀ (s : State) (d : Desc), d.opcode = 0x1004 → bit (d.dw 5) 8 = true → s.hasChannel (bits (d.dw 5) 2 0) = true → s.act_st (bits (d.dw 5) 2 0) = 0x51 → s.act.exchange.isSome = true ∨ s.prtSteady = false →
    Gives (.park d) s (EndsOnly d stBusy 0 s)) ∧
  (∀ (s : State) (d : Desc), d.opcode = 0x1004 → bit (d.dw 5) 8 = false → s.hasChannel (bits (d.dw 5) 2 0) = true → s.act_st (bits (d.dw 5) 2 0) = 0x53 → s.act.exchange = none → s.prtSteady = true →
    Gives (.unpark d) s (fun t => t.act = { s.act with exchange := some ⟨bits (d.dw 5) 2 0, false, false, some d, s.ltb.lc⟩ } ∧
      (t.ubeCh (bits (d.dw 5) 2 0)).ploams = (s.ubeCh (bits (d.dw 5) 2 0)).ploams ++ [.parkRequest false] ∧
      t = { s with act := t.act, ube := t.ube })) ∧
  (∀ (s : State) (d : Desc), d.opcode = 0x1004 → bit (d.dw 5) 8 = false → s.hasChannel (bits (d.dw 5) 2 0) = true → s.act_st (bits (d.dw 5) 2 0) ≠ 0x53 →
    Gives (.unpark d) s (EndsOnly d stStateRefused (refusedWord 0x20 (bits (d.dw 5) 2 0) (s.act_st (bits (d.dw 5) 2 0))) s)) ∧
  (∀ (s : State) (d : Desc), d.opcode = 0x1005 → d.buf = true → 256 ≤ d.bufLen → Gives (.actQuery d) s (fun t => Ends d stOk 0 t ∧
      (∃ ws, t.hif.hostWrites = s.hif.hostWrites ++ [⟨d.bufAddr, ws⟩] ∧ ws.length = 64 ∧ ∀ c < 8, ws[8 * c]? = some (s.actStatusWord c)) ∧
      t = { s with regs := t.regs, hif := { s.hif with flight := t.hif.flight, hostWrites := t.hif.hostWrites }, lfg := t.lfg } ∧
      KeepsRegs s t commitFlds)) ∧
  (∀ (s : State) (d : Desc), d.opcode = 0x1006 → d.buf = true → 512 ≤ d.bufLen → s.hasChannel (bits (d.dw 5) 2 0) = true → Gives (.allocRead d) s (fun t =>
      Ends d stOk (s.actCh (bits (d.dw 5) 2 0)).allocs.length t ∧
      (∃ ws, t.hif.hostWrites = s.hif.hostWrites ++ [⟨d.bufAddr, ws⟩] ∧ ws.take (((s.actCh (bits (d.dw 5) 2 0)).allocs.length + 1) / 2) =
        pair16 (sortAsc (s.actCh (bits (d.dw 5) 2 0)).allocs)) ∧
      t = { s with regs := t.regs, hif := { s.hif with flight := t.hif.flight, hostWrites := t.hif.hostWrites }, lfg := t.lfg } ∧
      KeepsRegs s t commitFlds))

/-- R406 to R410, R412, R413, R416, R417: heartbeats, the standby path, the change of path, wait to restore and the end of an exercise. -/
def Obligations.PathProtection : Prop :=
  (∀ s : State, PrtWorking s → s.prt.localReqs = [] → s.prtBlind = false → s.prt.skipPs = 0 → s.ltb.cycle = 0 →
    s.prt.psLc ≠ some s.ltb.lc → (∀ p < 2, s.pathPresent p = true ∧
    (s.path p).missKa < max 1 (s.fld F.PRT_HB_CFG_MISS_KA 0)) → Gives .psyncUnit s (fun t => t.prtState = 1 ∧
      (∀ p < 2, (t.path p).missPs = 0 ∧ (t.path p).okPs = (s.path p).okPs + 1) ∧ t.prt.psLc = some s.ltb.lc ∧
      t = { s with regs := t.regs, prt := { s.prt with paths := t.prt.paths, psLc := t.prt.psLc } } ∧ KeepsRegs s t reqFlds)) ∧
  (∀ s : State, PrtWorking s → s.prt.localReqs = [] → s.prtBlind = false → s.prt.skipPs = 0 → s.ltb.cycle = 0 → s.prt.psLc ≠ some s.ltb.lc → s.pathPresent 0 = false →
    max 1 (s.fld F.PRT_HB_CFG_MISS_PSYNC 0) ≤ (s.path 0).missPs + 1 → s.pathPresent 1 = true → (s.path 1).missKa < max 1 (s.fld F.PRT_HB_CFG_MISS_KA 0) →
    Gives .psyncUnit s (fun t => t.sf 0 = true ∧ t.fld F.PRT_EVENT_PATH_FAIL 0 = 1 ∧ t.fld F.PRT_STATUS_REQ 0 = 5 ∧ Switches s t 1 5 ∧
      t = { s with regs := t.regs, hif := t.hif, ube := t.ube, prt := t.prt } ∧
      KeepsRegs s t (eventFlds ++ gapFlds ++ [F.PRT_STATUS_SF_A, F.PRT_EVENT_PATH_FAIL, F.PRT_EVENT_EVCNT_PATH_FAIL]))) ∧
  (∀ s : State, PrtWorking s → s.prt.localReqs = [] → s.prtBlind = false → s.prt.skipKa = 0 →
    s.prt.kaFrom + s.kaLc ≤ s.ltb.lc → (∀ p < 2, (s.path p).alive = true ∧
    (s.path p).missPs < max 1 (s.fld F.PRT_HB_CFG_MISS_PSYNC 0)) → Gives .keepAliveUnit s (fun t => t.prtState = 1 ∧
      (∀ p < 2, (t.path p).missKa = 0 ∧ (t.path p).okKa = (s.path p).okKa + 1 ∧ (t.path p).alive = false) ∧ t.prt.kaFrom = s.prt.kaFrom + s.kaLc ∧
      t = { s with regs := t.regs, prt := { s.prt with paths := t.prt.paths, kaFrom := t.prt.kaFrom } } ∧ KeepsRegs s t reqFlds)) ∧
  (∀ s : State, s.prtState = 0 ∨ s.prtBlind = true ∨ s.ltb.cycle ≠ 0 → Gives .psyncUnit s (fun t => t = s)) ∧
  (∀ s : State, s.prtState = 0 ∨ s.ltb.lc < s.prt.kaFrom + s.kaLc → Gives .keepAliveUnit s (fun t => t = s)) ∧
  (∀ s : State, s.prtState ≠ 0 → s.prt.kaFrom + s.kaLc ≤ s.ltb.lc → s.prtBlind = true → Gives .keepAliveUnit s (fun t =>
      t = { s with prt := { s.prt with kaFrom := s.prt.kaFrom + s.kaLc } })) ∧
  (∀ (s : State) (k : Nat), s.fld F.PRT_SB_CFG_PRERANGE 0 = 0 → Gives (.standbyLoad k) s (fun t => t = s)) ∧
  (∀ (s : State) (k : Nat), k < 4 → s.fld F.PRT_SB_CFG_PRERANGE 0 ≠ 0 → s.prtState ≠ 0 → s.fld F.ACT_STATUS_PATH 0 = 1 → s.act_st k = 0x51 →
    s.act_st (4 + k) = 0x54 → s.fld F.LTB_CH_OFS_VALID k ≠ 0 → s.fld F.LTB_CH_OFS_VALID (4 + k) ≠ 0 → s.standbyEqd k % 65536 = 0 →
    0 ≤ s.standbyEqd k → s.standbyEqd k < 2 ^ 40 → Gives (.standbyLoad k) s (fun t =>
      (t.fld F.ACT_CH_EQD_EQD (4 + k) : Int) = s.standbyEqd k / 65536 ∧ t.fld F.ACT_CH_EQD_VALID (4 + k) = 1 ∧
      t.fld F.ACT_CH_STATUS_ONU_ID (4 + k) = s.fld F.ACT_CH_STATUS_ONU_ID k % 2 ^ 10 ∧ (t.actCh (4 + k)).allocs = (s.actCh k).allocs ∧
      t.act_st (4 + k) = 0x54 ∧ t = { s with regs := t.regs, act := t.act } ∧
      KeepsAt s t (4 + k) (profFlds ++ [F.ACT_CH_STATUS_ONU_ID, F.ACT_CH_STATUS_ALLOCS, F.ACT_CH_EQD_VALID, F.ACT_CH_EQD_EQD]))) ∧
  (∀ s : State, s.prtState ≠ 4 ∨ s.prt.passed = true ∨ stampLe (stampOf s.prt.f1 0) s.stamp = false → Gives .pathChange s (fun t => t = s)) ∧
  (∀ s : State, s.prtState = 4 → s.prt.passed = false → stampLe (stampOf s.prt.f1 0) s.stamp = true → s.prt.newPath = 1 → s.fld F.ACT_STATUS_PATH 0 = 1 → s.dsf.held = [] → s.dsf.losses = [] →
    s.linkOk = false → s.tstate ≠ 0 → SimmerOff s → (∀ c < 4, s.act_st c = 0 ∧ s.txState c = 0) → (∀ c < 8, s.fld F.ACT_CH_STATUS_MEMBER c = 0) →
    Gives .pathChange s (fun t => t.fld F.ACT_STATUS_PATH 0 = 2 ∧ t.prt = { s.prt with passed := true } ∧
      (∀ c, 4 ≤ c → c < 8 → t.act_st c = if s.act_st c = 0x54 then 0x51 else s.act_st c) ∧ (∀ k < 4, t.member k = 0) ∧
      t = { s with regs := t.regs, hif := t.hif, ltb := { s.ltb with anchored := t.ltb.anchored }, dsf := { s.dsf with bondOn := t.dsf.bondOn },
                   ube := t.ube, prt := t.prt, tmg := t.tmg } ∧
      KeepsRegs s t (actFlds ++ memberFlds ++ [F.ACT_STATUS_PATH, F.DSF_BOND_HELD_UNITS, F.ACT_CH_STATUS_MEMBER]))) ∧
  (∀ s : State, s.prtState = 3 → s.fld F.ACT_STATUS_PATH 0 = 2 → s.workPath = 0 → (s.path 0).remote = none → (s.path 1).remote = none → s.sf 0 = false →
    s.sf 1 = false → s.prt.exercise = none → s.prt.waiters = [] → s.prt.localReqs = [] → s.act.exchange = none →
    s.prt.wtrLen * 1244160000 ≤ s.ltb.lc - s.prt.wtrFrom → Gives .wtrExpiry s (fun t => Switches s t 0 2 ∧ t.fld F.PRT_STATUS_REQ 0 = 2 ∧
      t = { s with regs := t.regs, ube := t.ube, prt := t.prt } ∧ KeepsRegs s t gapFlds)) ∧
  (∀ s : State, s.prtState ≠ 3 ∨ s.ltb.lc - s.prt.wtrFrom < s.prt.wtrLen * 1244160000 → Gives .wtrExpiry s (fun t => t = s)) ∧
  (∀ (s : State) (ms start : Nat), s.prt.exercise = some (ms, start) → s.prtState = 5 → ms ≤ s.msSince start → s.act.exchange = none → s.prt.waiters = [] →
    Gives .exerciseEnd s (fun t => Switches s t s.workPath 1 ∧ t.fld F.PRT_STATUS_SB_UP_FAULT 0 = 0 ∧ t.prt.exercise = none ∧
      t = { s with regs := t.regs, hif := t.hif, ube := t.ube, prt := t.prt } ∧ KeepsRegs s t (eventFlds ++ gapFlds ++ [F.PRT_STATUS_SB_UP_FAULT]))) ∧
  (∀ s : State, s.prt.exercise = none → Gives .exerciseEnd s (fun t => t = s))

/-- R148, R149, R409, R416 to R418: PRT_CFG, PRT_REQUEST under each of its codes, and CH_ENABLE and CH_DISABLE. -/
def Obligations.ProtectionAndChannelCommands : Prop :=
  (∀ (s : State) (v : Word), s.prtState = 0 → s.fld F.ACT_STATUS_PATH 0 = 1 → s.fld F.PRT_CFG_EN 0 = 0 → bit v.toNat 31 = true → bit v.toNat 8 = false →
    s.fld F.PRT_SB_CFG_PRERANGE 0 ≠ 1 → (∀ c, 4 ≤ c → c < 8 → s.act_st c = 0 ∧ s.fld F.LLN_RX_CFG_EN c ≠ 1) → Gives (.prtEn v) s (fun t =>
      t.prtState = 1 ∧ t.fld F.PRT_CFG_EN 0 = 1 ∧ t.workPath = 0 ∧ t.sf 0 = false ∧ t.sf 1 = false ∧ t.prt.paths = [] ∧ t.prt.localReqs = [] ∧
      t = { s with regs := t.regs, lfg := t.lfg, prt := t.prt } ∧
      KeepsRegs s t (commitFlds ++ [F.PRT_CFG_EN, F.PRT_CFG_WORKING, F.PRT_STATUS_STATE, F.PRT_STATUS_SF_A, F.PRT_STATUS_SF_B, F.PRT_STATUS_SB_UP_FAULT]))) ∧
  (∀ (s : State) (v : Word), s.prtState ≠ 0 → s.fld F.PRT_CFG_EN 0 = 1 → bit v.toNat 31 = true → Gives (.sbFaultClr v) s (fun t =>
      t.fld F.PRT_STATUS_SB_UP_FAULT 0 = 0 ∧ t.prtState = s.prtState ∧ t.workPath = s.workPath ∧ t = { s with regs := t.regs, lfg := t.lfg } ∧
      KeepsRegs s t (commitFlds ++ [F.PRT_STATUS_SB_UP_FAULT, F.PRT_CFG_EN]))) ∧
  (∀ (s : State) (d : Desc) (i : Instr), d.opcode = 0x3401 → s.prtState = 0 → (prtCode d, i) ∈ [(0x10, Instr.lockout d), (0x11, .forcedSwitch d), (0x14, .manualSwitch d), (0x16, .clear d)] →
    Gives i s (EndsOnly d stStateRefused (refusedWord 0x6C 0 0) s)) ∧
  (∀ (s : State) (d : Desc) (i : Instr), d.opcode = 0x3401 → prtCode d ∉ [0x10, 0x11, 0x14, 0x15, 0x16] →
    i ∈ [Instr.lockout d, .forcedSwitch d, .manualSwitch d, .exercise d, .clear d] → Gives i s (EndsOnly d stBadArg 5 s)) ∧
  (∀ (s : State) (d : Desc), d.opcode = 0x3401 → prtCode d = 0x10 → PrtWorking s → s.prt.localReqs = [] → s.fld F.PRT_STATUS_REQ 0 ≤ 8 → Gives (.lockout d) s (fun t =>
      Ends d stOk 1 t ∧ t.fld F.PRT_STATUS_REQ 0 = 8 ∧ t.fld F.PRT_STATUS_REQ_SRC 0 = 1 ∧ t.prtState = 1 ∧
      t = { s with regs := t.regs, hif := t.hif, lfg := t.lfg, prt := { s.prt with localReqs := [(0x10, (bits (d.dw 5) 8 8, d.dw 6))] } } ∧
      KeepsRegs s t (commitFlds ++ reqFlds))) ∧
  (∀ (s : State) (d : Desc), d.opcode = 0x3401 → prtCode d = 0x11 → bits (d.dw 5) 8 8 = 1 → PrtWorking s → s.prt.localReqs = [] → s.fld F.PRT_STATUS_REQ 0 ≤ 6 →
    Gives (.forcedSwitch d) s (fun t => Ends d stOk 4 t ∧ Switches s t 1 6 ∧ t.fld F.PRT_STATUS_REQ 0 = 6 ∧
      t = { s with regs := t.regs, hif := t.hif, lfg := t.lfg, ube := t.ube, prt := t.prt } ∧ KeepsRegs s t (commitFlds ++ gapFlds))) ∧
  (∀ (s : State) (d : Desc), d.opcode = 0x3401 → prtCode d = 0x14 → bits (d.dw 5) 8 8 = 1 → PrtWorking s → s.prt.localReqs = [] → s.fld F.PRT_STATUS_REQ 0 ≤ 3 →
    s.fld F.PRT_STATUS_SB_UP_FAULT 0 = 0 → Gives (.manualSwitch d) s (fun t => Ends d stOk 4 t ∧ Switches s t 1 3 ∧ t.fld F.PRT_STATUS_REQ 0 = 3 ∧
      t = { s with regs := t.regs, hif := t.hif, lfg := t.lfg, ube := t.ube, prt := t.prt } ∧ KeepsRegs s t (commitFlds ++ gapFlds))) ∧
  (∀ (s : State) (d : Desc), d.opcode = 0x3401 → prtCode d = 0x14 → s.prtState ≠ 0 → s.sf (bits (d.dw 5) 8 8) = true →
    Gives (.manualSwitch d) s (EndsOnly d stStateRefused (refusedWord 0x6D 0 (s.fld F.PRT_STATUS_REQ 0)) s)) ∧
  (∀ (s : State) (d : Desc), d.opcode = 0x3401 → prtCode d = 0x15 → 1 ≤ d.dw 6 → d.dw 6 ≤ 60000 → PrtWorking s → s.prt.localReqs = [] → s.fld F.PRT_STATUS_REQ 0 ≤ 1 →
    s.fld F.PRT_STATUS_SB_UP_FAULT 0 = 0 → s.allStandby = true → Gives (.exercise d) s (fun t => Ends d stOk 4 t ∧ Switches s t 1 1 ∧
      t.prt.exercise = some (d.dw 6, 0) ∧ t.fld F.PRT_STATUS_REQ 0 = 1 ∧
      t.fld F.PRT_COUNT_EXERCISES 0 = min (s.fld F.PRT_COUNT_EXERCISES 0 + 1) F.PRT_COUNT_EXERCISES.top ∧
      t = { s with regs := t.regs, hif := t.hif, lfg := t.lfg, ube := t.ube, prt := t.prt } ∧
      KeepsRegs s t (commitFlds ++ gapFlds ++ [F.PRT_COUNT_EXERCISES]))) ∧
  (∀ (s : State) (d : Desc), d.opcode = 0x3401 → prtCode d = 0x15 → (d.dw 6 = 0 ∨ 60000 < d.dw 6) → Gives (.exercise d) s (EndsOnly d stBadArg 6 s)) ∧
  (∀ (s : State) (d : Desc), d.opcode = 0x3401 → prtCode d = 0x16 → PrtWorking s → s.fld F.PRT_STATUS_REQ 0 ≤ 8 → Gives (.clear d) s (fun t => Ends d stOk 1 t ∧
      t.fld F.PRT_STATUS_REQ 0 = 0 ∧ t.prtState = 1 ∧
      t = { s with regs := t.regs, hif := t.hif, lfg := t.lfg, prt := { s.prt with localReqs := [] } } ∧ KeepsRegs s t (commitFlds ++ reqFlds))) ∧
  (∀ (s : State) (d : Desc) (c : Nat), d.opcode = 0x1002 → bit (d.dw 5) 8 = true → c = bits (d.dw 5) 2 0 → s.hasChannel c = true → s.act_st c = 0 →
    (s.fld F.ACT_STATUS_PATH 0 = 0 ∨ s.fld F.ACT_STATUS_PATH 0 = 1 + c / 4) → s.fld F.PRT_CFG_EN 0 = 0 → s.prtState = 0 → s.inSync c = false →
    s.fld F.ACT_CH_STATUS_ESTOP c = 0 → SimmerOff s → Gives (.chEnable d) s (fun t => Ends d stOk 0x11 t ∧ t.act_st c = 0x11 ∧
      t.fld F.ACT_STATUS_PATH 0 = 1 + c / 4 ∧ t = { s with regs := t.regs, hif := t.hif, lfg := t.lfg, ube := t.ube } ∧
      KeepsRegs s t (actFlds ++ profFlds ++ [F.ACT_STATUS_PATH, F.ACT_CH_STATUS_MEMBER]))) ∧
  (∀ (s : State) (d : Desc) (c : Nat), d.opcode = 0x1002 → bit (d.dw 5) 8 = true → c = bits (d.dw 5) 2 0 → s.hasChannel c = true → s.act_st c ≠ 0 →
    Gives (.chEnable d) s (EndsOnly d stStateRefused (refusedWord 0x20 c (s.act_st c)) s)) ∧
  (∀ (s : State) (d : Desc) (c : Nat), d.opcode = 0x1002 → bit (d.dw 5) 8 = true → c = bits (d.dw 5) 2 0 → s.hasChannel c = true → s.act_st c = 0 → s.fld F.ACT_STATUS_PATH 0 ≠ 0 →
    s.fld F.ACT_STATUS_PATH 0 ≠ 1 + c / 4 → Gives (.chEnable d) s (EndsOnly d stStateRefused (refusedWord 0x22 0 (s.fld F.ACT_STATUS_PATH 0)) s)) ∧
  (∀ (s : State) (d : Desc) (c : Nat), d.opcode = 0x1002 → bit (d.dw 5) 8 = false → c = bits (d.dw 5) 2 0 → s.hasChannel c = true → s.act_st c = 0x11 → (∀ k < 8, k ≠ c → s.act_st k = 0) →
    s.fld F.PRT_CFG_EN 0 = 0 → s.prtState = 0 → ContextAlone s c → Gives (.chDisable d) s (fun t => Ends d stOk 0 t ∧ t.act_st c = 0 ∧
      t.fld F.ACT_STATUS_PATH 0 = 0 ∧ t.fld F.ACT_CH_STATUS_ONU_ID c = 0x3FF ∧ (t.actCh c).allocs = [] ∧
      t = { s with regs := t.regs, hif := t.hif, lfg := t.lfg, act := t.act, ube := t.ube, cdy := t.cdy, cph := t.cph } ∧
      KeepsRegs s t (actFlds ++ profFlds ++ contextFlds ++ [F.ACT_STATUS_PATH]))) ∧
  (∀ (s : State) (d : Desc) (c : Nat), d.opcode = 0x1002 → bit (d.dw 5) 8 = false → c = bits (d.dw 5) 2 0 → s.hasChannel c = true → s.act_st c = 0 →
    Gives (.chDisable d) s (EndsOnly d stStateRefused (refusedWord 0x20 c 0) s))

/-- R340 to R342, R344 to R348, R354: frames received by a host port, its pause timers and its generated flow control. -/
def Obligations.HostPortFrames : Prop :=
  (∀ (s : State) (p : Nat) (b : List Nat) (x y : Bool) (sfd : Sfd) (tag : SecTag), s.portUp p = false → Gives (.rxFrame p b x y sfd tag) s
    (fun t => t = s)) ∧
  (∀ (s : State) (p : Nat) (b : List Nat) (sfd : Sfd) (tag : SecTag), s.portUp p = true → s.listen p = 0 → 64 ≤ b.length → b.length ≤ s.maxFrame p →
    be16 b 12 ≠ 0x8808 → s.fld F.HPM_P_CFG_TS_EN p = 0 → s.fld F.CPH_P_CFG_VALIDATE p = 0 → Gives (.rxFrame p b false true sfd tag) s (fun t =>
      t.str = { s.str with up := s.str.up ++ [rxFrm p b s.stamp] } ∧ Counted s t p 0 1 ∧ Counted s t p 1 b.length ∧ OnlyPort s t p ∧
      t = { s with hpm := t.hpm, str := t.str })) ∧
  (∀ (s : State) (p : Nat) (b : List Nat) (sfd : Sfd) (tag : SecTag), s.portUp p = true → s.listen p = 0 → 64 ≤ b.length → b.length ≤ s.maxFrame p →
    Gives (.rxFrame p b false false sfd tag) s (fun t => Counted s t p 2 1 ∧ OnlyPort s t p ∧ t = { s with hpm := t.hpm })) ∧
  (∀ (s : State) (p : Nat) (b : List Nat) (y : Bool) (sfd : Sfd) (tag : SecTag), s.portUp p = true → s.listen p = 0 → b.length < 64 →
    Gives (.rxFrame p b false y sfd tag) s (fun t => Counted s t p (if y then 3 else 4) 1 ∧
      t.fld F.HPM_P_SIZE_DROP_UNDERSIZE p = min (s.fld F.HPM_P_SIZE_DROP_UNDERSIZE p + 1) F.HPM_P_SIZE_DROP_UNDERSIZE.top ∧ OnlyPort s t p ∧
      t = { s with regs := t.regs, hpm := t.hpm } ∧ KeepsAt s t p [F.HPM_P_SIZE_DROP_UNDERSIZE])) ∧
  (∀ (s : State) (p : Nat) (b : List Nat) (y : Bool) (sfd : Sfd) (tag : SecTag), s.portUp p = true → s.listen p = 0 → s.maxFrame p < b.length →
    Gives (.rxFrame p b false y sfd tag) s (fun t => Counted s t p (if y then 5 else 6) 1 ∧
      t.fld F.HPM_P_SIZE_DROP_OVERSIZE p = min (s.fld F.HPM_P_SIZE_DROP_OVERSIZE p + 1) F.HPM_P_SIZE_DROP_OVERSIZE.top ∧ OnlyPort s t p ∧
      t = { s with regs := t.regs, hpm := t.hpm } ∧ KeepsAt s t p [F.HPM_P_SIZE_DROP_OVERSIZE])) ∧
  (∀ (s : State) (p : Nat) (b : List Nat) (sfd : Sfd) (tag : SecTag), s.portUp p = true → s.listen p = 0 → 64 ≤ b.length → b.length ≤ s.maxFrame p →
    be16 b 12 = 0x8808 → be16 b 14 = 1 → s.fcMode p = 1 → s.ctrlForUs p b = true → be16 b 16 ≠ 0 → Gives (.rxFrame p b false true sfd tag) s (fun t =>
      SMap.find (t.hport p).timers 8 = some (s.ltb.lc + quantaLc (be16 b 16) s.portRate) ∧ t.fld F.HPM_P_FC_STATUS_PAUSED p = 0xFF ∧
      Counted s t p 0 1 ∧ Counted s t p 8 1 ∧ OnlyPort s t p ∧ t = { s with regs := t.regs, hpm := t.hpm, tmg := t.tmg } ∧
      KeepsAt s t p [F.HPM_P_FC_STATUS_PAUSED, F.HPM_P_FC_STATUS_RX_PRI])) ∧
  (∀ (s : State) (p k : Nat) (b : List Nat) (sfd : Sfd) (tag : SecTag), p < 4 → s.portUp p = true → s.listen p = 1 → 64 ≤ b.length →
    b.length ≤ s.maxFrame p → be16 b 12 ≠ 0x8808 → s.wakeMatch p b = some k → s.simmer < 3 → Gives (.rxFrame p b false true sfd tag) s (fun t =>
      t.listen p = 2 ∧ t.fld F.HPM_EVENT_WAKE 0 = 1 ∧ t.fld F.HPM_P_WAKE_INFO_VALID p = 1 ∧ t.fld F.HPM_P_WAKE_INFO_LINK p = 0 ∧
      t.fld F.HPM_P_WAKE_INFO_PATTERN p = k ∧ Counted s t p 11 1 ∧ Counted s t p 40 1 ∧ t.str = s.str ∧ OnlyPort s t p ∧
      t = { s with regs := t.regs, hpm := t.hpm } ∧
      KeepsRegs s t [F.HPM_STATUS_LISTEN, F.HPM_EVENT_WAKE, F.HPM_EVENT_EVCNT_WAKE, F.HPM_P_WAKE_INFO_VALID, F.HPM_P_WAKE_INFO_LINK,
        F.HPM_P_WAKE_INFO_PATTERN])) ∧
  (∀ (s : State) (p i e : Nat), SMap.find (s.hport p).timers i = some e → e ≤ s.ltb.lc → Gives (.pauseTimerExpiry p i) s (fun t =>
      SMap.find (t.hport p).timers i = none ∧ (∀ j, j ≠ i → SMap.find (t.hport p).timers j = SMap.find (s.hport p).timers j) ∧ OnlyPort s t p ∧
      t = { s with regs := t.regs, hpm := t.hpm, tmg := t.tmg } ∧ KeepsAt s t p [F.HPM_P_FC_STATUS_PAUSED, F.HPM_P_FC_STATUS_RX_PRI])) ∧
  (∀ (s : State) (p i e : Nat), SMap.find (s.hport p).timers i = some e → s.ltb.lc < e → Gives (.pauseTimerExpiry p i) s (fun t => t = s)) ∧
  (∀ (s : State) (p : Nat), s.fcGenerates p = true → s.fcMode p = 1 → s.fld F.HPM_P_FC_STATUS_TX_XOFF p ≠ 0 → (s.hport p).ctrlLc + s.refreshLc p ≤ s.ltb.lc → Gives (.fcRefresh p) s (fun t =>
      (t.hport p).ctrl = [0x0001, 0, max 1 (s.fld F.HPM_P_FC_TX_TX_QUANTA p)] ∧ (t.hport p).ctrlLc = s.ltb.lc ∧ Counted s t p 14 1 ∧ OnlyPort s t p ∧ t = { s with hpm := t.hpm })) ∧
  (∀ (s : State) (p : Nat), s.fld F.HPM_P_FC_STATUS_TX_XOFF p = 0 ∨ s.ltb.lc < (s.hport p).ctrlLc + s.refreshLc p → Gives (.fcRefresh p) s (fun t => t = s))

/-- R73, R101, R337, R338, R353, R357, R358: a port's link and enable, its commands, and the inject rings. -/
def Obligations.HostPortLinksAndCommands : Prop :=
  (∀ (s : State) (p : Nat) (skew : List Nat), p < 4 → s.portState p = 3 → s.listen p ≠ 1 → skew.length = (s.lanesOf p).length → (∀ x ∈ skew, x ≤ 200) →
    s.ltb.lc ≤ (s.hostLane (s.firstLane p)).since + 12441600 → Gives (.alignDone p skew) s (fun t =>
      t.portUp p = true ∧ t.fld F.HPM_EVENT_PORT_UP 0 = 1 ∧
      (∀ l ∈ s.lanesOf p, t.fld F.HPM_SD_STATUS_AM_LOCK l = 1 ∧ t.fld F.HPM_SD_STATUS_CDR_LOCK l = 1) ∧ OnlyPort s t p ∧
      t = { s with regs := t.regs, hif := t.hif, hpm := t.hpm, lln := t.lln, tmg := t.tmg } ∧
      KeepsRegs s t (eventFlds ++ [F.HPM_SD_STATUS_STATE, F.HPM_SD_STATUS_SKEW, F.HPM_SD_STATUS_AM_LOCK, F.HPM_SD_STATUS_CDR_LOCK, F.HPM_EVENT_PORT_UP,
        F.HPM_EVENT_EVCNT_PORT_UP, F.HPM_P_FC_STATUS_TX_XOFF]))) ∧
  (∀ (s : State) (p lane : Nat) (x y : Bool), p < 4 → s.portState p = 4 → lane ∈ s.lanesOf p → (x && y) = false → s.listen p ≠ 1 → Gives (.linkDown p lane x y) s (fun t =>
      t.portState p = 3 ∧ t.fld F.HPM_SD_STATUS_CDR_LOCK lane = b2n x ∧ t.fld F.HPM_SD_STATUS_AM_LOCK lane = b2n y ∧
      (∀ l ∈ s.lanesOf p, t.fld F.HPM_SD_EVENT_LINK_DOWN l = 1) ∧ t.fld F.HPM_EVENT_PORT_DOWN 0 = 1 ∧ (t.hport p).timers = [] ∧
      t.fld F.HPM_P_FC_STATUS_PAUSED p = 0 ∧ Counted s t p 39 1 ∧ OnlyPort s t p ∧
      t = { s with regs := t.regs, hif := t.hif, hpm := t.hpm, lln := t.lln, tmg := t.tmg } ∧
      KeepsRegs s t (eventFlds ++ [F.HPM_SD_STATUS_STATE, F.HPM_SD_STATUS_AM_LOCK, F.HPM_SD_STATUS_CDR_LOCK, F.HPM_SD_EVENT_LINK_DOWN,
        F.HPM_SD_EVENT_EVCNT_LINK_DOWN, F.HPM_EVENT_PORT_DOWN, F.HPM_EVENT_EVCNT_PORT_DOWN, F.HPM_P_FC_STATUS_PAUSED, F.HPM_P_FC_STATUS_RX_PRI,
        F.HPM_P_FC_STATUS_TX_XOFF]))) ∧
  (∀ (s : State) (v : Word), s.hif.part = .lk9540 → s.fld F.HPM_CFG_PORT_EN 0 = 0 → bits v.toNat 9 8 = 2 →
    (∀ l < 8, s.fld F.HPM_SD_STATUS_STATE l = 0 ∧ bit (s.hostLane l).cfg 1 = true) → Gives (.portEn v) s (fun t =>
      t.fld F.HPM_CFG_MODE 0 = 2 ∧ t.fld F.HPM_CFG_PORT_EN 0 = bits v.toNat 3 0 ∧
      (∀ p < 4, t.portState p = if bit v.toNat p then 1 else 0) ∧ t = { s with regs := t.regs, lfg := t.lfg, lln := t.lln } ∧
      KeepsRegs s t (commitFlds ++ [F.HPM_CFG_MODE, F.HPM_CFG_PORT_EN, F.HPM_SD_STATUS_STATE]))) ∧
  (∀ (s : State) (v : Word), s.hif.part = .lk9540 → s.fld F.HPM_CFG_PORT_EN 0 = 0 → bits v.toNat 9 8 = 0 → 1 < bits v.toNat 3 0 → Gives (.portEn v) s
    (fun t => t = { s with regs := t.regs, lfg := t.lfg } ∧ KeepsRegs s t commitFlds)) ∧
  (∀ (s : State) (d : Desc) (fec : List Nat), d.opcode = 0x2801 → d.buf = true → 512 ≤ d.bufLen → s.hasPort (d.dw 5 % 4) = true → bit (d.dw 5) 8 = true →
    Gives (.portStats d fec) s (fun t => Ends d stOk 0 t ∧ (t.hport (d.dw 5 % 4)).counters = [] ∧ OnlyPort s t (d.dw 5 % 4) ∧
      (∃ ws, t.hif.hostWrites = s.hif.hostWrites ++ [⟨d.bufAddr, ws⟩] ∧ ws.length = 128 ∧ ws.take 2 = [s.stamp % 2 ^ 32, s.stamp / 2 ^ 32] ∧
        ws[16]? = some (SMap.get (s.hport (d.dw 5 % 4)).counters 0 0 % 2 ^ 32)) ∧
      t = { s with regs := t.regs, hif := { s.hif with flight := t.hif.flight, hostWrites := t.hif.hostWrites }, lfg := t.lfg, hpm := t.hpm } ∧
      KeepsRegs s t commitFlds)) ∧
  (∀ (s : State) (d : Desc) (w : WakePat) (p k : Nat), d.opcode = 0x2802 → bit (d.dw 5) 16 = true → d.buf = true → 64 ≤ d.bufLen → wakeRecord (bufBytes d 0 64) = some w → p = d.dw 5 % 4 →
    k = bits (d.dw 5) 10 8 → s.hasPort p = true → s.listen p = 0 → Gives (.wakePatternEnable d) s (fun t => Ends d stOk 0 t ∧
      SMap.find (t.hport p).patterns k = some w ∧ bit (t.fld F.HPM_P_WAKE_CFG_PATTERNS p) k = true ∧ OnlyPort s t p ∧
      t = { s with regs := t.regs, hif := { s.hif with flight := t.hif.flight }, lfg := t.lfg, hpm := t.hpm } ∧
      KeepsRegs s t (commitFlds ++ [F.HPM_P_WAKE_CFG_PATTERNS]))) ∧
  (∀ (s : State) (d : Desc) (p k : Nat), d.opcode = 0x2802 → bit (d.dw 5) 16 = false → p = d.dw 5 % 4 → k = bits (d.dw 5) 10 8 → s.hasPort p = true → s.listen p = 0 →
    Gives (.wakePatternDisable d) s (fun t => Ends d stOk 0 t ∧ bit (t.fld F.HPM_P_WAKE_CFG_PATTERNS p) k = false ∧
      (∀ j < 8, j ≠ k → bit (t.fld F.HPM_P_WAKE_CFG_PATTERNS p) j = bit (s.fld F.HPM_P_WAKE_CFG_PATTERNS p) j) ∧
      t = { s with regs := t.regs, hif := { s.hif with flight := t.hif.flight }, lfg := t.lfg } ∧
      KeepsRegs s t (commitFlds ++ [F.HPM_P_WAKE_CFG_PATTERNS]))) ∧
  (∀ (s : State) (d : Desc) (p : Nat), d.opcode = 0x2802 → bit (d.dw 5) 16 = false → p = d.dw 5 % 4 → s.hasPort p = true → s.listen p ≠ 0 →
    Gives (.wakePatternDisable d) s (EndsOnly d stStateRefused (refusedWord 0x59 p (s.listen p)) s)) ∧
  (∀ (s : State) (d : Desc), d.opcode = 0x0011 → d.buf = true → 64 ≤ d.bufLen → d.bufLen ≤ s.dsMax → bit (d.dw 5) 31 = false → Gives (.injectUpstream d) s (fun t =>
      InjEnds d stOk 0 t ∧ t.str = { s.str with inj := s.str.inj ++ [injFrm d 0 s.stamp] } ∧
      t = { s with hif := { s.hif with flight := t.hif.flight }, str := t.str })) ∧
  (∀ (s : State) (d : Desc), d.opcode = 0x0010 → d.buf = true → 64 ≤ d.bufLen → d.bufLen ≤ s.dsMax → bit (d.dw 5) 31 = false → Gives (.injectDownstream d) s (fun t =>
      InjEnds d stOk 0 t ∧ t.str = { s.str with inj := s.str.inj ++ [injFrm d 1 s.stamp] } ∧
      t = { s with hif := { s.hif with flight := t.hif.flight }, str := t.str })) ∧
  (∀ (s : State) (d : Desc), d.opcode = 0x0011 → d.bufLen < 64 → Gives (.injectUpstream d) s (fun t => InjEnds d stBadArg 4 t ∧
      t = { s with hif := { s.hif with flight := t.hif.flight } })) ∧
  (∀ (s : State) (d : Desc), d.opcode = 0x0010 → d.bufLen < 64 → Gives (.injectDownstream d) s (fun t => InjEnds d stBadArg 4 t ∧
      t = { s with hif := { s.hif with flight := t.hif.flight } })) ∧
  (∀ (s : State) (d : Desc), d.opcode = 0x0010 → d.buf = true → 64 ≤ d.bufLen → d.bufLen ≤ s.dsMax → bit (d.dw 5) 31 = true → bits (d.dw 5) 14 0 < 8192 →
    (s.queue (qKey 1 (bits (d.dw 5) 14 0))).st = 0 → Gives (.injectDownstream d) s (fun t => InjEnds d stStateRefused (refusedWord 0x48 1 0) t ∧
      t = { s with hif := { s.hif with flight := t.hif.flight } }))

/-- R368, R371, R372, R374, R375, R379 to R382: the SA commands and the Port-ID key table. -/
def Obligations.SecureAssociations : Prop :=
  (∀ (s : State) (d : Desc) (n slot pn : Nat), d.opcode = 0x2C01 → bit (d.dw 5) 31 = true → n = bits (d.dw 5) 8 0 → slot = bits (d.dw 6) 11 0 → pn = d.dw 10 * 2 ^ 32 + d.dw 9 →
    s.hif.part = .lk9540 → 0x080 ≤ slot → (s.slot slot).st ≠ 0 → (s.slot slot).long = suiteLong (bits (d.dw 5) 27 26) → bits (d.dw 6) 23 16 = 0 →
    bits (d.dw 5) 30 30 = 1 → (s.sa n).st = 0 → (s.slot slot).floor ≤ pn → pn ≤ lastPn (bits (d.dw 5) 27 26) → Gives (.saEnable d .ok) s (fun t =>
      Ends d stOk 1 t ∧ (t.sa n).st = 1 ∧ (t.sa n).dir = 1 ∧ (t.sa n).pn = pn ∧ (t.sa n).slot = slot ∧ (t.sa n).port = bits (d.dw 5) 21 20 ∧
      (t.sa n).suite = bits (d.dw 5) 27 26 ∧ (t.sa n).sci = d.dw 8 * 2 ^ 32 + d.dw 7 ∧ (t.sa n).frames = 0 ∧ (∀ m, m ≠ n → t.sa m = s.sa m) ∧
      (t.slot slot).st = 2 ∧ (t.slot slot).key = (s.slot slot).key ∧ pn < (t.slot slot).floor ∧ (∀ m, m ≠ slot → t.slot m = s.slot m) ∧
      t = { s with regs := t.regs, hif := { s.hif with flight := t.hif.flight }, lfg := t.lfg, cdy := t.cdy, cph := { s.cph with sas := t.cph.sas } } ∧
      KeepsRegs s t commitFlds)) ∧
  (∀ (s : State) (d : Desc) (f : KeyFetch), d.opcode = 0x2C01 → bit (d.dw 5) 31 = true → s.hif.part = .lk9540 → bits (d.dw 6) 11 0 < 0x080 → Gives (.saEnable d f) s (EndsOnly d stBadArg 6 s)) ∧
  (∀ (s : State) (d : Desc) (n slot pn : Nat) (f : KeyFetch), d.opcode = 0x2C01 → bit (d.dw 5) 31 = true → n = bits (d.dw 5) 8 0 → slot = bits (d.dw 6) 11 0 → pn = d.dw 10 * 2 ^ 32 + d.dw 9 →
    s.hif.part = .lk9540 → 0x080 ≤ slot → (s.slot slot).st ≠ 0 → (s.slot slot).long = suiteLong (bits (d.dw 5) 27 26) → bits (d.dw 6) 23 16 = 0 →
    bits (d.dw 5) 30 30 = 1 → (s.sa n).st = 0 → pn < (s.slot slot).floor → Gives (.saEnable d f) s (EndsOnly d stStateRefused (refusedWord 0x63 0 0) s)) ∧
  (∀ (s : State) (d : Desc) (n : Nat), d.opcode = 0x2C01 → bit (d.dw 5) 31 = false → n = bits (d.dw 5) 8 0 → (s.sa n).st = 1 → (∀ p ∈ s.cph.sas, p.1 ≠ n → p.2.slot ≠ (s.sa n).slot) →
    Gives (.saDisable d) s (fun t => Ends d stOk 0 t ∧ t.sa n = saOff ∧ (∀ m, m ≠ n → t.sa m = s.sa m) ∧
      ((s.slot (s.sa n).slot).st = 2 → (t.slot (s.sa n).slot).st = 1) ∧ (∀ m, m ≠ (s.sa n).slot → t.slot m = s.slot m) ∧
      t = { s with regs := t.regs, hif := { s.hif with flight := t.hif.flight }, lfg := t.lfg, cdy := t.cdy, cph := { s.cph with sas := t.cph.sas } } ∧
      KeepsRegs s t commitFlds)) ∧
  (∀ (s : State) (d : Desc) (n : Nat), d.opcode = 0x2C01 → bit (d.dw 5) 31 = false → n = bits (d.dw 5) 8 0 → (s.sa n).st = 2 →
    Gives (.saDisable d) s (EndsOnly d stStateRefused (refusedWord 0x61 0 (numState n 2)) s)) ∧
  (∀ (s : State) (d : Desc), d.opcode = 0x2C02 → d.buf = true → 0 < bits (d.dw 6) 9 0 → bits (d.dw 6) 9 0 * 64 ≤ d.bufLen → bits (d.dw 5) 8 0 + bits (d.dw 6) 9 0 ≤ 512 →
    Gives (.saRead d) s (EndsWriting d (bits (d.dw 6) 9 0)
      ((List.range (bits (d.dw 6) 9 0)).map (fun i => (s.sa (bits (d.dw 5) 8 0 + i)).words)).flatten s)) ∧
  (∀ (s : State) (d : Desc) (n p : Nat), d.opcode = 0x2C03 → n = bits (d.dw 5) 8 0 → p = bits (d.dw 5) 21 20 → s.noPort p = false → (s.sa n).st = 1 → (s.sa n).dir = 1 → (s.sa n).port = p →
    s.fld F.CPH_P_TXSA_VALID p = 0 → Gives (.txSaSelect d) s (fun t => Ends d stOk 0xFFFFFFFF t ∧ t.sa n = { s.sa n with st := 2 } ∧
      (∀ m, m ≠ n → t.sa m = s.sa m) ∧ t.fld F.CPH_P_TXSA_VALID p = 1 ∧ t.fld F.CPH_P_TXSA_SA p = n ∧
      t = { s with regs := t.regs, hif := { s.hif with flight := t.hif.flight }, lfg := t.lfg, cph := { s.cph with sas := t.cph.sas } } ∧
      KeepsRegs s t (commitFlds ++ [F.CPH_P_TXSA_VALID, F.CPH_P_TXSA_SA]))) ∧
  (∀ (s : State) (d : Desc) (n p o : Nat), d.opcode = 0x2C03 → n = bits (d.dw 5) 8 0 → p = bits (d.dw 5) 21 20 → s.noPort p = false → (s.sa n).st = 1 → (s.sa n).dir = 1 → (s.sa n).port = p →
    s.fld F.CPH_P_TXSA_VALID p = 1 → s.fld F.CPH_P_TXSA_SA p = o → (s.sa o).st = 2 → Gives (.txSaSelect d) s (fun t => Ends d stOk o t ∧
      t.sa n = { s.sa n with st := 2 } ∧ t.sa o = { s.sa o with st := 1 } ∧ t.fld F.CPH_P_TXSA_SA p = n ∧
      t = { s with regs := t.regs, hif := { s.hif with flight := t.hif.flight }, lfg := t.lfg, cph := { s.cph with sas := t.cph.sas } })) ∧
  (∀ (s : State) (d : Desc) (n : Nat), d.opcode = 0x2C03 → n = bits (d.dw 5) 8 0 → s.noPort (bits (d.dw 5) 21 20) = false →
    (s.sa n).st ≠ 1 → Gives (.txSaSelect d) s (EndsOnly d stStateRefused (refusedWord 0x61 0 (numState n (s.sa n).st)) s)) ∧
  (∀ (s : State) (d : Desc), d.opcode = 0x2C03 → s.noPort (bits (d.dw 5) 21 20) = true → Gives (.txSaSelect d) s (EndsOnly d stBadArg 5 s)) ∧
  (∀ (s : State) (d : Desc), d.opcode = 0x2C04 → 0 < bits (d.dw 6) 14 0 → bits (d.dw 5) 13 0 + bits (d.dw 6) 14 0 ≤ 16384 → Gives (.portKeySet d) s (fun t =>
      Ends d stOk (bits (d.dw 6) 14 0) t ∧
      (∀ e, t.portKey e = if bits (d.dw 5) 13 0 ≤ e ∧ e < bits (d.dw 5) 13 0 + bits (d.dw 6) 14 0 then d.dw 7 % 8 else s.portKey e) ∧
      t = { s with regs := t.regs, hif := { s.hif with flight := t.hif.flight }, lfg := t.lfg, cph := { s.cph with ports := t.cph.ports } } ∧
      KeepsRegs s t commitFlds)) ∧
  (∀ (s : State) (d : Desc), d.opcode = 0x2C04 → (bits (d.dw 6) 14 0 = 0 ∨ 16384 < bits (d.dw 5) 13 0 + bits (d.dw 6) 14 0) →
    Gives (.portKeySet d) s (EndsOnly d stBadArg 6 s))

/-- R362 to R366, R369, R370, R378, R381: keys are imported, erased and queried, and the head end's key exchange runs. A drawn key is a free value. -/
def Obligations.Keys : Prop :=
  (∀ (s : State) (d : Desc) (t0 w k sl : Nat), d.opcode = 0x4401 → t0 = bits (d.dw 5) 11 0 → w = bits (d.dw 6) 11 0 → w ≠ 0xFFF → 0x041 ≤ t0 → d.buf = true →
    wrappedLen t0 (bit (d.dw 7) 0) (bit (d.dw 7) 1) ≤ d.bufLen → wrapMatches t0 w = true → (s.slot t0).st = 0 → (s.slot w).st ≠ 0 →
    Gives (.keyImport d (some (k, sl))) s (fun t => Ends d stOk 0 t ∧ (t.slot t0).st = 1 ∧
      (t.slot t0).key = k % 2 ^ (if bit (d.dw 7) 0 then 256 else 128) ∧ (t.slot t0).floor = 0 ∧ (∀ m, m ≠ t0 → t.slot m = s.slot m) ∧
      t = { s with regs := t.regs, hif := { s.hif with flight := t.hif.flight }, lfg := t.lfg, cdy := t.cdy } ∧ KeepsRegs s t commitFlds)) ∧
  (∀ (s : State) (d : Desc) (t0 w : Nat), d.opcode = 0x4401 → t0 = bits (d.dw 5) 11 0 → w = bits (d.dw 6) 11 0 → w ≠ 0xFFF → 0x041 ≤ t0 → d.buf = true →
    wrappedLen t0 (bit (d.dw 7) 0) (bit (d.dw 7) 1) ≤ d.bufLen → wrapMatches t0 w = true → (s.slot t0).st = 0 → (s.slot w).st ≠ 0 →
    Gives (.keyImport d none) s (fun t => Ends d stBadArg 2 t ∧ t.fld F.CDY_EVENT_UNWRAP_FAIL 0 = 1 ∧
      t = { s with regs := t.regs, hif := { s.hif with flight := t.hif.flight }, lfg := t.lfg } ∧
      KeepsRegs s t (commitFlds ++ [F.CDY_EVENT_UNWRAP_FAIL, F.CDY_EVENT_EVCNT_UNWRAP_FAIL]))) ∧
  (∀ (s : State) (d : Desc) (x : Option (Nat × Nat)), bits (d.dw 6) 11 0 = 0xFFF ∨ bits (d.dw 5) 11 0 < 0x041 →
    Gives (.keyImport d x) s (EndsOnly d stKeyProtected 0 s)) ∧
  (∀ (s : State) (d : Desc) (n : Nat), d.opcode = 0x4402 → bit (d.dw 5) 31 = false → n = bits (d.dw 5) 11 0 → 0x041 ≤ n → (s.slot n).st = 1 → Gives (.keyErase d) s (fun t =>
      Ends d stOk 1 t ∧ t.slot n = slotEmpty ∧ (∀ m, m ≠ n → t.slot m = s.slot m) ∧
      t = { s with regs := t.regs, hif := { s.hif with flight := t.hif.flight }, lfg := t.lfg, cdy := t.cdy } ∧ KeepsRegs s t commitFlds)) ∧
  (∀ (s : State) (d : Desc) (n : Nat), d.opcode = 0x4402 → bit (d.dw 5) 31 = false → n = bits (d.dw 5) 11 0 → 0x041 ≤ n → (s.slot n).st = 2 →
    Gives (.keyErase d) s (EndsOnly d stStateRefused (refusedWord 0x60 0 (numState n 2)) s)) ∧
  (∀ (s : State) (d : Desc), d.opcode = 0x4402 → bit (d.dw 5) 31 = false → bits (d.dw 5) 11 0 < 0x041 → Gives (.keyErase d) s (EndsOnly d stKeyProtected 0 s)) ∧
  (∀ (s : State) (d : Desc), d.opcode = 0x4402 → bit (d.dw 5) 31 = true → (∀ p ∈ s.cdy, 0x041 ≤ p.1 → p.2.st ≠ 2) → Gives (.keyErase d) s (fun t =>
      Ends d stOk (s.cdy.filter (fun p => decide (0x041 ≤ p.1) && p.2.st != 0)).length t ∧
      (∀ n, 0x041 ≤ n → (t.slot n).st = 0) ∧ (∀ n, n < 0x041 → t.slot n = s.slot n) ∧
      t = { s with regs := t.regs, hif := { s.hif with flight := t.hif.flight }, lfg := t.lfg, cdy := t.cdy } ∧ KeepsRegs s t commitFlds)) ∧
  (∀ (s : State) (d : Desc), d.opcode = 0x4403 → d.buf = true → 0 < bits (d.dw 6) 12 0 → bits (d.dw 6) 12 0 * 16 ≤ d.bufLen → bits (d.dw 5) 11 0 + bits (d.dw 6) 12 0 ≤ 4096 →
    Gives (.keyQuery d) s (EndsWriting d (bits (d.dw 6) 12 0)
      ((List.range (bits (d.dw 6) 12 0)).map (fun i => s.slotWords (bits (d.dw 5) 11 0 + i))).flatten s)) ∧
  (∀ (s : State) (c i frame : Nat) (long : Bool) (m : Ploam), PloamHeard s c m → s.hasChannel c = true → (i = 1 ∨ i = 2) → (s.slot (kekSlot c)).st ≠ 0 →
    frame + s.keyLife < 2 ^ 51 → s.dom 11 0 = 2 → Gives (.keyRequest c i frame long .ok m) s (fun t =>
      t.slot (ponSlot c i) = ⟨2, Config.free s.freeCount % 2 ^ (if long then 256 else 128), long, none, 0⟩ ∧
      t.ponKey (ponSlot c i) = ⟨s.keyLife, none, none, false, false⟩ ∧
      (t.ubeCh c).ploams = (s.ubeCh c).ploams ++ [.keyReport i (Config.keyCheck (t.slot (ponSlot c i)).key (if long then 256 else 128))] ∧
      (∀ n, n ≠ ponSlot c i → t.slot n = s.slot n) ∧ t.cph.named = SMap.insert s.cph.named c (i, frame) ∧
      t = { s with regs := t.regs, freeCount := s.freeCount + 1, ube := t.ube, cdy := t.cdy, cph := { s.cph with pon := t.cph.pon, named := t.cph.named } } ∧
      KeepsAt s t c [F.CPH_PON_CH_KEY_HELD, F.CPH_PON_CH_KEY_SPENT])) ∧
  (∀ (s : State) (c i frame : Nat) (long : Bool) (f : KeyFetch) (m : Ploam), PloamHeard s c m → s.hasChannel c = true → (i = 1 ∨ i = 2) →
    ((s.slot (kekSlot c)).st = 0 ∨ 2 ^ 51 ≤ frame + s.keyLife) → Gives (.keyRequest c i frame long f m) s (fun t =>
      (t.ubeCh c).ploams = (s.ubeCh c).ploams ++ [.nack] ∧ t.fld F.CPH_EVENT_PON_KEY 0 = 1 ∧
      t = { s with regs := t.regs, hif := t.hif, ube := t.ube } ∧
      KeepsRegs s t (eventFlds ++ [F.CPH_EVENT_PON_KEY, F.CPH_EVENT_EVCNT_PON_KEY]))) ∧
  (∀ (s : State) (c i k : Nat) (long : Bool), s.hasChannel c = true → (i = 1 ∨ i = 2) → (s.slot (kekSlot c)).st ≠ 0 → s.dom 11 0 = 2 →
    Gives (.groupKeyMessage c i (some (k, long)) .ok) s (fun t =>
      t.slot (groupSlot c i) = ⟨2, k % 2 ^ (if long then 256 else 128), long, none, 0⟩ ∧ (∀ m, m ≠ groupSlot c i → t.slot m = s.slot m) ∧
      t = { s with cdy := t.cdy, cph := { s.cph with pon := t.cph.pon } })) ∧
  (∀ (s : State) (c i : Nat) (f : KeyFetch), Gives (.groupKeyMessage c i none f) s (fun t => t = s)) ∧
  (∀ (s : State) (c i frame : Nat), SMap.find s.cph.named c = some (i, frame) → (i = 1 ∨ i = 2) → stampLe (stampOf (frame % 2 ^ 46) 0) s.stamp = true →
    Gives (.upIndexSwitch c) s (fun t => t.fld F.CPH_PON_CH_KEY_UP_INDEX c = i ∧ t.fld F.CPH_EVENT_PON_KEY 0 = 1 ∧
      t = { s with regs := t.regs, hif := t.hif, cph := { s.cph with named := SMap.erase s.cph.named c } } ∧
      KeepsRegs s t (eventFlds ++ [F.CPH_PON_CH_KEY_UP_INDEX, F.CPH_PON_CH_KEY_HELD, F.CPH_PON_CH_KEY_SPENT, F.CPH_EVENT_PON_KEY,
        F.CPH_EVENT_EVCNT_PON_KEY]))) ∧
  (∀ (s : State) (c : Nat), SMap.find s.cph.named c = none → Gives (.upIndexSwitch c) s (fun t => t = s)) ∧
  (∀ (s : State) (c i frame : Nat), SMap.find s.cph.named c = some (i, frame) → stampLe (stampOf (frame % 2 ^ 46) 0) s.stamp = false →
    Gives (.upIndexSwitch c) s (fun t => t = s))

/-- R209 to R215, R218, R221, R224 to R226, R231, R232: a Strainer slot is filled, its frame classified and handed on, and a frame's length check completes. -/
def Obligations.StrainerPasses : Prop :=
  (∀ (s : State) (bytes memErr : List Nat), s.dsf.out = [] → s.str.up = [] → s.str.inj = [] → s.nextRq = none →
    Gives (.strainerPass bytes memErr) s (fun t => t = { s with str := { s.str with slots := (false :: s.str.slots).take 16 } })) ∧
  (∀ (s : State) (bytes : List Nat) (f : Machine.Frm) (rest : List Machine.Frm) (grp p key i : Nat) (r : Rule),
    s.dsf.out = [] → s.str.up = f :: rest → s.str.inj = [] → s.nextRq = none → f.dir = 0 → f.last = false →
    grp = SMap.get (s.bank s.gen).ingressUp f.src 0 → p = ((s.bank s.gen).sel grp).pick f →
    key = ({ f with id := s.str.nextId, gen := s.gen, group := grp, pass := 0 } : Machine.Frm).keyOf 0 ((s.bank s.gen).prof p).points →
    (s.bank s.gen).search p key = some (i, r) → (decisionOf r.action).disp = 0 → (decisionOf r.action).tblEn = false →
    (decisionOf r.action).queue ≠ none → Gives (.strainerPass bytes []) s (fun t =>
      (∃ g ∈ t.str.flight, g.id = s.str.nextId ∧ g.place = 3 ∧ g.rule = i ∧ g.prof = p ∧ g.key = key ∧ g.tag = p ∧ g.dec = decisionOf r.action ∧
        g.gen = s.gen ∧ g.group = grp ∧ g.len = f.len) ∧
      ((t.bank s.gen).rule i).hits = (r.hits + 1) % 2 ^ 64 ∧ t.bank (s.gen + 1) = s.bank (s.gen + 1) ∧
      t.fld F.STR_PKTS_US_COUNT 0 = min (s.fld F.STR_PKTS_US_COUNT 0 + 1) 0xFFFFFFFF ∧
      t = { s with regs := t.regs,
                   str := { s.str with bank0 := t.str.bank0, bank1 := t.str.bank1, up := rest, flight := t.str.flight,
                                       nextId := s.str.nextId + 1, slots := (false :: s.str.slots).take 16, rrSrc := 2 } } ∧ KeepsRegs s t [F.STR_PKTS_US_COUNT])) ∧
  (∀ (s : State) (bytes : List Nat) (f : Machine.Frm) (rest : List Machine.Frm) (grp p : Nat),
    s.dsf.out = [] → s.str.up = f :: rest → s.str.inj = [] → s.nextRq = none → f.dir = 0 → f.last = false → p < 64 →
    (∀ g ∈ s.str.flight, g.id ≠ s.str.nextId) →
    grp = SMap.get (s.bank s.gen).ingressUp f.src 0 → p = ((s.bank s.gen).sel grp).pick f →
    (s.bank s.gen).search p (({ f with id := s.str.nextId, gen := s.gen, group := grp, pass := 0 } : Machine.Frm).keyOf 0
      ((s.bank s.gen).prof p).points) = none → (decisionOf ((s.bank s.gen).prof p).dflt).disp = 1 → Gives (.strainerPass bytes []) s (fun t =>
      t.fld F.STR_PDROP_FRAMES p = min (s.fld F.STR_PDROP_FRAMES p + 1) 0xFFFFFFFF ∧
      t.fld F.STR_PKTS_US_COUNT 0 = min (s.fld F.STR_PKTS_US_COUNT 0 + 1) 0xFFFFFFFF ∧
      t = { s with regs := t.regs, str := { s.str with up := rest, nextId := s.str.nextId + 1, slots := (false :: s.str.slots).take 16, rrSrc := 2 } } ∧
      KeepsRegs s t [F.STR_PKTS_US_COUNT, F.STR_PDROP_FRAMES])) ∧
  (∀ (s : State) (bytes : List Nat) (f : Machine.Frm) (rest : List Machine.Frm) (p strip : Nat) (d0 : Decision),
    s.dsf.out = [] → s.str.up = [] → s.str.inj = [] → s.str.flight = f :: rest → f.place = 1 → f.rq = s.str.rrRq → s.str.rrRq < 16 → f.last = false →
    (∀ g ∈ rest, g.id ≠ f.id) → (SMap.get (s.bank f.gen).resteep f.rq (false, 0, 0)).2 = (strip, p) →
    ((s.bank f.gen).search (({ f with pass := 1, place := 0 } : Machine.Frm).tagOf p) (({ f with pass := 1, place := 0 } : Machine.Frm).keyOf strip
      ((s.bank f.gen).prof p).points)) = none → d0 = decisionOf ((s.bank f.gen).prof p).dflt → d0.disp = 0 → d0.tblEn = true →
    Gives (.strainerPass bytes []) s (fun t =>
      (∃ g, t.str.flight = rest ++ [g] ∧ g.id = f.id ∧ g.place = 2 ∧ g.pass = 1 ∧ g.rule = 0xFFFF ∧ g.dec = d0 ∧ g.gen = f.gen) ∧
      t.fld F.STR_PASS2_COUNT 0 = min (s.fld F.STR_PASS2_COUNT 0 + 1) 0xFFFFFFFF ∧
      t = { s with regs := t.regs, hif := t.hif, dsf := { s.dsf with limits := t.dsf.limits }, tmg := { s.tmg with low := t.tmg.low },
                   str := { s.str with flight := t.str.flight,
                                       slots := (true :: s.str.slots).take 16, rrRq := (s.str.rrRq + 1) % 16 } } ∧
      KeepsRegs s t (eventFlds ++ [F.STR_PASS2_COUNT, F.TMG_POOL_USE_IN_USE, F.TMG_EVENT_POOL_LOW, F.TMG_EVENT_EVCNT_POOL_LOW]))) ∧
  (∀ (s : State) (id : Nat), (∀ f ∈ s.str.flight, f.id = id → f.last = true) → Gives (.lengthCheck id) s (fun t => t = s)) ∧
  (∀ (s : State) (f : Machine.Frm), s.str.flight = [f] → f.last = false → f.conflict = none → f.place ≠ 4 →
    Gives (.lengthCheck f.id) s (fun t => t = { s with str := { s.str with flight := [{ f with last := true, checks := [], ready := s.ltb.lc }] } })) ∧
  (∀ (s : State) (f : Machine.Frm), s.str.flight = [f] → f.last = false → f.conflict = some 0 → f.place ≠ 1 → Gives (.lengthCheck f.id) s (fun t =>
      t.fld F.STR_EVENT_LEN_CONFLICT 0 = 1 ∧ t.fld F.STR_LEN_LEN_DROP 0 = min (s.fld F.STR_LEN_LEN_DROP 0 + 1) 0xFFFF ∧
      t = { s with regs := t.regs, str := { s.str with flight := [] } } ∧
      KeepsRegs s t [F.STR_EVENT_LEN_CONFLICT, F.STR_EVENT_EVCNT_LEN_CONFLICT, F.STR_LEN_LEN_DROP])) ∧
  (∀ (s : State) (f : Machine.Frm) (k : Nat), s.str.flight = [f] → f.last = false → f.conflict = some (k + 1) → f.place ≠ 4 →
    Gives (.lengthCheck f.id) s (fun t =>
      t.fld F.STR_EVENT_LEN_CONFLICT 0 = 1 ∧ t.fld F.STR_LEN_LEN_PASS 0 = min (s.fld F.STR_LEN_LEN_PASS 0 + 1) 0xFFFF ∧
      t = { s with regs := t.regs, str := { s.str with flight := [{ f with last := true, checks := [], policy := 2, ready := s.ltb.lc }] } } ∧
      KeepsRegs s t [F.STR_EVENT_LEN_CONFLICT, F.STR_EVENT_EVCNT_LEN_CONFLICT, F.STR_LEN_LEN_PASS]))

/-- R211, R216, R222 to R224, R227, R229, R235 to R237: the STR commands write a standby bank, read either, swap the banks and drain the old one. -/
def Obligations.StrainerBanks : Prop :=
  (∀ (s : State) (d : Desc) (b first n : Nat), d.opcode = 0x1801 → b = d.dw 5 % 2 → first = bits (d.dw 6) 13 0 → n = bits (d.dw 7) 14 0 → d.buf = true →
    n * 160 ≤ d.bufLen → 0 < n → first + n ≤ 16384 → firstBad d n 160 badRule = none → s.bankSt b = 0 → Gives (.ruleWrite d) s (fun t =>
      BankWritten d n b s t ∧ (∀ i < n, (t.bank b).rule (first + i) = ruleOf (bufBytes d (i * 160) 160)) ∧
      (∀ k, k < first ∨ first + n ≤ k → (t.bank b).rule k = (s.bank b).rule k) ∧ t.bank b = { s.bank b with rules := (t.bank b).rules })) ∧
  (∀ (s : State) (d : Desc) (n i k : Nat), d.opcode = 0x1801 → n = bits (d.dw 7) 14 0 → d.buf = true → n * 160 ≤ d.bufLen → 0 < n → bits (d.dw 6) 13 0 + n ≤ 16384 →
    firstBad d n 160 badRule = some (i, k) → Gives (.ruleWrite d) s (fun t => Ends d stBadArg 2 t ∧
      t.fld F.STR_BAD_RECORD_RECORD 0 = i ∧ t.fld F.STR_BAD_RECORD_BYTE 0 = k % 2 ^ 16 ∧
      t = { s with regs := t.regs, hif := { s.hif with flight := t.hif.flight }, lfg := t.lfg } ∧
      KeepsRegs s t (commitFlds ++ [F.STR_BAD_RECORD_RECORD, F.STR_BAD_RECORD_BYTE]))) ∧
  (∀ (s : State) (d : Desc) (b first n : Nat), d.opcode = 0x1802 → b = d.dw 5 % 2 → first = bits (d.dw 6) 13 0 → n = bits (d.dw 7) 14 0 → d.buf = true →
    n * 160 ≤ d.bufLen → 0 < n → first + n ≤ 16384 → Gives (.ruleRead d []) s (EndsWriting d n
      (packWords ((List.range n).map (fun i => ((s.bank b).rule (first + i)).record)).flatten) s)) ∧
  (∀ (s : State) (d : Desc) (b first n i : Nat), d.opcode = 0x1802 → b = d.dw 5 % 2 → first = bits (d.dw 6) 13 0 → n = bits (d.dw 7) 14 0 → d.buf = true →
    n * 160 ≤ d.bufLen → 0 < n → first + n ≤ 16384 → first ≤ i → i < first + n → Gives (.ruleRead d [i]) s (fun t => Ends d stOk n t ∧
      ((t.bank b).rule i).valid = false ∧ (∀ k, k ≠ i → (t.bank b).rule k = (s.bank b).rule k) ∧ t.bank (b + 1) = s.bank (b + 1) ∧
      t.fld F.STR_EVENT_RULE_MEM 0 = 1 ∧
      t = { s with regs := t.regs, hif := t.hif, lfg := t.lfg, str := { s.str with bank0 := t.str.bank0, bank1 := t.str.bank1 } } ∧
      KeepsRegs s t (eventFlds ++ [F.STR_EVENT_RULE_MEM, F.STR_EVENT_EVCNT_RULE_MEM]))) ∧
  (∀ (s : State) (d : Desc) (a : Nat), d.opcode = 0x1803 → a = s.gen % 2 → s.bankSt (1 - a) = 0 → Gives (.ruleCopy d []) s (fun t =>
      BankWritten d (1 - a) (1 - a) s t ∧ (∀ k, (t.bank (1 - a)).rule k = { (s.bank a).rule k with hits := 0 }) ∧
      t.bank (1 - a) = { s.bank a with rules := (t.bank (1 - a)).rules })) ∧
  (∀ (s : State) (d : Desc), d.opcode = 0x1804 → s.bankSt (1 - s.gen % 2) = 0 → (∀ f ∈ s.str.flight, f.place = 1 → f.gen = (s.gen + 1) % 256) →
    Gives (.ruleSwap d) s (fun t => Ends d stOk ((s.gen + 1) % 256) t ∧ t.gen = (s.gen + 1) % 256 ∧ t.bankSt (1 - s.gen % 2) = 1 ∧
      t.bankSt (s.gen % 2) = 0 ∧ t = { s with regs := t.regs, hif := { s.hif with flight := t.hif.flight }, lfg := t.lfg } ∧
      KeepsRegs s t (commitFlds ++ [F.STR_STATUS_GEN, F.STR_STATUS_BANK0, F.STR_STATUS_BANK1]))) ∧
  (∀ (s : State) (d : Desc) (f : Machine.Frm), d.opcode = 0x1804 → s.bankSt (1 - s.gen % 2) = 0 → f ∈ s.str.flight → f.place = 1 → f.gen ≠ (s.gen + 1) % 256 →
    Gives (.ruleSwap d) s (fun t => t.gen = (s.gen + 1) % 256 ∧ t.bankSt (1 - s.gen % 2) = 1 ∧ t.bankSt (s.gen % 2) = 2 ∧
      t = { s with regs := t.regs, str := { s.str with swap := some d, swapLc := s.ltb.lc } } ∧
      KeepsRegs s t [F.STR_STATUS_GEN, F.STR_STATUS_BANK0, F.STR_STATUS_BANK1])) ∧
  (∀ (s : State) (d : Desc), s.str.swap = some d → s.unfinished = 0 → Gives .drainEnd s (fun t =>
      Ends d stOk (min (s.ltb.lc - s.str.swapLc) 0xFFFFFF * 256 + s.gen) t ∧ t.bankSt (1 - s.gen % 2) = 0 ∧
      t = { s with regs := t.regs, hif := { s.hif with flight := t.hif.flight }, lfg := t.lfg, str := { s.str with swap := none } } ∧
      KeepsRegs s t (commitFlds ++ [F.STR_STATUS_BANK0, F.STR_STATUS_BANK1]))) ∧
  (∀ (s : State), s.str.swap = none ∨ s.unfinished ≠ 0 → Gives .drainEnd s (fun t => t = s)) ∧
  (∀ (s : State) (d : Desc) (b : Nat), d.opcode = 0x1805 → b = d.dw 5 % 2 → d.buf = true → 64 ≤ d.bufLen → badProf (bufBytes d 0 64) = none → s.bankSt b = 0 →
    Gives (.profileSet d) s (fun t => BankWritten d 0 b s t ∧ (t.bank b).prof (d.dw 6 % 64) = profOf (bufBytes d 0 64) ∧
      (∀ k, k ≠ d.dw 6 % 64 → (t.bank b).prof k = (s.bank b).prof k) ∧ t.bank b = { s.bank b with profs := (t.bank b).profs })) ∧
  (∀ (s : State) (d : Desc) (b : Nat), d.opcode = 0x1806 → b = d.dw 5 % 2 → d.buf = true → 64 ≤ d.bufLen → badSel (bufBytes d 0 64) = none → s.bankSt b = 0 →
    Gives (.selectorSet d) s (fun t => BankWritten d 0 b s t ∧ (t.bank b).sel (d.dw 6 % 32) = selOf (bufBytes d 0 64) ∧
      (∀ k, k ≠ d.dw 6 % 32 → (t.bank b).sel k = (s.bank b).sel k) ∧ t.bank b = { s.bank b with sels := (t.bank b).sels })) ∧
  (∀ (s : State) (d : Desc) (b first n : Nat), d.opcode = 0x1807 → b = d.dw 5 % 2 → bit (d.dw 5) 8 = false → first = bits (d.dw 6) 14 0 → n = bits (d.dw 7) 14 0 →
    0 < n → first + n ≤ 5 → s.bankSt b = 0 → Gives (.ingressMap d) s (fun t => BankWritten d n b s t ∧
      (∀ k, SMap.get (t.bank b).ingressUp k 0 = if first ≤ k ∧ k < first + n then d.dw 8 % 32 else SMap.get (s.bank b).ingressUp k 0) ∧
      t.bank b = { s.bank b with ingressUp := (t.bank b).ingressUp })) ∧
  (∀ (s : State) (d : Desc) (b first n : Nat), d.opcode = 0x1807 → b = d.dw 5 % 2 → bit (d.dw 5) 8 = true → first = bits (d.dw 6) 14 0 → n = bits (d.dw 7) 14 0 →
    0 < n → first + n ≤ 16385 → s.bankSt b = 0 → Gives (.ingressMap d) s (fun t => BankWritten d n b s t ∧
      (∀ k, SMap.get (t.bank b).ingressDown k 0 = if first ≤ k ∧ k < first + n then d.dw 8 % 32 else SMap.get (s.bank b).ingressDown k 0) ∧
      t.bank b = { s.bank b with ingressDown := (t.bank b).ingressDown })) ∧
  (∀ (s : State) (d : Desc) (b : Nat), d.opcode = 0x1808 → b = d.dw 5 % 2 → (bit (d.dw 6) 8 = true → d.dw 7 % 256 ≠ 0) → s.bankSt b = 0 →
    Gives (.resteepSet d) s (fun t => BankWritten d 0 b s t ∧
      SMap.get (t.bank b).resteep (d.dw 6 % 16) (false, 0, 0) = (bit (d.dw 6) 8, d.dw 7 % 256, bits (d.dw 7) 13 8) ∧
      (∀ k, k ≠ d.dw 6 % 16 → SMap.get (t.bank b).resteep k (false, 0, 0) = SMap.get (s.bank b).resteep k (false, 0, 0)) ∧
      t.bank b = { s.bank b with resteep := (t.bank b).resteep })) ∧
  (∀ (s : State) (d : Desc), d.opcode = 0x1808 → bit (d.dw 6) 8 = true → d.dw 7 % 256 = 0 → Gives (.resteepSet d) s (EndsOnly d stBadArg 7 s)) ∧
  (∀ (s : State) (d : Desc) (b : Nat), d.opcode = 0x1805 → b = d.dw 5 % 2 → s.bankSt b ≠ 0 → d.buf = true → 64 ≤ d.bufLen → badProf (bufBytes d 0 64) = none →
    Gives (.profileSet d) s (EndsOnly d stStateRefused (refusedWord 0x30 b (if s.bankSt 0 = 2 ∨ s.bankSt 1 = 2 then 2 else s.bankSt b)) s)) ∧
  (∀ (s : State) (d : Desc) (b : Nat), d.opcode = 0x1808 → b = d.dw 5 % 2 → s.bankSt b ≠ 0 → (bit (d.dw 6) 8 = true → d.dw 7 % 256 ≠ 0) →
    Gives (.resteepSet d) s (EndsOnly d stStateRefused (refusedWord 0x30 b (if s.bankSt 0 = 2 ∨ s.bankSt 1 = 2 then 2 else s.bankSt b)) s)) ∧
  (∀ (s : State) (d : Desc) (b : Nat) (memErr : List Nat), d.opcode = 0x1803 → b = 1 - s.gen % 2 → s.bankSt b ≠ 0 →
    Gives (.ruleCopy d memErr) s (EndsOnly d stStateRefused (refusedWord 0x30 b (if s.bankSt 0 = 2 ∨ s.bankSt 1 = 2 then 2 else s.bankSt b)) s)) ∧
  (∀ (s : State) (d : Desc) (b : Nat), d.opcode = 0x1804 → b = 1 - s.gen % 2 → s.bankSt b ≠ 0 →
    Gives (.ruleSwap d) s (EndsOnly d stStateRefused (refusedWord 0x30 b (if s.bankSt 0 = 2 ∨ s.bankSt 1 = 2 then 2 else s.bankSt b)) s))

/-- R243, R244, R251 to R254: the operations of the Table Command Window on a ready table. A write while it is busy collides (R75). -/
def Obligations.TableCommandWindow : Prop :=
  (∀ (s : State) (b : List Nat) (n j : Nat), b = s.staging → TcwReady s → s.badEntry b = none → KeyAbsent s b →
    (bucketSlots (hashB1 (s.hashOf b)) ++ bucketSlots (hashB2 (s.hashOf b))).find? (fun n => s.fp n == 0) = some n →
    Gives (.insert 0 j) s (fun t => TcwChanges 1 0 n ⟨stOk, n, s.ageEpoch, 0, false, false, b⟩ s t ∧
      t.lineOf n = goodLine n (entryOf b) ∧ t.fp n = hashF (s.hashOf b) ∧ t.fresh n = s.ageEpoch)) ∧
  (∀ (s : State) (b : List Nat) (m w j : Nat), b = s.staging → TcwReady s → s.badEntry b = none →
    s.stashFind (s.hashOf b) (entryOf b).fmt (entryOf b).key = none → s.fpFind (s.hashOf b) = some m → (s.tblLine m).key ≠ (entryOf b).key →
    (stashSlots (s.hashOf b)).find? (fun n => (SMap.find s.tbl.stash n).isNone) = some w → Gives (.insert 0 j) s (fun t =>
      TcwChanges 1 0 w ⟨stOk, w, s.ageEpoch, 0, true, false, b⟩ s t ∧ SMap.find t.tbl.stash w = some (entryOf b) ∧ t.fresh w = s.ageEpoch)) ∧
  (∀ (s : State) (b : List Nat) (n j : Nat), b = s.staging → TcwReady s → s.badEntry b = none → KeyAt s b n →
    Gives (.insert 0 j) s (TcwOnly 1 0 (tcwFail stStateRefused (refusedWord 0x38 0 1) b) s)) ∧
  (∀ (s : State) (b : List Nat) (n j : Nat), b = s.staging → TcwReady s → s.badEntry b = none → KeyAt s b n → Gives (.update 0 j) s (fun t =>
      TcwChanges 2 0 n ⟨stOk, n, s.ageEpoch, 0, false, false, b⟩ s t ∧ t.lineOf n = goodLine n (entryOf b) ∧ t.fp n = hashF (s.hashOf b) ∧
      t.fresh n = s.ageEpoch)) ∧
  (∀ (s : State) (b : List Nat) (j : Nat), b = s.staging → TcwReady s → s.badEntry b = none → KeyAbsent s b →
    Gives (.update 0 j) s (TcwOnly 2 0 (tcwFail stStateRefused (refusedWord 0x38 0 0) b) s)) ∧
  (∀ (s : State) (b : List Nat) (n j : Nat), b = s.staging → TcwReady s → s.badKey b = none → KeyAt s b n → Gives (.delete 0 j) s (fun t =>
      TcwChanges 3 0 n ⟨stOk, n, s.fresh n, 0, false, false, b⟩ s t ∧ t.fp n = 0 ∧ t.tblLine n = { s.tblLine n with valid := false })) ∧
  (∀ (s : State) (b : List Nat) (j : Nat), b = s.staging → TcwReady s → s.badKey b = none → KeyAbsent s b →
    Gives (.delete 0 j) s (TcwOnly 3 0 (tcwFail stStateRefused (refusedWord 0x38 0 0) b) s)) ∧
  (∀ (s : State) (b : List Nat) (n j : Nat), b = s.staging → TcwReady s → s.badKey b = none → KeyAt s b n →
    Gives (.read 0 j) s (TcwOnly 4 0 ⟨stOk, n, s.fresh n, 0, false, true, (s.tblLine n).bytes true⟩ s)) ∧
  (∀ (s : State) (b : List Nat) (j : Nat), b = s.staging → TcwReady s → s.badKey b = none → KeyAbsent s b →
    Gives (.read 0 j) s (TcwOnly 4 0 (tcwFail stOk 0xFFFFFFFF b) s)) ∧
  (∀ (s : State) (n j : Nat), TcwReady s → n ≤ 0x200FFF → (n < 0x200000 → s.lineGood n = true) → Gives (.readSlot n 0 j) s (TcwOnly 5 n
      ⟨stOk, n, s.fresh n, 0, decide (0x200000 ≤ n), s.slotOccupied n, (s.slotEntry n).bytes (s.slotOccupied n)⟩ s)) ∧
  (∀ (s : State) (b : List Nat) (n j : Nat), b = s.staging → TcwReady s → s.badEntry b = none → n < 0x200000 → n ∈ pairSlots (s.hashOf b) →
    s.fp n = hashF (s.hashOf b) → Gives (.writeSlot n j) s (fun t => TcwChanges 6 n n ⟨stOk, n, s.ageEpoch, 0, false, false, b⟩ s t ∧
      t.lineOf n = goodLine n (entryOf b) ∧ t.fp n = s.fp n ∧ t.fresh n = s.ageEpoch)) ∧
  (∀ (s : State) (b : List Nat) (n j : Nat), b = s.staging → TcwReady s → s.badEntry b = none → n < 0x200000 → n ∉ pairSlots (s.hashOf b) →
    Gives (.writeSlot n j) s (TcwOnly 6 n (tcwFail stBadArg 8 b) s)) ∧
  (∀ (s : State) (n j : Nat), TcwReady s → n < 0x200000 → s.fp n ≠ 0 → Gives (.deleteSlot n j) s (fun t =>
      TcwChanges 7 n n ⟨stOk, n, s.fresh n, 0, false, false, s.staging⟩ s t ∧ t.fp n = 0 ∧ t.tblLine n = { s.tblLine n with valid := false })) ∧
  (∀ (s : State) (n j : Nat), TcwReady s → n ≤ 0x200FFF → s.slotOccupied n = false →
    Gives (.deleteSlot n j) s (TcwOnly 7 n (tcwFail stStateRefused (refusedWord 0x39 0 0) s.staging) s)) ∧
  (∀ (s : State) (n fails j : Nat), TcwReady s → 0x200FFF < n → n < 2 ^ 22 →
    Gives (.readSlot n fails j) s (TcwOnly 5 n (tcwFail stBadArg 8 s.staging) s)) ∧
  (∀ (s : State) (n j : Nat), TcwReady s → 0x200FFF < n → n < 2 ^ 22 →
    Gives (.deleteSlot n j) s (TcwOnly 7 n (tcwFail stBadArg 8 s.staging) s)) ∧
  (∀ (s : State) (fails j : Nat), s.access 0x700200 = .ok → s.fld F.TBL_TCW_STATUS_BUSY 0 = 0 → s.fld F.TBL_STATUS_READY 0 = 0 →
    Gives (.insert fails j) s (TcwOnly 1 0 (tcwFail stBusy 0 s.staging) s)) ∧
  (∀ (s : State) (fails j : Nat), s.access 0x700200 = .ok → s.fld F.TBL_TCW_STATUS_BUSY 0 = 0 → s.fld F.TBL_STATUS_READY 0 = 0 →
    Gives (.read fails j) s (TcwOnly 4 0 (tcwFail stBusy 0 s.staging) s)) ∧
  (∀ (s : State) (fails j : Nat), s.access 0x700200 = .ok → s.fld F.TBL_TCW_STATUS_BUSY 0 = 0 → s.fld F.TBL_STATUS_READY 0 = 0 → s.hostUp = true → 0 < j →
    Gives (.update fails j) s (fun t => t.fld F.TBL_TCW_STATUS_COLLIDE 0 = 1 ∧ t.fld F.TBL_TCW_STATUS_BUSY 0 = 0 ∧
      t.fld F.TBL_TCW_STATUS_EVCNT_COLLIDE 0 = (s.fld F.TBL_TCW_STATUS_EVCNT_COLLIDE 0 + j) % 256)) ∧
  (∀ (s : State) (fails j : Nat), s.access 0x700200 = .ok → s.fld F.TBL_TCW_STATUS_BUSY 0 = 1 → Gives (.update fails j) s (fun t =>
      t.fld F.TBL_TCW_STATUS_COLLIDE 0 = 1 ∧ OnlyRegs s t [F.TBL_TCW_STATUS_COLLIDE, F.TBL_TCW_STATUS_EVCNT_COLLIDE]))

/-- R241, R242, R245 to R247, R250, R255, R256, R258, R260 to R262, R485: lookups, batches, flow counters, readiness, rebuilding and aging. RESULT of a batch that
ended OK is a free value (log entry 3). -/
def Obligations.FlowTable : Prop :=
  (∀ (s : State), Gives .filterExpiry s (fun t => (∀ e, e ∈ t.tbl.filter ↔ e ∈ s.tbl.filter ∧ s.lin < e.expires) ∧
      t = { s with tbl := { s.tbl with filter := t.tbl.filter } })) ∧
  (∀ (s : State) (fails : Nat), (∀ f ∈ s.str.flight, f.place ≠ 2) → Gives (.lookup fails) s (fun t => t = s)) ∧
  (∀ (s : State) (f : Machine.Frm) (fails : Nat), s.str.flight = [f] → f.place = 2 → s.fld F.TBL_KFMT_EN f.dec.tblKey = 0 → f.dec.queue ≠ none →
    f.dec.disp = 0 → f.last = false → Gives (.lookup fails) s (fun t =>
      t.fld F.TBL_ERR_FMT 0 = min (s.fld F.TBL_ERR_FMT 0 + 1) F.TBL_ERR_FMT.top ∧
      t = { s with regs := t.regs, str := { s.str with flight := [{ f with place := 3, ready := s.ltb.lc, dec := { f.dec with tblEn := false } }] } } ∧
      KeepsRegs s t [F.TBL_ERR_FMT])) ∧
  (∀ (s : State) (f : Machine.Frm) (k key h n : Nat) (e : TblEntry), s.str.flight = [f] → f.place = 2 → k = f.dec.tblKey → s.fld F.TBL_KFMT_EN k = 1 →
    (s.fmtDir k = 2 ∨ s.fmtDir k = f.dir) → key = s.tblKey k f.key → h = s.tblHash k key → s.stashFind h k key = none → s.fpFind h = some n →
    e = s.tblLine n → s.lineGood n = true → e.key = key → e.fmt = k → bit e.flags 1 = false → (e.apply f.dec).disp = 0 → (e.apply f.dec).queue ≠ none → f.last = false →
    Gives (.lookup 0) s (fun t => t.fresh n = s.ageEpoch ∧ t.fld F.TBL_HITS_COUNT 0 = min (s.fld F.TBL_HITS_COUNT 0 + 1) F.TBL_HITS_COUNT.top ∧
      (bit e.flags 7 = true → SMap.get t.tbl.flows e.counter (0, 0) =
        (min (2 ^ 64 - 1) ((SMap.get s.tbl.flows e.counter (0, 0)).1 + 1), min (2 ^ 64 - 1) ((SMap.get s.tbl.flows e.counter (0, 0)).2 + f.len))) ∧
      (bit e.flags 7 = false → t.tbl.flows = s.tbl.flows) ∧ (∀ m, m ∉ pairSlots h → t.fresh m = s.fresh m) ∧
      t = { s with regs := t.regs, tbl := { s.tbl with fresh := t.tbl.fresh, flows := t.tbl.flows },
                   str := { s.str with flight := [{ f with place := 3, ready := s.ltb.lc, dec := { e.apply f.dec with tblEn := false } }] } } ∧
      KeepsRegs s t [F.TBL_HITS_COUNT])) ∧
  (∀ (s : State) (f : Machine.Frm) (k h : Nat), s.str.flight = [f] → f.place = 2 → k = f.dec.tblKey → s.fld F.TBL_KFMT_EN k = 1 →
    (s.fmtDir k = 2 ∨ s.fmtDir k = f.dir) → h = s.tblHash k (s.tblKey k f.key) → s.stashFind h k (s.tblKey k f.key) = none → s.fpFind h = none →
    s.fld F.TBL_KFMT_LEARN k = 0 → s.fld F.TBL_KFMT_MISS_DROP k = 1 → f.last = false → Gives (.lookup 0) s (fun t =>
      t.fld F.TBL_MISSES_COUNT 0 = min (s.fld F.TBL_MISSES_COUNT 0 + 1) F.TBL_MISSES_COUNT.top ∧
      t = { s with regs := t.regs, str := { s.str with flight := [] } } ∧ KeepsRegs s t [F.TBL_MISSES_COUNT])) ∧
  (∀ (s : State) (d : Desc) (n j : Nat), d.opcode = 0x1C01 → bits (d.dw 5) 16 0 = 1 → d.buf = true → 64 ≤ d.bufLen → s.hostUp = true → s.fld F.TBL_STATUS_READY 0 = 1 →
    d.word 8 % 16 = 4 → s.badKey (bufBytes d 0 32) = none → KeyAt s (bufBytes d 0 32) n → Gives (.tableBatch d [] j) s (fun t =>
      (∃ r, Ends d stOk r t) ∧ t.hif.hostWrites = s.hif.hostWrites ++ [⟨d.bufAddr, packWords ((s.tblLine n).bytes true)⟩,
        ⟨d.bufAddr + 36, [stOk, n, s.fresh n * 2 ^ 16 + 1]⟩] ∧
      t = { s with regs := t.regs, freeCount := s.freeCount + 1, lfg := t.lfg, hif := { s.hif with flight := t.hif.flight, hostWrites := t.hif.hostWrites } } ∧
      KeepsRegs s t tcwFlds)) ∧
  (∀ (s : State) (d : Desc) (fails : List Nat) (j : Nat), d.opcode = 0x1C01 → bits (d.dw 5) 16 0 = 1 → d.buf = true → 64 ≤ d.bufLen → s.hostUp = true → s.fld F.TBL_STATUS_READY 0 = 1 →
    d.word 8 % 16 = 0 → Gives (.tableBatch d fails j) s (fun t => Ends d stBadArg 0 t ∧
      t.hif.hostWrites = s.hif.hostWrites ++ [⟨d.bufAddr + 36, [stBadArg, 8, 0]⟩] ∧
      t = { s with regs := t.regs, lfg := t.lfg, hif := { s.hif with flight := t.hif.flight, hostWrites := t.hif.hostWrites } } ∧
      KeepsRegs s t tcwFlds)) ∧
  (∀ (s : State) (d : Desc) (first n : Nat), first = d.dw 5 % 2 ^ 16 → n = d.dw 6 % 2 ^ 17 → d.opcode = 0x1C02 → d.buf = true → n * 16 ≤ d.bufLen → 0 < n →
    first + n ≤ 65536 → Gives (.flowCountRead d) s (fun t => Ends d stOk n t ∧
      t.hif.hostWrites = s.hif.hostWrites ++ [⟨d.bufAddr, ((List.range n).map (fun i =>
        [(SMap.get s.tbl.flows (first + i) (0, 0)).1 % 2 ^ 32, (SMap.get s.tbl.flows (first + i) (0, 0)).1 / 2 ^ 32,
         (SMap.get s.tbl.flows (first + i) (0, 0)).2 % 2 ^ 32, (SMap.get s.tbl.flows (first + i) (0, 0)).2 / 2 ^ 32])).flatten⟩] ∧
      (∀ c, SMap.get t.tbl.flows c (0, 0) = if bit (d.dw 7) 0 = true ∧ first ≤ c ∧ c < first + n then (0, 0) else SMap.get s.tbl.flows c (0, 0)) ∧
      t = { s with regs := t.regs, lfg := t.lfg, hif := { s.hif with flight := t.hif.flight, hostWrites := t.hif.hostWrites },
                   tbl := { s.tbl with flows := t.tbl.flows } } ∧ KeepsRegs s t commitFlds)) ∧
  (∀ (s : State), 2 ≤ s.fld F.MEM_QDR_STATUS_STATE 0 → s.fld F.TBL_STATUS_READY 0 = 0 → Gives .tableReady s (fun t =>
      t.fld F.TBL_STATUS_READY 0 = 1 ∧ (∀ n, t.tblLine n = tblEntryZero) ∧ t = { s with regs := t.regs, tbl := { s.tbl with lines := [] } } ∧
      KeepsRegs s t [F.TBL_STATUS_READY])) ∧
  (∀ (s : State) (n tile mac row : Nat) (bad : List Nat), n < 65536 → Gives (.fpRebuild 0 n tile mac row bad) s (fun t =>
      (∀ x, t.fp x = if 32 * n ≤ x ∧ x < 32 * n + 32 then
        (if (s.tblLine x).valid = true ∧ s.lineGood x = true ∧ x ∉ bad then hashF (s.tblHash (s.tblLine x).fmt (s.tblLine x).key) else 0) else s.fp x) ∧
      t.fld F.TBL_EVENT_ARRAY_MEM 0 = 1 ∧ t = { s with regs := t.regs, hif := t.hif, lfg := t.lfg, tbl := { s.tbl with fps := t.tbl.fps } } ∧
      KeepsRegs s t (eventFlds ++ [F.TBL_EVENT_ARRAY_MEM, F.TBL_EVENT_EVCNT_ARRAY_MEM]))) ∧
  (∀ (s : State) (n tile mac row : Nat) (bad : List Nat), n < 65664 → Gives (.fpRebuild 1 n tile mac row bad) s (fun t =>
      (∀ x, t.fresh x = if 32 * n ≤ x ∧ x < 32 * n + 32 then s.ageEpoch else s.fresh x) ∧ t.fld F.TBL_EVENT_ARRAY_MEM 0 = 1 ∧
      t = { s with regs := t.regs, hif := t.hif, lfg := t.lfg, tbl := { s.tbl with fresh := t.tbl.fresh } })) ∧
  (∀ (s : State) (n tile mac row : Nat) (bad : List Nat), n < 4096 → Gives (.fpRebuild 2 n tile mac row bad) s (fun t =>
      SMap.find t.tbl.stash (0x200000 + n) = none ∧ (∀ m, m ≠ 0x200000 + n → SMap.find t.tbl.stash m = SMap.find s.tbl.stash m) ∧
      t.fld F.TBL_EVENT_ARRAY_MEM 0 = 1 ∧ t = { s with regs := t.regs, hif := t.hif, lfg := t.lfg, tbl := { s.tbl with stash := t.tbl.stash } })) ∧
  (∀ (s : State), s.tbl.epochLc + s.epochLen ≤ s.ltb.lc → Gives .ageEpoch s (fun t => t.ageEpoch = (s.ageEpoch + 1) % 65536 ∧
      t = { s with regs := t.regs, tbl := { s.tbl with epochLc := s.tbl.epochLc + s.epochLen, epochMs := s.fld F.TBL_AGE_CFG_EPOCH_MS 0 } } ∧
      KeepsRegs s t [F.TBL_AGE_STATUS_EPOCH])) ∧
  (∀ (s : State), s.ltb.lc < s.tbl.epochLc + s.epochLen → Gives .ageEpoch s (fun t => t = s)) ∧
  (∀ (s : State) (n : Nat) (rest : List (Nat × Nat × Nat)), s.tbl.deletes = (n, s.fp n, s.fresh n) :: rest → n < 0x200000 → s.fp n ≠ 0 → s.lineGood n = true →
    s.fld F.TBL_LEARN_CFG_AGED_EN 0 = 0 → Gives (.deleteIfStale 0) s (fun t => t.fp n = 0 ∧ t.lineOf n = goodLine n { s.tblLine n with valid := false } ∧
      t.fld F.TBL_AGED_DELETES 0 = min (s.fld F.TBL_AGED_DELETES 0 + 1) 0xFFFFFFFF ∧ OnlySlot s t n ∧
      t = { s with regs := t.regs, tbl := { s.tbl with lines := t.tbl.lines, fps := t.tbl.fps, deletes := rest },
                   mem := { s.mem with qdrWrites := t.mem.qdrWrites } } ∧ KeepsRegs s t [F.TBL_AGED_DELETES])) ∧
  (∀ (s : State) (n stamp : Nat) (rest : List (Nat × Nat × Nat)), s.tbl.deletes = (n, s.fp n, stamp) :: rest → n < 0x200000 → s.fp n ≠ 0 → s.lineGood n = true →
    stamp ≠ s.fresh n → Gives (.deleteIfStale 0) s (fun t =>
      t.fld F.TBL_AGE_REPRIEVE_REPRIEVE 0 = min (s.fld F.TBL_AGE_REPRIEVE_REPRIEVE 0 + 1) 0xFFFF ∧
      t = { s with regs := t.regs, tbl := { s.tbl with deletes := rest } } ∧ KeepsRegs s t [F.TBL_AGE_REPRIEVE_REPRIEVE])) ∧
  (∀ (s : State) (n fp stamp : Nat) (rest : List (Nat × Nat × Nat)), s.tbl.deletes = (n, fp, stamp) :: rest → n < 0x200000 → s.fp n ≠ fp → s.lineGood n = true →
    Gives (.deleteIfStale 0) s (fun t => t.fld F.TBL_AGE_REPRIEVE_ABANDON 0 = min (s.fld F.TBL_AGE_REPRIEVE_ABANDON 0 + 1) 0xFFFF ∧
      t = { s with regs := t.regs, tbl := { s.tbl with deletes := rest } } ∧ KeepsRegs s t [F.TBL_AGE_REPRIEVE_ABANDON])) ∧
  (∀ (s : State) (fails : Nat), s.tbl.deletes = [] → Gives (.deleteIfStale fails) s (fun t => t = s)) ∧
  (∀ (s : State) (n : Nat) (rest : List (Nat × Nat)), s.tbl.deletes = [] → s.tbl.clamps = (n, s.fresh n) :: rest → s.scanFp n ≠ 0 → Gives .freshnessClamp s (fun t =>
      t.fresh n = (s.ageEpoch + 65536 - 32767) % 65536 ∧ (∀ m, m ≠ n → t.fresh m = s.fresh m) ∧
      t = { s with tbl := { s.tbl with fresh := t.tbl.fresh, clamps := rest } })) ∧
  (∀ (s : State) (n stamp : Nat) (rest : List (Nat × Nat)), s.tbl.deletes = [] → s.tbl.clamps = (n, stamp) :: rest → (s.scanFp n = 0 ∨ s.fresh n ≠ stamp) →
    Gives .freshnessClamp s (fun t => t = { s with tbl := { s.tbl with clamps := rest } })) ∧
  (∀ (s : State), (s.tbl.deletes ≠ [] ∨ s.tbl.clamps = []) → Gives .freshnessClamp s (fun t => t = s)) ∧
  (∀ (s : State) (n : Nat), s.tbl.scan = n → s.tbl.deletes.length < 64 → n < 0x200FFF → s.scanFp n ≠ 0 → s.stale n (s.fresh n) = true →
    s.scanStep = { s with tbl := { s.tbl with deletes := s.tbl.deletes ++ [(n, s.scanFp n, s.fresh n)], scan := n + 1 } }) ∧
  (∀ (s : State) (n : Nat), s.tbl.scan = n → s.tbl.deletes.length < 64 → n < 0x200FFF → s.scanFp n ≠ 0 → s.stale n (s.fresh n) = false →
    32767 < s.age (s.fresh n) → s.scanStep = { s with tbl := { s.tbl with clamps := s.tbl.clamps ++ [(n, s.fresh n)], scan := n + 1 } }) ∧
  (∀ (s : State), 64 ≤ s.tbl.deletes.length → s.scanStep = s) ∧
  (∀ (s : State), s.tbl.scan = 0x200FFF → s.tbl.deletes.length < 64 → s.scanStep.tbl.scan = 0 ∧
    s.scanStep.fld F.TBL_AGE_PASSES_PASSES 0 = (s.fld F.TBL_AGE_PASSES_PASSES 0 + 1) % 2 ^ F.TBL_AGE_PASSES_PASSES.width)

/-- R268, R270, R271, R274, R276 to R279, R281 to R286, R290, R295: frames are metered, admitted or discarded, spilled to the Kettle and brought back, dequeued, and
the calendar and the sampler run. -/
def Obligations.QueuesMetersAndCalendar : Prop :=
  (∀ (s : State), (∀ f ∈ s.str.flight, f.place = 3 → f.last = false) → Gives .admission s (fun t => t = s)) ∧
  (∀ (s : State) (f : Machine.Frm), s.str.flight = [f] → f.place = 3 → f.last = true → f.errored = true →
    Gives .admission s (fun t => t = { s with str := { s.str with flight := [] } })) ∧
  (∀ (s : State) (f : Machine.Frm) (i k x : Nat) (m : Meter), s.str.flight = [f] → f.place = 3 → f.last = true → f.errored = false → f.dec.meter = some i →
    k = qKey f.dir (f.dec.queue.getD 0) → (s.queue k).st ≠ 1 → s.fld F.TMG_CFG_KETTLE_EN 0 ≠ 1 → (s.meter i).en = true → (s.meter i).mode = 0 →
    (s.meter i).aware = false → (s.meter i).adj = 0 → m = (s.meter i).fill s.calNow → x = max 1 f.len * 65536 → x ≤ m.t1 → x ≤ m.t2 →
    Gives .admission s (fun t => t.meter i = { m with t1 := m.t1 - x, t2 := m.t2 - x, green := m.green + 1 } ∧
      (∀ j, j ≠ i → t.meter j = s.meter j) ∧
      t.queue k = { s.queue k with drops := SMap.put (s.queue k).drops 4 (min (2 ^ 32 - 1) (SMap.get (s.queue k).drops 4 0 + 1)) 0 } ∧
      (∀ j, j ≠ k → t.queue j = s.queue j) ∧
      t = { s with str := { s.str with flight := [] }, tmg := { s.tmg with meters := t.tmg.meters, queues := t.tmg.queues } })) ∧
  (∀ (s : State) (f : Machine.Frm) (k : Nat) (q : Queue), s.str.flight = [f] → f.place = 3 → f.last = true → f.errored = false → f.dec.meter = none →
    f.dir = 1 → k = qKey 1 (f.dec.queue.getD 0) → f.dec.queue.getD 0 < 8192 → q = s.queue k → q.st = 1 → s.fld F.TMG_CFG_KETTLE_EN 0 ≠ 1 → s.fld F.TMG_CFG_SAMPLER_EN 0 = 0 →
    q.middle = [] → q.tail = [] → cellsOf f.len ≤ s.poolFree 1 → q.headCells + cellsOf f.len ≤ q.cfg.onchipMax →
    q.occ + f.len ≤ q.cfg.threshold f.dec.colour → Gives .admission s (fun t =>
      t.queue k = { q with head := q.head ++ [{ f.held f.dec.colour with pool := 1, at_ := some s.calNow }], enq := q.enq + 1,
                           peak := max q.peak (q.occ + f.len) } ∧
      t.poolUse 1 = (s.poolUse 1 + cellsOf f.len) % 2 ^ F.TMG_POOL_USE_IN_USE.width ∧ (∀ j, j ≠ k → t.queue j = s.queue j) ∧
      t = { s with regs := t.regs, hif := t.hif, dsf := { s.dsf with limits := t.dsf.limits }, str := { s.str with flight := [] },
                   tmg := { s.tmg with queues := t.tmg.queues, kids := t.tmg.kids, low := t.tmg.low } } ∧
      KeepsRegs s t (eventFlds ++ [F.TMG_POOL_USE_IN_USE, F.TMG_EVENT_POOL_LOW, F.TMG_EVENT_EVCNT_POOL_LOW]))) ∧
  (∀ (s : State) (k : Nat) (q : Queue), q = s.queue k → ((q.head = [] ∧ q.middle = []) ∨ q.tail = []) →
    Gives (.tailWrite k) s (fun t => t = s)) ∧
  (∀ (s : State) (k pg : Nat) (q : Queue), q = s.queue k → q.head ≠ [] → 64 ≤ q.tailLines → s.freePage = some pg →
    s.fld F.TMG_CFG_FC_EN 0 = 0 → s.fld F.TMG_FC_STATUS_XOFF 0 = 0 → Gives (.tailWrite k) s (fun t =>
      t.queue k = { q with middle := q.middle ++ [⟨pg, (fillPage 64 q.tail).1, (fillPage 64 q.tail).2.2⟩], tail := (fillPage 64 q.tail).2.1,
                           tailLc := s.ltb.lc } ∧ (∀ j, j ≠ k → t.queue j = s.queue j) ∧
      (∀ i < 64, t.ddrLine (s.pageAddr pg / 64 + i) = goodDdr (s.pageAddr pg / 64 + i) ((pageLines (keyDir k) 64 q.tail).getD i (3, 0, [])).1
        ((pageLines (keyDir k) 64 q.tail).getD i (3, 0, [])).2.1 ((pageLines (keyDir k) 64 q.tail).getD i (3, 0, [])).2.2) ∧
      (∀ a, (a < s.pageAddr pg / 64 ∨ s.pageAddr pg / 64 + 64 ≤ a) → t.ddrLine a = s.ddrLine a) ∧
      t = { s with regs := t.regs, hif := t.hif, dsf := { s.dsf with limits := t.dsf.limits }, mem := { s.mem with lines := t.mem.lines },
                   tmg := { s.tmg with queues := t.tmg.queues, low := t.tmg.low } } ∧
      KeepsRegs s t (eventFlds ++ [F.TMG_POOL_USE_IN_USE, F.TMG_EVENT_POOL_LOW, F.TMG_EVENT_EVCNT_POOL_LOW]))) ∧
  (∀ (s : State) (k : Nat) (bad : List Nat), (s.queue k).middle = [] → Gives (.refill k bad) s (fun t => t = s)) ∧
  (∀ (s : State) (k : Nat) (pg : KPage) (rest : List KPage) (q : Queue), q = s.queue k → q.middle = pg :: rest → q.headCells < q.cfg.refill * 16 →
    s.chInService (s.pageChan pg.page) = true → (∀ b < 64, s.ddrGood (s.pageAddr pg.page / 64 + b) = true) → sumOf (pg.frames.map (fun f => cellsOf f.len)) ≤ s.poolFree 3 → s.fld F.TMG_CFG_FC_EN 0 = 0 →
    s.fld F.TMG_FC_STATUS_XOFF 0 = 0 → Gives (.refill k []) s (fun t =>
      t.queue k = { q with head := q.head ++ pg.frames.map (fun f => { f with pool := 3, lines := 0 }), middle := rest } ∧
      t.poolUse 3 = (s.poolUse 3 + sumOf (pg.frames.map (fun f => cellsOf f.len))) % 2 ^ F.TMG_POOL_USE_IN_USE.width ∧
      (∀ j, j ≠ k → t.queue j = s.queue j) ∧
      t = { s with regs := t.regs, hif := t.hif, dsf := { s.dsf with limits := t.dsf.limits },
                   tmg := { s.tmg with queues := t.tmg.queues, kids := t.tmg.kids, low := t.tmg.low, retired := t.tmg.retired, retiring := t.tmg.retiring } } ∧
      KeepsRegs s t (eventFlds ++ [F.TMG_POOL_USE_IN_USE, F.TMG_EVENT_POOL_LOW, F.TMG_EVENT_EVCNT_POOL_LOW]))) ∧
  (∀ (s : State) (p : Nat) (sfd : Sfd) (cell : Option (Nat × Nat × Nat)), s.portUp p = false →
    Gives (.downstreamDequeue p sfd cell) s (fun t => t = s)) ∧
  (∀ (s : State) (p tc g k : Nat) (sfd : Sfd) (f : QFrm), s.hasPort p = true → s.portUp p = true → s.listen p = 0 → (s.hport p).tx = [] →
    (s.refreshPort p).pickPort p = some (tc, g, k) → (s.queue k).first = some f → f.spoiled = false → 4 ≤ f.ingress → s.fld F.CPH_P_CFG_PROTECT p = 0 →
    f.len ≤ s.maxFrame p → (s.queue k).cfg.shapeEn = false → (s.group g).pir = 0 → Gives (.downstreamDequeue p sfd none) s (fun t =>
      (t.hport p).tx = [⟨tc, f.len, s.ptpOf p f.bytes⟩] ∧ t.queue k = ({ (s.queue k).dropFirst with deq := (s.queue k).deq + 1 } : Queue).settle ∧
      t.poolUse f.pool = (s.poolUse f.pool - cellsOf f.len) % 2 ^ F.TMG_POOL_USE_IN_USE.width ∧ (∀ j, j ≠ k → t.queue j = s.queue j) ∧ OnlyPort s t p ∧
      t = { s with regs := t.regs, hif := t.hif, dsf := { s.dsf with limits := t.dsf.limits }, hpm := t.hpm,
                   tmg := { s.tmg with queues := t.tmg.queues, kids := t.tmg.kids, nodes := t.tmg.nodes, low := t.tmg.low, watches := t.tmg.watches } } ∧
      KeepsRegs s t (eventFlds ++ [F.TMG_POOL_USE_IN_USE, F.TMG_EVENT_POOL_LOW, F.TMG_EVENT_EVCNT_POOL_LOW]))) ∧
  (∀ (s : State), ((∀ x ∈ s.tmg.cal, s.calNow < x.due) ∨ (s.tmg.relLc = s.ltb.lc ∧ 4 ≤ s.tmg.relCnt)) → Gives .calendarRelease s (fun t => t = s)) ∧
  (∀ (s : State) (x : CalEntry), s.tmg.cal = [x] → x.place = 0 → (s.tmg.relLc ≠ s.ltb.lc ∨ s.tmg.relCnt < 4) → x.due ≤ s.calNow → s.calNow ≤ x.due + 64 → Gives .calendarRelease s (fun t =>
      t.tmg.relLc = s.ltb.lc ∧ t = { s with tmg := { s.tmg with cal := [], kids := t.tmg.kids, relLc := t.tmg.relLc, relCnt := t.tmg.relCnt } })) ∧
  (∀ (s : State) (x : CalEntry), s.tmg.cal = [x] → x.place = 0 → (s.tmg.relLc ≠ s.ltb.lc ∨ s.tmg.relCnt < 4) → x.due + 64 < s.calNow → Gives .calendarRelease s (fun t =>
      t.fld F.TMG_EVENT_CAL_LATE 0 = 1 ∧
      t = { s with regs := t.regs, hif := t.hif, dsf := { s.dsf with limits := t.dsf.limits }, tmg := { s.tmg with cal := [], kids := t.tmg.kids, relLc := t.tmg.relLc, relCnt := t.tmg.relCnt } } ∧
      KeepsRegs s t (eventFlds ++ [F.TMG_EVENT_CAL_LATE, F.TMG_CAL_STATUS_LATE_CNT]))) ∧
  (∀ (s : State) (l r : List CalEntry), l = s.tmg.cal.filter (fun x => x.place == 1 && decide (x.due / 32768 * 32768 ≤ s.calNow + 4096)) →
    r = s.tmg.cal.filter (fun x => !l.contains x) → Gives .coarseRedistribute s (fun t =>
      t = { s with tmg := { s.tmg with cal := r ++ l.map (fun x => { x with place := 0 }) } })) ∧
  (∀ (s : State) (l r : List CalEntry), s.tmg.farScan < s.calNow / 67108864 → l = s.tmg.cal.filter (fun x => x.place == 2 && decide (x.e < (s.calNow + 134217728) * 65536)) →
    r = s.tmg.cal.filter (fun x => !l.contains x) → Gives .farListScan s (fun t =>
      t = { s with tmg := { s.tmg with farScan := s.calNow / 67108864, cal := r ++ l.map (fun x => { x with place := 1 }) } })) ∧
  (∀ (s : State), s.calNow / 67108864 ≤ s.tmg.farScan → Gives .farListScan s (fun t => t = s)) ∧
  (∀ (s : State), (s.fld F.TMG_CFG_SAMPLER_EN 0 = 0 ∨ s.ltb.lc < s.tmg.sampleLc + usLc (max 1 (s.fld F.TMG_SAMPLE_CFG_SAMPLE_US 0))) → Gives .depthSample s (fun t => t = s)) ∧
  (∀ (s : State), s.fld F.TMG_CFG_SAMPLER_EN 0 ≠ 0 → SMap.wf s.tmg.watches = true → s.tmg.sampleLc + usLc (max 1 (s.fld F.TMG_SAMPLE_CFG_SAMPLE_US 0)) ≤ s.ltb.lc → Gives .depthSample s (fun t =>
      (∀ (w u : Nat), (s.watch w).en = true → u = (s.queue (qKey (s.watch w).dir (s.watch w).queue)).occ / (256 * 2 ^ s.fld F.TMG_SAMPLE_CFG_DEPTH_SHIFT 0) →
        t.watch w = { s.watch w with depth := bumpBin (s.watch w).depth (binOf u), peak := max (s.watch w).peak u }) ∧
      (∀ w, (s.watch w).en = false → t.watch w = s.watch w) ∧ t = { s with tmg := { s.tmg with watches := t.tmg.watches, sampleLc := s.ltb.lc } }))

/-- R265, R288, R290, R292, R293, R295: the TMG commands. -/
def Obligations.QueueCommands : Prop :=
  (∀ (s : State) (d : Desc) (k : Nat), d.opcode = 0x2001 → k = qKey (bits (d.dw 5) 30 30) (bits (d.dw 5) 14 0) → queueSetBad d = 0 → s.flushing k = false → Gives (.queueSet d) s (fun t =>
      Ends d stOk (t.queue k).st t ∧
      t.queue k = { s.queue k with cfg := qcfgOf d, st := nextQueueSt (s.queue k).st (bit (d.dw 5) 31) (s.queue k).all.isEmpty } ∧
      (∀ j, j ≠ k → t.queue j = s.queue j) ∧
      t = { s with regs := t.regs, hif := { s.hif with flight := t.hif.flight }, lfg := t.lfg,
                   tmg := { s.tmg with queues := t.tmg.queues, kids := t.tmg.kids, cal := t.tmg.cal } } ∧ KeepsRegs s t commitFlds)) ∧
  (∀ (s : State) (d : Desc), d.opcode = 0x2001 → bits (d.dw 5) 30 30 = 1 → 8192 ≤ bits (d.dw 5) 14 0 → Gives (.queueSet d) s (EndsOnly d stBadArg 5 s)) ∧
  (∀ (s : State) (d : Desc), d.opcode = 0x2001 → bits (d.dw 5) 14 0 < 8192 → bits (d.dw 7) 9 0 = 0 → Gives (.queueSet d) s (EndsOnly d stBadArg 7 s)) ∧
  (∀ (s : State) (d : Desc) (dir first n : Nat), d.opcode = 0x2002 → dir = bits (d.dw 5) 30 30 → first = bits (d.dw 5) 14 0 → n = bits (d.dw 6) 8 0 → d.buf = true →
    n * 64 ≤ d.bufLen → 0 < n → n ≤ 256 → first + n ≤ (if dir = 0 then 16384 else 8192) →
    (∀ i < n, s.flushing (qKey dir (first + i)) = false) → bit (d.dw 7) 0 = false →
    Gives (.queueRead d) s (EndsWriting d n ((List.range n).map (fun i => s.queueWords (qKey dir (first + i)))).flatten s)) ∧
  (∀ (s : State) (d : Desc) (dir first n : Nat), d.opcode = 0x2002 → dir = bits (d.dw 5) 30 30 → first = bits (d.dw 5) 14 0 → n = bits (d.dw 6) 8 0 → d.buf = true →
    n * 64 ≤ d.bufLen → 0 < n → n ≤ 256 → first + n ≤ (if dir = 0 then 16384 else 8192) →
    (∀ i < n, s.flushing (qKey dir (first + i)) = false) → bit (d.dw 7) 0 = true →
    Gives (.queueRead d) s (fun t => Ends d stOk n t ∧
      t.hif.hostWrites = s.hif.hostWrites ++ [⟨d.bufAddr, ((List.range n).map (fun i => s.queueWords (qKey dir (first + i)))).flatten⟩] ∧
      (∀ k, t.queue k = if qKey dir first ≤ k ∧ k < qKey dir first + n then { s.queue k with enq := 0, deq := 0, drops := [], peak := 0 } else s.queue k) ∧
      t = { s with regs := t.regs, hif := { s.hif with flight := t.hif.flight, hostWrites := t.hif.hostWrites }, lfg := t.lfg,
                   tmg := { s.tmg with queues := t.tmg.queues } } ∧ KeepsRegs s t commitFlds)) ∧
  (∀ (s : State) (d : Desc) (dir n : Nat), d.opcode = 0x2003 → dir = bits (d.dw 5) 30 30 → n = bits (d.dw 5) 14 0 → badQueue dir n = false → s.flushing (qKey dir n) = false → (s.queue (qKey dir n)).st = 1 →
    Gives (.queueFlush d) s (EndsOnly d stStateRefused (refusedWord 0x48 dir 1) s)) ∧
  (∀ (s : State) (d : Desc) (dir n : Nat), d.opcode = 0x2003 → dir = bits (d.dw 5) 30 30 → n = bits (d.dw 5) 14 0 → badQueue dir n = false → s.flushing (qKey dir n) = false → (s.queue (qKey dir n)).st = 0 →
    Gives (.queueFlush d) s (EndsOnly d stOk 0 s)) ∧
  (∀ (s : State) (d : Desc) (dir n k c : Nat), d.opcode = 0x2003 → dir = bits (d.dw 5) 30 30 → n = bits (d.dw 5) 14 0 → badQueue dir n = false → k = qKey dir n → s.flushing k = false →
    (s.queue k).st = 2 → (s.queue k).middle = [] → c = (s.queue k).head.length + (s.queue k).tail.length → s.fld F.TMG_CFG_FC_EN 0 = 0 →
    s.fld F.TMG_FC_STATUS_XOFF 0 = 0 → Gives (.queueFlush d) s (fun t => Ends d stOk (min c 0xFFFFFFFF) t ∧
      t.queue k = { s.queue k with st := 0, head := [], tail := [],
                                   drops := SMap.put (s.queue k).drops 6 (min (2 ^ 16 - 1) (SMap.get (s.queue k).drops 6 0 + c)) 0 } ∧
      (∀ j, j ≠ k → t.queue j = s.queue j) ∧
      t = { s with regs := t.regs, hif := t.hif, lfg := t.lfg, dsf := { s.dsf with limits := t.dsf.limits },
                   tmg := { s.tmg with queues := t.tmg.queues, kids := t.tmg.kids, low := t.tmg.low } } ∧
      KeepsRegs s t (eventFlds ++ [F.TMG_POOL_USE_IN_USE, F.TMG_EVENT_POOL_LOW, F.TMG_EVENT_EVCNT_POOL_LOW]))) ∧
  (∀ (s : State) (d : Desc), d.opcode = 0x2003 → badQueue (bits (d.dw 5) 30 30) (bits (d.dw 5) 14 0) = false → s.flushing (qKey (bits (d.dw 5) 30 30) (bits (d.dw 5) 14 0)) = true →
    Gives (.queueFlush d) s (fun t => t = s)) ∧
  (∀ (s : State) (d : Desc) (g p : Nat), d.opcode = 0x2004 → g = bits (d.dw 5) 9 0 → p = bits (d.dw 6) 1 0 → s.noPort p = false → bits (d.dw 7) 9 0 ≠ 0 →
    Gives (.groupSet d) s (fun t => Ends d stOk 0 t ∧ t.group g = { s.group g with
        en := bit (d.dw 5) 31, port := p, tc := bits (d.dw 6) 10 8, weight := bits (d.dw 7) 9 0, pir := bits (d.dw 8) 28 0, burst := bits (d.dw 9) 23 0,
        adj := bits (d.dw 10) 7 0 } ∧ (∀ j, j ≠ g → t.group j = s.group j) ∧
      t = { s with regs := t.regs, hif := { s.hif with flight := t.hif.flight }, lfg := t.lfg,
                   tmg := { s.tmg with groups := t.tmg.groups, kids := t.tmg.kids, cal := t.tmg.cal } } ∧ KeepsRegs s t commitFlds)) ∧
  (∀ (s : State) (d : Desc), d.opcode = 0x2004 → s.noPort (bits (d.dw 6) 1 0) = false → bits (d.dw 7) 9 0 = 0 → Gives (.groupSet d) s (EndsOnly d stBadArg 7 s)) ∧
  (∀ (s : State) (d : Desc) (p : Nat) (x : PortTc), d.opcode = 0x2005 → p = bits (d.dw 5) 1 0 → s.noPort p = false → x.strict = bits (d.dw 6) 7 0 →
    x.weights = (List.range 8).map (fun t => bits (d.dw (7 + t / 4)) (8 * (t % 4) + 7) (8 * (t % 4))) →
    (∀ t < 8, bit x.strict t = true ∨ x.weights.getD t 0 ≠ 0) → Gives (.portTcSet d) s (fun t => Ends d stOk 0 t ∧ t.portTc p = x ∧
      (∀ j, j ≠ p → t.portTc j = s.portTc j) ∧
      t = { s with regs := t.regs, hif := { s.hif with flight := t.hif.flight }, lfg := t.lfg,
                   tmg := { s.tmg with ports := t.tmg.ports, kids := t.tmg.kids } } ∧ KeepsRegs s t commitFlds)) ∧
  (∀ (s : State) (d : Desc) (i : Nat) (m : Meter), d.opcode = 0x2006 → i = bits (d.dw 5) 15 0 → m = (s.meter i).fill s.calNow →
    (bits (d.dw 5) 30 30 = 1 ∨ bit (d.dw 5) 31 = false ∨ bits (d.dw 6) 28 0 ≤ bits (d.dw 7) 28 0) → Gives (.meterSet d) s (fun t => Ends d stOk 0 t ∧
      t.meter i = { m with
        en := bit (d.dw 5) 31, mode := bits (d.dw 5) 30 30, aware := bit (d.dw 5) 29, r1 := bits (d.dw 6) 28 0, r2 := bits (d.dw 7) 28 0,
        b1 := bits (d.dw 8) 23 0, b2 := bits (d.dw 9) 23 0, adj := bits (d.dw 10) 7 0,
        t1 := if bit (d.dw 5) 28 = true then bits (d.dw 8) 23 0 * 65536 else min (bits (d.dw 8) 23 0 * 65536) m.t1,
        t2 := if bit (d.dw 5) 28 = true then bits (d.dw 9) 23 0 * 65536 else min (bits (d.dw 9) 23 0 * 65536) m.t2 } ∧
      (∀ j, j ≠ i → t.meter j = s.meter j) ∧
      t = { s with regs := t.regs, hif := { s.hif with flight := t.hif.flight }, lfg := t.lfg, tmg := { s.tmg with meters := t.tmg.meters } } ∧
      KeepsRegs s t commitFlds)) ∧
  (∀ (s : State) (d : Desc), d.opcode = 0x2006 → bits (d.dw 5) 30 30 = 0 → bit (d.dw 5) 31 = true → bits (d.dw 7) 28 0 < bits (d.dw 6) 28 0 →
    Gives (.meterSet d) s (EndsOnly d stBadArg 7 s)) ∧
  (∀ (s : State) (d : Desc) (first n : Nat), d.opcode = 0x2007 → first = bits (d.dw 5) 15 0 → n = bits (d.dw 6) 16 0 → d.buf = true → n * 64 ≤ d.bufLen → 0 < n →
    first + n ≤ 65536 → Gives (.meterRead d) s (fun t => Ends d stOk n t ∧
      t.hif.hostWrites = s.hif.hostWrites ++ [⟨d.bufAddr, ((List.range n).map (fun i => s.meterWords (first + i))).flatten⟩] ∧
      (∀ i, t.meter i = if bit (d.dw 7) 0 = true ∧ first ≤ i ∧ i < first + n then { s.meter i with green := 0, yellow := 0, red := 0 } else s.meter i) ∧
      t = { s with regs := t.regs, hif := { s.hif with flight := t.hif.flight, hostWrites := t.hif.hostWrites }, lfg := t.lfg,
                   tmg := { s.tmg with meters := t.tmg.meters } } ∧ KeepsRegs s t commitFlds)) ∧
  (∀ (s : State) (d : Desc) (w dir q : Nat), d.opcode = 0x2008 → w = bits (d.dw 5) 10 0 → dir = bits (d.dw 5) 30 30 → q = bits (d.dw 6) 14 0 → badQueue dir q = false →
    Gives (.watchSet d) s (fun t => Ends d stOk 0 t ∧
      t.watch w = ⟨bit (d.dw 5) 31, dir, q, List.replicate 16 0, List.replicate 16 0, 0, 0⟩ ∧ (∀ j, j ≠ w → t.watch j = s.watch j) ∧
      t = { s with regs := t.regs, hif := { s.hif with flight := t.hif.flight }, lfg := t.lfg, tmg := { s.tmg with watches := t.tmg.watches } } ∧
      KeepsRegs s t commitFlds)) ∧
  (∀ (s : State) (d : Desc), d.opcode = 0x2008 → badQueue (bits (d.dw 5) 30 30) (bits (d.dw 6) 14 0) = true → Gives (.watchSet d) s (EndsOnly d stBadArg 5 s)) ∧
  (∀ (s : State) (d : Desc) (first n : Nat), d.opcode = 0x2009 → first = bits (d.dw 5) 10 0 → n = bits (d.dw 6) 11 0 → d.buf = true → n * 160 ≤ d.bufLen → 0 < n →
    first + n ≤ 2048 → Gives (.samplerRead d) s (fun t => Ends d stOk n t ∧
      t.hif.hostWrites = s.hif.hostWrites ++ [⟨d.bufAddr, ((List.range n).map (fun i => (s.watch (first + i)).words)).flatten⟩] ∧
      (∀ w, t.watch w = if bit (d.dw 7) 0 = true ∧ first ≤ w ∧ w < first + n then (s.watch w).cleared else s.watch w) ∧
      t = { s with regs := t.regs, hif := { s.hif with flight := t.hif.flight, hostWrites := t.hif.hostWrites }, lfg := t.lfg,
                   tmg := { s.tmg with watches := t.tmg.watches } } ∧ KeepsRegs s t commitFlds))

/-- R300, R303 to R305, R310 to R313, R315 to R318, R322, R323, R325 to R329: training, alerts, replay and freezing, retirement, refetch, narrow writes,
regulation and Rinse passes. -/
def Obligations.ExternalMemories : Prop :=
  (∀ (s : State) (v : Word), s.access 0x900000 = .ok → (∀ n < 4, s.chSt n = 0) → s.fld F.HIF_STATUS_STAGE 0 = 3 → bit v.toNat 31 = true →
    Gives (.ddrTrain v) s (fun t => (∀ n < 4, t.chSt n = 1 ∧ t.fld F.MEM_CH_STATUS_TRAIN_STEP n = 0) ∧ t.activeSet = v.toNat % 2 ∧
      t.fld F.MEM_DDR_STATUS_CAP_GB 0 = t.fittedGb ∧ t.fld F.MEM_DDR_CFG_HASH 0 = bits v.toNat 24 24 ∧ t.fld F.MEM_DDR_CFG_RANKS 0 = bits v.toNat 25 25 ∧
      t.fld F.MEM_DDR_CFG_DENSITY 0 = bits v.toNat 27 26 ∧ t.fld F.MEM_DDR_CFG_DUAL 0 = bits v.toNat 30 30 ∧ t.mem.timings = (timingFields (v.toNat % 2)).map (fun f => s.fld f 0) ∧
      t = { s with regs := t.regs, lfg := t.lfg, mem := { s.mem with full := true, timings := t.mem.timings } } ∧
      KeepsRegs s t (commitFlds ++ [F.MEM_DDR_CFG_HASH, F.MEM_DDR_CFG_RANKS, F.MEM_DDR_CFG_DENSITY, F.MEM_DDR_CFG_DUAL, F.MEM_DDR_CFG_SET,
        F.MEM_DDR_STATUS_CAP_GB, F.MEM_DDR_STATUS_ACTIVE_SET, F.MEM_CH_STATUS_STATE, F.MEM_CH_STATUS_TRAIN_STEP]))) ∧
  (∀ (s : State) (v : Word) (n : Nat), s.access 0x900000 = .ok → n < 4 → s.chSt n ≠ 0 →
    Gives (.ddrTrain v) s (fun t => t = { s with regs := t.regs, lfg := t.lfg } ∧ KeepsRegs s t commitFlds)) ∧
  (∀ (s : State) (fails : List TrainFail), (∀ n < 4, s.chSt n ≠ 1) → Gives (.ddrTrainingEnd fails) s (fun t => t = s)) ∧
  (∀ (s : State), (∀ n < 4, s.chSt n = 1) → s.mem.inited = false → s.mem.freq = none → s.tmg.flushes = [] → Gives (.ddrTrainingEnd []) s (fun t =>
      (∀ n < 4, t.chSt n = 2 ∧ (t.memCh n).settleEnd = some (s.ltb.lc + usLc (s.fld F.MEM_QOS_CFG_SETTLE_US 0)) ∧ (t.memCh n).replays = 0 ∧
        (t.memCh n).snap = (s.memCh n).snap ∧
        SMap.find t.mem.passes n = some ((SMap.find s.mem.passes n).getD ⟨s.stamp, s.ltb.lc, s.passTime n, 0, 0⟩)) ∧
      t.fld (validF s.activeSet) 0 = 1 ∧ (s.mem.full = true → s.fld F.MEM_DDR_CFG_DUAL 0 = 1 → t.fld (validF (1 - s.activeSet)) 0 = 1) ∧
      (s.mem.full = false → t.fld (validF (1 - s.activeSet)) 0 = if s.activeSet = 0 ∨ s.activeSet = 1 then s.fld (validF (1 - s.activeSet)) 0 else 1) ∧
      t = { s with regs := t.regs, mem := { s.mem with lines := [], inited := true, full := false, chans := t.mem.chans, passes := t.mem.passes } } ∧
      KeepsRegs s t [F.MEM_CH_STATUS_STATE, F.MEM_CH_STATUS_TRAIN_STEP, F.MEM_DDR_STATUS_VALID_A, F.MEM_DDR_STATUS_VALID_B, F.MEM_CH_COUNT2_LATE,
        F.MEM_CH_COUNT2_RETRY_FULL])) ∧
  (∀ (s : State) (x : TrainFail), x.chan < 4 → s.chSt x.chan = 1 → s.mem.freq = none → Gives (.ddrTrainingEnd [x]) s (fun t =>
      (∀ n < 4, t.chSt n = if s.chSt n = 1 then 0 else s.chSt n) ∧ t.fld F.MEM_CH_STATUS_TRAIN_STEP x.chan = x.step % 16 ∧
      t = { s with regs := t.regs, hif := t.hif, lfg := t.lfg, mem := { s.mem with full := false } } ∧ KeepsRegs s t (eventFlds ++ [F.MEM_CH_STATUS_STATE, F.MEM_CH_STATUS_TRAIN_STEP]))) ∧
  (∀ (s : State) (v : Word), s.access 0x900008 = .ok → s.fld F.HIF_STATUS_STAGE 0 = 3 → s.fld F.MEM_QDR_STATUS_STATE 0 = 0 → bit v.toNat 31 = true →
    Gives (.qdrTrain v) s (fun t => t.fld F.MEM_QDR_STATUS_STATE 0 = 1 ∧ t.fld F.MEM_QDR_STATUS_TRAIN_STEP 0 = 0 ∧
      t.fld F.MEM_QDR_CFG_PARITY_EN 0 = v.toNat % 2 ∧ t.mem.qdrParity = bit v.toNat 0 ∧
      t = { s with regs := t.regs, lfg := t.lfg, mem := { s.mem with qdrParity := t.mem.qdrParity } } ∧
      KeepsRegs s t (commitFlds ++ [F.MEM_QDR_CFG_PARITY_EN, F.MEM_QDR_STATUS_STATE, F.MEM_QDR_STATUS_TRAIN_STEP]))) ∧
  (∀ (s : State), s.fld F.MEM_QDR_STATUS_STATE 0 = 1 → Gives (.qdrTrainingEnd none) s (fun t =>
      t.fld F.MEM_QDR_STATUS_STATE 0 = 2 ∧
      SMap.find t.mem.passes 4 = some ((SMap.find s.mem.passes 4).getD ⟨s.stamp, s.ltb.lc, s.passTime 4, 0, 0⟩) ∧
      t = { s with regs := t.regs, mem := { s.mem with passes := t.mem.passes } } ∧ KeepsRegs s t [F.MEM_QDR_STATUS_STATE])) ∧
  (∀ (s : State) (x : TrainFail), s.fld F.MEM_QDR_STATUS_STATE 0 = 1 → Gives (.qdrTrainingEnd (some x)) s (fun t =>
      t.fld F.MEM_QDR_STATUS_STATE 0 = 0 ∧ t.fld F.MEM_QDR_STATUS_TRAIN_STEP 0 = x.step % 16 ∧
      t = { s with regs := t.regs, hif := t.hif, lfg := t.lfg } ∧ KeepsRegs s t (eventFlds ++ [F.MEM_QDR_STATUS_STATE, F.MEM_QDR_STATUS_TRAIN_STEP]))) ∧
  (∀ (s : State) (n sub rank row : Nat), s.chSt n = 2 → s.fld F.MEM_CH_CFG_PARITY_MODE n = 0 → (s.memCh n).waiting = [] →
    Gives (.parityAlert n [] sub rank row) s (fun t => t.chSt n = 3 ∧
      t.memCh n = { s.memCh n with
        retry := (s.memCh n).retry.map (fun e => { e with issued := s.ltb.lc }), replayLeft := (s.memCh n).retry.length,
        replays := 1 } ∧ (∀ m, m ≠ n → t.memCh m = s.memCh m) ∧
      t.fld F.MEM_CH_COUNT_REPLAYS n = min (s.fld F.MEM_CH_COUNT_REPLAYS n + 1) 255 ∧
      t = { s with regs := t.regs, mem := { s.mem with chans := t.mem.chans } } ∧ KeepsAt s t n [F.MEM_CH_STATUS_STATE, F.MEM_CH_COUNT_REPLAYS])) ∧
  (∀ (s : State) (n sub rank row c r : Nat) (reqs : List MemReq), ((s.chSt n = 2 ∧ s.fld F.MEM_CH_CFG_PARITY_MODE n = 1 ∧ c = 1 ∧ r = 0 ∧ reqs = []) ∨
    (s.chSt n = 3 ∧ max 1 (s.fld F.MEM_CH_CFG_REPLAY_MAX n) ≤ (s.memCh n).replays ∧ c = 2 ∧ r = (s.memCh n).replays)) →
    s.fld F.MEM_CH_CFG_FREEZE_TRAFFIC n ≠ 1 → (s.memCh n).waiting = [] → Gives (.parityAlert n reqs sub rank row) s (fun t =>
      t.chSt n = 4 ∧ (t.memCh n).snap = some ⟨c, r, errLoc 0x09 (n % 4) (ddrMacro sub rank) row, s.stamp, (s.memCh n).retry.take 64, s.ltb.lc⟩ ∧
      t.fld F.MEM_CH_FRZ_STAMP_LO_STAMP n = s.stamp % 2 ^ 32 ∧ t.fld F.MEM_EVENT_FROZEN 0 = 1 ∧
      (t.memCh n).waiting = reqs.map (fun q => ⟨q, s.ltb.lc, s.targetOf (q.client % 6)⟩) ∧
      (t.memCh n).retry = (s.memCh n).retry ∧ (∀ m, m ≠ n → t.memCh m = s.memCh m) ∧
      t = { s with regs := t.regs, hif := t.hif, lfg := t.lfg, mem := { s.mem with chans := t.mem.chans } } ∧
      KeepsRegs s t (eventFlds ++ [F.MEM_CH_STATUS_STATE, F.MEM_CH_FRZ_STAMP_LO_STAMP, F.MEM_CH_FRZ_STAMP_HI_STAMP,
        F.MEM_EVENT_FROZEN, F.MEM_EVENT_EVCNT_FROZEN]))) ∧
  (∀ (s : State) (n sub rank row : Nat) (reqs : List MemReq), s.chInService n = false → Gives (.parityAlert n reqs sub rank row) s (fun t =>
      t.memCh n = { s.memCh n with waiting := (s.memCh n).waiting ++ reqs.map (fun q => ⟨q, s.ltb.lc, s.targetOf (q.client % 6)⟩) } ∧
      (∀ m, m ≠ n → t.memCh m = s.memCh m) ∧ t = { s with mem := { s.mem with chans := t.mem.chans } })) ∧
  (∀ (s : State) (n : Nat) (reqs : List MemReq), s.chInService n = false → Gives (.entryRetire n reqs) s (fun t =>
      t.memCh n = { s.memCh n with waiting := (s.memCh n).waiting ++ reqs.map (fun q => ⟨q, s.ltb.lc, s.targetOf (q.client % 6)⟩) } ∧
      (∀ m, m ≠ n → t.memCh m = s.memCh m) ∧ t = { s with mem := { s.mem with chans := t.mem.chans } })) ∧
  (∀ (s : State) (n : Nat) (e : RetryEntry) (rest : List RetryEntry), s.chInService n = true → (s.memCh n).retry = e :: rest → (s.memCh n).waiting = [] →
    e.issued + e.win ≤ s.ltb.lc → Gives (.entryRetire n []) s (fun t =>
      t.memCh n = { s.memCh n with
        retry := rest, replayLeft := (s.memCh n).replayLeft - 1,
        replays := if (s.memCh n).replayLeft ≤ 1 then 0 else (s.memCh n).replays } ∧
      t.chSt n = (if s.chSt n = 3 ∧ (s.memCh n).replayLeft ≤ 1 then 2 else s.chSt n) ∧ (∀ m, m ≠ n → t.memCh m = s.memCh m) ∧
      t = { s with regs := t.regs, mem := { s.mem with chans := t.mem.chans } } ∧ KeepsAt s t n [F.MEM_CH_STATUS_STATE])) ∧
  (∀ (s : State) (n : Nat) (r : MemReq), s.chInService n = true → (s.memCh n).waiting = [] → (s.memCh n).retry.length < 64 →
    (s.memCh n).retry.head?.all (fun e => decide (s.ltb.lc < e.issued + e.win)) = true →
    (reqAccess r = false ∨ s.qosMode n = 1 ∨ SMap.get (s.memCh n).budget (r.client % 6) 0 ≠ 0) → Gives (.entryRetire n [r]) s (fun t =>
      (t.memCh n).retry = (s.memCh n).retry ++ [⟨r, s.ltb.lc, max 32 (s.fld F.MEM_CH_CFG_ALERT_WIN n)⟩] ∧ (t.memCh n).waiting = [] ∧
      (∀ c, SMap.get (t.memCh n).budget c 0 = if reqAccess r = true ∧ s.qosMode n ≠ 1 ∧ c = r.client % 6 then SMap.get (s.memCh n).budget c 0 - 1
        else SMap.get (s.memCh n).budget c 0) ∧
      t.memCh n = { s.memCh n with retry := (t.memCh n).retry, budget := (t.memCh n).budget, rr := (t.memCh n).rr } ∧
      (∀ m, m ≠ n → t.memCh m = s.memCh m) ∧ t = { s with mem := { s.mem with chans := t.mem.chans } })) ∧
  (∀ (s : State) (n : Nat) (r : MemReq), s.chInService n = true → (s.memCh n).waiting = [] →
    (s.memCh n).retry.head?.all (fun e => decide (s.ltb.lc < e.issued + e.win)) = true →
    reqAccess r = true → s.qosMode n ≠ 1 → SMap.get (s.memCh n).budget (r.client % 6) 0 = 0 → s.fld F.MEM_QOS_CFG_SPARE_EN 0 ≠ 1 →
    Gives (.entryRetire n [r]) s (fun t => t.memCh n = { s.memCh n with waiting := [⟨r, s.ltb.lc, s.targetOf (r.client % 6)⟩] } ∧
      (∀ m, m ≠ n → t.memCh m = s.memCh m) ∧ t = { s with mem := { s.mem with chans := t.mem.chans } })) ∧
  (∀ (s : State) (n : Nat) (r : MemReq), s.chInService n = true → (s.memCh n).waiting = [] → 64 ≤ (s.memCh n).retry.length →
    (s.memCh n).retry.head?.all (fun e => decide (s.ltb.lc < e.issued + e.win)) = true → reqAccess r = false →
    Gives (.entryRetire n [r]) s (fun t => t.memCh n = { s.memCh n with waiting := [⟨r, s.ltb.lc, s.targetOf (r.client % 6)⟩] } ∧
      (∀ m, m ≠ n → t.memCh m = s.memCh m) ∧ t.fld F.MEM_CH_COUNT2_RETRY_FULL n = min (s.fld F.MEM_CH_COUNT2_RETRY_FULL n + 1) 0xFFFF ∧
      t = { s with regs := t.regs, mem := { s.mem with chans := t.mem.chans } } ∧ KeepsAt s t n [F.MEM_CH_COUNT2_RETRY_FULL])) ∧
  (∀ (s : State), s.fld F.MEM_QDR_STATUS_STATE 0 = 2 → s.mem.qdrParity = true → Gives .qdrParityError s (fun t =>
      t.fld F.MEM_QDR_COUNT_REPLAYS 0 = min (s.fld F.MEM_QDR_COUNT_REPLAYS 0 + 1) 255 ∧ OnlyRegs s t [F.MEM_QDR_COUNT_REPLAYS])) ∧
  (∀ (s : State) (itf line client fails k : Nat), itf < 4 → client ≠ 3 → s.ddrGood line = true → max 1 fails ≤ s.refetchMax → s.trackOf itf line = none →
    s.freeTrack = some k → Gives (.refetch itf line client fails none) s (fun t =>
      t.fld F.MEM_CH_COUNT_CORR itf = min (s.fld F.MEM_CH_COUNT_CORR itf + 1) 0xFFFF ∧ t.fld F.MEM_EVENT_CORRECTED 0 = 1 ∧
      SMap.find t.mem.tracks k = some ⟨itf, line, 1, s.stamp, s.stamp, false⟩ ∧ (∀ j, j ≠ k → SMap.find t.mem.tracks j = SMap.find s.mem.tracks j) ∧
      t = { s with regs := t.regs, mem := { s.mem with tracks := t.mem.tracks } } ∧
      KeepsRegs s t [F.MEM_CH_COUNT_CORR, F.MEM_EVENT_CORRECTED, F.MEM_EVENT_EVCNT_CORRECTED])) ∧
  (∀ (s : State) (itf line fails k : Nat) (p : RinsePass), itf < 4 → s.ddrGood line = true → max 1 fails ≤ s.refetchMax → s.trackOf itf line = none →
    s.freeTrack = some k → SMap.find s.mem.passes itf = some p → Gives (.refetch itf line 3 fails none) s (fun t =>
      SMap.find t.mem.passes itf = some { p with corrected := p.corrected + 1 } ∧ t.fld F.MEM_CH_COUNT_CORR itf = min (s.fld F.MEM_CH_COUNT_CORR itf + 1) 0xFFFF ∧
      t = { s with regs := t.regs, mem := { s.mem with tracks := t.mem.tracks, passes := t.mem.passes } } ∧
      KeepsRegs s t [F.MEM_CH_COUNT_CORR, F.MEM_EVENT_CORRECTED, F.MEM_EVENT_EVCNT_CORRECTED])) ∧
  (∀ (s : State) (itf line fails : Nat) (d : Desc), itf < 4 → (s.refetchMax < fails ∨ s.ddrGood line = false) → Gives (.refetch itf line 5 fails (some d)) s
    (fun t => Ends d stMemUncorr (s.lineLoc itf line) t ∧ t.fld F.MEM_CH_COUNT_UNCORR itf = min (s.fld F.MEM_CH_COUNT_UNCORR itf + 1) 0xFF ∧
      t.fld F.MEM_EVENT_UNCORR 0 = 1 ∧ t = { s with regs := t.regs, hif := { s.hif with flight := t.hif.flight }, lfg := t.lfg } ∧
      KeepsRegs s t (commitFlds ++ [F.MEM_CH_COUNT_UNCORR, F.MEM_EVENT_UNCORR, F.MEM_EVENT_EVCNT_UNCORR]))) ∧
  (∀ (s : State) (itf line client fails : Nat) (w : Option Desc), itf < 4 → client ≠ 3 → client ≠ 5 → (s.refetchMax < fails ∨ s.ddrGood line = false) →
    Gives (.refetch itf line client fails w) s (fun t => t.fld F.MEM_CH_COUNT_UNCORR itf = min (s.fld F.MEM_CH_COUNT_UNCORR itf + 1) 0xFF ∧
      t.fld F.MEM_EVENT_UNCORR 0 = 1 ∧ OnlyRegs s t [F.MEM_CH_COUNT_UNCORR, F.MEM_EVENT_UNCORR, F.MEM_EVENT_EVCNT_UNCORR])) ∧
  (∀ (s : State) (e a : Nat) (bytes : List Nat) (work : Option Desc), s.engineBase ≤ a → a < s.engineBase + 2 ^ 28 → s.chInService (s.ddrChan a) = true →
    s.ddrGood (a / 64) = true → Gives (.narrowWrite e a 0 bytes work) s (fun t =>
      t.ddrLine (a / 64) = goodDdr (a / 64) 5 (e % 4) (mergeBytes (s.ddrLine (a / 64)).data (a % 64) bytes) ∧
      (∀ l, l ≠ a / 64 → t.ddrLine l = s.ddrLine l) ∧
      t.fld F.MEM_CH_COUNT2_RMW (s.ddrChan a) = min (s.fld F.MEM_CH_COUNT2_RMW (s.ddrChan a) + 1) 0xFFFF ∧
      t = { s with regs := t.regs, mem := { s.mem with lines := t.mem.lines } } ∧ KeepsRegs s t [F.MEM_CH_COUNT2_RMW])) ∧
  (∀ (s : State) (e a fails : Nat) (bytes : List Nat) (work : Option Desc), s.chInService (s.ddrChan a) = false →
    Gives (.narrowWrite e a fails bytes work) s (fun t => t = s)) ∧
  (∀ (s : State), s.mem.regLc + s.mem.regLen * 1024 ≤ s.ltb.lc → (∀ n < 4, (s.memCh n).waiting = []) → Gives .regulatorPeriod s (fun t =>
      (∀ n < 4, ∀ c < 6, SMap.get (t.memCh n).budget c 0 = min ((s.regOf c).1 * s.ddrRate / 6400 + (s.regOf c).2 * s.ddrRate / 6400)
        ((s.regOf c).1 * s.ddrRate / 6400 + SMap.get (s.memCh n).budget c 0)) ∧
      (∀ n, t.memCh n = { s.memCh n with budget := (t.memCh n).budget }) ∧
      t = { s with mem := { s.mem with chans := t.mem.chans, regLc := s.ltb.lc, regLen := max 1 (s.fld F.MEM_QOS_CFG_PERIOD 0) } })) ∧
  (∀ (s : State), s.ltb.lc < s.mem.regLc + s.mem.regLen * 1024 → Gives .regulatorPeriod s (fun t => t = s)) ∧
  (∀ (s : State) (n at_ : Nat), (s.memCh n).settleEnd = some at_ → at_ ≤ s.ltb.lc → (s.memCh n).waiting = [] → Gives (.settleEnd n) s (fun t =>
      t.memCh n = { s.memCh n with settleEnd := none } ∧ (∀ m, m ≠ n → t.memCh m = s.memCh m) ∧ t = { s with mem := { s.mem with chans := t.mem.chans } })) ∧
  (∀ (s : State) (n at_ : Nat), (s.memCh n).settleEnd = some at_ → s.ltb.lc < at_ → Gives (.settleEnd n) s (fun t => t = s)) ∧
  (∀ (s : State) (itf skipped ecs no skip lines late : Nat) (p : RinsePass), itf ≤ 4 → SMap.find s.mem.passes itf = some p →
    s.fld (if itf < 4 then F.MEM_RINSE_CFG_DDR_EN else F.MEM_RINSE_CFG_QDR_EN) 0 = 1 → p.from_ + p.len ≤ s.ltb.lc → no = SMap.get s.mem.passNo itf 0 + 1 →
    skip = (if itf < 4 then min skipped (s.rinseLines itf) else 0) → lines = s.rinseLines itf - skip → late = b2n (decide (p.from_ + p.len < s.ltb.lc)) →
    Gives (.rinsePass itf skipped ecs) s (fun t =>
      let w := (SMap.get t.mem.summaries itf []).headD []
      SMap.get t.mem.passNo itf 0 = no ∧
      SMap.find t.mem.passes itf = some ⟨s.stamp, s.ltb.lc, s.passTime itf, 0, 0⟩ ∧
      (SMap.get t.mem.summaries itf [] = (w :: SMap.get s.mem.summaries itf []).take 8 ∧ w.length = 16 ∧
        w.getD 0 0 = itf + (late + b2n (decide (0 < skip)) * 2) * 256 + no % 65536 * 65536 ∧ w.getD 2 0 = p.start % 2 ^ 32 ∧ w.getD 4 0 = s.stamp % 2 ^ 32 ∧
        w.getD 6 0 = lines % 2 ^ 32 ∧ w.getD 8 0 = p.corrected % 2 ^ 32 ∧ w.getD 9 0 = p.uncorr % 2 ^ 32 ∧ w.getD 11 0 = skip % 2 ^ 32) ∧
      t.mem.tracks = s.mem.tracks.filter (fun q => !(q.2.itf == itf && !q.2.chronic && !stampLe p.start q.2.last)) ∧
      (itf = 4 → t.fld F.MEM_RINSE_STATUS_QDR_PASSES 0 = no % 256) ∧
      t = { s with regs := t.regs, hif := t.hif,
                   mem := { s.mem with tracks := t.mem.tracks, summaries := t.mem.summaries, passNo := t.mem.passNo, passes := t.mem.passes } } ∧
      KeepsRegs s t (eventFlds ++ [F.MEM_RINSE_STATUS_DDR_PASSES, F.MEM_RINSE_STATUS_QDR_PASSES]))) ∧
  (∀ (s : State) (itf skipped ecs : Nat) (p : RinsePass), SMap.find s.mem.passes itf = some p → s.ltb.lc < p.from_ + p.len →
    Gives (.rinsePass itf skipped ecs) s (fun t => t = s))

/-- R307, R313, R314, R318, R320, R330 to R334: the MEM commands. -/
def Obligations.MemoryCommands : Prop :=
  (∀ (s : State) (d : Desc) (n : Nat), d.opcode = 0x2401 → bits (d.dw 5) 9 8 = 0 → n = d.dw 5 % 4 → s.chSt n = 4 → (s.memCh n).refreshed = true → Gives (.memResume d) s (fun t => Ends d stOk 1 t ∧
      t.chSt n = 1 ∧ t.fld F.MEM_CH_STATUS_LOST n = 0 ∧
      t = { s with regs := t.regs, hif := { s.hif with flight := t.hif.flight }, lfg := t.lfg } ∧
      KeepsRegs s t (commitFlds ++ [F.MEM_CH_STATUS_STATE, F.MEM_CH_STATUS_LOST]))) ∧
  (∀ (s : State) (d : Desc) (n : Nat) (x : Snap), d.opcode = 0x2401 → bits (d.dw 5) 9 8 = 0 → n = d.dw 5 % 4 → s.chSt n = 4 → (s.memCh n).refreshed = false → (s.memCh n).snap = some x →
    x.lc + 16 * 1244160 < s.ltb.lc → Gives (.memResume d) s (fun t => Ends d stOk 1 t ∧ t.chSt n = 1 ∧ t.fld F.MEM_CH_STATUS_LOST n = 1 ∧
      t = { s with regs := t.regs, hif := t.hif, lfg := t.lfg } ∧ KeepsRegs s t (eventFlds ++ [F.MEM_CH_STATUS_STATE, F.MEM_CH_STATUS_LOST]))) ∧
  (∀ (s : State) (d : Desc) (n : Nat), d.opcode = 0x2401 → bits (d.dw 5) 9 8 = 0 → n = d.dw 5 % 4 → s.chSt n ≠ 4 →
    Gives (.memResume d) s (EndsOnly d stStateRefused (refusedWord 0x50 n (s.chSt n)) s)) ∧
  (∀ (s : State) (d : Desc) (n : Nat), d.opcode = 0x2401 → bits (d.dw 5) 9 8 = 1 → n = d.dw 5 % 4 → s.chSt n = 2 → s.fld F.MEM_CH_CFG_FREEZE_TRAFFIC n ≠ 1 → Gives (.memFreeze d) s (fun t =>
      Ends d stOk 4 t ∧ t.chSt n = 4 ∧ (t.memCh n).snap = some ⟨3, 0, errTile 0x09 n, s.stamp, (s.memCh n).retry.take 64, s.ltb.lc⟩ ∧
      t.fld F.MEM_EVENT_FROZEN 0 = 1 ∧ (∀ m, m ≠ n → t.memCh m = s.memCh m) ∧
      t = { s with regs := t.regs, hif := t.hif, lfg := t.lfg, mem := { s.mem with chans := t.mem.chans } } ∧
      KeepsRegs s t (eventFlds ++ [F.MEM_CH_STATUS_STATE, F.MEM_CH_FRZ_STAMP_LO_STAMP, F.MEM_CH_FRZ_STAMP_HI_STAMP, F.MEM_EVENT_FROZEN,
        F.MEM_EVENT_EVCNT_FROZEN]))) ∧
  (∀ (s : State) (d : Desc) (n : Nat), d.opcode = 0x2401 → bits (d.dw 5) 9 8 = 1 → n = d.dw 5 % 4 → s.chSt n ≠ 2 →
    Gives (.memFreeze d) s (EndsOnly d stStateRefused (refusedWord 0x50 n (s.chSt n)) s)) ∧
  (∀ (s : State) (d : Desc) (n : Nat), d.opcode = 0x2401 → bits (d.dw 5) 9 8 = 2 → n = d.dw 5 % 4 → s.chSt n ≠ 2 →
    Gives (.memTestEntry d) s (EndsOnly d stStateRefused (refusedWord 0x50 n (s.chSt n)) s)) ∧
  (∀ (s : State) (d : Desc) (n : Nat), d.opcode = 0x2401 → bits (d.dw 5) 9 8 = 2 → n = d.dw 5 % 4 → s.chSt n = 2 → s.pagesIn n = 0 → s.hif.saucer = [] → Gives (.memTestEntry d) s (fun t =>
      Ends d stOk 6 t ∧ t.chSt n = 6 ∧ t = { s with regs := t.regs, hif := { s.hif with flight := t.hif.flight }, lfg := t.lfg } ∧
      KeepsRegs s t (commitFlds ++ [F.MEM_CH_STATUS_STATE]))) ∧
  (∀ (s : State) (d : Desc) (n : Nat), d.opcode = 0x2401 → bits (d.dw 5) 9 8 = 2 → n = d.dw 5 % 4 → s.chSt n = 2 → s.pagesIn n ≠ 0 →
    Gives (.memTestEntry d) s (EndsOnly d stStateRefused (refusedWord 0x53 n (min 65535 (s.pagesIn n))) s)) ∧
  (∀ (s : State) (d : Desc) (n : Nat), d.opcode = 0x2401 → bits (d.dw 5) 9 8 = 3 → n = d.dw 5 % 4 → s.chSt n = 6 → Gives (.memTestExit d) s (fun t => Ends d stOk 2 t ∧ t.chSt n = 2 ∧
      t = { s with regs := t.regs, hif := { s.hif with flight := t.hif.flight }, lfg := t.lfg } ∧
      KeepsRegs s t (commitFlds ++ [F.MEM_CH_STATUS_STATE]))) ∧
  (∀ (s : State) (d : Desc) (us set : Nat), d.opcode = 0x2402 → set = d.dw 5 % 2 → (∀ n < 4, s.chInService n = true ∧ (s.memCh n).waiting = []) → s.fld (validF set) 0 ≠ 0 →
    s.activeSet ≠ set → Gives (.memFreq d us none []) s (fun t => Ends d stOk us t ∧ t.activeSet = set ∧ t.mem.timings = (timingFields set).map (fun f => s.fld f 0) ∧
      (∀ n < 4, t.chSt n = 2 ∧ t.memCh n = { s.memCh n with
        retry := [], replayLeft := 0, replays := 0,
        settleEnd := some (s.ltb.lc + usLc (s.fld F.MEM_QOS_CFG_SETTLE_US 0)) }) ∧
      t = { s with regs := t.regs, hif := t.hif, lfg := t.lfg, mem := { s.mem with chans := t.mem.chans, timings := t.mem.timings } } ∧
      KeepsRegs s t (eventFlds ++ [F.MEM_CH_STATUS_STATE, F.MEM_DDR_STATUS_ACTIVE_SET]))) ∧
  (∀ (s : State) (d : Desc) (us set : Nat) (failed : List Nat), d.opcode = 0x2402 → set = d.dw 5 % 2 → (∀ n < 4, s.chInService n = true ∧ (s.memCh n).waiting = []) →
    s.fld (validF set) 0 ≠ 0 → s.activeSet ≠ set → (∃ n < 4, n ∈ failed) → Gives (.memFreq d us none failed) s (fun t => t.activeSet = set ∧
      (∀ n < 4, t.chSt n = if failed.contains n then 1 else 2) ∧ t.mem.freq = some d ∧ t.mem.freqFrom = s.ltb.lc ∧
      t = { s with regs := t.regs, mem := { s.mem with chans := t.mem.chans, timings := t.mem.timings, freq := t.mem.freq, freqFrom := t.mem.freqFrom } } ∧
      KeepsRegs s t [F.MEM_CH_STATUS_STATE, F.MEM_DDR_STATUS_ACTIVE_SET])) ∧
  (∀ (s : State) (d : Desc) (us set : Nat) (e : Option (Nat × Nat × Nat)) (failed : List Nat), set = d.dw 5 % 2 → (∀ n < 4, s.chInService n = true) →
    s.fld (validF set) 0 = 0 → Gives (.memFreq d us e failed) s (EndsOnly d stStateRefused (refusedWord 0x52 set 0) s)) ∧
  (∀ (s : State) (d : Desc) (us set : Nat) (e : Option (Nat × Nat × Nat)) (failed : List Nat), set = d.dw 5 % 2 → (∀ n < 4, s.chInService n = true) →
    s.fld (validF set) 0 ≠ 0 → s.activeSet = set → Gives (.memFreq d us e failed) s (EndsOnly d stOk 0 s)) ∧
  (∀ (s : State) (d : Desc) (n a cnt errors : Nat), d.opcode = 0x2403 → n = d.dw 5 % 4 → a = addr64 d 8 → cnt = d.dw 10 → d.dw 6 % 16 ≤ 3 → s.badLine a = false →
    touches a cnt (s.saucerBase, 2 ^ 26) = false → touches a cnt (s.engineBase, 2 ^ 28) = false → s.leavesChan n a cnt = false → 0 < cnt →
    s.chSt n = 6 → Gives (.memTest d errors) s (fun t => Ends d stOk (min (min errors (cnt * 512)) (2 ^ 32 - 1)) t ∧
      (∀ l, t.ddrLine l = if a / 64 ≤ l ∧ l < a / 64 + cnt then goodDdr l 6 (d.dw 7) (patternLine (d.dw 6 % 16) (d.dw 7) l) else s.ddrLine l) ∧
      t = { s with regs := t.regs, hif := { s.hif with flight := t.hif.flight }, lfg := t.lfg, mem := { s.mem with lines := t.mem.lines } } ∧
      KeepsRegs s t commitFlds)) ∧
  (∀ (s : State) (d : Desc) (errors : Nat), d.opcode = 0x2403 → 3 < d.dw 6 % 16 → Gives (.memTest d errors) s (EndsOnly d stBadArg 6 s)) ∧
  (∀ (s : State) (d : Desc) (n : Nat), d.opcode = 0x2404 → n = d.dw 5 % 4 → d.buf = true → 4160 ≤ d.bufLen → (s.memCh n).snap = none →
    Gives (.memDiagRead d) s (EndsWriting d 0 (n :: List.replicate 15 0) s)) ∧
  (∀ (s : State) (d : Desc) (n : Nat) (x : Snap), d.opcode = 0x2404 → n = d.dw 5 % 4 → d.buf = true → 4160 ≤ d.bufLen → (s.memCh n).snap = some x →
    Gives (.memDiagRead d) s (EndsWriting d x.entries.length
      ([n + x.cause * 256 + min 255 x.replays * 65536 + x.entries.length * 16777216, x.loc, x.stamp % 2 ^ 32, x.stamp / 2 ^ 32] ++
        List.replicate 12 0 ++ (x.entries.map (fun e => snapWords e x.lc)).flatten) s)) ∧
  (∀ (s : State) (d : Desc), d.opcode = 0x2405 → d.buf = true → 2048 ≤ d.bufLen → Gives (.memTrackRead d) s (EndsWriting d s.mem.tracks.length
      ((List.range 64).map (fun k => trackWords (SMap.find s.mem.tracks k))).flatten s)) ∧
  (∀ (s : State) (d : Desc), d.opcode = 0x2406 → Gives (.memTrackClear d) s (fun t => Ends d stOk (s.mem.tracks.length - t.mem.tracks.length) t ∧
      (∀ k, SMap.find t.mem.tracks k = if bit (d.dw 5) 31 = true ∨ k = d.dw 5 % 64 then none else SMap.find s.mem.tracks k) ∧
      t = { s with regs := t.regs, hif := { s.hif with flight := t.hif.flight }, lfg := t.lfg, mem := { s.mem with tracks := t.mem.tracks } } ∧
      KeepsRegs s t commitFlds)) ∧
  (∀ (s : State) (d : Desc), d.opcode = 0x2407 → s.badLine (addr64 d 5) = false → s.chInService (s.ddrChan (addr64 d 5)) = true →
    s.ddrGood (addr64 d 5 / 64) = true → Gives (.memLineRewrite d 0) s (fun t => Ends d stOk 1 t ∧ (∀ k, t.ddrLine k = s.ddrLine k) ∧
      t = { s with regs := t.regs, hif := { s.hif with flight := t.hif.flight }, lfg := t.lfg, mem := { s.mem with lines := t.mem.lines } } ∧
      KeepsRegs s t commitFlds)) ∧
  (∀ (s : State) (d : Desc) (fails : Nat), d.opcode = 0x2407 → s.badLine (addr64 d 5) = true → Gives (.memLineRewrite d fails) s (EndsOnly d stBadArg 5 s)) ∧
  (∀ (s : State) (d : Desc) (a p n : Nat), d.opcode = 0x2408 → a = addr64 d 5 → s.badLine a = false → s.kettleBase ≤ a → a < s.kettleBase + s.kettleSize →
    p = (a - s.kettleBase) / 4096 → n = s.tmg.retired.length + s.tmg.retiring.length → p ∉ s.tmg.retired → p ∉ s.tmg.retiring → n < 4096 →
    Gives (.memPageRetire d) s (fun t => Ends d stOk (n + 1) t ∧
      (p ∈ s.pagesUsed → t.tmg.retiring = s.tmg.retiring ++ [p] ∧ t.tmg.retired = s.tmg.retired) ∧
      (p ∉ s.pagesUsed → t.tmg.retired = s.tmg.retired ++ [p] ∧ t.tmg.retiring = s.tmg.retiring) ∧
      t = { s with regs := t.regs, hif := { s.hif with flight := t.hif.flight }, lfg := t.lfg,
                   tmg := { s.tmg with retired := t.tmg.retired, retiring := t.tmg.retiring } } ∧ KeepsRegs s t commitFlds)) ∧
  (∀ (s : State) (d : Desc), d.opcode = 0x2409 → d.buf = true → 512 ≤ d.bufLen → d.dw 5 % 8 ≤ 4 → Gives (.rinseRead d) s
    (EndsWriting d (SMap.get s.mem.summaries (d.dw 5 % 8) []).length (SMap.get s.mem.summaries (d.dw 5 % 8) []).flatten s)) ∧
  (∀ (s : State) (d : Desc), d.opcode = 0x2409 → d.buf = true → 512 ≤ d.bufLen → 4 < d.dw 5 % 8 → Gives (.rinseRead d) s (EndsOnly d stBadArg 5 s))

/-- R387 to R391, R395 to R402: ToD messages, reads, the servo, 1PPS, triggers and captures. -/
def Obligations.NetworkTime : Prop :=
  (∀ (s : State) (d : Desc) (dd : Int), d.opcode = 0x3001 → s.badTod d = none → s.tstate = 0 → d.dw 12 % 8 = s.tc → s.fld F.TIM_STATUS_TOD_VALID 0 = 0 →
    s.fld F.ACT_CH_EQD_VALID s.tc = 1 → dd = todD (d.dw 11) (s.fld F.ACT_CH_EQD_EQD s.tc) (s.fld F.TIM_CH_ASYM_ALPHA s.tc)
      (signed 16 (s.fld F.TIM_CH_RXOPT_RXOPT s.tc)) → Gives (.todSet d) s (fun t => Ends d stOk 0 t ∧ t.fld F.TIM_STATUS_TOD_VALID 0 = 1 ∧
      t.fld F.TIM_STATUS_REF_STALE 0 = 0 ∧ t.fld F.TIM_UNC_UNC 0 = 0 ∧ t.fld F.TIM_EVENT_TOD_STEP 0 = 1 ∧
      t.tim.sRef = stampAdd (stampOf ((d.dw 5 + bits (d.dw 6) 18 0 * 2 ^ 32) % 2 ^ 46) 0) s.ltb.anchor ∧
      t.tim.tRef = (todUnits (d.dw 7 + bits (d.dw 8) 15 0 * 2 ^ 32) (d.dw 9) (bits (d.dw 10) 15 0) : Nat) + duUnits dd ∧ t.tim.phi = 0 ∧
      t.tim.held = true ∧ t.tim.epoch = (s.tim.epoch + 1) % 65536 ∧ t = { s with regs := t.regs, hif := t.hif, lfg := t.lfg, tim := t.tim } ∧
      KeepsRegs s t (eventFlds ++ [F.TIM_STATUS_SLEWING, F.TIM_STATUS_TOD_VALID, F.TIM_STATUS_REF_STALE, F.TIM_STATUS_SRC_USED, F.TIM_STATUS_SERVO_LIMIT,
        F.TIM_SERVO_FREQ_Y, F.TIM_UNC_UNC, F.TIM_EVENT_TOD_STEP, F.TIM_EVENT_EVCNT_TOD_STEP]))) ∧
  (∀ (s : State) (d : Desc), d.opcode = 0x3001 → s.badTod d = none → s.tstate = 0 → d.dw 12 % 8 = s.tc → s.fld F.TIM_STATUS_TOD_VALID 0 = 1 → Gives (.todSet d) s (fun t =>
      Ends d stOk (s.todOffset d) t ∧ t.fld F.TIM_STATUS_TOD_VALID 0 = 1 ∧ t.tim.teqd = d.dw 11 ∧ t.tim.chan = s.tc ∧
      t.tim.sRef = stampAdd (stampOf ((d.dw 5 + bits (d.dw 6) 18 0 * 2 ^ 32) % 2 ^ 46) 0) s.ltb.anchor ∧
      t = { s with regs := t.regs, hif := t.hif, lfg := t.lfg, tim := t.tim } ∧
      KeepsRegs s t (eventFlds ++ [F.TIM_STATUS_SLEWING, F.TIM_STATUS_TOD_VALID, F.TIM_STATUS_REF_STALE, F.TIM_STATUS_SRC_USED, F.TIM_STATUS_SERVO_LIMIT,
        F.TIM_SERVO_FREQ_Y, F.TIM_UNC_UNC, F.TIM_EVENT_TOD_STEP, F.TIM_EVENT_EVCNT_TOD_STEP]))) ∧
  (∀ (s : State) (d : Desc), d.opcode = 0x3001 → s.badTod d = none → (s.tstate ≠ 0 ∨ d.dw 12 % 8 ≠ s.tc) →
    Gives (.todSet d) s (EndsOnly d stStateRefused (refusedWord 0x68 0 (s.tstate + s.tc * 4)) s)) ∧
  (∀ (s : State) (d : Desc) (k : Nat), d.opcode = 0x3001 → s.badTod d = some k → Gives (.todSet d) s (EndsOnly d stBadArg k s)) ∧
  (∀ (s : State) (d : Desc) (u ns : Nat), d.opcode = 0x3002 → d.buf = true → 64 ≤ d.bufLen → u = (s.todOf s.stamp 0).toNat → ns = u / 65536 → Gives (.todRead d) s (EndsWriting d 0
      ([s.stamp % 2 ^ 32, s.stamp / 2 ^ 32, ns / 1000000000 % 2 ^ 48 % 2 ^ 32, ns / 1000000000 % 2 ^ 48 / 2 ^ 32 + u % 65536 * 65536, ns % 1000000000,
        s.fld F.TIM_SERVO_FREQ_Y 0, s.uncNow, s.tstate + s.fld F.TIM_STATUS_TOD_VALID 0 * 4 + s.fld F.TIM_STATUS_REF_STALE 0 * 8 + b2n s.todSpec * 16 +
          s.fld F.LTB_EPOCH_EPOCH 0 % 256 * 256 + s.tim.epoch * 65536] ++ List.replicate 8 0) s)) ∧
  (∀ (s : State) (d : Desc) (us : Nat) (e m i : Int), d.opcode = 0x3003 → us = d.dw 7 → 0 < us → us ≤ 16000000 → s.fld F.TIM_STATUS_SRC_USED 0 ≠ 0 →
    s.fld F.TIM_CFG_STEP_EN 0 = 0 → e = signed 32 (d.dw 5) * 65536 + bits (d.dw 6) 15 0 → m = s.servoMax →
    i = clampI (-m) m (s.timInt + servoTerm e us (s.fld F.TIM_SERVO_CFG_KI_SHIFT 0)) → Gives (.servoSample d) s (fun t =>
      Ends d stOk (t.fld F.TIM_SERVO_FREQ_Y 0) t ∧ t.fld F.TIM_SERVO_INT_INT 0 = unsigned 32 i ∧ t.fld F.TIM_SERVO_ERR_ERR 0 = nsWord e ∧
      t.fld F.TIM_SERVO_FREQ_Y 0 = unsigned 32 (clampI (-m) m (servoTerm e us (s.fld F.TIM_SERVO_CFG_KP_SHIFT 0) + i)) ∧
      t.tim = { s.phiBase.tim with sampleUs := us, sampleLc := s.ltb.lc } ∧
      t = { s with regs := t.regs, hif := { s.hif with flight := t.hif.flight }, lfg := t.lfg, tim := t.tim } ∧
      KeepsRegs s t (commitFlds ++ [F.TIM_SERVO_ERR_ERR, F.TIM_SERVO_INT_INT, F.TIM_SERVO_FREQ_Y, F.TIM_STATUS_SERVO_LIMIT]))) ∧
  (∀ (s : State) (d : Desc), d.opcode = 0x3003 → 0 < d.dw 7 → d.dw 7 ≤ 16000000 → s.fld F.TIM_STATUS_SRC_USED 0 = 0 →
    Gives (.servoSample d) s (EndsOnly d stStateRefused (refusedWord 0x69 0 0) s)) ∧
  (∀ (s : State) (d : Desc), d.opcode = 0x3003 → (d.dw 7 = 0 ∨ 16000000 < d.dw 7) → Gives (.servoSample d) s (EndsOnly d stBadArg 7 s)) ∧
  (∀ (s : State), s.fld F.TIM_STATUS_SLEWING 0 = 1 → s.phiBase.tim.slewLeft = 0 → Gives .todSlewDone s (fun t => t.fld F.TIM_STATUS_SLEWING 0 = 0 ∧
      t = { s with regs := t.regs, tim := s.phiBase.tim } ∧ KeepsRegs s t [F.TIM_STATUS_SLEWING])) ∧
  (∀ (s : State), s.fld F.TIM_STATUS_SRC_USED 0 ≠ 0 →
    s.tim.sampleLc + max 1 (s.fld F.TIM_SERVO_CFG_HOLD_SAMPLES 0) * usLc s.tim.sampleUs ≤ s.ltb.lc → Gives .servoFallback s (fun t =>
      t.fld F.TIM_SERVO_FREQ_Y 0 = s.fld F.TIM_SERVO_INT_INT 0 % 2 ^ 32 ∧ t.fld F.TIM_STATUS_SERVO_LIMIT 0 = 0 ∧
      t = { s with regs := t.regs, tim := s.phiBase.tim } ∧ KeepsRegs s t [F.TIM_SERVO_FREQ_Y, F.TIM_STATUS_SERVO_LIMIT])) ∧
  (∀ (s : State), (s.ppsCross = none ∨ s.ltb.sleep.isSome = true) → Gives .ppsEdge s (fun t => t = s)) ∧
  (∀ (s : State) (f : Nat), s.ppsCross = some f → s.ltb.sleep = none → s.ppsSquelch = true → Gives .ppsEdge s (fun t =>
      t.fld F.TIM_STATUS_PPS_SQUELCHED 0 = 1 ∧ (s.fld F.TIM_STATUS_PPS_SQUELCHED 0 = 1 → t = s) ∧ t = { s with regs := t.regs, hif := t.hif } ∧
      KeepsRegs s t (eventFlds ++ [F.TIM_STATUS_PPS_SQUELCHED]))) ∧
  (∀ (s : State) (f : Nat), s.ppsCross = some f → s.ltb.sleep = none → s.ppsSquelch = false → s.fld F.TIM_CFG_PPS_EN 0 = 1 →
    Gives .ppsEdge s (fun t => t.fld F.TIM_STATUS_PPS_SQUELCHED 0 = 0 ∧
      t.tim = { s.tim with pps := some (s.ltb.lc + usLc (max 1 (min 500000 (s.fld F.TIM_PPS_CFG_WIDTH_US 0))), f) } ∧
      t = { s with regs := t.regs, hif := t.hif, tim := t.tim } ∧ KeepsRegs s t (eventFlds ++ [F.TIM_STATUS_PPS_SQUELCHED]))) ∧
  (∀ (s : State) (k : Nat), s.armed k = false → Gives (.trigFired k) s (fun t => t = s)) ∧
  (∀ (s : State) (k : Nat) (x : Trig), x = s.trig k → s.armed k = true → x.period = 0 → x.next = 0 → 0 ≤ stampDiff s.stamp x.start → x.notify = false →
    s.tstate ≠ 2 → s.fld F.TIM_STATUS_TOD_VALID 0 ≠ 0 → Gives (.trigFired k) s (fun t =>
      t.fld F.TIM_TRIG_COUNT_FIRED k = min (s.fld F.TIM_TRIG_COUNT_FIRED k + 1) 0xFFFF ∧
      t.fld F.TIM_TRIG_STATUS_LATE k = b2n (decide (stampDiff s.stamp x.start ≠ 0)) ∧ t.fld F.TIM_TRIG_STATUS_HOLDOVER k = b2n s.trigFlag ∧
      t.fld F.TIM_TRIG_STATUS_ARMED k = 0 ∧ t.trig k = { x with next := 1, high := some (s.ltb.lc + x.width) } ∧ (∀ j, j ≠ k → t.trig j = s.trig j) ∧
      t = { s with regs := t.regs, tim := { s.tim with trigs := t.tim.trigs } } ∧
      KeepsRegs s t [F.TIM_TRIG_COUNT_FIRED, F.TIM_TRIG_STATUS_LATE, F.TIM_TRIG_STATUS_HOLDOVER, F.TIM_TRIG_STATUS_ARMED, F.TIM_STATUS_TRIG_ARMED,
        F.TIM_EVENT_TRIG_LATE, F.TIM_EVENT_EVCNT_TRIG_LATE])) ∧
  (∀ (s : State) (k : Nat) (x : Trig), x = s.trig k → s.armed k = true → x.period = 0 → x.next = 0 → 0 ≤ stampDiff s.stamp x.start →
    s.fld F.TIM_STATUS_TOD_VALID 0 = 0 → Gives (.trigFired k) s (fun t =>
      t.fld F.TIM_TRIG_COUNT_MISSED k = min (s.fld F.TIM_TRIG_COUNT_MISSED k + 1) 0xFFFF ∧ t.fld F.TIM_EVENT_TRIG_MISSED 0 = 1 ∧
      t.fld F.TIM_TRIG_STATUS_ARMED k = 0 ∧ t.trig k = { x with next := 1 } ∧
      t = { s with regs := t.regs, hif := t.hif, tim := { s.tim with trigs := t.tim.trigs } } ∧
      KeepsRegs s t (eventFlds ++ [F.TIM_TRIG_COUNT_MISSED, F.TIM_TRIG_STATUS_ARMED, F.TIM_STATUS_TRIG_ARMED, F.TIM_EVENT_TRIG_MISSED,
        F.TIM_EVENT_EVCNT_TRIG_MISSED]))) ∧
  (∀ (s : State) (d : Desc) (k start w p : Nat), d.opcode = 0x3004 → k = d.dw 5 % 8 → start = d.dw 6 + d.dw 7 * 2 ^ 32 → w = bits (d.dw 9) 23 0 → p = d.dw 10 →
    start % 2 ^ 18 ≤ 155519 → 0 < w → (p = 0 ∨ w < p) → (bit (d.dw 5) 31 = true → 64 ≤ stampDiff start s.stamp) → Gives (.trigSet d) s (fun t =>
      Ends d stOk 0 t ∧ t.fld F.TIM_TRIG_STATUS_ARMED k = b2n (bit (d.dw 5) 31) ∧
      (bit (d.dw 5) 31 = true → t.trig k = ⟨bit (d.dw 5) 30, bit (d.dw 5) 29, start, d.dw 8 % 16, w, p, d.dw 11, 0, (s.trig k).high⟩) ∧
      (bit (d.dw 5) 31 = false → t.trig k = s.trig k) ∧ (∀ j, j ≠ k → t.trig j = s.trig j) ∧
      t = { s with regs := t.regs, hif := { s.hif with flight := t.hif.flight }, lfg := t.lfg, tim := { s.tim with trigs := t.tim.trigs } } ∧
      KeepsRegs s t (commitFlds ++ [F.TIM_TRIG_STATUS_ARMED, F.TIM_STATUS_TRIG_ARMED]))) ∧
  (∀ (s : State) (d : Desc), d.opcode = 0x3004 → (155519 < (d.dw 6 + d.dw 7 * 2 ^ 32) % 2 ^ 18 ∨ bits (d.dw 9) 23 0 = 0) → Gives (.trigSet d) s (EndsOnly d stBadArg 6 s)) ∧
  (∀ (s : State) (e f : Nat), s.tim.pps = some (e, f) → Gives (.pulseWidthEnd 8) s (fun t =>
      t = { s with tim := { s.tim with pps := if e ≤ s.ltb.lc then none else some (e, f) } })) ∧
  (∀ (s : State) (w e : Nat), w ≠ 8 → (s.trig w).high = some e → e ≤ s.ltb.lc → Gives (.pulseWidthEnd w) s (fun t =>
      t.trig w = { s.trig w with high := none } ∧ (∀ j, j ≠ w → t.trig j = s.trig j) ∧ t = { s with tim := { s.tim with trigs := t.tim.trigs } })) ∧
  (∀ (s : State) (c ago fine : Nat) (rising : Bool), (bit (s.fld F.TIM_CAP_CFG_EDGE c) (if rising then 0 else 1) = false ∨ ago < 4) →
    Gives (.capture c rising ago fine) s (fun t => t = s)) ∧
  (∀ (s : State) (c ago fine st : Nat) (rising : Bool), bit (s.fld F.TIM_CAP_CFG_EDGE c) (if rising then 0 else 1) = true → 4 ≤ ago →
    s.ltb.sleep = none → SMap.find s.tim.caps c = none → s.fld F.TIM_CAP_CFG_NOTIFY c = 0 →
    st = stampAdd s.stamp (-ago) → Gives (.capture c rising ago fine) s (fun t =>
      t.fld F.TIM_CAP_STAMP_LO_STAMP c = st % 2 ^ 32 ∧ t.fld F.TIM_CAP_STAMP_HI_STAMP c = st / 2 ^ 32 % 2 ^ 32 ∧ t.fld F.TIM_CAP_INFO_FRACTION c = fine % 16 ∧
      t.fld F.TIM_CAP_INFO_RISING c = b2n rising ∧ t.fld F.TIM_CAP_INFO_VALID c = 1 ∧ t.fld F.TIM_CAP_INFO_TSTATE c = s.tstate % 4 ∧
      SMap.find t.tim.caps c = some ((s.ltb.lc : Int) - ago, 1) ∧ t = { s with regs := t.regs, tim := { s.tim with caps := t.tim.caps } } ∧
      KeepsAt s t c [F.TIM_CAP_STAMP_LO_STAMP, F.TIM_CAP_STAMP_HI_STAMP, F.TIM_CAP_INFO_FRACTION, F.TIM_CAP_INFO_TSTATE, F.TIM_CAP_INFO_RISING,
        F.TIM_CAP_INFO_VALID])) ∧
  (∀ (s : State) (c k ago fine : Nat) (rising : Bool) (l : Int), bit (s.fld F.TIM_CAP_CFG_EDGE c) (if rising then 0 else 1) = true → 4 ≤ ago →
    s.ltb.sleep = none → SMap.find s.tim.caps c = some (l, k) → (s.ltb.lc : Int) - ago - l < 8 → Gives (.capture c rising ago fine) s (fun t =>
      t.fld F.TIM_CAP_OVR_OVERRUN c = min (s.fld F.TIM_CAP_OVR_OVERRUN c + 1) 255 ∧ t.fld F.TIM_EVENT_CAP_OVERRUN 0 = 1 ∧
      OnlyRegs s t [F.TIM_CAP_OVR_OVERRUN, F.TIM_EVENT_CAP_OVERRUN, F.TIM_EVENT_EVCNT_CAP_OVERRUN]))

/-- R447 to R451, R454 to R457: Simmer's intervals, its entry and what aborts it, sampling, its commands and the head end's messages. -/
def Obligations.SimmerStates : Prop :=
  (∀ (s : State), s.simmer = 1 → Gives .holdIntervalEnd s (fun t => t.simmer = 2 ∧ t = { s with regs := t.regs, hif := t.hif, pwr := { s.pwr with since := s.ltb.lc, sinceTicks := s.sleepCount } } ∧ KeepsRegs s t simmerFlds)) ∧
  (∀ (s : State), s.simmer ≠ 1 → Gives .holdIntervalEnd s (fun t => t = s)) ∧
  (∀ (s : State) (mode : Nat), s.simmer = 2 → s.simmerChans ≠ [] → mode = deepestMode s.simmerModes → mode ≠ 0 → s.upIdle = true → s.pollUnits = none →
    Gives .simmerEntry s (fun t => t.simmer = 3 ∧ t.fld F.PWR_STATUS_MODE 0 = mode ∧
      (∀ c ∈ s.simmerChans, (t.ubeCh c).ploams = (s.ubeCh c).ploams ++ [.sleepRequest mode]) ∧ (∀ c, c ∉ s.simmerChans → t.ubeCh c = s.ubeCh c) ∧
      t = { s with regs := t.regs, hif := t.hif, ube := t.ube, pwr := { s.pwr with since := s.ltb.lc, sinceTicks := s.sleepCount } } ∧ KeepsRegs s t (F.PWR_STATUS_MODE :: simmerFlds))) ∧
  (∀ (s : State) (u r : Nat), s.simmer = 2 → s.simmerChans ≠ [] → deepestMode s.simmerModes ≠ 0 → s.upIdle = true → s.pollUnits = some (u, r) →
    Gives .simmerEntry s (fun t => t.fld F.PWR_LAST_REFUSE_UNIT 0 = u % 64 ∧ t.fld F.PWR_LAST_REFUSE_REASON 0 = r % 256 ∧
      t.fld F.PWR_LAST_REFUSE_ABORT 0 = 0 ∧ t.fld F.PWR_LAST_REFUSE_VALID 0 = 1 ∧ t.fld F.PWR_EVENT_REFUSED 0 = 1 ∧
      t = { s with regs := t.regs, hif := t.hif, dsf := { s.dsf with limits := t.dsf.limits }, pwr := { s.pwr with heldLc := s.ltb.lc } } ∧ KeepsRegs s t refuseFlds)) ∧
  (∀ (s : State), (s.simmer ≠ 2 ∨ s.upIdle = false) → Gives .simmerEntry s (fun t => t = s)) ∧
  (∀ (s : State) (c m : Nat), s.simmer = 3 → s.simmerMs (max 1 (s.fld F.PWR_SIMMER_CFG_ENTRY_MS 0)) = true → .sleepRequest m ∈ (s.ubeCh c).ploams → Gives (.entryTimeout c) s (fun t => t.simmer = 1 ∧
      t.fld F.PWR_STATUS_MODE 0 = 0 ∧ t.fld F.PWR_LAST_REFUSE_UNIT 0 = 5 ∧ t.fld F.PWR_LAST_REFUSE_REASON 0 = 1 ∧ t.fld F.PWR_LAST_REFUSE_ABORT 0 = 1 ∧
      (∀ k ∈ s.simmerChans, .awakeRequest ∈ (t.ubeCh k).ploams ∧ .sleepRequest m ∉ (t.ubeCh k).ploams) ∧
      t = { s with regs := t.regs, hif := t.hif, ube := t.ube, dsf := { s.dsf with limits := t.dsf.limits }, pwr := { s.pwr with since := s.ltb.lc, sinceTicks := s.sleepCount } } ∧
      KeepsRegs s t (F.PWR_STATUS_MODE :: (simmerFlds ++ refuseFlds)))) ∧
  (∀ (s : State) (c : Nat), (s.simmer ≠ 3 ∨ s.simmerMs (max 1 (s.fld F.PWR_SIMMER_CFG_ENTRY_MS 0)) = false) → Gives (.entryTimeout c) s (fun t => t = s)) ∧
  (∀ (s : State), (s.simmer = 4 ∨ s.simmer = 5) → s.simmerSleepMs (s.fld F.PWR_SIMMER_TIME_LOWPOWER_MS 0) = true → Gives .lowPowerEnd s (fun t => t.simmer = 8 ∧ t.fld F.PWR_WAKE_SRC_SRC 0 = 1 ∧
      (∀ n < 14, ∀ sl ∈ domSlices n, t.dom n sl = if s.dom n sl = 2 then 2 else 3) ∧
      t = { s with regs := t.regs, hif := t.hif, pwr := { s.pwr with dom := t.pwr.dom, wakeSrc := 1, since := s.ltb.lc, sinceTicks := s.sleepCount } } ∧ KeepsRegs s t (simmerFlds ++ wakeFlds))) ∧
  (∀ (s : State), ((s.simmer ≠ 4 ∧ s.simmer ≠ 5) ∨ s.simmerSleepMs (s.fld F.PWR_SIMMER_TIME_LOWPOWER_MS 0) = false) → Gives .lowPowerEnd s (fun t => t = s)) ∧
  (∀ (s : State), s.simmer = 8 → s.fld F.PWR_STATUS_DARK 0 = 0 → s.simmerMs (s.fld F.PWR_SIMMER_TIME_AWARE_MS 0) = true →
    (bit s.simmerModes (s.fld F.PWR_STATUS_MODE 0 - 1) = false ∨ s.upIdle = false) → Gives .awareEnd s (fun t =>
      t.simmer = 1 ∧ t.fld F.PWR_STATUS_MODE 0 = 0 ∧ t.fld F.PWR_WAKE_STAMP_LO_STAMP 0 = s.stamp % 2 ^ 32 ∧
      (∀ k ∈ s.simmerChans, .awakeRequest ∈ (t.ubeCh k).ploams) ∧ t = { s with regs := t.regs, hif := t.hif, ube := t.ube, pwr := { s.pwr with since := s.ltb.lc, sinceTicks := s.sleepCount } } ∧
      KeepsRegs s t ([F.PWR_STATUS_MODE, F.PWR_WAKE_STAMP_LO_STAMP, F.PWR_WAKE_STAMP_HI_STAMP] ++ simmerFlds))) ∧
  (∀ (s : State), s.simmer = 8 → s.fld F.PWR_STATUS_DARK 0 = 0 → s.simmerMs (s.fld F.PWR_SIMMER_TIME_AWARE_MS 0) = true →
    bit s.simmerModes (s.fld F.PWR_STATUS_MODE 0 - 1) = true → s.upIdle = true → s.pollUnits = none →
    Gives .awareEnd s (fun t => t.simmer = 3 ∧ (∀ c ∈ s.simmerChans, .sleepRequest (s.fld F.PWR_STATUS_MODE 0) ∈ (t.ubeCh c).ploams) ∧
      t = { s with regs := t.regs, hif := t.hif, ube := t.ube, pwr := { s.pwr with since := s.ltb.lc, sinceTicks := s.sleepCount } } ∧ KeepsRegs s t (F.PWR_STATUS_MODE :: simmerFlds))) ∧
  (∀ (s : State) (u r : Nat), s.simmer = 8 → s.fld F.PWR_STATUS_DARK 0 = 0 → s.simmerMs (s.fld F.PWR_SIMMER_TIME_AWARE_MS 0) = true →
    bit s.simmerModes (s.fld F.PWR_STATUS_MODE 0 - 1) = true → s.upIdle = true → s.pollUnits = some (u, r) → Gives .awareEnd s (fun t => t.simmer = 1 ∧
      t.fld F.PWR_STATUS_MODE 0 = 0 ∧ t.fld F.PWR_LAST_REFUSE_UNIT 0 = u % 64 ∧ t.fld F.PWR_LAST_REFUSE_REASON 0 = r % 256 ∧
      t = { s with regs := t.regs, hif := t.hif, ube := t.ube, dsf := { s.dsf with limits := t.dsf.limits },
                   pwr := { s.pwr with heldLc := s.ltb.lc, since := s.ltb.lc, sinceTicks := s.sleepCount } } ∧
      KeepsRegs s t ([F.PWR_STATUS_MODE, F.PWR_WAKE_STAMP_LO_STAMP, F.PWR_WAKE_STAMP_HI_STAMP] ++ simmerFlds ++ refuseFlds))) ∧
  (∀ (s : State), s.simmerMs (s.fld F.PWR_SIMMER_TIME_AWARE_MS 0) = false → Gives .awareEnd s (fun t => t = s)) ∧
  (∀ (s : State) (c : Nat), c = s.sampleChan → c < 8 → s.simmer = 6 → s.pwr.nextSample ≤ s.sleepCount → Gives .sample s (fun t => t.simmer = 7 ∧ t.dom (2 + c / 4) (c % 4) = 2 ∧
      t = { s with regs := t.regs, hif := t.hif, lln := { s.lln with rx := t.lln.rx }, pwr := { s.pwr with
        dom := t.pwr.dom, samples := s.pwr.samples + 1, nextSample := s.pwr.nextSample + s.samplePeriod, examined := 0, since := s.ltb.lc, sinceTicks := s.sleepCount } } ∧
      KeepsRegs s t ([F.LLN_RX_STATUS_STATE, F.LLN_RX_STATUS_CTLE] ++ tapFields ++ simmerFlds))) ∧
  (∀ (s : State), (s.simmer ≠ 6 ∨ s.sleepCount < s.pwr.nextSample) → Gives .sample s (fun t => t = s)) ∧
  (∀ (s : State) (forced : Bool) (ploams : List Nat), s.simmer = 7 → s.inSync s.sampleChan = true → (forced = true ∨ ploams ≠ []) →
    Gives (.sampleEnd forced ploams) s (fun t => t.simmer = 9 ∧ t.fld F.PWR_WAKE_SRC_SRC 0 = 2 ∧
      t = { s with regs := t.regs, hif := t.hif, pwr := { s.pwr with dom := t.pwr.dom, wakeSrc := 2, misses := 0, keptPloam := ploams.take 4, since := s.ltb.lc, sinceTicks := s.sleepCount } } ∧
      KeepsRegs s t (simmerFlds ++ wakeFlds))) ∧
  (∀ (s : State) (c : Nat), c = s.sampleChan → c < 8 → s.simmer = 7 → s.inSync c = true → s.dsf.held = [] → s.dsf.reasm = [] →
    max 1 (s.fld F.PWR_WATCH_CFG_SAMPLE_FRAMES 0) ≤ s.pwr.examined → Gives (.sampleEnd false []) s (fun t => t.simmer = 6 ∧
      t.dom (2 + c / 4) (c % 4) = 0 ∧ t.fld F.DSF_CH_STATUS_STATE c = 0 ∧ t.pwr.misses = 0 ∧
      t = { s with regs := t.regs, hif := t.hif, lln := t.lln, dsf := { s.dsf with chans := t.dsf.chans, losses := t.dsf.losses, bondOn := t.dsf.bondOn },
                   pwr := { s.pwr with dom := t.pwr.dom, misses := 0, since := s.ltb.lc, sinceTicks := s.sleepCount } } ∧ KeepsRegs s t (simmerFlds ++ sliceFlds))) ∧
  (∀ (s : State), (s.simmer ≠ 7 ∨ s.inSync s.sampleChan = false ∨ s.pwr.examined < max 1 (s.fld F.PWR_WATCH_CFG_SAMPLE_FRAMES 0)) →
    Gives (.sampleEnd false []) s (fun t => t = s)) ∧
  (∀ (s : State), s.simmer = 7 → s.inSync s.sampleChan = false → s.simmerMs 1 = true → max 1 (s.fld F.PWR_WATCH_CFG_MISS_WAKE 0) ≤ s.pwr.misses + 1 →
    Gives .sampleTimeout s (fun t => t.simmer = 9 ∧ t.fld F.PWR_WAKE_SRC_SRC 0 = 7 ∧ t.fld F.PWR_EVENT_SAMPLE_MISS 0 = 1 ∧
      t = { s with regs := t.regs, hif := t.hif, pwr := { s.pwr with dom := t.pwr.dom, wakeSrc := 7, misses := s.pwr.misses + 1, since := s.ltb.lc, sinceTicks := s.sleepCount } } ∧
      KeepsRegs s t ([F.PWR_EVENT_SAMPLE_MISS, F.PWR_EVENT_EVCNT_SAMPLE_MISS] ++ simmerFlds ++ wakeFlds))) ∧
  (∀ (s : State), s.simmer = 7 → s.inSync s.sampleChan = false → s.simmerMs 1 = true → s.sampleChan < 8 → s.pwr.misses + 1 < max 1 (s.fld F.PWR_WATCH_CFG_MISS_WAKE 0) →
    Gives .sampleTimeout s (fun t => t.simmer = 6 ∧ t.pwr.misses = s.pwr.misses + 1 ∧ t.fld F.PWR_EVENT_SAMPLE_MISS 0 = 1 ∧
      t = { s with regs := t.regs, hif := t.hif, lln := t.lln, dsf := { s.dsf with chans := t.dsf.chans },
                   pwr := { s.pwr with dom := t.pwr.dom, misses := s.pwr.misses + 1, since := s.ltb.lc, sinceTicks := s.sleepCount } } ∧
      KeepsRegs s t ([F.PWR_EVENT_SAMPLE_MISS, F.PWR_EVENT_EVCNT_SAMPLE_MISS] ++ simmerFlds ++ sliceFlds))) ∧
  (∀ (s : State) (d : Desc), d.opcode = 0x3C01 → s.simmer ≠ 3 → s.lowPower = false → Gives (.simmerWake d) s (EndsOnly d stStateRefused (refusedWord 0x78 0 s.simmer) s)) ∧
  (∀ (s : State) (d : Desc), d.opcode = 0x3C01 → s.lowPower = true → Gives (.simmerWake d) s (fun t => t.simmer = 9 ∧ t.fld F.PWR_WAKE_SRC_SRC 0 = 6 ∧
      t = { s with regs := t.regs, hif := t.hif, pwr := { s.pwr with dom := t.pwr.dom, wakeSrc := 6, waiters := s.pwr.waiters ++ [d], since := s.ltb.lc, sinceTicks := s.sleepCount } } ∧
      KeepsRegs s t (simmerFlds ++ wakeFlds))) ∧
  (∀ (s : State) (d : Desc), d.opcode = 0x3C01 → s.simmer = 3 → Gives (.simmerWake d) s (fun t => Ends d stOk 1 t ∧ t.simmer = 1 ∧ t.fld F.PWR_STATUS_MODE 0 = 0 ∧
      t.fld F.PWR_LAST_REFUSE_REASON 0 = 6 ∧ t.fld F.PWR_LAST_REFUSE_ABORT 0 = 1 ∧
      t = { s with regs := t.regs, hif := t.hif, lfg := t.lfg, ube := t.ube, dsf := { s.dsf with limits := t.dsf.limits }, pwr := { s.pwr with since := s.ltb.lc, sinceTicks := s.sleepCount } } ∧
      KeepsRegs s t (F.PWR_STATUS_MODE :: (simmerFlds ++ refuseFlds)))) ∧
  (∀ (s : State) (d : Desc), d.opcode = 0x3C02 → bit (d.dw 5) 0 = true → Gives (.simmerHold d) s (fun t => Ends d stOk (s.fld F.PWR_STATUS_HOLD 0) t ∧ t.fld F.PWR_STATUS_HOLD 0 = 1 ∧
      t = { s with regs := t.regs, hif := { s.hif with flight := t.hif.flight }, lfg := t.lfg } ∧ KeepsRegs s t (F.PWR_STATUS_HOLD :: commitFlds))) ∧
  (∀ (s : State) (d : Desc), d.opcode = 0x3C02 → bit (d.dw 5) 0 = false → Gives (.simmerRelease d) s (fun t => Ends d stOk (s.fld F.PWR_STATUS_HOLD 0) t ∧
      t.fld F.PWR_STATUS_HOLD 0 = 0 ∧ t = { s with regs := t.regs, hif := { s.hif with flight := t.hif.flight }, lfg := t.lfg } ∧
      KeepsRegs s t (F.PWR_STATUS_HOLD :: commitFlds))) ∧
  (∀ (s : State) (d : Desc), d.opcode = 0x3C03 → d.buf = true → 64 ≤ d.bufLen → Gives (.pwrQuery d) s (EndsWriting d 0
    ([s.peek 0xF00010, s.peek 0xF0002C, s.peek 0xF0001C, s.peek 0xF00020, s.peek 0xF00024, s.peek 0xF00028, s.peek 0xF00030, s.peek 0xF00034,
      s.peek 0xF00038, s.peek 0xF0003C, s.peek 0xF00040] ++ [0, 0, 0, 0, 0]) s)) ∧
  (∀ (s : State) (c : Nat) (msg : PowerMsg) (m : Ploam), (5 ≤ s.simmer ∧ s.simmer ≤ 7) ∨ s.fld F.PWR_STATUS_RX_DARK 0 = 1 →
    Gives (.headEndPowerMessage c msg m) s (fun t => t = s)) ∧
  (∀ (s : State) (c modes : Nat) (m : Ploam), s.simmer < 5 → s.fld F.PWR_STATUS_RX_DARK 0 ≠ 1 → s.fld F.PWR_STATUS_MODE 0 = 0 →
    s.fld (engRunning 0) 0 ≠ 0 → m.mic = true → m.lost = false → s.addressed c m.dest = true → Gives (.headEndPowerMessage c (.permit modes) m) s (fun t => SMap.get t.pwr.allow c 0 = modes % 8 ∧
      (∀ k, k ≠ c → SMap.get t.pwr.allow k 0 = SMap.get s.pwr.allow k 0) ∧ t = { s with pwr := { s.pwr with allow := t.pwr.allow } })) ∧
  (∀ (s : State) (lp aw : Nat) (m : Ploam), s.simmer < 5 → s.fld F.PWR_STATUS_RX_DARK 0 ≠ 1 → s.fld (engRunning 0) 0 ≠ 0 → m.mic = true → m.lost = false → s.addressed s.tc m.dest = true → 
    Gives (.headEndPowerMessage s.tc (.intervals lp aw) m) s (fun t =>
      t.fld F.PWR_SIMMER_TIME_LOWPOWER_MS 0 = lp % 2 ^ 16 ∧ t.fld F.PWR_SIMMER_TIME_AWARE_MS 0 = aw % 2 ^ 16 ∧
      OnlyRegs s t [F.PWR_SIMMER_TIME_LOWPOWER_MS, F.PWR_SIMMER_TIME_AWARE_MS])) ∧
  (∀ (s : State) (c : Nat) (m : Ploam), s.simmer = 4 → s.fld F.PWR_STATUS_RX_DARK 0 ≠ 1 → s.fld (engRunning 0) 0 ≠ 0 → m.mic = true → m.lost = false → s.addressed c m.dest = true →
    Gives (.headEndPowerMessage c .wake m) s (fun t => t.simmer = 9 ∧ t.fld F.PWR_WAKE_SRC_SRC 0 = 3 ∧
      t = { s with regs := t.regs, hif := t.hif, pwr := { s.pwr with dom := t.pwr.dom, wakeSrc := 3, since := s.ltb.lc, sinceTicks := s.sleepCount } } ∧ KeepsRegs s t (simmerFlds ++ wakeFlds)))

/-- R38 to R40, R441 to R443, R449, R450, R452, R456: the dark interval, idle domains, and what a wake does to the time and the domains. -/
def Obligations.DarkAndWaking : Prop :=
  (∀ (s : State), s.fld F.PWR_DOM_CFG_MODE 11 = 1 → s.fld F.PWR_DOM_CFG_DEPTH 11 = 0 → s.dom 11 0 = 2 → s.domIdle 11 0 = true → s.idleDue 11 0 = true → s.lowPower = false →
    s.simmer ≠ 9 → s.fld F.PWR_STATUS_DARK 0 = 0 → Gives (.domainPowerDown 11 0) s (fun t => t.dom 11 0 = 1 ∧
      (∀ n sl, 8 * n + sl ≠ 88 → t.dom n sl = s.dom n sl) ∧ t = { s with pwr := { s.pwr with dom := t.pwr.dom } })) ∧
  (∀ (s : State), s.fld F.PWR_DOM_CFG_MODE 12 = 1 → s.fld F.PWR_DOM_CFG_DEPTH 12 = 1 → s.dom 12 0 = 2 → s.domIdle 12 0 = true → s.idleDue 12 0 = true → s.lowPower = false →
    s.simmer ≠ 9 → s.fld F.PWR_STATUS_DARK 0 = 0 → Gives (.domainPowerDown 12 0) s (fun t => t.dom 12 0 = 0 ∧ t.fld F.TIM_STATUS_TOD_VALID 0 = 0 ∧
      t.fld F.TIM_STATUS_REF_STALE 0 = 1 ∧ t.fld F.TIM_UNC_UNC 0 = 2 ^ 32 - 1 ∧ t.tim.trigs = [] ∧ t.tim.caps = [] ∧ t.tim.held = false ∧
      t = { s with regs := t.regs, tim := t.tim, pwr := { s.pwr with dom := t.pwr.dom } } ∧
      KeepsRegs s t [F.TIM_STATUS_TOD_VALID, F.TIM_STATUS_REF_STALE, F.TIM_STATUS_SLEWING, F.TIM_STATUS_TRIG_ARMED, F.TIM_STATUS_SRC_USED,
        F.TIM_STATUS_SERVO_LIMIT, F.TIM_UNC_UNC, F.TIM_SERVO_INT_INT, F.TIM_SERVO_FREQ_Y, F.TIM_TRIG_STATUS_ARMED, F.TIM_CAP_INFO_VALID])) ∧
  (∀ (s : State) (n sl : Nat), (s.fld F.PWR_DOM_CFG_MODE n ≠ 1 ∨ s.domIdle n sl = false ∨ s.idleDue n sl = false) → Gives (.domainPowerDown n sl) s (fun t => t = s)) ∧
  (∀ (s : State), (s.entryQuiet = false ∨ s.guardPast = false) → Gives .darkGuardEnd s (fun t => t = s)) ∧
  (∀ (s : State), s.entryQuiet = true → s.guardPast = true → s.fld F.PWR_STATUS_MODE 0 = 1 →
    Gives .darkGuardEnd s (fun t => t.simmer = 4 ∧ t.fld F.PWR_STATUS_DARK 0 = 1 ∧ t.fld F.WHS_STATUS_DARK 0 = 1 ∧
      (∀ c < 8, t.dom (4 + c / 4) (c % 4) = 0 ∧ t.txState c = 0) ∧
      t = { s with regs := t.regs, hif := t.hif, ube := t.ube, lln := t.lln, pwr := { s.pwr with dom := t.pwr.dom, since := s.ltb.lc, sinceTicks := s.sleepCount },
                   whs := { s.whs with darkFrom := s.sleepCount } } ∧
      KeepsRegs s t ([F.PWR_STATUS_DARK, F.WHS_STATUS_DARK, F.LLN_TX_STATUS_STATE, F.LLN_TX_STATUS_PLL_LOCK, F.LLN_RX_STATUS_STATE] ++ applyFlds ++ simmerFlds))) ∧
  (∀ (s : State), s.entryQuiet = true → s.guardPast = true → s.fld F.PWR_STATUS_MODE 0 = 2 → Gives .darkGuardEnd s (fun t =>
      t.simmer = 5 ∧ t.fld F.PWR_STATUS_DARK 0 = 1 ∧ t.fld F.PWR_STATUS_RX_DARK 0 = 1 ∧
      t.ltb = { s.ltb with sleep := some ⟨s.stamp, s.ltb.sfc, s.tstate, s.sleepCount, s.ltb.extSrc, [], 0, false⟩ } ∧
      (∀ c < 8, t.dom (2 + c / 4) (c % 4) = 0 ∧ t.dom (4 + c / 4) (c % 4) = 0) ∧ (∀ n ∈ [1, 6, 7, 8, 11, 13], t.dom n 0 = 1) ∧ t.dom 9 0 = 0 ∧
      (∀ n < 4, t.chSt n = if s.chSt n = 2 then 5 else s.chSt n))) ∧
  (∀ (s : State) (arr : Option (Nat × Nat)) (mf : List Nat) (qf : Bool) (ks : List (Nat × KeyFetch)), s.simmer ≠ 9 →
    (s.simmer ≠ 8 ∨ s.fld F.PWR_STATUS_DARK 0 = 0) → Gives (.waking arr mf qf ks) s (fun t => t = s)) ∧
  (∀ (s : State) (arr : Option (Nat × Nat)) (mf : List Nat) (qf : Bool) (ks : List (Nat × KeyFetch)), s.simmer = 9 → s.ltb.sleep = none →
    Gives (.waking arr mf qf ks) s (fun t => (∀ n < 14, ∀ sl ∈ domSlices n, t.dom n sl = 2) ∧ t.fld F.PWR_STATUS_RX_DARK 0 = 0 ∧ t.simmer = 9 ∧
      t.ltb = s.ltb ∧ t.tstate = s.tstate)) ∧
  (∀ (s : State) (r : SleepRec), s.simmer = 9 → s.ltb.sleep = some r → r.lost = false → Gives (.waking none [] false []) s (fun t =>
      t.stamp = stampAdd r.stamp (sleepElapsed (segTicks false (s.segsOf r)) (segTicks true (s.segsOf r)) s.trimInt s.trimExt + r.extStops * 124416) ∧
      t.tstate = 1 ∧ t.ltb.sleep = none ∧ t.fld F.LTB_WAKE_INFO_BASIS 0 = 1 ∧ t.fld F.LTB_WAKE_INFO_UNC 0 = min (s.sleepUnc r) 0xFFFFFF ∧
      t.fld F.LTB_EPOCH_CAUSE 0 = 4)) ∧
  (∀ (s : State) (r : SleepRec) (f : Nat), s.simmer = 9 → s.ltb.sleep = some r → r.lost = false → s.eligible s.tc = true →
    Gives (.waking (some (s.tc, f)) [] false []) s (fun t => t.stamp = stampAdd (stampOf f 0) s.ltb.anchor ∧ t.tstate = 0 ∧ t.ltb.sleep = none ∧
      t.fld F.LTB_WAKE_INFO_BASIS 0 = 0 ∧ t.fld F.LTB_EPOCH_CAUSE 0 = 4)) ∧
  (∀ (s : State) (r : SleepRec) (arr : Option (Nat × Nat)), s.simmer = 9 → s.ltb.sleep = some r → r.lost = true →
    Gives (.waking arr [] false []) s (fun t => t.stamp = r.stamp ∧ t.tstate = 2 ∧ t.ltb.sleep = none ∧ t.fld F.LTB_WAKE_INFO_BASIS 0 = 2)) ∧
  (∀ (s : State), s.fld F.PWR_STATUS_DARK 0 = 1 → s.allOn = true → s.txReady = true → s.simmer = 8 → Gives .wakeComplete s (fun t =>
      t.fld F.PWR_STATUS_DARK 0 = 0 ∧ t.fld F.WHS_STATUS_DARK 0 = 0 ∧ t.fld F.WHS_WAKE_INFO_VALID 0 = 1 ∧
      t.fld F.WHS_WAKE_INFO_DARK_MS 0 = min ((s.sleepCount - s.whs.darkFrom) * 1000 / 32768) 0xFFFFFF ∧
      t.fld F.WHS_WAKE_INFO_CAUSE 0 = (if s.pwr.wakeSrc = 8 then 2 else 1) ∧ t = { s with regs := t.regs, ube := t.ube } ∧
      KeepsRegs s t ([F.PWR_STATUS_DARK, F.WHS_STATUS_DARK, F.WHS_WAKE_INFO_VALID, F.WHS_WAKE_INFO_CAUSE, F.WHS_WAKE_INFO_DARK_MS] ++ applyFlds))) ∧
  (∀ (s : State) (d : Desc), s.fld F.PWR_STATUS_DARK 0 = 1 → s.allOn = true → s.txReady = true → s.simmer = 9 → s.pwr.waiters = [d] →
    s.fld F.PWR_SIMMER_CFG_EN 0 = 1 → s.simmerChans ≠ [] → Gives .wakeComplete s (fun t => Ends d stOk 1 t ∧ t.simmer = 1 ∧
      t.fld F.PWR_STATUS_MODE 0 = 0 ∧ t.fld F.PWR_STATUS_DARK 0 = 0 ∧ t.fld F.PWR_WAKE_STAMP_LO_STAMP 0 = s.stamp % 2 ^ 32 ∧
      t = { s with regs := t.regs, hif := t.hif, lfg := t.lfg, ube := t.ube, pwr := { s.pwr with waiters := [], keptPloam := [], since := s.ltb.lc, sinceTicks := s.sleepCount } })) ∧
  (∀ (s : State), (s.fld F.PWR_STATUS_DARK 0 = 0 ∨ s.lowPower = true ∨ s.allOn = false) → Gives .wakeComplete s (fun t => t = s))
end

