-- ==== Sys2Proof/Laws/SMap.lean ====
section
/-!
SUPPORT. Sys2Proof/Laws/SMap.lean: sparse storage read after write, and its canonical form under every operation.
-/
namespace Sys2Proof.Machine

theorem SMap.find_insert_same {α : Type} (m : SMap α) (n : Nat) (a : α) : SMap.find (SMap.insert m n a) n = some a := by
  induction m with
  | nil => simp [SMap.insert, SMap.find]
  | cons p t ih =>
    obtain ⟨k, v⟩ := p
    simp only [SMap.insert]
    split_ifs with h1 h2
    · simp [SMap.find]
    · simp [SMap.find]
    · simp [SMap.find, ih, Ne.symm h2]

theorem SMap.find_insert_ne {α : Type} (m : SMap α) {n k : Nat} (a : α) (h : n ≠ k) :
    SMap.find (SMap.insert m n a) k = SMap.find m k := by
  induction m with
  | nil => simp [SMap.insert, SMap.find, h]
  | cons p t ih =>
    obtain ⟨j, v⟩ := p
    simp only [SMap.insert]
    split_ifs with h1 h2
    · simp [SMap.find, h]
    · subst h2; simp [SMap.find, h]
    · simp [SMap.find, ih]

theorem SMap.find_erase_same {α : Type} (m : SMap α) (n : Nat) : SMap.find (SMap.erase m n) n = none := by
  induction m with
  | nil => rfl
  | cons p t ih =>
    obtain ⟨j, v⟩ := p
    simp only [SMap.erase]
    split_ifs with h
    · exact ih
    · simp [SMap.find, h, ih]

theorem SMap.find_erase_ne {α : Type} (m : SMap α) {n k : Nat} (h : n ≠ k) : SMap.find (SMap.erase m n) k = SMap.find m k := by
  induction m with
  | nil => rfl
  | cons p t ih =>
    obtain ⟨j, v⟩ := p
    simp only [SMap.erase]
    split_ifs with hj
    · subst hj; simp [SMap.find, h, ih]
    · simp [SMap.find, ih]

/-- What was written is read. -/
theorem SMap.get_put_same {α : Type} [DecidableEq α] (m : SMap α) (n : Nat) (a d : α) : SMap.get (SMap.put m n a d) n d = a := by
  unfold SMap.get SMap.put
  split_ifs with h
  · simp [SMap.find_erase_same, h]
  · simp [SMap.find_insert_same]

/-- A write leaves every other number alone. -/
theorem SMap.get_put_ne {α : Type} [DecidableEq α] (m : SMap α) {n k : Nat} (a d e : α) (h : n ≠ k) :
    SMap.get (SMap.put m n a d) k e = SMap.get m k e := by
  unfold SMap.get SMap.put
  split_ifs
  · rw [SMap.find_erase_ne m h]
  · rw [SMap.find_insert_ne m a h]

theorem SMap.mem_insert {α : Type} (m : SMap α) (n : Nat) (a : α) (p : Nat × α) (h : p ∈ SMap.insert m n a) : p = (n, a) ∨ p ∈ m := by
  induction m with
  | nil => simpa [SMap.insert] using h
  | cons q t ih =>
    obtain ⟨k, v⟩ := q
    simp only [SMap.insert] at h
    split_ifs at h with h1 h2
    · simpa using h
    · rcases List.mem_cons.1 h with h | h
      · exact Or.inl h
      · exact Or.inr (List.mem_cons_of_mem _ h)
    · rcases List.mem_cons.1 h with h | h
      · exact Or.inr (by simp [h])
      · rcases ih h with h | h
        · exact Or.inl h
        · exact Or.inr (List.mem_cons_of_mem _ h)

theorem SMap.mem_erase {α : Type} (m : SMap α) (n : Nat) (p : Nat × α) (h : p ∈ SMap.erase m n) : p ∈ m := by
  induction m with
  | nil => simp [SMap.erase] at h
  | cons q t ih =>
    obtain ⟨k, v⟩ := q
    simp only [SMap.erase] at h
    split_ifs at h
    · exact List.mem_cons_of_mem _ (ih h)
    · rcases List.mem_cons.1 h with h | h
      · simp [h]
      · exact List.mem_cons_of_mem _ (ih h)

theorem SMap.wf_insert {α : Type} (m : SMap α) (n : Nat) (a : α) (h : SMap.wf m = true) : SMap.wf (SMap.insert m n a) = true := by
  simp only [SMap.wf, decide_eq_true_eq] at *
  induction m with
  | nil => simp [SMap.insert]
  | cons q t ih =>
    obtain ⟨k, v⟩ := q
    rw [List.pairwise_cons] at h
    simp only [SMap.insert]
    split_ifs with h1 h2
    · rw [List.pairwise_cons, List.pairwise_cons]
      refine ⟨fun b hb => ?_, h⟩
      rcases List.mem_cons.1 hb with hb | hb
      · simp [hb, h1]
      · exact lt_trans h1 (h.1 b hb)
    · subst h2
      exact List.pairwise_cons.2 h
    · refine List.pairwise_cons.2 ⟨fun b hb => ?_, ih h.2⟩
      rcases SMap.mem_insert t n a b hb with hb | hb
      · simp only [hb]; omega
      · exact h.1 b hb

theorem SMap.wf_erase {α : Type} (m : SMap α) (n : Nat) (h : SMap.wf m = true) : SMap.wf (SMap.erase m n) = true := by
  simp only [SMap.wf, decide_eq_true_eq] at *
  induction m with
  | nil => simp [SMap.erase]
  | cons q t ih =>
    obtain ⟨k, v⟩ := q
    rw [List.pairwise_cons] at h
    simp only [SMap.erase]
    split_ifs
    · exact ih h.2
    · exact List.pairwise_cons.2 ⟨fun b hb => h.1 b (SMap.mem_erase t n b hb), ih h.2⟩

/-- Every write keeps the canonical form. -/
theorem SMap.wf_put {α : Type} [DecidableEq α] (m : SMap α) (n : Nat) (a d : α) (h : SMap.wf m = true) : SMap.wf (SMap.put m n a d) = true := by
  unfold SMap.put
  split_ifs
  · exact SMap.wf_erase m n h
  · exact SMap.wf_insert m n a h

/-- `put` lists no entry at the default, where none was listed before: with `wf_put`, equal contents are equal data. -/
theorem SMap.put_no_default {α : Type} [DecidableEq α] (m : SMap α) (n : Nat) (a d : α) (h : ∀ p ∈ m, p.2 ≠ d) :
    ∀ p ∈ SMap.put m n a d, p.2 ≠ d := by
  intro p hp
  unfold SMap.put at hp
  split at hp
  · exact h p (SMap.mem_erase m n p hp)
  · rcases SMap.mem_insert m n a p hp with rfl | hm
    · assumption
    · exact h p hm

end Sys2Proof.Machine
end

