-- ==== Sys2Proof/Laws/Regs.lean ====
section
/-!
SUPPORT. Sys2Proof/Laws/Regs.lean: register fields read after write (R10, R15).
-/
namespace Sys2Proof.Machine

/-- A field reads what hardware wrote to it, within its width. -/
@[simp] theorem State.fld_setFld_same (s : State) (f : Fld) (i v : Nat) : (s.setFld f i v).fld f i = v % 2 ^ f.width := by
  simp [State.fld, State.setFld, SMap.get_put_same]

/-- A write of a field leaves every other field, and every other instance of it, alone. -/
theorem State.fld_setFld_ne (s : State) (f g : Fld) (i j v : Nat) (h : f.id ≠ g.id ∨ i ≠ j) : (s.setFld f i v).fld g j = s.fld g j := by
  simp only [State.fld, State.setFld]
  by_cases hf : f.id = g.id
  · have hij : i ≠ j := h.resolve_left (fun k => k hf)
    rw [← hf, SMap.get_put_same, SMap.get_put_ne _ _ _ _ hij]
  · rw [SMap.get_put_ne _ _ _ _ hf]

@[simp] theorem State.fld_setFld_id (s : State) (f g : Fld) (i j v : Nat) (h : f.id ≠ g.id) : (s.setFld f i v).fld g j = s.fld g j :=
  State.fld_setFld_ne s f g i j v (Or.inl h)

/-- A status bit that hardware sets reads 1, and its event count has advanced (R15). -/
theorem State.raise_bit (s : State) (ev cnt : Fld) (i : Nat) (h : cnt.id ≠ ev.id) : (s.raise ev cnt i).fld ev i = 1 % 2 ^ ev.width := by
  rw [State.raise, State.fld_setFld_id _ _ _ _ _ _ h, State.fld_setFld_same]

theorem State.raise_count (s : State) (ev cnt : Fld) (i : Nat) : (s.raise ev cnt i).fld cnt i = (s.fld cnt i + 1) % 2 ^ cnt.width := by
  rw [State.raise, State.fld_setFld_same]

theorem State.fld_raise_ne (s : State) (ev cnt g : Fld) (i j : Nat) (h1 : ev.id ≠ g.id) (h2 : cnt.id ≠ g.id) :
    (s.raise ev cnt i).fld g j = s.fld g j := by
  rw [State.raise, State.fld_setFld_id _ _ _ _ _ _ h2, State.fld_setFld_id _ _ _ _ _ _ h1]

end Sys2Proof.Machine
end

