-- ==== Sys2Proof/Laws/State.lean ====
section
/-!
SUPPORT. Sys2Proof/Laws/State.lean: what the shared operations leave unchanged, one lemma per part of the state, and what a committed record is.
-/
namespace Sys2Proof.Machine

@[simp] theorem State.setFld_freeCount (s : State) (f : Fld) (i v : Nat) : (s.setFld f i v).freeCount = s.freeCount := rfl
@[simp] theorem State.setFld_pending (s : State) (f : Fld) (i v : Nat) : (s.setFld f i v).pending = s.pending := rfl
@[simp] theorem State.setFld_hif (s : State) (f : Fld) (i v : Nat) : (s.setFld f i v).hif = s.hif := rfl
@[simp] theorem State.setFld_lfg (s : State) (f : Fld) (i v : Nat) : (s.setFld f i v).lfg = s.lfg := rfl
@[simp] theorem State.setFld_ltb (s : State) (f : Fld) (i v : Nat) : (s.setFld f i v).ltb = s.ltb := rfl
@[simp] theorem State.setFld_pwr (s : State) (f : Fld) (i v : Nat) : (s.setFld f i v).pwr = s.pwr := rfl
@[simp] theorem State.setFld_dsf (s : State) (f : Fld) (i v : Nat) : (s.setFld f i v).dsf = s.dsf := rfl
@[simp] theorem State.setFld_act (s : State) (f : Fld) (i v : Nat) : (s.setFld f i v).act = s.act := rfl
@[simp] theorem State.setFld_ube (s : State) (f : Fld) (i v : Nat) : (s.setFld f i v).ube = s.ube := rfl
@[simp] theorem State.setFld_whs (s : State) (f : Fld) (i v : Nat) : (s.setFld f i v).whs = s.whs := rfl
@[simp] theorem State.setFld_lln (s : State) (f : Fld) (i v : Nat) : (s.setFld f i v).lln = s.lln := rfl
@[simp] theorem State.setFld_cdy (s : State) (f : Fld) (i v : Nat) : (s.setFld f i v).cdy = s.cdy := rfl
@[simp] theorem State.setFld_cph (s : State) (f : Fld) (i v : Nat) : (s.setFld f i v).cph = s.cph := rfl
@[simp] theorem State.setFld_prt (s : State) (f : Fld) (i v : Nat) : (s.setFld f i v).prt = s.prt := rfl
@[simp] theorem State.setFld_str (s : State) (f : Fld) (i v : Nat) : (s.setFld f i v).str = s.str := rfl
@[simp] theorem State.setFld_tbl (s : State) (f : Fld) (i v : Nat) : (s.setFld f i v).tbl = s.tbl := rfl
@[simp] theorem State.setFld_tmg (s : State) (f : Fld) (i v : Nat) : (s.setFld f i v).tmg = s.tmg := rfl
@[simp] theorem State.setFld_mem (s : State) (f : Fld) (i v : Nat) : (s.setFld f i v).mem = s.mem := rfl
@[simp] theorem State.setFld_hpm (s : State) (f : Fld) (i v : Nat) : (s.setFld f i v).hpm = s.hpm := rfl
@[simp] theorem State.setFld_tim (s : State) (f : Fld) (i v : Nat) : (s.setFld f i v).tim = s.tim := rfl
@[simp] theorem State.setFld_inf (s : State) (f : Fld) (i v : Nat) : (s.setFld f i v).inf = s.inf := rfl
@[simp] theorem State.setFld_pins (s : State) (f : Fld) (i v : Nat) : (s.setFld f i v).pins = s.pins := rfl

@[simp] theorem State.raise_freeCount (s : State) (ev cnt : Fld) (i : Nat) : (s.raise ev cnt i).freeCount = s.freeCount := by
  rw [State.raise, State.setFld_freeCount, State.setFld_freeCount]
@[simp] theorem State.raise_pending (s : State) (ev cnt : Fld) (i : Nat) : (s.raise ev cnt i).pending = s.pending := by
  rw [State.raise, State.setFld_pending, State.setFld_pending]
@[simp] theorem State.raise_hif (s : State) (ev cnt : Fld) (i : Nat) : (s.raise ev cnt i).hif = s.hif := by
  rw [State.raise, State.setFld_hif, State.setFld_hif]
@[simp] theorem State.raise_lfg (s : State) (ev cnt : Fld) (i : Nat) : (s.raise ev cnt i).lfg = s.lfg := by
  rw [State.raise, State.setFld_lfg, State.setFld_lfg]
@[simp] theorem State.raise_ltb (s : State) (ev cnt : Fld) (i : Nat) : (s.raise ev cnt i).ltb = s.ltb := by
  rw [State.raise, State.setFld_ltb, State.setFld_ltb]
@[simp] theorem State.raise_pwr (s : State) (ev cnt : Fld) (i : Nat) : (s.raise ev cnt i).pwr = s.pwr := by
  rw [State.raise, State.setFld_pwr, State.setFld_pwr]
@[simp] theorem State.raise_dsf (s : State) (ev cnt : Fld) (i : Nat) : (s.raise ev cnt i).dsf = s.dsf := by
  rw [State.raise, State.setFld_dsf, State.setFld_dsf]
@[simp] theorem State.raise_act (s : State) (ev cnt : Fld) (i : Nat) : (s.raise ev cnt i).act = s.act := by
  rw [State.raise, State.setFld_act, State.setFld_act]
@[simp] theorem State.raise_ube (s : State) (ev cnt : Fld) (i : Nat) : (s.raise ev cnt i).ube = s.ube := by
  rw [State.raise, State.setFld_ube, State.setFld_ube]
@[simp] theorem State.raise_whs (s : State) (ev cnt : Fld) (i : Nat) : (s.raise ev cnt i).whs = s.whs := by
  rw [State.raise, State.setFld_whs, State.setFld_whs]
@[simp] theorem State.raise_lln (s : State) (ev cnt : Fld) (i : Nat) : (s.raise ev cnt i).lln = s.lln := by
  rw [State.raise, State.setFld_lln, State.setFld_lln]
@[simp] theorem State.raise_cdy (s : State) (ev cnt : Fld) (i : Nat) : (s.raise ev cnt i).cdy = s.cdy := by
  rw [State.raise, State.setFld_cdy, State.setFld_cdy]
@[simp] theorem State.raise_cph (s : State) (ev cnt : Fld) (i : Nat) : (s.raise ev cnt i).cph = s.cph := by
  rw [State.raise, State.setFld_cph, State.setFld_cph]
@[simp] theorem State.raise_prt (s : State) (ev cnt : Fld) (i : Nat) : (s.raise ev cnt i).prt = s.prt := by
  rw [State.raise, State.setFld_prt, State.setFld_prt]
@[simp] theorem State.raise_str (s : State) (ev cnt : Fld) (i : Nat) : (s.raise ev cnt i).str = s.str := by
  rw [State.raise, State.setFld_str, State.setFld_str]
@[simp] theorem State.raise_tbl (s : State) (ev cnt : Fld) (i : Nat) : (s.raise ev cnt i).tbl = s.tbl := by
  rw [State.raise, State.setFld_tbl, State.setFld_tbl]
@[simp] theorem State.raise_tmg (s : State) (ev cnt : Fld) (i : Nat) : (s.raise ev cnt i).tmg = s.tmg := by
  rw [State.raise, State.setFld_tmg, State.setFld_tmg]
@[simp] theorem State.raise_mem (s : State) (ev cnt : Fld) (i : Nat) : (s.raise ev cnt i).mem = s.mem := by
  rw [State.raise, State.setFld_mem, State.setFld_mem]
@[simp] theorem State.raise_hpm (s : State) (ev cnt : Fld) (i : Nat) : (s.raise ev cnt i).hpm = s.hpm := by
  rw [State.raise, State.setFld_hpm, State.setFld_hpm]
@[simp] theorem State.raise_tim (s : State) (ev cnt : Fld) (i : Nat) : (s.raise ev cnt i).tim = s.tim := by
  rw [State.raise, State.setFld_tim, State.setFld_tim]
@[simp] theorem State.raise_inf (s : State) (ev cnt : Fld) (i : Nat) : (s.raise ev cnt i).inf = s.inf := by
  rw [State.raise, State.setFld_inf, State.setFld_inf]
@[simp] theorem State.raise_pins (s : State) (ev cnt : Fld) (i : Nat) : (s.raise ev cnt i).pins = s.pins := by
  rw [State.raise, State.setFld_pins, State.setFld_pins]

@[simp] theorem State.satAdd_freeCount (s : State) (f : Fld) (i n : Nat) : (s.satAdd f i n).freeCount = s.freeCount := by
  rw [State.satAdd, State.setFld_freeCount]
@[simp] theorem State.satAdd_pending (s : State) (f : Fld) (i n : Nat) : (s.satAdd f i n).pending = s.pending := by
  rw [State.satAdd, State.setFld_pending]
@[simp] theorem State.satAdd_hif (s : State) (f : Fld) (i n : Nat) : (s.satAdd f i n).hif = s.hif := by
  rw [State.satAdd, State.setFld_hif]
@[simp] theorem State.satAdd_lfg (s : State) (f : Fld) (i n : Nat) : (s.satAdd f i n).lfg = s.lfg := by
  rw [State.satAdd, State.setFld_lfg]
@[simp] theorem State.satAdd_ltb (s : State) (f : Fld) (i n : Nat) : (s.satAdd f i n).ltb = s.ltb := by
  rw [State.satAdd, State.setFld_ltb]
@[simp] theorem State.satAdd_pwr (s : State) (f : Fld) (i n : Nat) : (s.satAdd f i n).pwr = s.pwr := by
  rw [State.satAdd, State.setFld_pwr]
@[simp] theorem State.satAdd_dsf (s : State) (f : Fld) (i n : Nat) : (s.satAdd f i n).dsf = s.dsf := by
  rw [State.satAdd, State.setFld_dsf]
@[simp] theorem State.satAdd_act (s : State) (f : Fld) (i n : Nat) : (s.satAdd f i n).act = s.act := by
  rw [State.satAdd, State.setFld_act]
@[simp] theorem State.satAdd_ube (s : State) (f : Fld) (i n : Nat) : (s.satAdd f i n).ube = s.ube := by
  rw [State.satAdd, State.setFld_ube]
@[simp] theorem State.satAdd_whs (s : State) (f : Fld) (i n : Nat) : (s.satAdd f i n).whs = s.whs := by
  rw [State.satAdd, State.setFld_whs]
@[simp] theorem State.satAdd_lln (s : State) (f : Fld) (i n : Nat) : (s.satAdd f i n).lln = s.lln := by
  rw [State.satAdd, State.setFld_lln]
@[simp] theorem State.satAdd_cdy (s : State) (f : Fld) (i n : Nat) : (s.satAdd f i n).cdy = s.cdy := by
  rw [State.satAdd, State.setFld_cdy]
@[simp] theorem State.satAdd_cph (s : State) (f : Fld) (i n : Nat) : (s.satAdd f i n).cph = s.cph := by
  rw [State.satAdd, State.setFld_cph]
@[simp] theorem State.satAdd_prt (s : State) (f : Fld) (i n : Nat) : (s.satAdd f i n).prt = s.prt := by
  rw [State.satAdd, State.setFld_prt]
@[simp] theorem State.satAdd_str (s : State) (f : Fld) (i n : Nat) : (s.satAdd f i n).str = s.str := by
  rw [State.satAdd, State.setFld_str]
@[simp] theorem State.satAdd_tbl (s : State) (f : Fld) (i n : Nat) : (s.satAdd f i n).tbl = s.tbl := by
  rw [State.satAdd, State.setFld_tbl]
@[simp] theorem State.satAdd_tmg (s : State) (f : Fld) (i n : Nat) : (s.satAdd f i n).tmg = s.tmg := by
  rw [State.satAdd, State.setFld_tmg]
@[simp] theorem State.satAdd_mem (s : State) (f : Fld) (i n : Nat) : (s.satAdd f i n).mem = s.mem := by
  rw [State.satAdd, State.setFld_mem]
@[simp] theorem State.satAdd_hpm (s : State) (f : Fld) (i n : Nat) : (s.satAdd f i n).hpm = s.hpm := by
  rw [State.satAdd, State.setFld_hpm]
@[simp] theorem State.satAdd_tim (s : State) (f : Fld) (i n : Nat) : (s.satAdd f i n).tim = s.tim := by
  rw [State.satAdd, State.setFld_tim]
@[simp] theorem State.satAdd_inf (s : State) (f : Fld) (i n : Nat) : (s.satAdd f i n).inf = s.inf := by
  rw [State.satAdd, State.setFld_inf]
@[simp] theorem State.satAdd_pins (s : State) (f : Fld) (i n : Nat) : (s.satAdd f i n).pins = s.pins := by
  rw [State.satAdd, State.setFld_pins]

@[simp] theorem State.wrapAdd_freeCount (s : State) (f : Fld) (i n : Nat) : (s.wrapAdd f i n).freeCount = s.freeCount := by
  rw [State.wrapAdd, State.setFld_freeCount]
@[simp] theorem State.wrapAdd_pending (s : State) (f : Fld) (i n : Nat) : (s.wrapAdd f i n).pending = s.pending := by
  rw [State.wrapAdd, State.setFld_pending]
@[simp] theorem State.wrapAdd_hif (s : State) (f : Fld) (i n : Nat) : (s.wrapAdd f i n).hif = s.hif := by
  rw [State.wrapAdd, State.setFld_hif]
@[simp] theorem State.wrapAdd_lfg (s : State) (f : Fld) (i n : Nat) : (s.wrapAdd f i n).lfg = s.lfg := by
  rw [State.wrapAdd, State.setFld_lfg]
@[simp] theorem State.wrapAdd_ltb (s : State) (f : Fld) (i n : Nat) : (s.wrapAdd f i n).ltb = s.ltb := by
  rw [State.wrapAdd, State.setFld_ltb]
@[simp] theorem State.wrapAdd_pwr (s : State) (f : Fld) (i n : Nat) : (s.wrapAdd f i n).pwr = s.pwr := by
  rw [State.wrapAdd, State.setFld_pwr]
@[simp] theorem State.wrapAdd_dsf (s : State) (f : Fld) (i n : Nat) : (s.wrapAdd f i n).dsf = s.dsf := by
  rw [State.wrapAdd, State.setFld_dsf]
@[simp] theorem State.wrapAdd_act (s : State) (f : Fld) (i n : Nat) : (s.wrapAdd f i n).act = s.act := by
  rw [State.wrapAdd, State.setFld_act]
@[simp] theorem State.wrapAdd_ube (s : State) (f : Fld) (i n : Nat) : (s.wrapAdd f i n).ube = s.ube := by
  rw [State.wrapAdd, State.setFld_ube]
@[simp] theorem State.wrapAdd_whs (s : State) (f : Fld) (i n : Nat) : (s.wrapAdd f i n).whs = s.whs := by
  rw [State.wrapAdd, State.setFld_whs]
@[simp] theorem State.wrapAdd_lln (s : State) (f : Fld) (i n : Nat) : (s.wrapAdd f i n).lln = s.lln := by
  rw [State.wrapAdd, State.setFld_lln]
@[simp] theorem State.wrapAdd_cdy (s : State) (f : Fld) (i n : Nat) : (s.wrapAdd f i n).cdy = s.cdy := by
  rw [State.wrapAdd, State.setFld_cdy]
@[simp] theorem State.wrapAdd_cph (s : State) (f : Fld) (i n : Nat) : (s.wrapAdd f i n).cph = s.cph := by
  rw [State.wrapAdd, State.setFld_cph]
@[simp] theorem State.wrapAdd_prt (s : State) (f : Fld) (i n : Nat) : (s.wrapAdd f i n).prt = s.prt := by
  rw [State.wrapAdd, State.setFld_prt]
@[simp] theorem State.wrapAdd_str (s : State) (f : Fld) (i n : Nat) : (s.wrapAdd f i n).str = s.str := by
  rw [State.wrapAdd, State.setFld_str]
@[simp] theorem State.wrapAdd_tbl (s : State) (f : Fld) (i n : Nat) : (s.wrapAdd f i n).tbl = s.tbl := by
  rw [State.wrapAdd, State.setFld_tbl]
@[simp] theorem State.wrapAdd_tmg (s : State) (f : Fld) (i n : Nat) : (s.wrapAdd f i n).tmg = s.tmg := by
  rw [State.wrapAdd, State.setFld_tmg]
@[simp] theorem State.wrapAdd_mem (s : State) (f : Fld) (i n : Nat) : (s.wrapAdd f i n).mem = s.mem := by
  rw [State.wrapAdd, State.setFld_mem]
@[simp] theorem State.wrapAdd_hpm (s : State) (f : Fld) (i n : Nat) : (s.wrapAdd f i n).hpm = s.hpm := by
  rw [State.wrapAdd, State.setFld_hpm]
@[simp] theorem State.wrapAdd_tim (s : State) (f : Fld) (i n : Nat) : (s.wrapAdd f i n).tim = s.tim := by
  rw [State.wrapAdd, State.setFld_tim]
@[simp] theorem State.wrapAdd_inf (s : State) (f : Fld) (i n : Nat) : (s.wrapAdd f i n).inf = s.inf := by
  rw [State.wrapAdd, State.setFld_inf]
@[simp] theorem State.wrapAdd_pins (s : State) (f : Fld) (i n : Nat) : (s.wrapAdd f i n).pins = s.pins := by
  rw [State.wrapAdd, State.setFld_pins]

@[simp] theorem State.peak_freeCount (s : State) (f : Fld) (i v : Nat) : (s.peak f i v).freeCount = s.freeCount := by
  rw [State.peak, State.setFld_freeCount]
@[simp] theorem State.peak_pending (s : State) (f : Fld) (i v : Nat) : (s.peak f i v).pending = s.pending := by
  rw [State.peak, State.setFld_pending]
@[simp] theorem State.peak_hif (s : State) (f : Fld) (i v : Nat) : (s.peak f i v).hif = s.hif := by
  rw [State.peak, State.setFld_hif]
@[simp] theorem State.peak_lfg (s : State) (f : Fld) (i v : Nat) : (s.peak f i v).lfg = s.lfg := by
  rw [State.peak, State.setFld_lfg]
@[simp] theorem State.peak_ltb (s : State) (f : Fld) (i v : Nat) : (s.peak f i v).ltb = s.ltb := by
  rw [State.peak, State.setFld_ltb]
@[simp] theorem State.peak_pwr (s : State) (f : Fld) (i v : Nat) : (s.peak f i v).pwr = s.pwr := by
  rw [State.peak, State.setFld_pwr]
@[simp] theorem State.peak_dsf (s : State) (f : Fld) (i v : Nat) : (s.peak f i v).dsf = s.dsf := by
  rw [State.peak, State.setFld_dsf]
@[simp] theorem State.peak_act (s : State) (f : Fld) (i v : Nat) : (s.peak f i v).act = s.act := by
  rw [State.peak, State.setFld_act]
@[simp] theorem State.peak_ube (s : State) (f : Fld) (i v : Nat) : (s.peak f i v).ube = s.ube := by
  rw [State.peak, State.setFld_ube]
@[simp] theorem State.peak_whs (s : State) (f : Fld) (i v : Nat) : (s.peak f i v).whs = s.whs := by
  rw [State.peak, State.setFld_whs]
@[simp] theorem State.peak_lln (s : State) (f : Fld) (i v : Nat) : (s.peak f i v).lln = s.lln := by
  rw [State.peak, State.setFld_lln]
@[simp] theorem State.peak_cdy (s : State) (f : Fld) (i v : Nat) : (s.peak f i v).cdy = s.cdy := by
  rw [State.peak, State.setFld_cdy]
@[simp] theorem State.peak_cph (s : State) (f : Fld) (i v : Nat) : (s.peak f i v).cph = s.cph := by
  rw [State.peak, State.setFld_cph]
@[simp] theorem State.peak_prt (s : State) (f : Fld) (i v : Nat) : (s.peak f i v).prt = s.prt := by
  rw [State.peak, State.setFld_prt]
@[simp] theorem State.peak_str (s : State) (f : Fld) (i v : Nat) : (s.peak f i v).str = s.str := by
  rw [State.peak, State.setFld_str]
@[simp] theorem State.peak_tbl (s : State) (f : Fld) (i v : Nat) : (s.peak f i v).tbl = s.tbl := by
  rw [State.peak, State.setFld_tbl]
@[simp] theorem State.peak_tmg (s : State) (f : Fld) (i v : Nat) : (s.peak f i v).tmg = s.tmg := by
  rw [State.peak, State.setFld_tmg]
@[simp] theorem State.peak_mem (s : State) (f : Fld) (i v : Nat) : (s.peak f i v).mem = s.mem := by
  rw [State.peak, State.setFld_mem]
@[simp] theorem State.peak_hpm (s : State) (f : Fld) (i v : Nat) : (s.peak f i v).hpm = s.hpm := by
  rw [State.peak, State.setFld_hpm]
@[simp] theorem State.peak_tim (s : State) (f : Fld) (i v : Nat) : (s.peak f i v).tim = s.tim := by
  rw [State.peak, State.setFld_tim]
@[simp] theorem State.peak_inf (s : State) (f : Fld) (i v : Nat) : (s.peak f i v).inf = s.inf := by
  rw [State.peak, State.setFld_inf]
@[simp] theorem State.peak_pins (s : State) (f : Fld) (i v : Nat) : (s.peak f i v).pins = s.pins := by
  rw [State.peak, State.setFld_pins]

@[simp] theorem State.updLagging_freeCount (s : State)  : (s.updLagging ).freeCount = s.freeCount := by
  rw [State.updLagging, State.setFld_freeCount]
@[simp] theorem State.updLagging_pending (s : State)  : (s.updLagging ).pending = s.pending := by
  rw [State.updLagging, State.setFld_pending]
@[simp] theorem State.updLagging_hif (s : State)  : (s.updLagging ).hif = s.hif := by
  rw [State.updLagging, State.setFld_hif]
@[simp] theorem State.updLagging_lfg (s : State)  : (s.updLagging ).lfg = s.lfg := by
  rw [State.updLagging, State.setFld_lfg]
@[simp] theorem State.updLagging_ltb (s : State)  : (s.updLagging ).ltb = s.ltb := by
  rw [State.updLagging, State.setFld_ltb]
@[simp] theorem State.updLagging_pwr (s : State)  : (s.updLagging ).pwr = s.pwr := by
  rw [State.updLagging, State.setFld_pwr]
@[simp] theorem State.updLagging_dsf (s : State)  : (s.updLagging ).dsf = s.dsf := by
  rw [State.updLagging, State.setFld_dsf]
@[simp] theorem State.updLagging_act (s : State)  : (s.updLagging ).act = s.act := by
  rw [State.updLagging, State.setFld_act]
@[simp] theorem State.updLagging_ube (s : State)  : (s.updLagging ).ube = s.ube := by
  rw [State.updLagging, State.setFld_ube]
@[simp] theorem State.updLagging_whs (s : State)  : (s.updLagging ).whs = s.whs := by
  rw [State.updLagging, State.setFld_whs]
@[simp] theorem State.updLagging_lln (s : State)  : (s.updLagging ).lln = s.lln := by
  rw [State.updLagging, State.setFld_lln]
@[simp] theorem State.updLagging_cdy (s : State)  : (s.updLagging ).cdy = s.cdy := by
  rw [State.updLagging, State.setFld_cdy]
@[simp] theorem State.updLagging_cph (s : State)  : (s.updLagging ).cph = s.cph := by
  rw [State.updLagging, State.setFld_cph]
@[simp] theorem State.updLagging_prt (s : State)  : (s.updLagging ).prt = s.prt := by
  rw [State.updLagging, State.setFld_prt]
@[simp] theorem State.updLagging_str (s : State)  : (s.updLagging ).str = s.str := by
  rw [State.updLagging, State.setFld_str]
@[simp] theorem State.updLagging_tbl (s : State)  : (s.updLagging ).tbl = s.tbl := by
  rw [State.updLagging, State.setFld_tbl]
@[simp] theorem State.updLagging_tmg (s : State)  : (s.updLagging ).tmg = s.tmg := by
  rw [State.updLagging, State.setFld_tmg]
@[simp] theorem State.updLagging_mem (s : State)  : (s.updLagging ).mem = s.mem := by
  rw [State.updLagging, State.setFld_mem]
@[simp] theorem State.updLagging_hpm (s : State)  : (s.updLagging ).hpm = s.hpm := by
  rw [State.updLagging, State.setFld_hpm]
@[simp] theorem State.updLagging_tim (s : State)  : (s.updLagging ).tim = s.tim := by
  rw [State.updLagging, State.setFld_tim]
@[simp] theorem State.updLagging_inf (s : State)  : (s.updLagging ).inf = s.inf := by
  rw [State.updLagging, State.setFld_inf]
@[simp] theorem State.updLagging_pins (s : State)  : (s.updLagging ).pins = s.pins := by
  rw [State.updLagging, State.setFld_pins]

@[simp] theorem State.setRing_regs (s : State) (kind n : Nat) (r : RingSt) : (s.setRing kind n r).regs = s.regs := rfl
@[simp] theorem State.setRing_freeCount (s : State) (kind n : Nat) (r : RingSt) : (s.setRing kind n r).freeCount = s.freeCount := rfl
@[simp] theorem State.setRing_pending (s : State) (kind n : Nat) (r : RingSt) : (s.setRing kind n r).pending = s.pending := rfl
@[simp] theorem State.setRing_lfg (s : State) (kind n : Nat) (r : RingSt) : (s.setRing kind n r).lfg = s.lfg := rfl
@[simp] theorem State.setRing_ltb (s : State) (kind n : Nat) (r : RingSt) : (s.setRing kind n r).ltb = s.ltb := rfl
@[simp] theorem State.setRing_pwr (s : State) (kind n : Nat) (r : RingSt) : (s.setRing kind n r).pwr = s.pwr := rfl
@[simp] theorem State.setRing_dsf (s : State) (kind n : Nat) (r : RingSt) : (s.setRing kind n r).dsf = s.dsf := rfl
@[simp] theorem State.setRing_act (s : State) (kind n : Nat) (r : RingSt) : (s.setRing kind n r).act = s.act := rfl
@[simp] theorem State.setRing_ube (s : State) (kind n : Nat) (r : RingSt) : (s.setRing kind n r).ube = s.ube := rfl
@[simp] theorem State.setRing_whs (s : State) (kind n : Nat) (r : RingSt) : (s.setRing kind n r).whs = s.whs := rfl
@[simp] theorem State.setRing_lln (s : State) (kind n : Nat) (r : RingSt) : (s.setRing kind n r).lln = s.lln := rfl
@[simp] theorem State.setRing_cdy (s : State) (kind n : Nat) (r : RingSt) : (s.setRing kind n r).cdy = s.cdy := rfl
@[simp] theorem State.setRing_cph (s : State) (kind n : Nat) (r : RingSt) : (s.setRing kind n r).cph = s.cph := rfl
@[simp] theorem State.setRing_prt (s : State) (kind n : Nat) (r : RingSt) : (s.setRing kind n r).prt = s.prt := rfl
@[simp] theorem State.setRing_str (s : State) (kind n : Nat) (r : RingSt) : (s.setRing kind n r).str = s.str := rfl
@[simp] theorem State.setRing_tbl (s : State) (kind n : Nat) (r : RingSt) : (s.setRing kind n r).tbl = s.tbl := rfl
@[simp] theorem State.setRing_tmg (s : State) (kind n : Nat) (r : RingSt) : (s.setRing kind n r).tmg = s.tmg := rfl
@[simp] theorem State.setRing_mem (s : State) (kind n : Nat) (r : RingSt) : (s.setRing kind n r).mem = s.mem := rfl
@[simp] theorem State.setRing_hpm (s : State) (kind n : Nat) (r : RingSt) : (s.setRing kind n r).hpm = s.hpm := rfl
@[simp] theorem State.setRing_tim (s : State) (kind n : Nat) (r : RingSt) : (s.setRing kind n r).tim = s.tim := rfl
@[simp] theorem State.setRing_inf (s : State) (kind n : Nat) (r : RingSt) : (s.setRing kind n r).inf = s.inf := rfl
@[simp] theorem State.setRing_pins (s : State) (kind n : Nat) (r : RingSt) : (s.setRing kind n r).pins = s.pins := rfl

@[simp] theorem State.dma_regs (s : State) (a : Nat) (ws : List Nat) : (s.dma a ws).regs = s.regs := rfl
@[simp] theorem State.dma_freeCount (s : State) (a : Nat) (ws : List Nat) : (s.dma a ws).freeCount = s.freeCount := rfl
@[simp] theorem State.dma_pending (s : State) (a : Nat) (ws : List Nat) : (s.dma a ws).pending = s.pending := rfl
@[simp] theorem State.dma_lfg (s : State) (a : Nat) (ws : List Nat) : (s.dma a ws).lfg = s.lfg := rfl
@[simp] theorem State.dma_ltb (s : State) (a : Nat) (ws : List Nat) : (s.dma a ws).ltb = s.ltb := rfl
@[simp] theorem State.dma_pwr (s : State) (a : Nat) (ws : List Nat) : (s.dma a ws).pwr = s.pwr := rfl
@[simp] theorem State.dma_dsf (s : State) (a : Nat) (ws : List Nat) : (s.dma a ws).dsf = s.dsf := rfl
@[simp] theorem State.dma_act (s : State) (a : Nat) (ws : List Nat) : (s.dma a ws).act = s.act := rfl
@[simp] theorem State.dma_ube (s : State) (a : Nat) (ws : List Nat) : (s.dma a ws).ube = s.ube := rfl
@[simp] theorem State.dma_whs (s : State) (a : Nat) (ws : List Nat) : (s.dma a ws).whs = s.whs := rfl
@[simp] theorem State.dma_lln (s : State) (a : Nat) (ws : List Nat) : (s.dma a ws).lln = s.lln := rfl
@[simp] theorem State.dma_cdy (s : State) (a : Nat) (ws : List Nat) : (s.dma a ws).cdy = s.cdy := rfl
@[simp] theorem State.dma_cph (s : State) (a : Nat) (ws : List Nat) : (s.dma a ws).cph = s.cph := rfl
@[simp] theorem State.dma_prt (s : State) (a : Nat) (ws : List Nat) : (s.dma a ws).prt = s.prt := rfl
@[simp] theorem State.dma_str (s : State) (a : Nat) (ws : List Nat) : (s.dma a ws).str = s.str := rfl
@[simp] theorem State.dma_tbl (s : State) (a : Nat) (ws : List Nat) : (s.dma a ws).tbl = s.tbl := rfl
@[simp] theorem State.dma_tmg (s : State) (a : Nat) (ws : List Nat) : (s.dma a ws).tmg = s.tmg := rfl
@[simp] theorem State.dma_mem (s : State) (a : Nat) (ws : List Nat) : (s.dma a ws).mem = s.mem := rfl
@[simp] theorem State.dma_hpm (s : State) (a : Nat) (ws : List Nat) : (s.dma a ws).hpm = s.hpm := rfl
@[simp] theorem State.dma_tim (s : State) (a : Nat) (ws : List Nat) : (s.dma a ws).tim = s.tim := rfl
@[simp] theorem State.dma_inf (s : State) (a : Nat) (ws : List Nat) : (s.dma a ws).inf = s.inf := rfl
@[simp] theorem State.dma_pins (s : State) (a : Nat) (ws : List Nat) : (s.dma a ws).pins = s.pins := rfl

@[simp] theorem State.toBuf_regs (s : State) (d : Desc) (ws : List Nat) : (s.toBuf d ws).regs = s.regs := by
  rw [State.toBuf, State.dma_regs]
@[simp] theorem State.toBuf_freeCount (s : State) (d : Desc) (ws : List Nat) : (s.toBuf d ws).freeCount = s.freeCount := by
  rw [State.toBuf, State.dma_freeCount]
@[simp] theorem State.toBuf_pending (s : State) (d : Desc) (ws : List Nat) : (s.toBuf d ws).pending = s.pending := by
  rw [State.toBuf, State.dma_pending]
@[simp] theorem State.toBuf_lfg (s : State) (d : Desc) (ws : List Nat) : (s.toBuf d ws).lfg = s.lfg := by
  rw [State.toBuf, State.dma_lfg]
@[simp] theorem State.toBuf_ltb (s : State) (d : Desc) (ws : List Nat) : (s.toBuf d ws).ltb = s.ltb := by
  rw [State.toBuf, State.dma_ltb]
@[simp] theorem State.toBuf_pwr (s : State) (d : Desc) (ws : List Nat) : (s.toBuf d ws).pwr = s.pwr := by
  rw [State.toBuf, State.dma_pwr]
@[simp] theorem State.toBuf_dsf (s : State) (d : Desc) (ws : List Nat) : (s.toBuf d ws).dsf = s.dsf := by
  rw [State.toBuf, State.dma_dsf]
@[simp] theorem State.toBuf_act (s : State) (d : Desc) (ws : List Nat) : (s.toBuf d ws).act = s.act := by
  rw [State.toBuf, State.dma_act]
@[simp] theorem State.toBuf_ube (s : State) (d : Desc) (ws : List Nat) : (s.toBuf d ws).ube = s.ube := by
  rw [State.toBuf, State.dma_ube]
@[simp] theorem State.toBuf_whs (s : State) (d : Desc) (ws : List Nat) : (s.toBuf d ws).whs = s.whs := by
  rw [State.toBuf, State.dma_whs]
@[simp] theorem State.toBuf_lln (s : State) (d : Desc) (ws : List Nat) : (s.toBuf d ws).lln = s.lln := by
  rw [State.toBuf, State.dma_lln]
@[simp] theorem State.toBuf_cdy (s : State) (d : Desc) (ws : List Nat) : (s.toBuf d ws).cdy = s.cdy := by
  rw [State.toBuf, State.dma_cdy]
@[simp] theorem State.toBuf_cph (s : State) (d : Desc) (ws : List Nat) : (s.toBuf d ws).cph = s.cph := by
  rw [State.toBuf, State.dma_cph]
@[simp] theorem State.toBuf_prt (s : State) (d : Desc) (ws : List Nat) : (s.toBuf d ws).prt = s.prt := by
  rw [State.toBuf, State.dma_prt]
@[simp] theorem State.toBuf_str (s : State) (d : Desc) (ws : List Nat) : (s.toBuf d ws).str = s.str := by
  rw [State.toBuf, State.dma_str]
@[simp] theorem State.toBuf_tbl (s : State) (d : Desc) (ws : List Nat) : (s.toBuf d ws).tbl = s.tbl := by
  rw [State.toBuf, State.dma_tbl]
@[simp] theorem State.toBuf_tmg (s : State) (d : Desc) (ws : List Nat) : (s.toBuf d ws).tmg = s.tmg := by
  rw [State.toBuf, State.dma_tmg]
@[simp] theorem State.toBuf_mem (s : State) (d : Desc) (ws : List Nat) : (s.toBuf d ws).mem = s.mem := by
  rw [State.toBuf, State.dma_mem]
@[simp] theorem State.toBuf_hpm (s : State) (d : Desc) (ws : List Nat) : (s.toBuf d ws).hpm = s.hpm := by
  rw [State.toBuf, State.dma_hpm]
@[simp] theorem State.toBuf_tim (s : State) (d : Desc) (ws : List Nat) : (s.toBuf d ws).tim = s.tim := by
  rw [State.toBuf, State.dma_tim]
@[simp] theorem State.toBuf_inf (s : State) (d : Desc) (ws : List Nat) : (s.toBuf d ws).inf = s.inf := by
  rw [State.toBuf, State.dma_inf]
@[simp] theorem State.toBuf_pins (s : State) (d : Desc) (ws : List Nat) : (s.toBuf d ws).pins = s.pins := by
  rw [State.toBuf, State.dma_pins]

@[simp] theorem State.setVec_regs (s : State) (v : Nat) (x : VecSt) : (s.setVec v x).regs = s.regs := rfl
@[simp] theorem State.setVec_freeCount (s : State) (v : Nat) (x : VecSt) : (s.setVec v x).freeCount = s.freeCount := rfl
@[simp] theorem State.setVec_pending (s : State) (v : Nat) (x : VecSt) : (s.setVec v x).pending = s.pending := rfl
@[simp] theorem State.setVec_lfg (s : State) (v : Nat) (x : VecSt) : (s.setVec v x).lfg = s.lfg := rfl
@[simp] theorem State.setVec_ltb (s : State) (v : Nat) (x : VecSt) : (s.setVec v x).ltb = s.ltb := rfl
@[simp] theorem State.setVec_pwr (s : State) (v : Nat) (x : VecSt) : (s.setVec v x).pwr = s.pwr := rfl
@[simp] theorem State.setVec_dsf (s : State) (v : Nat) (x : VecSt) : (s.setVec v x).dsf = s.dsf := rfl
@[simp] theorem State.setVec_act (s : State) (v : Nat) (x : VecSt) : (s.setVec v x).act = s.act := rfl
@[simp] theorem State.setVec_ube (s : State) (v : Nat) (x : VecSt) : (s.setVec v x).ube = s.ube := rfl
@[simp] theorem State.setVec_whs (s : State) (v : Nat) (x : VecSt) : (s.setVec v x).whs = s.whs := rfl
@[simp] theorem State.setVec_lln (s : State) (v : Nat) (x : VecSt) : (s.setVec v x).lln = s.lln := rfl
@[simp] theorem State.setVec_cdy (s : State) (v : Nat) (x : VecSt) : (s.setVec v x).cdy = s.cdy := rfl
@[simp] theorem State.setVec_cph (s : State) (v : Nat) (x : VecSt) : (s.setVec v x).cph = s.cph := rfl
@[simp] theorem State.setVec_prt (s : State) (v : Nat) (x : VecSt) : (s.setVec v x).prt = s.prt := rfl
@[simp] theorem State.setVec_str (s : State) (v : Nat) (x : VecSt) : (s.setVec v x).str = s.str := rfl
@[simp] theorem State.setVec_tbl (s : State) (v : Nat) (x : VecSt) : (s.setVec v x).tbl = s.tbl := rfl
@[simp] theorem State.setVec_tmg (s : State) (v : Nat) (x : VecSt) : (s.setVec v x).tmg = s.tmg := rfl
@[simp] theorem State.setVec_mem (s : State) (v : Nat) (x : VecSt) : (s.setVec v x).mem = s.mem := rfl
@[simp] theorem State.setVec_hpm (s : State) (v : Nat) (x : VecSt) : (s.setVec v x).hpm = s.hpm := rfl
@[simp] theorem State.setVec_tim (s : State) (v : Nat) (x : VecSt) : (s.setVec v x).tim = s.tim := rfl
@[simp] theorem State.setVec_inf (s : State) (v : Nat) (x : VecSt) : (s.setVec v x).inf = s.inf := rfl
@[simp] theorem State.setVec_pins (s : State) (v : Nat) (x : VecSt) : (s.setVec v x).pins = s.pins := rfl

@[simp] theorem State.oweVec_regs (s : State) (v : Nat) : (s.oweVec v).regs = s.regs := by
  rw [State.oweVec, State.setVec_regs]
@[simp] theorem State.oweVec_freeCount (s : State) (v : Nat) : (s.oweVec v).freeCount = s.freeCount := by
  rw [State.oweVec, State.setVec_freeCount]
@[simp] theorem State.oweVec_pending (s : State) (v : Nat) : (s.oweVec v).pending = s.pending := by
  rw [State.oweVec, State.setVec_pending]
@[simp] theorem State.oweVec_lfg (s : State) (v : Nat) : (s.oweVec v).lfg = s.lfg := by
  rw [State.oweVec, State.setVec_lfg]
@[simp] theorem State.oweVec_ltb (s : State) (v : Nat) : (s.oweVec v).ltb = s.ltb := by
  rw [State.oweVec, State.setVec_ltb]
@[simp] theorem State.oweVec_pwr (s : State) (v : Nat) : (s.oweVec v).pwr = s.pwr := by
  rw [State.oweVec, State.setVec_pwr]
@[simp] theorem State.oweVec_dsf (s : State) (v : Nat) : (s.oweVec v).dsf = s.dsf := by
  rw [State.oweVec, State.setVec_dsf]
@[simp] theorem State.oweVec_act (s : State) (v : Nat) : (s.oweVec v).act = s.act := by
  rw [State.oweVec, State.setVec_act]
@[simp] theorem State.oweVec_ube (s : State) (v : Nat) : (s.oweVec v).ube = s.ube := by
  rw [State.oweVec, State.setVec_ube]
@[simp] theorem State.oweVec_whs (s : State) (v : Nat) : (s.oweVec v).whs = s.whs := by
  rw [State.oweVec, State.setVec_whs]
@[simp] theorem State.oweVec_lln (s : State) (v : Nat) : (s.oweVec v).lln = s.lln := by
  rw [State.oweVec, State.setVec_lln]
@[simp] theorem State.oweVec_cdy (s : State) (v : Nat) : (s.oweVec v).cdy = s.cdy := by
  rw [State.oweVec, State.setVec_cdy]
@[simp] theorem State.oweVec_cph (s : State) (v : Nat) : (s.oweVec v).cph = s.cph := by
  rw [State.oweVec, State.setVec_cph]
@[simp] theorem State.oweVec_prt (s : State) (v : Nat) : (s.oweVec v).prt = s.prt := by
  rw [State.oweVec, State.setVec_prt]
@[simp] theorem State.oweVec_str (s : State) (v : Nat) : (s.oweVec v).str = s.str := by
  rw [State.oweVec, State.setVec_str]
@[simp] theorem State.oweVec_tbl (s : State) (v : Nat) : (s.oweVec v).tbl = s.tbl := by
  rw [State.oweVec, State.setVec_tbl]
@[simp] theorem State.oweVec_tmg (s : State) (v : Nat) : (s.oweVec v).tmg = s.tmg := by
  rw [State.oweVec, State.setVec_tmg]
@[simp] theorem State.oweVec_mem (s : State) (v : Nat) : (s.oweVec v).mem = s.mem := by
  rw [State.oweVec, State.setVec_mem]
@[simp] theorem State.oweVec_hpm (s : State) (v : Nat) : (s.oweVec v).hpm = s.hpm := by
  rw [State.oweVec, State.setVec_hpm]
@[simp] theorem State.oweVec_tim (s : State) (v : Nat) : (s.oweVec v).tim = s.tim := by
  rw [State.oweVec, State.setVec_tim]
@[simp] theorem State.oweVec_inf (s : State) (v : Nat) : (s.oweVec v).inf = s.inf := by
  rw [State.oweVec, State.setVec_inf]
@[simp] theorem State.oweVec_pins (s : State) (v : Nat) : (s.oweVec v).pins = s.pins := by
  rw [State.oweVec, State.setVec_pins]

@[simp] theorem State.putEntry_regs (s : State) (kind n b : Nat) (ws : List Nat) : (s.putEntry kind n b ws).regs = s.regs := by
  unfold State.putEntry; rw [State.setRing_regs, State.dma_regs]
@[simp] theorem State.putEntry_freeCount (s : State) (kind n b : Nat) (ws : List Nat) : (s.putEntry kind n b ws).freeCount = s.freeCount := by
  unfold State.putEntry; rw [State.setRing_freeCount, State.dma_freeCount]
@[simp] theorem State.putEntry_pending (s : State) (kind n b : Nat) (ws : List Nat) : (s.putEntry kind n b ws).pending = s.pending := by
  unfold State.putEntry; rw [State.setRing_pending, State.dma_pending]
@[simp] theorem State.putEntry_lfg (s : State) (kind n b : Nat) (ws : List Nat) : (s.putEntry kind n b ws).lfg = s.lfg := by
  unfold State.putEntry; rw [State.setRing_lfg, State.dma_lfg]
@[simp] theorem State.putEntry_ltb (s : State) (kind n b : Nat) (ws : List Nat) : (s.putEntry kind n b ws).ltb = s.ltb := by
  unfold State.putEntry; rw [State.setRing_ltb, State.dma_ltb]
@[simp] theorem State.putEntry_pwr (s : State) (kind n b : Nat) (ws : List Nat) : (s.putEntry kind n b ws).pwr = s.pwr := by
  unfold State.putEntry; rw [State.setRing_pwr, State.dma_pwr]
@[simp] theorem State.putEntry_dsf (s : State) (kind n b : Nat) (ws : List Nat) : (s.putEntry kind n b ws).dsf = s.dsf := by
  unfold State.putEntry; rw [State.setRing_dsf, State.dma_dsf]
@[simp] theorem State.putEntry_act (s : State) (kind n b : Nat) (ws : List Nat) : (s.putEntry kind n b ws).act = s.act := by
  unfold State.putEntry; rw [State.setRing_act, State.dma_act]
@[simp] theorem State.putEntry_ube (s : State) (kind n b : Nat) (ws : List Nat) : (s.putEntry kind n b ws).ube = s.ube := by
  unfold State.putEntry; rw [State.setRing_ube, State.dma_ube]
@[simp] theorem State.putEntry_whs (s : State) (kind n b : Nat) (ws : List Nat) : (s.putEntry kind n b ws).whs = s.whs := by
  unfold State.putEntry; rw [State.setRing_whs, State.dma_whs]
@[simp] theorem State.putEntry_lln (s : State) (kind n b : Nat) (ws : List Nat) : (s.putEntry kind n b ws).lln = s.lln := by
  unfold State.putEntry; rw [State.setRing_lln, State.dma_lln]
@[simp] theorem State.putEntry_cdy (s : State) (kind n b : Nat) (ws : List Nat) : (s.putEntry kind n b ws).cdy = s.cdy := by
  unfold State.putEntry; rw [State.setRing_cdy, State.dma_cdy]
@[simp] theorem State.putEntry_cph (s : State) (kind n b : Nat) (ws : List Nat) : (s.putEntry kind n b ws).cph = s.cph := by
  unfold State.putEntry; rw [State.setRing_cph, State.dma_cph]
@[simp] theorem State.putEntry_prt (s : State) (kind n b : Nat) (ws : List Nat) : (s.putEntry kind n b ws).prt = s.prt := by
  unfold State.putEntry; rw [State.setRing_prt, State.dma_prt]
@[simp] theorem State.putEntry_str (s : State) (kind n b : Nat) (ws : List Nat) : (s.putEntry kind n b ws).str = s.str := by
  unfold State.putEntry; rw [State.setRing_str, State.dma_str]
@[simp] theorem State.putEntry_tbl (s : State) (kind n b : Nat) (ws : List Nat) : (s.putEntry kind n b ws).tbl = s.tbl := by
  unfold State.putEntry; rw [State.setRing_tbl, State.dma_tbl]
@[simp] theorem State.putEntry_tmg (s : State) (kind n b : Nat) (ws : List Nat) : (s.putEntry kind n b ws).tmg = s.tmg := by
  unfold State.putEntry; rw [State.setRing_tmg, State.dma_tmg]
@[simp] theorem State.putEntry_mem (s : State) (kind n b : Nat) (ws : List Nat) : (s.putEntry kind n b ws).mem = s.mem := by
  unfold State.putEntry; rw [State.setRing_mem, State.dma_mem]
@[simp] theorem State.putEntry_hpm (s : State) (kind n b : Nat) (ws : List Nat) : (s.putEntry kind n b ws).hpm = s.hpm := by
  unfold State.putEntry; rw [State.setRing_hpm, State.dma_hpm]
@[simp] theorem State.putEntry_tim (s : State) (kind n b : Nat) (ws : List Nat) : (s.putEntry kind n b ws).tim = s.tim := by
  unfold State.putEntry; rw [State.setRing_tim, State.dma_tim]
@[simp] theorem State.putEntry_inf (s : State) (kind n b : Nat) (ws : List Nat) : (s.putEntry kind n b ws).inf = s.inf := by
  unfold State.putEntry; rw [State.setRing_inf, State.dma_inf]
@[simp] theorem State.putEntry_pins (s : State) (kind n b : Nat) (ws : List Nat) : (s.putEntry kind n b ws).pins = s.pins := by
  unfold State.putEntry; rw [State.setRing_pins, State.dma_pins]

@[simp] theorem State.writeEntry_regs (s : State) (kind n b : Nat) (ws : List Nat) : (s.writeEntry kind n b ws).regs = s.regs := by
  rw [State.writeEntry, State.oweVec_regs, State.putEntry_regs]
@[simp] theorem State.writeEntry_freeCount (s : State) (kind n b : Nat) (ws : List Nat) : (s.writeEntry kind n b ws).freeCount = s.freeCount := by
  rw [State.writeEntry, State.oweVec_freeCount, State.putEntry_freeCount]
@[simp] theorem State.writeEntry_pending (s : State) (kind n b : Nat) (ws : List Nat) : (s.writeEntry kind n b ws).pending = s.pending := by
  rw [State.writeEntry, State.oweVec_pending, State.putEntry_pending]
@[simp] theorem State.writeEntry_lfg (s : State) (kind n b : Nat) (ws : List Nat) : (s.writeEntry kind n b ws).lfg = s.lfg := by
  rw [State.writeEntry, State.oweVec_lfg, State.putEntry_lfg]
@[simp] theorem State.writeEntry_ltb (s : State) (kind n b : Nat) (ws : List Nat) : (s.writeEntry kind n b ws).ltb = s.ltb := by
  rw [State.writeEntry, State.oweVec_ltb, State.putEntry_ltb]
@[simp] theorem State.writeEntry_pwr (s : State) (kind n b : Nat) (ws : List Nat) : (s.writeEntry kind n b ws).pwr = s.pwr := by
  rw [State.writeEntry, State.oweVec_pwr, State.putEntry_pwr]
@[simp] theorem State.writeEntry_dsf (s : State) (kind n b : Nat) (ws : List Nat) : (s.writeEntry kind n b ws).dsf = s.dsf := by
  rw [State.writeEntry, State.oweVec_dsf, State.putEntry_dsf]
@[simp] theorem State.writeEntry_act (s : State) (kind n b : Nat) (ws : List Nat) : (s.writeEntry kind n b ws).act = s.act := by
  rw [State.writeEntry, State.oweVec_act, State.putEntry_act]
@[simp] theorem State.writeEntry_ube (s : State) (kind n b : Nat) (ws : List Nat) : (s.writeEntry kind n b ws).ube = s.ube := by
  rw [State.writeEntry, State.oweVec_ube, State.putEntry_ube]
@[simp] theorem State.writeEntry_whs (s : State) (kind n b : Nat) (ws : List Nat) : (s.writeEntry kind n b ws).whs = s.whs := by
  rw [State.writeEntry, State.oweVec_whs, State.putEntry_whs]
@[simp] theorem State.writeEntry_lln (s : State) (kind n b : Nat) (ws : List Nat) : (s.writeEntry kind n b ws).lln = s.lln := by
  rw [State.writeEntry, State.oweVec_lln, State.putEntry_lln]
@[simp] theorem State.writeEntry_cdy (s : State) (kind n b : Nat) (ws : List Nat) : (s.writeEntry kind n b ws).cdy = s.cdy := by
  rw [State.writeEntry, State.oweVec_cdy, State.putEntry_cdy]
@[simp] theorem State.writeEntry_cph (s : State) (kind n b : Nat) (ws : List Nat) : (s.writeEntry kind n b ws).cph = s.cph := by
  rw [State.writeEntry, State.oweVec_cph, State.putEntry_cph]
@[simp] theorem State.writeEntry_prt (s : State) (kind n b : Nat) (ws : List Nat) : (s.writeEntry kind n b ws).prt = s.prt := by
  rw [State.writeEntry, State.oweVec_prt, State.putEntry_prt]
@[simp] theorem State.writeEntry_str (s : State) (kind n b : Nat) (ws : List Nat) : (s.writeEntry kind n b ws).str = s.str := by
  rw [State.writeEntry, State.oweVec_str, State.putEntry_str]
@[simp] theorem State.writeEntry_tbl (s : State) (kind n b : Nat) (ws : List Nat) : (s.writeEntry kind n b ws).tbl = s.tbl := by
  rw [State.writeEntry, State.oweVec_tbl, State.putEntry_tbl]
@[simp] theorem State.writeEntry_tmg (s : State) (kind n b : Nat) (ws : List Nat) : (s.writeEntry kind n b ws).tmg = s.tmg := by
  rw [State.writeEntry, State.oweVec_tmg, State.putEntry_tmg]
@[simp] theorem State.writeEntry_mem (s : State) (kind n b : Nat) (ws : List Nat) : (s.writeEntry kind n b ws).mem = s.mem := by
  rw [State.writeEntry, State.oweVec_mem, State.putEntry_mem]
@[simp] theorem State.writeEntry_hpm (s : State) (kind n b : Nat) (ws : List Nat) : (s.writeEntry kind n b ws).hpm = s.hpm := by
  rw [State.writeEntry, State.oweVec_hpm, State.putEntry_hpm]
@[simp] theorem State.writeEntry_tim (s : State) (kind n b : Nat) (ws : List Nat) : (s.writeEntry kind n b ws).tim = s.tim := by
  rw [State.writeEntry, State.oweVec_tim, State.putEntry_tim]
@[simp] theorem State.writeEntry_inf (s : State) (kind n b : Nat) (ws : List Nat) : (s.writeEntry kind n b ws).inf = s.inf := by
  rw [State.writeEntry, State.oweVec_inf, State.putEntry_inf]
@[simp] theorem State.writeEntry_pins (s : State) (kind n b : Nat) (ws : List Nat) : (s.writeEntry kind n b ws).pins = s.pins := by
  rw [State.writeEntry, State.oweVec_pins, State.putEntry_pins]

@[simp] theorem State.loseEvent_freeCount (s : State) (n : Nat) : (s.loseEvent n).freeCount = s.freeCount := by
  rw [State.loseEvent, State.raise_freeCount, State.wrapAdd_freeCount]
@[simp] theorem State.loseEvent_pending (s : State) (n : Nat) : (s.loseEvent n).pending = s.pending := by
  rw [State.loseEvent, State.raise_pending, State.wrapAdd_pending]
@[simp] theorem State.loseEvent_hif (s : State) (n : Nat) : (s.loseEvent n).hif = s.hif := by
  rw [State.loseEvent, State.raise_hif, State.wrapAdd_hif]
@[simp] theorem State.loseEvent_lfg (s : State) (n : Nat) : (s.loseEvent n).lfg = s.lfg := by
  rw [State.loseEvent, State.raise_lfg, State.wrapAdd_lfg]
@[simp] theorem State.loseEvent_ltb (s : State) (n : Nat) : (s.loseEvent n).ltb = s.ltb := by
  rw [State.loseEvent, State.raise_ltb, State.wrapAdd_ltb]
@[simp] theorem State.loseEvent_pwr (s : State) (n : Nat) : (s.loseEvent n).pwr = s.pwr := by
  rw [State.loseEvent, State.raise_pwr, State.wrapAdd_pwr]
@[simp] theorem State.loseEvent_dsf (s : State) (n : Nat) : (s.loseEvent n).dsf = s.dsf := by
  rw [State.loseEvent, State.raise_dsf, State.wrapAdd_dsf]
@[simp] theorem State.loseEvent_act (s : State) (n : Nat) : (s.loseEvent n).act = s.act := by
  rw [State.loseEvent, State.raise_act, State.wrapAdd_act]
@[simp] theorem State.loseEvent_ube (s : State) (n : Nat) : (s.loseEvent n).ube = s.ube := by
  rw [State.loseEvent, State.raise_ube, State.wrapAdd_ube]
@[simp] theorem State.loseEvent_whs (s : State) (n : Nat) : (s.loseEvent n).whs = s.whs := by
  rw [State.loseEvent, State.raise_whs, State.wrapAdd_whs]
@[simp] theorem State.loseEvent_lln (s : State) (n : Nat) : (s.loseEvent n).lln = s.lln := by
  rw [State.loseEvent, State.raise_lln, State.wrapAdd_lln]
@[simp] theorem State.loseEvent_cdy (s : State) (n : Nat) : (s.loseEvent n).cdy = s.cdy := by
  rw [State.loseEvent, State.raise_cdy, State.wrapAdd_cdy]
@[simp] theorem State.loseEvent_cph (s : State) (n : Nat) : (s.loseEvent n).cph = s.cph := by
  rw [State.loseEvent, State.raise_cph, State.wrapAdd_cph]
@[simp] theorem State.loseEvent_prt (s : State) (n : Nat) : (s.loseEvent n).prt = s.prt := by
  rw [State.loseEvent, State.raise_prt, State.wrapAdd_prt]
@[simp] theorem State.loseEvent_str (s : State) (n : Nat) : (s.loseEvent n).str = s.str := by
  rw [State.loseEvent, State.raise_str, State.wrapAdd_str]
@[simp] theorem State.loseEvent_tbl (s : State) (n : Nat) : (s.loseEvent n).tbl = s.tbl := by
  rw [State.loseEvent, State.raise_tbl, State.wrapAdd_tbl]
@[simp] theorem State.loseEvent_tmg (s : State) (n : Nat) : (s.loseEvent n).tmg = s.tmg := by
  rw [State.loseEvent, State.raise_tmg, State.wrapAdd_tmg]
@[simp] theorem State.loseEvent_mem (s : State) (n : Nat) : (s.loseEvent n).mem = s.mem := by
  rw [State.loseEvent, State.raise_mem, State.wrapAdd_mem]
@[simp] theorem State.loseEvent_hpm (s : State) (n : Nat) : (s.loseEvent n).hpm = s.hpm := by
  rw [State.loseEvent, State.raise_hpm, State.wrapAdd_hpm]
@[simp] theorem State.loseEvent_tim (s : State) (n : Nat) : (s.loseEvent n).tim = s.tim := by
  rw [State.loseEvent, State.raise_tim, State.wrapAdd_tim]
@[simp] theorem State.loseEvent_inf (s : State) (n : Nat) : (s.loseEvent n).inf = s.inf := by
  rw [State.loseEvent, State.raise_inf, State.wrapAdd_inf]
@[simp] theorem State.loseEvent_pins (s : State) (n : Nat) : (s.loseEvent n).pins = s.pins := by
  rw [State.loseEvent, State.raise_pins, State.wrapAdd_pins]

@[simp] theorem State.losePunt_freeCount (s : State) (n : Nat) : (s.losePunt n).freeCount = s.freeCount := by
  rw [State.losePunt, State.raise_freeCount, State.wrapAdd_freeCount]
@[simp] theorem State.losePunt_pending (s : State) (n : Nat) : (s.losePunt n).pending = s.pending := by
  rw [State.losePunt, State.raise_pending, State.wrapAdd_pending]
@[simp] theorem State.losePunt_hif (s : State) (n : Nat) : (s.losePunt n).hif = s.hif := by
  rw [State.losePunt, State.raise_hif, State.wrapAdd_hif]
@[simp] theorem State.losePunt_lfg (s : State) (n : Nat) : (s.losePunt n).lfg = s.lfg := by
  rw [State.losePunt, State.raise_lfg, State.wrapAdd_lfg]
@[simp] theorem State.losePunt_ltb (s : State) (n : Nat) : (s.losePunt n).ltb = s.ltb := by
  rw [State.losePunt, State.raise_ltb, State.wrapAdd_ltb]
@[simp] theorem State.losePunt_pwr (s : State) (n : Nat) : (s.losePunt n).pwr = s.pwr := by
  rw [State.losePunt, State.raise_pwr, State.wrapAdd_pwr]
@[simp] theorem State.losePunt_dsf (s : State) (n : Nat) : (s.losePunt n).dsf = s.dsf := by
  rw [State.losePunt, State.raise_dsf, State.wrapAdd_dsf]
@[simp] theorem State.losePunt_act (s : State) (n : Nat) : (s.losePunt n).act = s.act := by
  rw [State.losePunt, State.raise_act, State.wrapAdd_act]
@[simp] theorem State.losePunt_ube (s : State) (n : Nat) : (s.losePunt n).ube = s.ube := by
  rw [State.losePunt, State.raise_ube, State.wrapAdd_ube]
@[simp] theorem State.losePunt_whs (s : State) (n : Nat) : (s.losePunt n).whs = s.whs := by
  rw [State.losePunt, State.raise_whs, State.wrapAdd_whs]
@[simp] theorem State.losePunt_lln (s : State) (n : Nat) : (s.losePunt n).lln = s.lln := by
  rw [State.losePunt, State.raise_lln, State.wrapAdd_lln]
@[simp] theorem State.losePunt_cdy (s : State) (n : Nat) : (s.losePunt n).cdy = s.cdy := by
  rw [State.losePunt, State.raise_cdy, State.wrapAdd_cdy]
@[simp] theorem State.losePunt_cph (s : State) (n : Nat) : (s.losePunt n).cph = s.cph := by
  rw [State.losePunt, State.raise_cph, State.wrapAdd_cph]
@[simp] theorem State.losePunt_prt (s : State) (n : Nat) : (s.losePunt n).prt = s.prt := by
  rw [State.losePunt, State.raise_prt, State.wrapAdd_prt]
@[simp] theorem State.losePunt_str (s : State) (n : Nat) : (s.losePunt n).str = s.str := by
  rw [State.losePunt, State.raise_str, State.wrapAdd_str]
@[simp] theorem State.losePunt_tbl (s : State) (n : Nat) : (s.losePunt n).tbl = s.tbl := by
  rw [State.losePunt, State.raise_tbl, State.wrapAdd_tbl]
@[simp] theorem State.losePunt_tmg (s : State) (n : Nat) : (s.losePunt n).tmg = s.tmg := by
  rw [State.losePunt, State.raise_tmg, State.wrapAdd_tmg]
@[simp] theorem State.losePunt_mem (s : State) (n : Nat) : (s.losePunt n).mem = s.mem := by
  rw [State.losePunt, State.raise_mem, State.wrapAdd_mem]
@[simp] theorem State.losePunt_hpm (s : State) (n : Nat) : (s.losePunt n).hpm = s.hpm := by
  rw [State.losePunt, State.raise_hpm, State.wrapAdd_hpm]
@[simp] theorem State.losePunt_tim (s : State) (n : Nat) : (s.losePunt n).tim = s.tim := by
  rw [State.losePunt, State.raise_tim, State.wrapAdd_tim]
@[simp] theorem State.losePunt_inf (s : State) (n : Nat) : (s.losePunt n).inf = s.inf := by
  rw [State.losePunt, State.raise_inf, State.wrapAdd_inf]
@[simp] theorem State.losePunt_pins (s : State) (n : Nat) : (s.losePunt n).pins = s.pins := by
  rw [State.losePunt, State.raise_pins, State.wrapAdd_pins]

@[simp] theorem State.finishInject_regs (s : State) (d : Desc) (st r : Nat) : (s.finishInject d st r).regs = s.regs := rfl
@[simp] theorem State.finishInject_freeCount (s : State) (d : Desc) (st r : Nat) : (s.finishInject d st r).freeCount = s.freeCount := rfl
@[simp] theorem State.finishInject_pending (s : State) (d : Desc) (st r : Nat) : (s.finishInject d st r).pending = s.pending := rfl
@[simp] theorem State.finishInject_lfg (s : State) (d : Desc) (st r : Nat) : (s.finishInject d st r).lfg = s.lfg := rfl
@[simp] theorem State.finishInject_ltb (s : State) (d : Desc) (st r : Nat) : (s.finishInject d st r).ltb = s.ltb := rfl
@[simp] theorem State.finishInject_pwr (s : State) (d : Desc) (st r : Nat) : (s.finishInject d st r).pwr = s.pwr := rfl
@[simp] theorem State.finishInject_dsf (s : State) (d : Desc) (st r : Nat) : (s.finishInject d st r).dsf = s.dsf := rfl
@[simp] theorem State.finishInject_act (s : State) (d : Desc) (st r : Nat) : (s.finishInject d st r).act = s.act := rfl
@[simp] theorem State.finishInject_ube (s : State) (d : Desc) (st r : Nat) : (s.finishInject d st r).ube = s.ube := rfl
@[simp] theorem State.finishInject_whs (s : State) (d : Desc) (st r : Nat) : (s.finishInject d st r).whs = s.whs := rfl
@[simp] theorem State.finishInject_lln (s : State) (d : Desc) (st r : Nat) : (s.finishInject d st r).lln = s.lln := rfl
@[simp] theorem State.finishInject_cdy (s : State) (d : Desc) (st r : Nat) : (s.finishInject d st r).cdy = s.cdy := rfl
@[simp] theorem State.finishInject_cph (s : State) (d : Desc) (st r : Nat) : (s.finishInject d st r).cph = s.cph := rfl
@[simp] theorem State.finishInject_prt (s : State) (d : Desc) (st r : Nat) : (s.finishInject d st r).prt = s.prt := rfl
@[simp] theorem State.finishInject_str (s : State) (d : Desc) (st r : Nat) : (s.finishInject d st r).str = s.str := rfl
@[simp] theorem State.finishInject_tbl (s : State) (d : Desc) (st r : Nat) : (s.finishInject d st r).tbl = s.tbl := rfl
@[simp] theorem State.finishInject_tmg (s : State) (d : Desc) (st r : Nat) : (s.finishInject d st r).tmg = s.tmg := rfl
@[simp] theorem State.finishInject_mem (s : State) (d : Desc) (st r : Nat) : (s.finishInject d st r).mem = s.mem := rfl
@[simp] theorem State.finishInject_hpm (s : State) (d : Desc) (st r : Nat) : (s.finishInject d st r).hpm = s.hpm := rfl
@[simp] theorem State.finishInject_tim (s : State) (d : Desc) (st r : Nat) : (s.finishInject d st r).tim = s.tim := rfl
@[simp] theorem State.finishInject_inf (s : State) (d : Desc) (st r : Nat) : (s.finishInject d st r).inf = s.inf := rfl
@[simp] theorem State.finishInject_pins (s : State) (d : Desc) (st r : Nat) : (s.finishInject d st r).pins = s.pins := rfl

@[simp] theorem State.rememberMissed_regs (s : State) (old : Option Record) : (s.rememberMissed old).regs = s.regs := by
  unfold State.rememberMissed; split
  · split <;> rfl
  · rfl
@[simp] theorem State.rememberMissed_freeCount (s : State) (old : Option Record) : (s.rememberMissed old).freeCount = s.freeCount := by
  unfold State.rememberMissed; split
  · split <;> rfl
  · rfl
@[simp] theorem State.rememberMissed_pending (s : State) (old : Option Record) : (s.rememberMissed old).pending = s.pending := by
  unfold State.rememberMissed; split
  · split <;> rfl
  · rfl
@[simp] theorem State.rememberMissed_hif (s : State) (old : Option Record) : (s.rememberMissed old).hif = s.hif := by
  unfold State.rememberMissed; split
  · split <;> rfl
  · rfl
@[simp] theorem State.rememberMissed_ltb (s : State) (old : Option Record) : (s.rememberMissed old).ltb = s.ltb := by
  unfold State.rememberMissed; split
  · split <;> rfl
  · rfl
@[simp] theorem State.rememberMissed_pwr (s : State) (old : Option Record) : (s.rememberMissed old).pwr = s.pwr := by
  unfold State.rememberMissed; split
  · split <;> rfl
  · rfl
@[simp] theorem State.rememberMissed_dsf (s : State) (old : Option Record) : (s.rememberMissed old).dsf = s.dsf := by
  unfold State.rememberMissed; split
  · split <;> rfl
  · rfl
@[simp] theorem State.rememberMissed_act (s : State) (old : Option Record) : (s.rememberMissed old).act = s.act := by
  unfold State.rememberMissed; split
  · split <;> rfl
  · rfl
@[simp] theorem State.rememberMissed_ube (s : State) (old : Option Record) : (s.rememberMissed old).ube = s.ube := by
  unfold State.rememberMissed; split
  · split <;> rfl
  · rfl
@[simp] theorem State.rememberMissed_whs (s : State) (old : Option Record) : (s.rememberMissed old).whs = s.whs := by
  unfold State.rememberMissed; split
  · split <;> rfl
  · rfl
@[simp] theorem State.rememberMissed_lln (s : State) (old : Option Record) : (s.rememberMissed old).lln = s.lln := by
  unfold State.rememberMissed; split
  · split <;> rfl
  · rfl
@[simp] theorem State.rememberMissed_cdy (s : State) (old : Option Record) : (s.rememberMissed old).cdy = s.cdy := by
  unfold State.rememberMissed; split
  · split <;> rfl
  · rfl
@[simp] theorem State.rememberMissed_cph (s : State) (old : Option Record) : (s.rememberMissed old).cph = s.cph := by
  unfold State.rememberMissed; split
  · split <;> rfl
  · rfl
@[simp] theorem State.rememberMissed_prt (s : State) (old : Option Record) : (s.rememberMissed old).prt = s.prt := by
  unfold State.rememberMissed; split
  · split <;> rfl
  · rfl
@[simp] theorem State.rememberMissed_str (s : State) (old : Option Record) : (s.rememberMissed old).str = s.str := by
  unfold State.rememberMissed; split
  · split <;> rfl
  · rfl
@[simp] theorem State.rememberMissed_tbl (s : State) (old : Option Record) : (s.rememberMissed old).tbl = s.tbl := by
  unfold State.rememberMissed; split
  · split <;> rfl
  · rfl
@[simp] theorem State.rememberMissed_tmg (s : State) (old : Option Record) : (s.rememberMissed old).tmg = s.tmg := by
  unfold State.rememberMissed; split
  · split <;> rfl
  · rfl
@[simp] theorem State.rememberMissed_mem (s : State) (old : Option Record) : (s.rememberMissed old).mem = s.mem := by
  unfold State.rememberMissed; split
  · split <;> rfl
  · rfl
@[simp] theorem State.rememberMissed_hpm (s : State) (old : Option Record) : (s.rememberMissed old).hpm = s.hpm := by
  unfold State.rememberMissed; split
  · split <;> rfl
  · rfl
@[simp] theorem State.rememberMissed_tim (s : State) (old : Option Record) : (s.rememberMissed old).tim = s.tim := by
  unfold State.rememberMissed; split
  · split <;> rfl
  · rfl
@[simp] theorem State.rememberMissed_inf (s : State) (old : Option Record) : (s.rememberMissed old).inf = s.inf := by
  unfold State.rememberMissed; split
  · split <;> rfl
  · rfl
@[simp] theorem State.rememberMissed_pins (s : State) (old : Option Record) : (s.rememberMissed old).pins = s.pins := by
  unfold State.rememberMissed; split
  · split <;> rfl
  · rfl

@[simp] theorem State.overwriteUnmirrored_freeCount (s : State) (old : Option Record) : (s.overwriteUnmirrored old).freeCount = s.freeCount := by
  unfold State.overwriteUnmirrored; dsimp only; split
  · rw [State.setFld_freeCount, State.raise_freeCount, State.rememberMissed_freeCount]
  · split
    · exact State.rememberMissed_freeCount s old
    · rw [State.setFld_freeCount, State.rememberMissed_freeCount]
@[simp] theorem State.overwriteUnmirrored_pending (s : State) (old : Option Record) : (s.overwriteUnmirrored old).pending = s.pending := by
  unfold State.overwriteUnmirrored; dsimp only; split
  · rw [State.setFld_pending, State.raise_pending, State.rememberMissed_pending]
  · split
    · exact State.rememberMissed_pending s old
    · rw [State.setFld_pending, State.rememberMissed_pending]
@[simp] theorem State.overwriteUnmirrored_hif (s : State) (old : Option Record) : (s.overwriteUnmirrored old).hif = s.hif := by
  unfold State.overwriteUnmirrored; dsimp only; split
  · rw [State.setFld_hif, State.raise_hif, State.rememberMissed_hif]
  · split
    · exact State.rememberMissed_hif s old
    · rw [State.setFld_hif, State.rememberMissed_hif]
@[simp] theorem State.overwriteUnmirrored_ltb (s : State) (old : Option Record) : (s.overwriteUnmirrored old).ltb = s.ltb := by
  unfold State.overwriteUnmirrored; dsimp only; split
  · rw [State.setFld_ltb, State.raise_ltb, State.rememberMissed_ltb]
  · split
    · exact State.rememberMissed_ltb s old
    · rw [State.setFld_ltb, State.rememberMissed_ltb]
@[simp] theorem State.overwriteUnmirrored_pwr (s : State) (old : Option Record) : (s.overwriteUnmirrored old).pwr = s.pwr := by
  unfold State.overwriteUnmirrored; dsimp only; split
  · rw [State.setFld_pwr, State.raise_pwr, State.rememberMissed_pwr]
  · split
    · exact State.rememberMissed_pwr s old
    · rw [State.setFld_pwr, State.rememberMissed_pwr]
@[simp] theorem State.overwriteUnmirrored_dsf (s : State) (old : Option Record) : (s.overwriteUnmirrored old).dsf = s.dsf := by
  unfold State.overwriteUnmirrored; dsimp only; split
  · rw [State.setFld_dsf, State.raise_dsf, State.rememberMissed_dsf]
  · split
    · exact State.rememberMissed_dsf s old
    · rw [State.setFld_dsf, State.rememberMissed_dsf]
@[simp] theorem State.overwriteUnmirrored_act (s : State) (old : Option Record) : (s.overwriteUnmirrored old).act = s.act := by
  unfold State.overwriteUnmirrored; dsimp only; split
  · rw [State.setFld_act, State.raise_act, State.rememberMissed_act]
  · split
    · exact State.rememberMissed_act s old
    · rw [State.setFld_act, State.rememberMissed_act]
@[simp] theorem State.overwriteUnmirrored_ube (s : State) (old : Option Record) : (s.overwriteUnmirrored old).ube = s.ube := by
  unfold State.overwriteUnmirrored; dsimp only; split
  · rw [State.setFld_ube, State.raise_ube, State.rememberMissed_ube]
  · split
    · exact State.rememberMissed_ube s old
    · rw [State.setFld_ube, State.rememberMissed_ube]
@[simp] theorem State.overwriteUnmirrored_whs (s : State) (old : Option Record) : (s.overwriteUnmirrored old).whs = s.whs := by
  unfold State.overwriteUnmirrored; dsimp only; split
  · rw [State.setFld_whs, State.raise_whs, State.rememberMissed_whs]
  · split
    · exact State.rememberMissed_whs s old
    · rw [State.setFld_whs, State.rememberMissed_whs]
@[simp] theorem State.overwriteUnmirrored_lln (s : State) (old : Option Record) : (s.overwriteUnmirrored old).lln = s.lln := by
  unfold State.overwriteUnmirrored; dsimp only; split
  · rw [State.setFld_lln, State.raise_lln, State.rememberMissed_lln]
  · split
    · exact State.rememberMissed_lln s old
    · rw [State.setFld_lln, State.rememberMissed_lln]
@[simp] theorem State.overwriteUnmirrored_cdy (s : State) (old : Option Record) : (s.overwriteUnmirrored old).cdy = s.cdy := by
  unfold State.overwriteUnmirrored; dsimp only; split
  · rw [State.setFld_cdy, State.raise_cdy, State.rememberMissed_cdy]
  · split
    · exact State.rememberMissed_cdy s old
    · rw [State.setFld_cdy, State.rememberMissed_cdy]
@[simp] theorem State.overwriteUnmirrored_cph (s : State) (old : Option Record) : (s.overwriteUnmirrored old).cph = s.cph := by
  unfold State.overwriteUnmirrored; dsimp only; split
  · rw [State.setFld_cph, State.raise_cph, State.rememberMissed_cph]
  · split
    · exact State.rememberMissed_cph s old
    · rw [State.setFld_cph, State.rememberMissed_cph]
@[simp] theorem State.overwriteUnmirrored_prt (s : State) (old : Option Record) : (s.overwriteUnmirrored old).prt = s.prt := by
  unfold State.overwriteUnmirrored; dsimp only; split
  · rw [State.setFld_prt, State.raise_prt, State.rememberMissed_prt]
  · split
    · exact State.rememberMissed_prt s old
    · rw [State.setFld_prt, State.rememberMissed_prt]
@[simp] theorem State.overwriteUnmirrored_str (s : State) (old : Option Record) : (s.overwriteUnmirrored old).str = s.str := by
  unfold State.overwriteUnmirrored; dsimp only; split
  · rw [State.setFld_str, State.raise_str, State.rememberMissed_str]
  · split
    · exact State.rememberMissed_str s old
    · rw [State.setFld_str, State.rememberMissed_str]
@[simp] theorem State.overwriteUnmirrored_tbl (s : State) (old : Option Record) : (s.overwriteUnmirrored old).tbl = s.tbl := by
  unfold State.overwriteUnmirrored; dsimp only; split
  · rw [State.setFld_tbl, State.raise_tbl, State.rememberMissed_tbl]
  · split
    · exact State.rememberMissed_tbl s old
    · rw [State.setFld_tbl, State.rememberMissed_tbl]
@[simp] theorem State.overwriteUnmirrored_tmg (s : State) (old : Option Record) : (s.overwriteUnmirrored old).tmg = s.tmg := by
  unfold State.overwriteUnmirrored; dsimp only; split
  · rw [State.setFld_tmg, State.raise_tmg, State.rememberMissed_tmg]
  · split
    · exact State.rememberMissed_tmg s old
    · rw [State.setFld_tmg, State.rememberMissed_tmg]
@[simp] theorem State.overwriteUnmirrored_mem (s : State) (old : Option Record) : (s.overwriteUnmirrored old).mem = s.mem := by
  unfold State.overwriteUnmirrored; dsimp only; split
  · rw [State.setFld_mem, State.raise_mem, State.rememberMissed_mem]
  · split
    · exact State.rememberMissed_mem s old
    · rw [State.setFld_mem, State.rememberMissed_mem]
@[simp] theorem State.overwriteUnmirrored_hpm (s : State) (old : Option Record) : (s.overwriteUnmirrored old).hpm = s.hpm := by
  unfold State.overwriteUnmirrored; dsimp only; split
  · rw [State.setFld_hpm, State.raise_hpm, State.rememberMissed_hpm]
  · split
    · exact State.rememberMissed_hpm s old
    · rw [State.setFld_hpm, State.rememberMissed_hpm]
@[simp] theorem State.overwriteUnmirrored_tim (s : State) (old : Option Record) : (s.overwriteUnmirrored old).tim = s.tim := by
  unfold State.overwriteUnmirrored; dsimp only; split
  · rw [State.setFld_tim, State.raise_tim, State.rememberMissed_tim]
  · split
    · exact State.rememberMissed_tim s old
    · rw [State.setFld_tim, State.rememberMissed_tim]
@[simp] theorem State.overwriteUnmirrored_inf (s : State) (old : Option Record) : (s.overwriteUnmirrored old).inf = s.inf := by
  unfold State.overwriteUnmirrored; dsimp only; split
  · rw [State.setFld_inf, State.raise_inf, State.rememberMissed_inf]
  · split
    · exact State.rememberMissed_inf s old
    · rw [State.setFld_inf, State.rememberMissed_inf]
@[simp] theorem State.overwriteUnmirrored_pins (s : State) (old : Option Record) : (s.overwriteUnmirrored old).pins = s.pins := by
  unfold State.overwriteUnmirrored; dsimp only; split
  · rw [State.setFld_pins, State.raise_pins, State.rememberMissed_pins]
  · split
    · exact State.rememberMissed_pins s old
    · rw [State.setFld_pins, State.rememberMissed_pins]

@[simp] theorem State.pushRecord_freeCount (s : State) (r : Record) : (s.pushRecord r).freeCount = s.freeCount := by
  unfold State.pushRecord
  rw [State.updLagging_freeCount, State.setFld_freeCount, State.setFld_freeCount]
  split
  · exact (rfl)
  · rw [State.overwriteUnmirrored_freeCount]
@[simp] theorem State.pushRecord_pending (s : State) (r : Record) : (s.pushRecord r).pending = s.pending := by
  unfold State.pushRecord
  rw [State.updLagging_pending, State.setFld_pending, State.setFld_pending]
  split
  · exact (rfl)
  · rw [State.overwriteUnmirrored_pending]
@[simp] theorem State.pushRecord_hif (s : State) (r : Record) : (s.pushRecord r).hif = s.hif := by
  unfold State.pushRecord
  rw [State.updLagging_hif, State.setFld_hif, State.setFld_hif]
  split
  · exact (rfl)
  · rw [State.overwriteUnmirrored_hif]
@[simp] theorem State.pushRecord_ltb (s : State) (r : Record) : (s.pushRecord r).ltb = s.ltb := by
  unfold State.pushRecord
  rw [State.updLagging_ltb, State.setFld_ltb, State.setFld_ltb]
  split
  · exact (rfl)
  · rw [State.overwriteUnmirrored_ltb]
@[simp] theorem State.pushRecord_pwr (s : State) (r : Record) : (s.pushRecord r).pwr = s.pwr := by
  unfold State.pushRecord
  rw [State.updLagging_pwr, State.setFld_pwr, State.setFld_pwr]
  split
  · exact (rfl)
  · rw [State.overwriteUnmirrored_pwr]
@[simp] theorem State.pushRecord_dsf (s : State) (r : Record) : (s.pushRecord r).dsf = s.dsf := by
  unfold State.pushRecord
  rw [State.updLagging_dsf, State.setFld_dsf, State.setFld_dsf]
  split
  · exact (rfl)
  · rw [State.overwriteUnmirrored_dsf]
@[simp] theorem State.pushRecord_act (s : State) (r : Record) : (s.pushRecord r).act = s.act := by
  unfold State.pushRecord
  rw [State.updLagging_act, State.setFld_act, State.setFld_act]
  split
  · exact (rfl)
  · rw [State.overwriteUnmirrored_act]
@[simp] theorem State.pushRecord_ube (s : State) (r : Record) : (s.pushRecord r).ube = s.ube := by
  unfold State.pushRecord
  rw [State.updLagging_ube, State.setFld_ube, State.setFld_ube]
  split
  · exact (rfl)
  · rw [State.overwriteUnmirrored_ube]
@[simp] theorem State.pushRecord_whs (s : State) (r : Record) : (s.pushRecord r).whs = s.whs := by
  unfold State.pushRecord
  rw [State.updLagging_whs, State.setFld_whs, State.setFld_whs]
  split
  · exact (rfl)
  · rw [State.overwriteUnmirrored_whs]
@[simp] theorem State.pushRecord_lln (s : State) (r : Record) : (s.pushRecord r).lln = s.lln := by
  unfold State.pushRecord
  rw [State.updLagging_lln, State.setFld_lln, State.setFld_lln]
  split
  · exact (rfl)
  · rw [State.overwriteUnmirrored_lln]
@[simp] theorem State.pushRecord_cdy (s : State) (r : Record) : (s.pushRecord r).cdy = s.cdy := by
  unfold State.pushRecord
  rw [State.updLagging_cdy, State.setFld_cdy, State.setFld_cdy]
  split
  · exact (rfl)
  · rw [State.overwriteUnmirrored_cdy]
@[simp] theorem State.pushRecord_cph (s : State) (r : Record) : (s.pushRecord r).cph = s.cph := by
  unfold State.pushRecord
  rw [State.updLagging_cph, State.setFld_cph, State.setFld_cph]
  split
  · exact (rfl)
  · rw [State.overwriteUnmirrored_cph]
@[simp] theorem State.pushRecord_prt (s : State) (r : Record) : (s.pushRecord r).prt = s.prt := by
  unfold State.pushRecord
  rw [State.updLagging_prt, State.setFld_prt, State.setFld_prt]
  split
  · exact (rfl)
  · rw [State.overwriteUnmirrored_prt]
@[simp] theorem State.pushRecord_str (s : State) (r : Record) : (s.pushRecord r).str = s.str := by
  unfold State.pushRecord
  rw [State.updLagging_str, State.setFld_str, State.setFld_str]
  split
  · exact (rfl)
  · rw [State.overwriteUnmirrored_str]
@[simp] theorem State.pushRecord_tbl (s : State) (r : Record) : (s.pushRecord r).tbl = s.tbl := by
  unfold State.pushRecord
  rw [State.updLagging_tbl, State.setFld_tbl, State.setFld_tbl]
  split
  · exact (rfl)
  · rw [State.overwriteUnmirrored_tbl]
@[simp] theorem State.pushRecord_tmg (s : State) (r : Record) : (s.pushRecord r).tmg = s.tmg := by
  unfold State.pushRecord
  rw [State.updLagging_tmg, State.setFld_tmg, State.setFld_tmg]
  split
  · exact (rfl)
  · rw [State.overwriteUnmirrored_tmg]
@[simp] theorem State.pushRecord_mem (s : State) (r : Record) : (s.pushRecord r).mem = s.mem := by
  unfold State.pushRecord
  rw [State.updLagging_mem, State.setFld_mem, State.setFld_mem]
  split
  · exact (rfl)
  · rw [State.overwriteUnmirrored_mem]
@[simp] theorem State.pushRecord_hpm (s : State) (r : Record) : (s.pushRecord r).hpm = s.hpm := by
  unfold State.pushRecord
  rw [State.updLagging_hpm, State.setFld_hpm, State.setFld_hpm]
  split
  · exact (rfl)
  · rw [State.overwriteUnmirrored_hpm]
@[simp] theorem State.pushRecord_tim (s : State) (r : Record) : (s.pushRecord r).tim = s.tim := by
  unfold State.pushRecord
  rw [State.updLagging_tim, State.setFld_tim, State.setFld_tim]
  split
  · exact (rfl)
  · rw [State.overwriteUnmirrored_tim]
@[simp] theorem State.pushRecord_inf (s : State) (r : Record) : (s.pushRecord r).inf = s.inf := by
  unfold State.pushRecord
  rw [State.updLagging_inf, State.setFld_inf, State.setFld_inf]
  split
  · exact (rfl)
  · rw [State.overwriteUnmirrored_inf]
@[simp] theorem State.pushRecord_pins (s : State) (r : Record) : (s.pushRecord r).pins = s.pins := by
  unfold State.pushRecord
  rw [State.updLagging_pins, State.setFld_pins, State.setFld_pins]
  split
  · exact (rfl)
  · rw [State.overwriteUnmirrored_pins]

@[simp] theorem State.commit_freeCount (s : State) (ty src : Nat) (p : List Nat) : (s.commit ty src p).freeCount = s.freeCount := by
  rw [State.commit, State.pushRecord_freeCount]
@[simp] theorem State.commit_pending (s : State) (ty src : Nat) (p : List Nat) : (s.commit ty src p).pending = s.pending := by
  rw [State.commit, State.pushRecord_pending]
@[simp] theorem State.commit_hif (s : State) (ty src : Nat) (p : List Nat) : (s.commit ty src p).hif = s.hif := by
  rw [State.commit, State.pushRecord_hif]
@[simp] theorem State.commit_ltb (s : State) (ty src : Nat) (p : List Nat) : (s.commit ty src p).ltb = s.ltb := by
  rw [State.commit, State.pushRecord_ltb]
@[simp] theorem State.commit_pwr (s : State) (ty src : Nat) (p : List Nat) : (s.commit ty src p).pwr = s.pwr := by
  rw [State.commit, State.pushRecord_pwr]
@[simp] theorem State.commit_dsf (s : State) (ty src : Nat) (p : List Nat) : (s.commit ty src p).dsf = s.dsf := by
  rw [State.commit, State.pushRecord_dsf]
@[simp] theorem State.commit_act (s : State) (ty src : Nat) (p : List Nat) : (s.commit ty src p).act = s.act := by
  rw [State.commit, State.pushRecord_act]
@[simp] theorem State.commit_ube (s : State) (ty src : Nat) (p : List Nat) : (s.commit ty src p).ube = s.ube := by
  rw [State.commit, State.pushRecord_ube]
@[simp] theorem State.commit_whs (s : State) (ty src : Nat) (p : List Nat) : (s.commit ty src p).whs = s.whs := by
  rw [State.commit, State.pushRecord_whs]
@[simp] theorem State.commit_lln (s : State) (ty src : Nat) (p : List Nat) : (s.commit ty src p).lln = s.lln := by
  rw [State.commit, State.pushRecord_lln]
@[simp] theorem State.commit_cdy (s : State) (ty src : Nat) (p : List Nat) : (s.commit ty src p).cdy = s.cdy := by
  rw [State.commit, State.pushRecord_cdy]
@[simp] theorem State.commit_cph (s : State) (ty src : Nat) (p : List Nat) : (s.commit ty src p).cph = s.cph := by
  rw [State.commit, State.pushRecord_cph]
@[simp] theorem State.commit_prt (s : State) (ty src : Nat) (p : List Nat) : (s.commit ty src p).prt = s.prt := by
  rw [State.commit, State.pushRecord_prt]
@[simp] theorem State.commit_str (s : State) (ty src : Nat) (p : List Nat) : (s.commit ty src p).str = s.str := by
  rw [State.commit, State.pushRecord_str]
@[simp] theorem State.commit_tbl (s : State) (ty src : Nat) (p : List Nat) : (s.commit ty src p).tbl = s.tbl := by
  rw [State.commit, State.pushRecord_tbl]
@[simp] theorem State.commit_tmg (s : State) (ty src : Nat) (p : List Nat) : (s.commit ty src p).tmg = s.tmg := by
  rw [State.commit, State.pushRecord_tmg]
@[simp] theorem State.commit_mem (s : State) (ty src : Nat) (p : List Nat) : (s.commit ty src p).mem = s.mem := by
  rw [State.commit, State.pushRecord_mem]
@[simp] theorem State.commit_hpm (s : State) (ty src : Nat) (p : List Nat) : (s.commit ty src p).hpm = s.hpm := by
  rw [State.commit, State.pushRecord_hpm]
@[simp] theorem State.commit_tim (s : State) (ty src : Nat) (p : List Nat) : (s.commit ty src p).tim = s.tim := by
  rw [State.commit, State.pushRecord_tim]
@[simp] theorem State.commit_inf (s : State) (ty src : Nat) (p : List Nat) : (s.commit ty src p).inf = s.inf := by
  rw [State.commit, State.pushRecord_inf]
@[simp] theorem State.commit_pins (s : State) (ty src : Nat) (p : List Nat) : (s.commit ty src p).pins = s.pins := by
  rw [State.commit, State.pushRecord_pins]

@[simp] theorem State.stageRecord_freeCount (s : State) (src a b c i : Nat) : (s.stageRecord src a b c i).freeCount = s.freeCount := by
  rw [State.stageRecord, State.commit_freeCount]
@[simp] theorem State.stageRecord_pending (s : State) (src a b c i : Nat) : (s.stageRecord src a b c i).pending = s.pending := by
  rw [State.stageRecord, State.commit_pending]
@[simp] theorem State.stageRecord_hif (s : State) (src a b c i : Nat) : (s.stageRecord src a b c i).hif = s.hif := by
  rw [State.stageRecord, State.commit_hif]
@[simp] theorem State.stageRecord_ltb (s : State) (src a b c i : Nat) : (s.stageRecord src a b c i).ltb = s.ltb := by
  rw [State.stageRecord, State.commit_ltb]
@[simp] theorem State.stageRecord_pwr (s : State) (src a b c i : Nat) : (s.stageRecord src a b c i).pwr = s.pwr := by
  rw [State.stageRecord, State.commit_pwr]
@[simp] theorem State.stageRecord_dsf (s : State) (src a b c i : Nat) : (s.stageRecord src a b c i).dsf = s.dsf := by
  rw [State.stageRecord, State.commit_dsf]
@[simp] theorem State.stageRecord_act (s : State) (src a b c i : Nat) : (s.stageRecord src a b c i).act = s.act := by
  rw [State.stageRecord, State.commit_act]
@[simp] theorem State.stageRecord_ube (s : State) (src a b c i : Nat) : (s.stageRecord src a b c i).ube = s.ube := by
  rw [State.stageRecord, State.commit_ube]
@[simp] theorem State.stageRecord_whs (s : State) (src a b c i : Nat) : (s.stageRecord src a b c i).whs = s.whs := by
  rw [State.stageRecord, State.commit_whs]
@[simp] theorem State.stageRecord_lln (s : State) (src a b c i : Nat) : (s.stageRecord src a b c i).lln = s.lln := by
  rw [State.stageRecord, State.commit_lln]
@[simp] theorem State.stageRecord_cdy (s : State) (src a b c i : Nat) : (s.stageRecord src a b c i).cdy = s.cdy := by
  rw [State.stageRecord, State.commit_cdy]
@[simp] theorem State.stageRecord_cph (s : State) (src a b c i : Nat) : (s.stageRecord src a b c i).cph = s.cph := by
  rw [State.stageRecord, State.commit_cph]
@[simp] theorem State.stageRecord_prt (s : State) (src a b c i : Nat) : (s.stageRecord src a b c i).prt = s.prt := by
  rw [State.stageRecord, State.commit_prt]
@[simp] theorem State.stageRecord_str (s : State) (src a b c i : Nat) : (s.stageRecord src a b c i).str = s.str := by
  rw [State.stageRecord, State.commit_str]
@[simp] theorem State.stageRecord_tbl (s : State) (src a b c i : Nat) : (s.stageRecord src a b c i).tbl = s.tbl := by
  rw [State.stageRecord, State.commit_tbl]
@[simp] theorem State.stageRecord_tmg (s : State) (src a b c i : Nat) : (s.stageRecord src a b c i).tmg = s.tmg := by
  rw [State.stageRecord, State.commit_tmg]
@[simp] theorem State.stageRecord_mem (s : State) (src a b c i : Nat) : (s.stageRecord src a b c i).mem = s.mem := by
  rw [State.stageRecord, State.commit_mem]
@[simp] theorem State.stageRecord_hpm (s : State) (src a b c i : Nat) : (s.stageRecord src a b c i).hpm = s.hpm := by
  rw [State.stageRecord, State.commit_hpm]
@[simp] theorem State.stageRecord_tim (s : State) (src a b c i : Nat) : (s.stageRecord src a b c i).tim = s.tim := by
  rw [State.stageRecord, State.commit_tim]
@[simp] theorem State.stageRecord_inf (s : State) (src a b c i : Nat) : (s.stageRecord src a b c i).inf = s.inf := by
  rw [State.stageRecord, State.commit_inf]
@[simp] theorem State.stageRecord_pins (s : State) (src a b c i : Nat) : (s.stageRecord src a b c i).pins = s.pins := by
  rw [State.stageRecord, State.commit_pins]

@[simp] theorem State.bumpEpoch_freeCount (s : State) (c d : Nat) : (s.bumpEpoch c d).freeCount = s.freeCount := by
  unfold State.bumpEpoch; rw [State.commit_freeCount, State.wrapAdd_freeCount, State.setFld_freeCount]
@[simp] theorem State.bumpEpoch_pending (s : State) (c d : Nat) : (s.bumpEpoch c d).pending = s.pending := by
  unfold State.bumpEpoch; rw [State.commit_pending, State.wrapAdd_pending, State.setFld_pending]
@[simp] theorem State.bumpEpoch_hif (s : State) (c d : Nat) : (s.bumpEpoch c d).hif = s.hif := by
  unfold State.bumpEpoch; rw [State.commit_hif, State.wrapAdd_hif, State.setFld_hif]
@[simp] theorem State.bumpEpoch_ltb (s : State) (c d : Nat) : (s.bumpEpoch c d).ltb = s.ltb := by
  unfold State.bumpEpoch; rw [State.commit_ltb, State.wrapAdd_ltb, State.setFld_ltb]
@[simp] theorem State.bumpEpoch_pwr (s : State) (c d : Nat) : (s.bumpEpoch c d).pwr = s.pwr := by
  unfold State.bumpEpoch; rw [State.commit_pwr, State.wrapAdd_pwr, State.setFld_pwr]
@[simp] theorem State.bumpEpoch_dsf (s : State) (c d : Nat) : (s.bumpEpoch c d).dsf = s.dsf := by
  unfold State.bumpEpoch; rw [State.commit_dsf, State.wrapAdd_dsf, State.setFld_dsf]
@[simp] theorem State.bumpEpoch_act (s : State) (c d : Nat) : (s.bumpEpoch c d).act = s.act := by
  unfold State.bumpEpoch; rw [State.commit_act, State.wrapAdd_act, State.setFld_act]
@[simp] theorem State.bumpEpoch_ube (s : State) (c d : Nat) : (s.bumpEpoch c d).ube = s.ube := by
  unfold State.bumpEpoch; rw [State.commit_ube, State.wrapAdd_ube, State.setFld_ube]
@[simp] theorem State.bumpEpoch_whs (s : State) (c d : Nat) : (s.bumpEpoch c d).whs = s.whs := by
  unfold State.bumpEpoch; rw [State.commit_whs, State.wrapAdd_whs, State.setFld_whs]
@[simp] theorem State.bumpEpoch_lln (s : State) (c d : Nat) : (s.bumpEpoch c d).lln = s.lln := by
  unfold State.bumpEpoch; rw [State.commit_lln, State.wrapAdd_lln, State.setFld_lln]
@[simp] theorem State.bumpEpoch_cdy (s : State) (c d : Nat) : (s.bumpEpoch c d).cdy = s.cdy := by
  unfold State.bumpEpoch; rw [State.commit_cdy, State.wrapAdd_cdy, State.setFld_cdy]
@[simp] theorem State.bumpEpoch_cph (s : State) (c d : Nat) : (s.bumpEpoch c d).cph = s.cph := by
  unfold State.bumpEpoch; rw [State.commit_cph, State.wrapAdd_cph, State.setFld_cph]
@[simp] theorem State.bumpEpoch_prt (s : State) (c d : Nat) : (s.bumpEpoch c d).prt = s.prt := by
  unfold State.bumpEpoch; rw [State.commit_prt, State.wrapAdd_prt, State.setFld_prt]
@[simp] theorem State.bumpEpoch_str (s : State) (c d : Nat) : (s.bumpEpoch c d).str = s.str := by
  unfold State.bumpEpoch; rw [State.commit_str, State.wrapAdd_str, State.setFld_str]
@[simp] theorem State.bumpEpoch_tbl (s : State) (c d : Nat) : (s.bumpEpoch c d).tbl = s.tbl := by
  unfold State.bumpEpoch; rw [State.commit_tbl, State.wrapAdd_tbl, State.setFld_tbl]
@[simp] theorem State.bumpEpoch_tmg (s : State) (c d : Nat) : (s.bumpEpoch c d).tmg = s.tmg := by
  unfold State.bumpEpoch; rw [State.commit_tmg, State.wrapAdd_tmg, State.setFld_tmg]
@[simp] theorem State.bumpEpoch_mem (s : State) (c d : Nat) : (s.bumpEpoch c d).mem = s.mem := by
  unfold State.bumpEpoch; rw [State.commit_mem, State.wrapAdd_mem, State.setFld_mem]
@[simp] theorem State.bumpEpoch_hpm (s : State) (c d : Nat) : (s.bumpEpoch c d).hpm = s.hpm := by
  unfold State.bumpEpoch; rw [State.commit_hpm, State.wrapAdd_hpm, State.setFld_hpm]
@[simp] theorem State.bumpEpoch_tim (s : State) (c d : Nat) : (s.bumpEpoch c d).tim = s.tim := by
  unfold State.bumpEpoch; rw [State.commit_tim, State.wrapAdd_tim, State.setFld_tim]
@[simp] theorem State.bumpEpoch_inf (s : State) (c d : Nat) : (s.bumpEpoch c d).inf = s.inf := by
  unfold State.bumpEpoch; rw [State.commit_inf, State.wrapAdd_inf, State.setFld_inf]
@[simp] theorem State.bumpEpoch_pins (s : State) (c d : Nat) : (s.bumpEpoch c d).pins = s.pins := by
  unfold State.bumpEpoch; rw [State.commit_pins, State.wrapAdd_pins, State.setFld_pins]

@[simp] theorem State.postEvent_freeCount (s : State) (u c : Nat) (l : Option Nat) (st q a b : Nat) : (s.postEvent u c l st q a b).freeCount = s.freeCount := by
  unfold State.postEvent; dsimp only; split
  · rw [State.writeEntry_freeCount]
  · rw [State.loseEvent_freeCount]
@[simp] theorem State.postEvent_pending (s : State) (u c : Nat) (l : Option Nat) (st q a b : Nat) : (s.postEvent u c l st q a b).pending = s.pending := by
  unfold State.postEvent; dsimp only; split
  · rw [State.writeEntry_pending]
  · rw [State.loseEvent_pending]
@[simp] theorem State.postEvent_lfg (s : State) (u c : Nat) (l : Option Nat) (st q a b : Nat) : (s.postEvent u c l st q a b).lfg = s.lfg := by
  unfold State.postEvent; dsimp only; split
  · rw [State.writeEntry_lfg]
  · rw [State.loseEvent_lfg]
@[simp] theorem State.postEvent_ltb (s : State) (u c : Nat) (l : Option Nat) (st q a b : Nat) : (s.postEvent u c l st q a b).ltb = s.ltb := by
  unfold State.postEvent; dsimp only; split
  · rw [State.writeEntry_ltb]
  · rw [State.loseEvent_ltb]
@[simp] theorem State.postEvent_pwr (s : State) (u c : Nat) (l : Option Nat) (st q a b : Nat) : (s.postEvent u c l st q a b).pwr = s.pwr := by
  unfold State.postEvent; dsimp only; split
  · rw [State.writeEntry_pwr]
  · rw [State.loseEvent_pwr]
@[simp] theorem State.postEvent_dsf (s : State) (u c : Nat) (l : Option Nat) (st q a b : Nat) : (s.postEvent u c l st q a b).dsf = s.dsf := by
  unfold State.postEvent; dsimp only; split
  · rw [State.writeEntry_dsf]
  · rw [State.loseEvent_dsf]
@[simp] theorem State.postEvent_act (s : State) (u c : Nat) (l : Option Nat) (st q a b : Nat) : (s.postEvent u c l st q a b).act = s.act := by
  unfold State.postEvent; dsimp only; split
  · rw [State.writeEntry_act]
  · rw [State.loseEvent_act]
@[simp] theorem State.postEvent_ube (s : State) (u c : Nat) (l : Option Nat) (st q a b : Nat) : (s.postEvent u c l st q a b).ube = s.ube := by
  unfold State.postEvent; dsimp only; split
  · rw [State.writeEntry_ube]
  · rw [State.loseEvent_ube]
@[simp] theorem State.postEvent_whs (s : State) (u c : Nat) (l : Option Nat) (st q a b : Nat) : (s.postEvent u c l st q a b).whs = s.whs := by
  unfold State.postEvent; dsimp only; split
  · rw [State.writeEntry_whs]
  · rw [State.loseEvent_whs]
@[simp] theorem State.postEvent_lln (s : State) (u c : Nat) (l : Option Nat) (st q a b : Nat) : (s.postEvent u c l st q a b).lln = s.lln := by
  unfold State.postEvent; dsimp only; split
  · rw [State.writeEntry_lln]
  · rw [State.loseEvent_lln]
@[simp] theorem State.postEvent_cdy (s : State) (u c : Nat) (l : Option Nat) (st q a b : Nat) : (s.postEvent u c l st q a b).cdy = s.cdy := by
  unfold State.postEvent; dsimp only; split
  · rw [State.writeEntry_cdy]
  · rw [State.loseEvent_cdy]
@[simp] theorem State.postEvent_cph (s : State) (u c : Nat) (l : Option Nat) (st q a b : Nat) : (s.postEvent u c l st q a b).cph = s.cph := by
  unfold State.postEvent; dsimp only; split
  · rw [State.writeEntry_cph]
  · rw [State.loseEvent_cph]
@[simp] theorem State.postEvent_prt (s : State) (u c : Nat) (l : Option Nat) (st q a b : Nat) : (s.postEvent u c l st q a b).prt = s.prt := by
  unfold State.postEvent; dsimp only; split
  · rw [State.writeEntry_prt]
  · rw [State.loseEvent_prt]
@[simp] theorem State.postEvent_str (s : State) (u c : Nat) (l : Option Nat) (st q a b : Nat) : (s.postEvent u c l st q a b).str = s.str := by
  unfold State.postEvent; dsimp only; split
  · rw [State.writeEntry_str]
  · rw [State.loseEvent_str]
@[simp] theorem State.postEvent_tbl (s : State) (u c : Nat) (l : Option Nat) (st q a b : Nat) : (s.postEvent u c l st q a b).tbl = s.tbl := by
  unfold State.postEvent; dsimp only; split
  · rw [State.writeEntry_tbl]
  · rw [State.loseEvent_tbl]
@[simp] theorem State.postEvent_tmg (s : State) (u c : Nat) (l : Option Nat) (st q a b : Nat) : (s.postEvent u c l st q a b).tmg = s.tmg := by
  unfold State.postEvent; dsimp only; split
  · rw [State.writeEntry_tmg]
  · rw [State.loseEvent_tmg]
@[simp] theorem State.postEvent_mem (s : State) (u c : Nat) (l : Option Nat) (st q a b : Nat) : (s.postEvent u c l st q a b).mem = s.mem := by
  unfold State.postEvent; dsimp only; split
  · rw [State.writeEntry_mem]
  · rw [State.loseEvent_mem]
@[simp] theorem State.postEvent_hpm (s : State) (u c : Nat) (l : Option Nat) (st q a b : Nat) : (s.postEvent u c l st q a b).hpm = s.hpm := by
  unfold State.postEvent; dsimp only; split
  · rw [State.writeEntry_hpm]
  · rw [State.loseEvent_hpm]
@[simp] theorem State.postEvent_tim (s : State) (u c : Nat) (l : Option Nat) (st q a b : Nat) : (s.postEvent u c l st q a b).tim = s.tim := by
  unfold State.postEvent; dsimp only; split
  · rw [State.writeEntry_tim]
  · rw [State.loseEvent_tim]
@[simp] theorem State.postEvent_inf (s : State) (u c : Nat) (l : Option Nat) (st q a b : Nat) : (s.postEvent u c l st q a b).inf = s.inf := by
  unfold State.postEvent; dsimp only; split
  · rw [State.writeEntry_inf]
  · rw [State.loseEvent_inf]
@[simp] theorem State.postEvent_pins (s : State) (u c : Nat) (l : Option Nat) (st q a b : Nat) : (s.postEvent u c l st q a b).pins = s.pins := by
  unfold State.postEvent; dsimp only; split
  · rw [State.writeEntry_pins]
  · rw [State.loseEvent_pins]

@[simp] theorem State.notify_freeCount (s : State) (u c a b : Nat) : (s.notify u c a b).freeCount = s.freeCount := by
  rw [State.notify, State.postEvent_freeCount]
@[simp] theorem State.notify_pending (s : State) (u c a b : Nat) : (s.notify u c a b).pending = s.pending := by
  rw [State.notify, State.postEvent_pending]
@[simp] theorem State.notify_lfg (s : State) (u c a b : Nat) : (s.notify u c a b).lfg = s.lfg := by
  rw [State.notify, State.postEvent_lfg]
@[simp] theorem State.notify_ltb (s : State) (u c a b : Nat) : (s.notify u c a b).ltb = s.ltb := by
  rw [State.notify, State.postEvent_ltb]
@[simp] theorem State.notify_pwr (s : State) (u c a b : Nat) : (s.notify u c a b).pwr = s.pwr := by
  rw [State.notify, State.postEvent_pwr]
@[simp] theorem State.notify_dsf (s : State) (u c a b : Nat) : (s.notify u c a b).dsf = s.dsf := by
  rw [State.notify, State.postEvent_dsf]
@[simp] theorem State.notify_act (s : State) (u c a b : Nat) : (s.notify u c a b).act = s.act := by
  rw [State.notify, State.postEvent_act]
@[simp] theorem State.notify_ube (s : State) (u c a b : Nat) : (s.notify u c a b).ube = s.ube := by
  rw [State.notify, State.postEvent_ube]
@[simp] theorem State.notify_whs (s : State) (u c a b : Nat) : (s.notify u c a b).whs = s.whs := by
  rw [State.notify, State.postEvent_whs]
@[simp] theorem State.notify_lln (s : State) (u c a b : Nat) : (s.notify u c a b).lln = s.lln := by
  rw [State.notify, State.postEvent_lln]
@[simp] theorem State.notify_cdy (s : State) (u c a b : Nat) : (s.notify u c a b).cdy = s.cdy := by
  rw [State.notify, State.postEvent_cdy]
@[simp] theorem State.notify_cph (s : State) (u c a b : Nat) : (s.notify u c a b).cph = s.cph := by
  rw [State.notify, State.postEvent_cph]
@[simp] theorem State.notify_prt (s : State) (u c a b : Nat) : (s.notify u c a b).prt = s.prt := by
  rw [State.notify, State.postEvent_prt]
@[simp] theorem State.notify_str (s : State) (u c a b : Nat) : (s.notify u c a b).str = s.str := by
  rw [State.notify, State.postEvent_str]
@[simp] theorem State.notify_tbl (s : State) (u c a b : Nat) : (s.notify u c a b).tbl = s.tbl := by
  rw [State.notify, State.postEvent_tbl]
@[simp] theorem State.notify_tmg (s : State) (u c a b : Nat) : (s.notify u c a b).tmg = s.tmg := by
  rw [State.notify, State.postEvent_tmg]
@[simp] theorem State.notify_mem (s : State) (u c a b : Nat) : (s.notify u c a b).mem = s.mem := by
  rw [State.notify, State.postEvent_mem]
@[simp] theorem State.notify_hpm (s : State) (u c a b : Nat) : (s.notify u c a b).hpm = s.hpm := by
  rw [State.notify, State.postEvent_hpm]
@[simp] theorem State.notify_tim (s : State) (u c a b : Nat) : (s.notify u c a b).tim = s.tim := by
  rw [State.notify, State.postEvent_tim]
@[simp] theorem State.notify_inf (s : State) (u c a b : Nat) : (s.notify u c a b).inf = s.inf := by
  rw [State.notify, State.postEvent_inf]
@[simp] theorem State.notify_pins (s : State) (u c a b : Nat) : (s.notify u c a b).pins = s.pins := by
  rw [State.notify, State.postEvent_pins]

@[simp] theorem State.faultEventAt_freeCount (s : State) (u c l st a b : Nat) : (s.faultEventAt u c l st a b).freeCount = s.freeCount := by
  rw [State.faultEventAt, State.postEvent_freeCount, State.commit_freeCount]
@[simp] theorem State.faultEventAt_pending (s : State) (u c l st a b : Nat) : (s.faultEventAt u c l st a b).pending = s.pending := by
  rw [State.faultEventAt, State.postEvent_pending, State.commit_pending]
@[simp] theorem State.faultEventAt_ltb (s : State) (u c l st a b : Nat) : (s.faultEventAt u c l st a b).ltb = s.ltb := by
  rw [State.faultEventAt, State.postEvent_ltb, State.commit_ltb]
@[simp] theorem State.faultEventAt_pwr (s : State) (u c l st a b : Nat) : (s.faultEventAt u c l st a b).pwr = s.pwr := by
  rw [State.faultEventAt, State.postEvent_pwr, State.commit_pwr]
@[simp] theorem State.faultEventAt_dsf (s : State) (u c l st a b : Nat) : (s.faultEventAt u c l st a b).dsf = s.dsf := by
  rw [State.faultEventAt, State.postEvent_dsf, State.commit_dsf]
@[simp] theorem State.faultEventAt_act (s : State) (u c l st a b : Nat) : (s.faultEventAt u c l st a b).act = s.act := by
  rw [State.faultEventAt, State.postEvent_act, State.commit_act]
@[simp] theorem State.faultEventAt_ube (s : State) (u c l st a b : Nat) : (s.faultEventAt u c l st a b).ube = s.ube := by
  rw [State.faultEventAt, State.postEvent_ube, State.commit_ube]
@[simp] theorem State.faultEventAt_whs (s : State) (u c l st a b : Nat) : (s.faultEventAt u c l st a b).whs = s.whs := by
  rw [State.faultEventAt, State.postEvent_whs, State.commit_whs]
@[simp] theorem State.faultEventAt_lln (s : State) (u c l st a b : Nat) : (s.faultEventAt u c l st a b).lln = s.lln := by
  rw [State.faultEventAt, State.postEvent_lln, State.commit_lln]
@[simp] theorem State.faultEventAt_cdy (s : State) (u c l st a b : Nat) : (s.faultEventAt u c l st a b).cdy = s.cdy := by
  rw [State.faultEventAt, State.postEvent_cdy, State.commit_cdy]
@[simp] theorem State.faultEventAt_cph (s : State) (u c l st a b : Nat) : (s.faultEventAt u c l st a b).cph = s.cph := by
  rw [State.faultEventAt, State.postEvent_cph, State.commit_cph]
@[simp] theorem State.faultEventAt_prt (s : State) (u c l st a b : Nat) : (s.faultEventAt u c l st a b).prt = s.prt := by
  rw [State.faultEventAt, State.postEvent_prt, State.commit_prt]
@[simp] theorem State.faultEventAt_str (s : State) (u c l st a b : Nat) : (s.faultEventAt u c l st a b).str = s.str := by
  rw [State.faultEventAt, State.postEvent_str, State.commit_str]
@[simp] theorem State.faultEventAt_tbl (s : State) (u c l st a b : Nat) : (s.faultEventAt u c l st a b).tbl = s.tbl := by
  rw [State.faultEventAt, State.postEvent_tbl, State.commit_tbl]
@[simp] theorem State.faultEventAt_tmg (s : State) (u c l st a b : Nat) : (s.faultEventAt u c l st a b).tmg = s.tmg := by
  rw [State.faultEventAt, State.postEvent_tmg, State.commit_tmg]
@[simp] theorem State.faultEventAt_mem (s : State) (u c l st a b : Nat) : (s.faultEventAt u c l st a b).mem = s.mem := by
  rw [State.faultEventAt, State.postEvent_mem, State.commit_mem]
@[simp] theorem State.faultEventAt_hpm (s : State) (u c l st a b : Nat) : (s.faultEventAt u c l st a b).hpm = s.hpm := by
  rw [State.faultEventAt, State.postEvent_hpm, State.commit_hpm]
@[simp] theorem State.faultEventAt_tim (s : State) (u c l st a b : Nat) : (s.faultEventAt u c l st a b).tim = s.tim := by
  rw [State.faultEventAt, State.postEvent_tim, State.commit_tim]
@[simp] theorem State.faultEventAt_inf (s : State) (u c l st a b : Nat) : (s.faultEventAt u c l st a b).inf = s.inf := by
  rw [State.faultEventAt, State.postEvent_inf, State.commit_inf]
@[simp] theorem State.faultEventAt_pins (s : State) (u c l st a b : Nat) : (s.faultEventAt u c l st a b).pins = s.pins := by
  rw [State.faultEventAt, State.postEvent_pins, State.commit_pins]

@[simp] theorem State.faultEvent_freeCount (s : State) (u c l a b : Nat) : (s.faultEvent u c l a b).freeCount = s.freeCount := by
  rw [State.faultEvent, State.faultEventAt_freeCount]
@[simp] theorem State.faultEvent_pending (s : State) (u c l a b : Nat) : (s.faultEvent u c l a b).pending = s.pending := by
  rw [State.faultEvent, State.faultEventAt_pending]
@[simp] theorem State.faultEvent_ltb (s : State) (u c l a b : Nat) : (s.faultEvent u c l a b).ltb = s.ltb := by
  rw [State.faultEvent, State.faultEventAt_ltb]
@[simp] theorem State.faultEvent_pwr (s : State) (u c l a b : Nat) : (s.faultEvent u c l a b).pwr = s.pwr := by
  rw [State.faultEvent, State.faultEventAt_pwr]
@[simp] theorem State.faultEvent_dsf (s : State) (u c l a b : Nat) : (s.faultEvent u c l a b).dsf = s.dsf := by
  rw [State.faultEvent, State.faultEventAt_dsf]
@[simp] theorem State.faultEvent_act (s : State) (u c l a b : Nat) : (s.faultEvent u c l a b).act = s.act := by
  rw [State.faultEvent, State.faultEventAt_act]
@[simp] theorem State.faultEvent_ube (s : State) (u c l a b : Nat) : (s.faultEvent u c l a b).ube = s.ube := by
  rw [State.faultEvent, State.faultEventAt_ube]
@[simp] theorem State.faultEvent_whs (s : State) (u c l a b : Nat) : (s.faultEvent u c l a b).whs = s.whs := by
  rw [State.faultEvent, State.faultEventAt_whs]
@[simp] theorem State.faultEvent_lln (s : State) (u c l a b : Nat) : (s.faultEvent u c l a b).lln = s.lln := by
  rw [State.faultEvent, State.faultEventAt_lln]
@[simp] theorem State.faultEvent_cdy (s : State) (u c l a b : Nat) : (s.faultEvent u c l a b).cdy = s.cdy := by
  rw [State.faultEvent, State.faultEventAt_cdy]
@[simp] theorem State.faultEvent_cph (s : State) (u c l a b : Nat) : (s.faultEvent u c l a b).cph = s.cph := by
  rw [State.faultEvent, State.faultEventAt_cph]
@[simp] theorem State.faultEvent_prt (s : State) (u c l a b : Nat) : (s.faultEvent u c l a b).prt = s.prt := by
  rw [State.faultEvent, State.faultEventAt_prt]
@[simp] theorem State.faultEvent_str (s : State) (u c l a b : Nat) : (s.faultEvent u c l a b).str = s.str := by
  rw [State.faultEvent, State.faultEventAt_str]
@[simp] theorem State.faultEvent_tbl (s : State) (u c l a b : Nat) : (s.faultEvent u c l a b).tbl = s.tbl := by
  rw [State.faultEvent, State.faultEventAt_tbl]
@[simp] theorem State.faultEvent_tmg (s : State) (u c l a b : Nat) : (s.faultEvent u c l a b).tmg = s.tmg := by
  rw [State.faultEvent, State.faultEventAt_tmg]
@[simp] theorem State.faultEvent_mem (s : State) (u c l a b : Nat) : (s.faultEvent u c l a b).mem = s.mem := by
  rw [State.faultEvent, State.faultEventAt_mem]
@[simp] theorem State.faultEvent_hpm (s : State) (u c l a b : Nat) : (s.faultEvent u c l a b).hpm = s.hpm := by
  rw [State.faultEvent, State.faultEventAt_hpm]
@[simp] theorem State.faultEvent_tim (s : State) (u c l a b : Nat) : (s.faultEvent u c l a b).tim = s.tim := by
  rw [State.faultEvent, State.faultEventAt_tim]
@[simp] theorem State.faultEvent_inf (s : State) (u c l a b : Nat) : (s.faultEvent u c l a b).inf = s.inf := by
  rw [State.faultEvent, State.faultEventAt_inf]
@[simp] theorem State.faultEvent_pins (s : State) (u c l a b : Nat) : (s.faultEvent u c l a b).pins = s.pins := by
  rw [State.faultEvent, State.faultEventAt_pins]

@[simp] theorem State.commitCmd_freeCount (s : State) (d : Desc) (st r : Nat) : (s.commitCmd d st r).freeCount = s.freeCount := by
  unfold State.commitCmd; simp only [State.pushRecord_freeCount]
@[simp] theorem State.commitCmd_pending (s : State) (d : Desc) (st r : Nat) : (s.commitCmd d st r).pending = s.pending := by
  unfold State.commitCmd; simp only [State.pushRecord_pending]
@[simp] theorem State.commitCmd_ltb (s : State) (d : Desc) (st r : Nat) : (s.commitCmd d st r).ltb = s.ltb := by
  unfold State.commitCmd; simp only [State.pushRecord_ltb]
@[simp] theorem State.commitCmd_pwr (s : State) (d : Desc) (st r : Nat) : (s.commitCmd d st r).pwr = s.pwr := by
  unfold State.commitCmd; simp only [State.pushRecord_pwr]
@[simp] theorem State.commitCmd_dsf (s : State) (d : Desc) (st r : Nat) : (s.commitCmd d st r).dsf = s.dsf := by
  unfold State.commitCmd; simp only [State.pushRecord_dsf]
@[simp] theorem State.commitCmd_act (s : State) (d : Desc) (st r : Nat) : (s.commitCmd d st r).act = s.act := by
  unfold State.commitCmd; simp only [State.pushRecord_act]
@[simp] theorem State.commitCmd_ube (s : State) (d : Desc) (st r : Nat) : (s.commitCmd d st r).ube = s.ube := by
  unfold State.commitCmd; simp only [State.pushRecord_ube]
@[simp] theorem State.commitCmd_whs (s : State) (d : Desc) (st r : Nat) : (s.commitCmd d st r).whs = s.whs := by
  unfold State.commitCmd; simp only [State.pushRecord_whs]
@[simp] theorem State.commitCmd_lln (s : State) (d : Desc) (st r : Nat) : (s.commitCmd d st r).lln = s.lln := by
  unfold State.commitCmd; simp only [State.pushRecord_lln]
@[simp] theorem State.commitCmd_cdy (s : State) (d : Desc) (st r : Nat) : (s.commitCmd d st r).cdy = s.cdy := by
  unfold State.commitCmd; simp only [State.pushRecord_cdy]
@[simp] theorem State.commitCmd_cph (s : State) (d : Desc) (st r : Nat) : (s.commitCmd d st r).cph = s.cph := by
  unfold State.commitCmd; simp only [State.pushRecord_cph]
@[simp] theorem State.commitCmd_prt (s : State) (d : Desc) (st r : Nat) : (s.commitCmd d st r).prt = s.prt := by
  unfold State.commitCmd; simp only [State.pushRecord_prt]
@[simp] theorem State.commitCmd_str (s : State) (d : Desc) (st r : Nat) : (s.commitCmd d st r).str = s.str := by
  unfold State.commitCmd; simp only [State.pushRecord_str]
@[simp] theorem State.commitCmd_tbl (s : State) (d : Desc) (st r : Nat) : (s.commitCmd d st r).tbl = s.tbl := by
  unfold State.commitCmd; simp only [State.pushRecord_tbl]
@[simp] theorem State.commitCmd_tmg (s : State) (d : Desc) (st r : Nat) : (s.commitCmd d st r).tmg = s.tmg := by
  unfold State.commitCmd; simp only [State.pushRecord_tmg]
@[simp] theorem State.commitCmd_mem (s : State) (d : Desc) (st r : Nat) : (s.commitCmd d st r).mem = s.mem := by
  unfold State.commitCmd; simp only [State.pushRecord_mem]
@[simp] theorem State.commitCmd_hpm (s : State) (d : Desc) (st r : Nat) : (s.commitCmd d st r).hpm = s.hpm := by
  unfold State.commitCmd; simp only [State.pushRecord_hpm]
@[simp] theorem State.commitCmd_tim (s : State) (d : Desc) (st r : Nat) : (s.commitCmd d st r).tim = s.tim := by
  unfold State.commitCmd; simp only [State.pushRecord_tim]
@[simp] theorem State.commitCmd_inf (s : State) (d : Desc) (st r : Nat) : (s.commitCmd d st r).inf = s.inf := by
  unfold State.commitCmd; simp only [State.pushRecord_inf]
@[simp] theorem State.commitCmd_pins (s : State) (d : Desc) (st r : Nat) : (s.commitCmd d st r).pins = s.pins := by
  unfold State.commitCmd; simp only [State.pushRecord_pins]

@[simp] theorem State.finish_freeCount (s : State) (d : Desc) (st r : Nat) : (s.finish d st r).freeCount = s.freeCount := by
  unfold State.finish; split
  · rfl
  · rw [State.commitCmd_freeCount]
@[simp] theorem State.finish_pending (s : State) (d : Desc) (st r : Nat) : (s.finish d st r).pending = s.pending := by
  unfold State.finish; split
  · rfl
  · rw [State.commitCmd_pending]
@[simp] theorem State.finish_ltb (s : State) (d : Desc) (st r : Nat) : (s.finish d st r).ltb = s.ltb := by
  unfold State.finish; split
  · rfl
  · rw [State.commitCmd_ltb]
@[simp] theorem State.finish_pwr (s : State) (d : Desc) (st r : Nat) : (s.finish d st r).pwr = s.pwr := by
  unfold State.finish; split
  · rfl
  · rw [State.commitCmd_pwr]
@[simp] theorem State.finish_dsf (s : State) (d : Desc) (st r : Nat) : (s.finish d st r).dsf = s.dsf := by
  unfold State.finish; split
  · rfl
  · rw [State.commitCmd_dsf]
@[simp] theorem State.finish_act (s : State) (d : Desc) (st r : Nat) : (s.finish d st r).act = s.act := by
  unfold State.finish; split
  · rfl
  · rw [State.commitCmd_act]
@[simp] theorem State.finish_ube (s : State) (d : Desc) (st r : Nat) : (s.finish d st r).ube = s.ube := by
  unfold State.finish; split
  · rfl
  · rw [State.commitCmd_ube]
@[simp] theorem State.finish_whs (s : State) (d : Desc) (st r : Nat) : (s.finish d st r).whs = s.whs := by
  unfold State.finish; split
  · rfl
  · rw [State.commitCmd_whs]
@[simp] theorem State.finish_lln (s : State) (d : Desc) (st r : Nat) : (s.finish d st r).lln = s.lln := by
  unfold State.finish; split
  · rfl
  · rw [State.commitCmd_lln]
@[simp] theorem State.finish_cdy (s : State) (d : Desc) (st r : Nat) : (s.finish d st r).cdy = s.cdy := by
  unfold State.finish; split
  · rfl
  · rw [State.commitCmd_cdy]
@[simp] theorem State.finish_cph (s : State) (d : Desc) (st r : Nat) : (s.finish d st r).cph = s.cph := by
  unfold State.finish; split
  · rfl
  · rw [State.commitCmd_cph]
@[simp] theorem State.finish_prt (s : State) (d : Desc) (st r : Nat) : (s.finish d st r).prt = s.prt := by
  unfold State.finish; split
  · rfl
  · rw [State.commitCmd_prt]
@[simp] theorem State.finish_str (s : State) (d : Desc) (st r : Nat) : (s.finish d st r).str = s.str := by
  unfold State.finish; split
  · rfl
  · rw [State.commitCmd_str]
@[simp] theorem State.finish_tbl (s : State) (d : Desc) (st r : Nat) : (s.finish d st r).tbl = s.tbl := by
  unfold State.finish; split
  · rfl
  · rw [State.commitCmd_tbl]
@[simp] theorem State.finish_tmg (s : State) (d : Desc) (st r : Nat) : (s.finish d st r).tmg = s.tmg := by
  unfold State.finish; split
  · rfl
  · rw [State.commitCmd_tmg]
@[simp] theorem State.finish_mem (s : State) (d : Desc) (st r : Nat) : (s.finish d st r).mem = s.mem := by
  unfold State.finish; split
  · rfl
  · rw [State.commitCmd_mem]
@[simp] theorem State.finish_hpm (s : State) (d : Desc) (st r : Nat) : (s.finish d st r).hpm = s.hpm := by
  unfold State.finish; split
  · rfl
  · rw [State.commitCmd_hpm]
@[simp] theorem State.finish_tim (s : State) (d : Desc) (st r : Nat) : (s.finish d st r).tim = s.tim := by
  unfold State.finish; split
  · rfl
  · rw [State.commitCmd_tim]
@[simp] theorem State.finish_inf (s : State) (d : Desc) (st r : Nat) : (s.finish d st r).inf = s.inf := by
  unfold State.finish; split
  · rfl
  · rw [State.commitCmd_inf]
@[simp] theorem State.finish_pins (s : State) (d : Desc) (st r : Nat) : (s.finish d st r).pins = s.pins := by
  unfold State.finish; split
  · rfl
  · rw [State.commitCmd_pins]

@[simp] theorem State.refuse_freeCount (s : State) (d : Desc) (st r : Nat) : (s.refuse d st r).freeCount = s.freeCount := by
  rw [State.refuse, State.finish_freeCount]
@[simp] theorem State.refuse_pending (s : State) (d : Desc) (st r : Nat) : (s.refuse d st r).pending = s.pending := by
  rw [State.refuse, State.finish_pending]
@[simp] theorem State.refuse_ltb (s : State) (d : Desc) (st r : Nat) : (s.refuse d st r).ltb = s.ltb := by
  rw [State.refuse, State.finish_ltb]
@[simp] theorem State.refuse_pwr (s : State) (d : Desc) (st r : Nat) : (s.refuse d st r).pwr = s.pwr := by
  rw [State.refuse, State.finish_pwr]
@[simp] theorem State.refuse_dsf (s : State) (d : Desc) (st r : Nat) : (s.refuse d st r).dsf = s.dsf := by
  rw [State.refuse, State.finish_dsf]
@[simp] theorem State.refuse_act (s : State) (d : Desc) (st r : Nat) : (s.refuse d st r).act = s.act := by
  rw [State.refuse, State.finish_act]
@[simp] theorem State.refuse_ube (s : State) (d : Desc) (st r : Nat) : (s.refuse d st r).ube = s.ube := by
  rw [State.refuse, State.finish_ube]
@[simp] theorem State.refuse_whs (s : State) (d : Desc) (st r : Nat) : (s.refuse d st r).whs = s.whs := by
  rw [State.refuse, State.finish_whs]
@[simp] theorem State.refuse_lln (s : State) (d : Desc) (st r : Nat) : (s.refuse d st r).lln = s.lln := by
  rw [State.refuse, State.finish_lln]
@[simp] theorem State.refuse_cdy (s : State) (d : Desc) (st r : Nat) : (s.refuse d st r).cdy = s.cdy := by
  rw [State.refuse, State.finish_cdy]
@[simp] theorem State.refuse_cph (s : State) (d : Desc) (st r : Nat) : (s.refuse d st r).cph = s.cph := by
  rw [State.refuse, State.finish_cph]
@[simp] theorem State.refuse_prt (s : State) (d : Desc) (st r : Nat) : (s.refuse d st r).prt = s.prt := by
  rw [State.refuse, State.finish_prt]
@[simp] theorem State.refuse_str (s : State) (d : Desc) (st r : Nat) : (s.refuse d st r).str = s.str := by
  rw [State.refuse, State.finish_str]
@[simp] theorem State.refuse_tbl (s : State) (d : Desc) (st r : Nat) : (s.refuse d st r).tbl = s.tbl := by
  rw [State.refuse, State.finish_tbl]
@[simp] theorem State.refuse_tmg (s : State) (d : Desc) (st r : Nat) : (s.refuse d st r).tmg = s.tmg := by
  rw [State.refuse, State.finish_tmg]
@[simp] theorem State.refuse_mem (s : State) (d : Desc) (st r : Nat) : (s.refuse d st r).mem = s.mem := by
  rw [State.refuse, State.finish_mem]
@[simp] theorem State.refuse_hpm (s : State) (d : Desc) (st r : Nat) : (s.refuse d st r).hpm = s.hpm := by
  rw [State.refuse, State.finish_hpm]
@[simp] theorem State.refuse_tim (s : State) (d : Desc) (st r : Nat) : (s.refuse d st r).tim = s.tim := by
  rw [State.refuse, State.finish_tim]
@[simp] theorem State.refuse_inf (s : State) (d : Desc) (st r : Nat) : (s.refuse d st r).inf = s.inf := by
  rw [State.refuse, State.finish_inf]
@[simp] theorem State.refuse_pins (s : State) (d : Desc) (st r : Nat) : (s.refuse d st r).pins = s.pins := by
  rw [State.refuse, State.finish_pins]

/-- A command row acts on the descriptor that names it (R57). -/
theorem State.asCommand_of (s t : State) (d : Desc) (op : Nat) (also : Bool) (h : d.opcode = op) (ha : also = true) : s.asCommand d op also t = t :=
  if_pos ⟨h, ha⟩

/-- On a descriptor that names another command nothing changes (R57). -/
theorem State.asCommand_other (s t : State) (d : Desc) (op : Nat) (also : Bool) (h : ¬(d.opcode = op ∧ also = true)) : s.asCommand d op also t = s := if_neg h

/-- Without the mirror's lag a command's record is committed as it ends (R82). -/
theorem State.finish_now (s : State) (d : Desc) (st r : Nat) (h : s.fld F.LFG_STATUS_LAGGING 0 ≠ 1) : s.finish d st r = s.commitCmd d st r := if_neg h

/-- What is remembered of an overwritten record concerns neither the volatile ring nor the store (R84). -/
theorem State.rememberMissed_lfg (s : State) (old : Option Record) :
    (s.rememberMissed old).lfg.volatile = s.lfg.volatile ∧ (s.rememberMissed old).lfg.count = s.lfg.count ∧ (s.rememberMissed old).lfg.nv = s.lfg.nv := by
  unfold State.rememberMissed
  split
  · split <;> exact ⟨rfl, rfl, rfl⟩
  · exact ⟨rfl, rfl, rfl⟩

/-- Overwriting an unmirrored record leaves the volatile ring and the store (R82). -/
theorem State.overwriteUnmirrored_lfg (s : State) (old : Option Record) :
    (s.overwriteUnmirrored old).lfg.volatile = s.lfg.volatile ∧ (s.overwriteUnmirrored old).lfg.count = s.lfg.count ∧
      (s.overwriteUnmirrored old).lfg.nv = s.lfg.nv := by
  unfold State.overwriteUnmirrored
  dsimp only
  split
  · rw [State.setFld_lfg, State.raise_lfg]; exact s.rememberMissed_lfg old
  · split
    · exact s.rememberMissed_lfg old
    · rw [State.setFld_lfg]; exact s.rememberMissed_lfg old

/-- A committed record is the newest of the volatile ring (R78, R82). -/
theorem State.pushRecord_lfg (s : State) (r : Record) :
    (s.pushRecord r).lfg.volatile = (r :: s.lfg.volatile).take 65536 ∧ (s.pushRecord r).lfg.count = s.lfg.count + 1 ∧
      (s.pushRecord r).lfg.nv = s.lfg.nv := by
  unfold State.pushRecord
  rw [State.updLagging_lfg, State.setFld_lfg, State.setFld_lfg]
  split
  · exact ⟨(rfl), (rfl), (rfl)⟩
  · exact State.overwriteUnmirrored_lfg _ _

end Sys2Proof.Machine
end

