-- ==== Sys2Proof/Laws/Frames.lean ====
section
/-!
SUPPORT. Sys2Proof/Laws/Frames.lean: what each shared operation can do, once: which registers it may change, and how a command ends.
-/
namespace Sys2Proof.Machine

theorem KeepsRegs.refl (s : State) (l : List Fld) : KeepsRegs s s l := fun _ _ _ => rfl

theorem KeepsRegs.trans {s t u : State} {l : List Fld} (h1 : KeepsRegs s t l) (h2 : KeepsRegs t u l) : KeepsRegs s u l :=
  fun f i h => (h2 f i h).trans (h1 f i h)

theorem KeepsRegs.mono {s t : State} {l m : List Fld} (h : KeepsRegs s t l) (hm : ∀ x ∈ l.map Fld.id, x ∈ m.map Fld.id) : KeepsRegs s t m :=
  fun f i hf => h f i (fun hx => hf (hm _ hx))

/-- Equal register files read equally. -/
theorem KeepsRegs.of_regs {s t : State} (l : List Fld) (h : t.regs = s.regs) : KeepsRegs s t l :=
  fun f i _ => by simp only [State.fld, h]

theorem KeepsRegs.setFld {s t : State} {l : List Fld} (h : KeepsRegs s t l) (f : Fld) (i v : Nat) (hf : f.id ∈ l.map Fld.id) :
    KeepsRegs s (t.setFld f i v) l := fun g j hg => by
  rw [State.fld_setFld_ne t f g i j v (Or.inl (fun e => hg (e ▸ hf)))]; exact h g j hg

theorem KeepsRegs.raise {s t : State} {l : List Fld} (h : KeepsRegs s t l) (ev cnt : Fld) (i : Nat) (h1 : ev.id ∈ l.map Fld.id)
    (h2 : cnt.id ∈ l.map Fld.id) : KeepsRegs s (t.raise ev cnt i) l := (h.setFld ev i 1 h1).setFld cnt i _ h2

theorem KeepsRegs.satAdd {s t : State} {l : List Fld} (h : KeepsRegs s t l) (f : Fld) (i n : Nat) (hf : f.id ∈ l.map Fld.id) :
    KeepsRegs s (t.satAdd f i n) l := h.setFld f i _ hf

theorem KeepsRegs.wrapAdd {s t : State} {l : List Fld} (h : KeepsRegs s t l) (f : Fld) (i n : Nat) (hf : f.id ∈ l.map Fld.id) :
    KeepsRegs s (t.wrapAdd f i n) l := h.setFld f i _ hf

theorem KeepsAt.refl (s : State) (n : Nat) (l : List Fld) : KeepsAt s s n l := fun _ _ _ => rfl

theorem KeepsAt.setFld {s t : State} {n : Nat} {l : List Fld} (h : KeepsAt s t n l) (f : Fld) (v : Nat) (hf : f.id ∈ l.map Fld.id) :
    KeepsAt s (t.setFld f n v) n l := fun g j hg => by
  rw [State.fld_setFld_ne t f g n j v]
  · exact h g j hg
  · rcases hg with hg | hg
    · exact Or.inl (fun e => hg (e ▸ hf))
    · exact Or.inr (Ne.symm hg)

theorem KeepsAt.raise {s t : State} {n : Nat} {l : List Fld} (h : KeepsAt s t n l) (ev cnt : Fld) (h1 : ev.id ∈ l.map Fld.id)
    (h2 : cnt.id ∈ l.map Fld.id) : KeepsAt s (t.raise ev cnt n) n l := (h.setFld ev 1 h1).setFld cnt _ h2

/-- Overwriting an unmirrored record changes the gap's registers only (R82, R86). -/
theorem State.overwriteUnmirrored_keeps {s t : State} (old : Option Record) (h : KeepsRegs s t commitFlds) :
    KeepsRegs s (t.overwriteUnmirrored old) commitFlds := by
  have h1 : KeepsRegs s (t.rememberMissed old) commitFlds := h.trans (KeepsRegs.of_regs _ (State.rememberMissed_regs t old))
  unfold State.overwriteUnmirrored
  dsimp only
  split
  · exact (h1.raise _ _ _ (by decide) (by decide)).setFld _ _ _ (by decide)
  · split
    · exact h1.trans (KeepsRegs.of_regs _ rfl)
    · exact h1.setFld _ _ _ (by decide)

/-- A committed record changes the registers of R78 and R82 only. -/
theorem State.pushRecord_keeps (s : State) (r : Record) : KeepsRegs s (s.pushRecord r) commitFlds := by
  have h0 : ∀ t : State, t.regs = s.regs → KeepsRegs s ((t.setFld F.HIF_JRN_HEAD_LO_SEQ 0 r.seq).setFld F.HIF_JRN_HEAD_HI_SEQ 0
      (r.seq / 2 ^ 32)).updLagging commitFlds := fun t ht =>
    (((KeepsRegs.of_regs commitFlds ht).setFld _ _ _ (by decide)).setFld _ _ _ (by decide)).setFld _ _ _ (by decide)
  have h1 : ∀ t : State, KeepsRegs s t commitFlds → KeepsRegs s ((t.setFld F.HIF_JRN_HEAD_LO_SEQ 0 r.seq).setFld F.HIF_JRN_HEAD_HI_SEQ 0
      (r.seq / 2 ^ 32)).updLagging commitFlds := fun t ht =>
    ((ht.setFld _ _ _ (by decide)).setFld _ _ _ (by decide)).setFld _ _ _ (by decide)
  unfold State.pushRecord
  dsimp only
  split
  · exact h0 _ (rfl)
  · apply h1
    exact State.overwriteUnmirrored_keeps _ (KeepsRegs.of_regs _ rfl)

theorem State.commit_keeps (s : State) (ty src : Nat) (p : List Nat) : KeepsRegs s (s.commit ty src p) commitFlds :=
  State.pushRecord_keeps s _

theorem State.postEvent_keeps (s : State) (u c : Nat) (l : Option Nat) (st q a b : Nat) : KeepsRegs s (s.postEvent u c l st q a b) eventFlds := by
  unfold State.postEvent
  dsimp only
  split
  · exact KeepsRegs.of_regs _ (by rw [State.writeEntry_regs])
  · exact ((KeepsRegs.refl s eventFlds).wrapAdd _ _ _ (by decide)).raise _ _ _ (by decide) (by decide)

theorem State.notify_keeps (s : State) (u c a b : Nat) : KeepsRegs s (s.notify u c a b) eventFlds := State.postEvent_keeps s _ _ _ _ _ _ _

theorem State.faultEventAt_keeps (s : State) (u c l st a b : Nat) : KeepsRegs s (s.faultEventAt u c l st a b) eventFlds := by
  unfold State.faultEventAt
  exact ((State.commit_keeps s _ _ _).mono (by decide)).trans (State.postEvent_keeps _ _ _ _ _ _ _ _)

theorem State.faultEvent_keeps (s : State) (u c l a b : Nat) : KeepsRegs s (s.faultEvent u c l a b) eventFlds := State.faultEventAt_keeps s _ _ _ _ _ _

theorem State.commitCmd_regs (s : State) (d : Desc) (st r : Nat) : (s.commitCmd d st r).regs =
    (s.pushRecord (s.recordNow 1 d.ring d.opcode d.tag st 0 r d.index ((List.range 6).map (fun k => d.dw (5 + k))))).regs := by
  unfold State.commitCmd; rfl

theorem State.commitCmd_keeps (s : State) (d : Desc) (st r : Nat) : KeepsRegs s (s.commitCmd d st r) commitFlds := fun f i h => by
  simp only [State.fld, State.commitCmd_regs]
  exact State.pushRecord_keeps s _ f i h

theorem State.finish_keeps (s : State) (d : Desc) (st r : Nat) : KeepsRegs s (s.finish d st r) commitFlds := by
  unfold State.finish
  split
  · exact KeepsRegs.of_regs _ rfl
  · exact State.commitCmd_keeps s d st r

theorem markDone_mem (d : Desc) (dn : Done) (l : List Flight) : ∃ f ∈ markDone false d dn l,
    f.inj = false ∧ f.desc.ring = d.ring ∧ f.desc.index = d.index ∧ f.done = some dn := by
  induction l with
  | nil => exact ⟨⟨false, d, true, false, some dn⟩, by simp [markDone], rfl, rfl, rfl, rfl⟩
  | cons f fs ih =>
    simp only [markDone]
    split
    · rename_i h
      simp only [Bool.and_eq_true, beq_iff_eq] at h
      exact ⟨{ f with done := some dn }, by simp, h.1.1.1, h.1.1.2, h.1.2, rfl⟩
    · obtain ⟨g, hg, h⟩ := ih
      exact ⟨g, List.mem_cons_of_mem _ hg, h⟩

/-- A command whose record is committed waits to retire. -/
theorem State.commitCmd_ends (s : State) (d : Desc) (st r : Nat) : EndsAtOnce d st r (s.commitCmd d st r) := by
  constructor
  · refine ⟨s.recordNow 1 d.ring d.opcode d.tag st 0 r d.index ((List.range 6).map (fun k => d.dw (5 + k))), ?_, rfl, rfl, rfl, rfl, rfl, rfl, rfl, rfl⟩
    unfold State.commitCmd
    dsimp only
    rw [(State.pushRecord_lfg s _).1, List.take_succ_cons]
    rfl
  · unfold State.commitCmd
    dsimp only
    obtain ⟨f, hf, h1, h2, h3, h4⟩ := markDone_mem d ⟨st, r, s.nextSeq, false⟩ (s.pushRecord (s.recordNow 1 d.ring d.opcode d.tag st 0 r d.index
      ((List.range 6).map (fun k => d.dw (5 + k))))).hif.flight
    exact ⟨f, hf, h1, h2, h3, _, h4, rfl, rfl⟩

/-- A command that ends has its record committed, or waiting while the mirror lags (R67, R82). -/
theorem State.finish_ends (s : State) (d : Desc) (st r : Nat) : Ends d st r (s.finish d st r) := by
  unfold State.finish
  split
  · rename_i h
    exact Or.inr ⟨h, by simp⟩
  · exact Or.inl (State.commitCmd_ends s d st r)

/-- A field outside the commit's reads as before the command ended. -/
theorem State.fld_finish (s : State) (d : Desc) (st r : Nat) (f : Fld) (i : Nat) (h : f.id ∉ commitFlds.map Fld.id) :
    (s.finish d st r).fld f i = s.fld f i := State.finish_keeps s d st r f i h

theorem State.fld_commit (s : State) (ty src : Nat) (p : List Nat) (f : Fld) (i : Nat) (h : f.id ∉ commitFlds.map Fld.id) :
    (s.commit ty src p).fld f i = s.fld f i := State.commit_keeps s ty src p f i h

theorem State.fld_notify (s : State) (u c a b : Nat) (f : Fld) (i : Nat) (h : f.id ∉ eventFlds.map Fld.id) :
    (s.notify u c a b).fld f i = s.fld f i := State.notify_keeps s u c a b f i h

theorem State.fld_faultEvent (s : State) (u c l a b : Nat) (f : Fld) (i : Nat) (h : f.id ∉ eventFlds.map Fld.id) :
    (s.faultEvent u c l a b).fld f i = s.fld f i := State.faultEvent_keeps s u c l a b f i h

end Sys2Proof.Machine
end

