-- ==== Sys2Proof/Tests/Slice0.lean ====
section
/-!
SUPPORT. Sys2Proof/Tests/Slice0.lean: the model's own tests: a well-formed and an ill-formed term for each check of Instr.wf; figures of the spec's worked
examples; and for each statement with hypotheses a state and operands that meet them all, clause by clause.
-/
namespace Sys2Proof.Tests
open Sys2Proof Sys2Proof.Machine

set_option Elab.async false

/-- A reset state with some register fields at given values. -/
def st (l : List (Fld × Nat × Nat)) : State := l.foldl (fun s x => s.setFld x.1 x.2.1 x.2.2) State.reset

/-- A command descriptor of ring 0 with its argument words. -/
def cmdD (op : Nat) (args : List Word) : Desc := ⟨0, 0, 1, op, false, false, false, false, false, 0, 0, args, []⟩

/-- The same with a buffer. -/
def cmdB (op : Nat) (args : List Word) (len : Nat) (data : List Word) : Desc := ⟨0, 0, 1, op, false, true, false, false, false, 4096, len, args, data⟩

/-- The same in stage RUN with the rings enabled and the host up. -/
def hostSt (l : List (Fld × Nat × Nat)) : State :=
  { st ([(F.HIF_STATUS_STAGE, 0, 4), (F.HIF_CTRL_RINGS_EN, 0, 1), (F.HIF_STATUS_BME, 0, 1)] ++ l) with hif := { State.reset.hif with linkUp := true } }

/-- Core 0 of the Infuser alone, everything else at reset. -/
def coreS (c : Core) : State := { State.reset with inf := { State.reset.inf with cores := [(0, c)] } }

/-- A running core at address 0, where the word stands; v1 and v2 hold values. -/
def core0 (w : Nat) : Core := { coreEmpty with st := 1, prog := [(0, w)], regs := [(1, 0x7FFF), (2, 0x7000)] }

/-- A committed context of channel 0: permission, Alloc-ID 7, burst profile 0. -/
def ctx0 (perm : Nat) : Ctx := ⟨1, 0, perm, 5, [7], 0, 0, [some ⟨0, false, 8, 64, 0, 0⟩, none, none, none], 100, 100, 0⟩

/-- The Whistle ARMED with the link in service, the line time LOCKED, and channel 0 under a context. -/
def whsS (perm : Nat) (l : List (Fld × Nat × Nat)) : State :=
  { st ([(F.WHS_STATUS_LINK_OK, 0, 1), (F.WHS_STATUS_STATE, 0, 2), (F.LTB_STATUS_STATE, 0, 0), (F.WHS_STATUS_TXDIS, 0, 0xFE)] ++ l) with
    whs := { State.reset.whs with chans := [(0, { whsChEmpty with ctxs := [ctx0 perm], stale := false })] }
    act := { State.reset.act with chans := [(0, { actChEmpty with allocs := [7] })] } }

/-- A burst of 100 line cycles that starts at line cycle 1,000, in a phase. -/
def burst0 (phase : Nat) : Burst := ⟨0, 1000, 0, 100, 0, 10, 10, 4096, 0, 0, phase, 5, none, none, [⟨7, 100, false, 0, 100, []⟩], none, false⟩

/-- Channel 0 in SYNC on the active path A. -/
def dsfS (l : List (Fld × Nat × Nat)) : State :=
  st ([(F.DSF_CH_STATUS_STATE, 0, 3), (F.DSF_CH_STATUS_FEC_IN_USE, 0, 1), (F.ACT_STATUS_PATH, 0, 1)] ++ l)

/-- A good XGEM header of channel 0 that ends its SDU. -/
def xgem0 : XgemHdr := ⟨0, 5, 1000, 0, false, 64, 0, 1021, 0, true, false, []⟩

/-- A channel's framing with nothing found. -/
def framing0 : Framing := framingEmpty

/-- A channel's activation with Alloc-ID 7 and a timer. -/
def actCh7 (timer : Nat) : ActCh := { actChEmpty with allocs := [7], timer := timer }

/-- A state with channel 0's activation, or channel 1's, given. -/
def actS (c : Nat) (x : ActCh) (l : List (Fld × Nat × Nat)) : State := { st l with act := { State.reset.act with chans := [(c, x)] } }

/-- Channel 0 in O5.1 with its bursts given, UBE in RUN. -/
def fillS (x : UbeCh) : State := { (whsS 3 [(F.ACT_CH_STATUS_STATE, 0, 0x51)]) with ube := [(0, x)] }

/-- Path protection at work on path A. -/
def prtS (l : List (Fld × Nat × Nat)) : State := st ([(F.PRT_STATUS_STATE, 0, 1), (F.ACT_STATUS_PATH, 0, 1), (F.PRT_SB_CFG_PRERANGE, 0, 0)] ++ l)

/-- Host port 1 of two, its lanes in a state. -/
def hpmS (v : Nat) (l : List (Fld × Nat × Nat)) : State := (st ([(F.HPM_CFG_MODE, 0, 1)] ++ l)).lanesTo 1 v

/-- A SecTAG of no consequence. -/
def tag0 : SecTag := ⟨false, 0, 0, 0, false, []⟩

/-- A PAUSE frame of 64 bytes. -/
def pauseFrm : List Nat := [1, 0x80, 0xC2, 0, 0, 1, 0, 0, 0, 0, 0, 0, 0x88, 0x08, 0, 1, 0, 5] ++ List.replicate 46 0

/-- An SA in a state, transmit, of port 1 and slot 0x080. -/
def sa0 (v : Nat) : Sa := { saOff with st := v, dir := 1, port := 1, slot := 0x080 }

/-- Slots 0x080 and 0x041 hold keys; the SAs are given. -/
def cphS (l : SMap Sa) (r : List (Fld × Nat × Nat)) : State :=
  { st r with cdy := [(0x041, ⟨1, 9, false, none, 0⟩), (0x080, ⟨1, 77, false, none, 5⟩)], cph := { State.reset.cph with sas := l } }

/-- An upstream frame of 64 zero bytes, in hand at a place. -/
def frm0 (place : Nat) : Machine.Frm :=
  { id := 0, dir := 0, inj := false, src := 0, m1 := 0, chan := 0, port := 0, options := 0, keyIdx := 0, sa := none, bytes := List.replicate 64 0,
    headLen := 64, len := 64, stamp := 0, gen := 0, group := 0, pass := 0, place := place, rq := 0, prof := 0, tag := 0, key := 0, rule := 0,
    dec := decisionNone, checks := [], policy := 0, last := false, errored := false, ready := 0 }

/-- A frame whose length check fails under a policy. -/
def frmBad (policy : Nat) : Machine.Frm :=
  { frm0 0 with len := 100, bytes := List.replicate 100 0, checks := [({ profReset with l2Off := 12, policy := policy }, 0)] }

/-- A ready table, format 0 enabled for both directions. -/
def tblS (l : List (Fld × Nat × Nat)) : State :=
  st ([(F.TBL_KFMT_EN, 0, 1), (F.TBL_KFMT_BMASK_BMASK, 0, 0xFFFFF), (F.TBL_KFMT_DIR, 0, 2), (F.TBL_KFMT_P0, 0, 16), (F.TBL_STATUS_READY, 0, 1),
    (F.TBL_TCW_STAGE_ENTRY, 0, 0x04030201), (F.TBL_TCW_STAGE_ENTRY, 5, 0x12000C00)] ++ l)

/-- The image in its staging, its key, the hash of the key and the first slot of its bucket. -/
def tblB : List Nat := [1, 2, 3, 4] ++ List.replicate 17 0 ++ [0x0C, 0, 0x12] ++ List.replicate 8 0
def tblK : Nat := 0x01020304 * 2 ^ 128
def tblE : TblEntry := { tblEntryZero with key := tblK, valid := true }
def tblH : Nat := (tblS []).tblHash 0 tblK
def tblN : Nat := 4 * hashB1 tblH

/-- An entry in that slot, with stamp 3. -/
def tblAt (e : TblEntry) (l : List (Fld × Nat × Nat)) : State :=
  let s := tblS l
  { s with tbl := { s.tbl with lines := [(tblN, goodLine tblN e)], fps := [(tblN, hashF tblH)], fresh := [(tblN, 3)] } }

/-- An upstream frame at the table's lookup, with its queue decided. -/
def frmT : Machine.Frm := { frm0 2 with key := 0x01020304 * 2 ^ 480, dec := { decisionNone with tblEn := true, queue := some 1 } }

/-- A held frame of one pool; a queue ON with frames on chip; a downstream queue's setting under group 0. -/
def qf (len pool lines : Nat) : QFrm := ⟨len, 0, 0, 0, 4, none, pool, lines, false, List.replicate 12 0⟩
def qcfg0 : QCfg := { qcfgZero with weight := 1, quota := 100, yelPct := 50, redPct := 25, refill := 2, onchipMax := 1000 }
def queueOn (head tail : List QFrm) : Queue := { queueOff with st := 1, cfg := qcfg0, head := head, tail := tail }

/-- TMG with some queues. -/
def tmgS (qs : SMap Queue) (l : List (Fld × Nat × Nat)) : State := { st l with tmg := { State.reset.tmg with queues := qs } }

/-- The same with one upstream or downstream frame ready for admission. -/
def frmA (dir : Nat) : Machine.Frm := { frm0 3 with dir := dir, last := true, dec := { decisionNone with queue := some 1 } }
def admS (f : Machine.Frm) (s : State) : State := { s with str := { s.str with flight := [f] } }

/-- A Kettle of 1 GB at 4 GB with its channels in service. -/
def kettle : List (Fld × Nat × Nat) := [(F.TMG_KETTLE_BASE_HI_ADDR, 0, 1), (F.TMG_KETTLE_SIZE_GB, 0, 1), (F.MEM_CH_STATUS_STATE, 0, 2),
  (F.MEM_CH_STATUS_STATE, 1, 2), (F.MEM_CH_STATUS_STATE, 2, 2), (F.MEM_CH_STATUS_STATE, 3, 2), (F.TMG_CFG_KETTLE_EN, 0, 1)]

/-- Port 1 up, its group 0 with TC 3, and queue 1 of the group with two frames. -/
def portS : State :=
  let s := (st [(F.HPM_CFG_MODE, 0, 1)]).lanesTo 1 4
  { s with tmg := { State.reset.tmg with
      queues := [(qKey 1 1, queueOn [qf 64 1 0, qf 128 1 0] [])]
      groups := [(0, { groupOff with en := true, port := 1, tc := 3, weight := 1 })]
      kids := [(qKey 1 1, ⟨0, 65536, true⟩), (groupEnt 0, ⟨0, 65536, true⟩)] } }

/-- All four channels in a state; 16 GB are installed and the regions lie apart. -/
def memS (v : Nat) (l : List (Fld × Nat × Nat)) : State :=
  st ([(F.MEM_CH_STATUS_STATE, 0, v), (F.MEM_CH_STATUS_STATE, 1, v), (F.MEM_CH_STATUS_STATE, 2, v), (F.MEM_CH_STATUS_STATE, 3, v),
    (F.MEM_DDR_STATUS_CAP_GB, 0, 16), (F.HIF_SAUCER_BASE_HI_ADDR, 0, 3), (F.MEM_ENGINE_BASE_HI_ADDR, 0, 2), (F.MEM_ENGINE_BASE_LO_ADDR, 0, 0), (F.TMG_KETTLE_BASE_HI_ADDR, 0, 1),
    (F.TMG_KETTLE_SIZE_GB, 0, 1)] ++ l)

/-- Channel 1 with its retry buffer and snapshot. -/
def retry0 : RetryEntry := ⟨⟨1, 2, 3, 4, 5, 7, 8⟩, 6, 40⟩
def memCh1 (x : MemCh) (s : State) : State := { s with mem := { s.mem with chans := [(1, x)] } }

/-- The line time LOCKED on channel 0, with a valid time of day or none. -/
def timS (tod : Nat) (l : List (Fld × Nat × Nat)) : State :=
  st ([(F.LTB_STATUS_STATE, 0, 0), (F.TIM_STATUS_TOD_VALID, 0, tod), (F.ACT_CH_EQD_VALID, 0, 1), (F.ACT_CH_EQD_EQD, 0, 1000)] ++ l)

/-- Trigger 7 armed for a single pulse. -/
def trigS (start : Nat) (l : List (Fld × Nat × Nat)) : State :=
  let s := timS 1 ([(F.TIM_TRIG_STATUS_ARMED, 7, 1), (F.TIM_STATUS_TRIG_ARMED, 0, 0x80)] ++ l)
  { s with tim := { s.tim with trigs := [(7, ⟨false, false, start, 0, 50, 0, 0, 0, none⟩)] } }

/-- Simmer in a state on path A, channels 0 and 1 in O5.1 and in SYNC, the head end allowing modes, and every unit agreeing. -/
def simS (v : Nat) (l : List (Fld × Nat × Nat)) : State :=
  { st ([(F.PWR_STATUS_STATE, 0, v), (F.ACT_STATUS_PATH, 0, 1), (F.ACT_CH_STATUS_STATE, 0, 0x51), (F.ACT_CH_STATUS_STATE, 1, 0x51),
      (F.DSF_CH_STATUS_STATE, 0, 3), (F.DSF_CH_STATUS_STATE, 1, 3), (F.LTB_STATUS_STATE, 0, 0), (F.LTB_CH_OFS_VALID, 0, 1), (F.WHS_STATUS_STATE, 0, 2),
      (F.PWR_SIMMER_CFG_EN, 0, 1), (F.PWR_SIMMER_CFG_MODES, 0, 7), (F.MEM_CH_STATUS_STATE, 0, 2), (F.MEM_CH_STATUS_STATE, 1, 2),
      (F.MEM_CH_STATUS_STATE, 2, 2), (F.MEM_CH_STATUS_STATE, 3, 2)] ++ l) with
    pwr := { State.reset.pwr with allow := [(0, 3), (1, 3)] } }

/-- The same with a sleep request waiting on both channels. -/
def askS (m : Nat) (s : State) : State := { s with ube := [(0, { s.ubeCh 0 with ploams := [.sleepRequest m] }), (1, { s.ubeCh 1 with ploams := [.sleepRequest m] })] }

/-- Channel 1 of the spec's burst example: EqD 746,511, profile 1 of 24.8832 Gb/s with 128 preamble bits and an 8-byte delimiter, LEAD 16 and LAG 8. -/
def exBurst : State :=
  let s := whsS 3 [(F.ACT_CH_STATUS_STATE, 1, 0x51), (F.DSF_CH_STATUS_STATE, 1, 3), (F.ACT_STATUS_PATH, 0, 1), (F.WHS_STATUS_TXDIS, 0, 0xFC)]
  let x : Ctx := ⟨1, 0, 3, 5, [7], 746511, 37, [none, some ⟨1, false, 8, 128, 0, 0⟩, none, none], 16, 8, 0⟩
  let s1 := s.setWhsCh 1 { whsChEmpty with ctxs := [x], stale := false }
  s1.setActCh 1 { actChEmpty with allocs := [7], ref := 2520458, refEqd := 746511 }

/-- A swap to bank 1 that took effect at line cycle 1,020, at line cycle 1,412. -/
def exSwap : State := { st [(F.STR_STATUS_GEN, 0, 7), (F.STR_STATUS_BANK0, 0, 2), (F.STR_STATUS_BANK1, 0, 1)] with
  str := { State.reset.str with swap := some (cmdD 0x1804 []), swapLc := 1020 }, ltb := { State.reset.ltb with lc := 1412 } }

/-- Service engine 0 at work; a message that passes its check, for the unassigned terminal or for an ONU-ID. -/
def eng0 : Fld × Nat × Nat := (F.HIF_ENGINE_STATUS_RUNNING0, 0, 1)
def mSn : Ploam := ⟨true, .serial 0, false⟩
def mOnu (n : Nat) : Ploam := ⟨true, .onu n, false⟩

/-- An exchange of channel 2 to park under a command, or to unpark. -/
def xchg (park : Bool) : Exchange := ⟨2, park, false, some (cmdD 0x1004 [0x102]), 0⟩
def xchS (x : Exchange) (s : State) : State := { s with act := { s.act with exchange := some x } }

/-- A well-formed and an ill-formed descriptor and doorbell page. -/
def okD : Desc := ⟨0, 0, 1, 1, false, false, false, false, false, 0, 0, List.replicate 11 0, []⟩
def badD : Desc := { okD with ring := 32 }
def okP : DbPage := ⟨[], [], [], [], [], 0, []⟩
def badP : DbPage := { okP with magic := 2 ^ 32 }
/-- A well-formed and an ill-formed downstream message. -/
def okM : Ploam := ⟨true, .onu 1022, false⟩
def badM : Ploam := ⟨true, .serial (2 ^ 64), false⟩

/-- A well-formed structure and a cause. -/
def okA : AllocStruct := ⟨0, true, 7, false, 0, 0, 100, 0, true, false, false, false⟩
def okG : GapCause := .linkFrame

/-- Each check of a descriptor and of a doorbell page refuses a value out of range. -/
theorem test_wf_descriptor : okD.wf = true ∧ okP.wf = true ∧ badP.wf = false ∧ { okP with cmdTail := [2 ^ 32] }.wf = false ∧
    ∀ d ∈ [badD, { okD with index := 2 ^ 32 }, { okD with tag := 2 ^ 16 }, { okD with opcode := 2 ^ 16 }, { okD with bufAddr := 2 ^ 64 }, { okD with bufLen := 2 ^ 32 },
      { okD with args := [] }], d.wf = false := by decide

/-- Terms that pass every check, part 1. -/
theorem test_wf_accepts_1 : ∀ i ∈ (
    [.badBarAccess 0 1 false, .setupRegisterWrite 0 0 none, .w1cClear 0 0 0, .rcRead 0 false 0, .lowRegisterRead 0 false,
     .mrstN false false false 0 0, .mainDiePowerLoss 0, .thermtrip 0, .imageLoadEnd 0 0 0 false false false [], .doorbellPoll okP,
     .commandFetch false 0 (List.replicate 16 0) [], .saucerReturn 0 0, .agePromotion 0, .retire false 0, .nop okD, .journalMark okD,
     .journalRead okD, .ringStart okD, .ringStop okD, .engineQuery okD, .ringCfgWrite 0 0 0, .engineRestart 0 0 [] [], .injectDownstream okD,
     .injectUpstream okD, .vectorRaise 0 0, .arrival 0 false none, .rxLaneEnable 0 0, .cdrLock 0 0, .trackEntry 0, .acqRetry 0 false,
     .cdrLoss 0 false, .tapWrite 0 0 0, .txLaneEnable 0 0, .benRise 0, .lastBitSerialised 0, .benFall 0, .txDisableAsserted 0, .txDisableReleased 0,
     .laneLoopSet okD, .laneLoopRemove okD, .laneTest okD, .osaRead okD false none, .osaWrite okD false false, .anResolved 0 [], .anRestart 0,
     .trainComplete 0 [], .trainFail 0, .alignDone 0 [], .deskewFail 0 none, .linkDown 0 0 false false, .psyncMatch 0 0 none,
     .candidateCheck 0 0 0 none 0 false, .psbdCheck 0 0 none 0 false, .huntRestart okD, .codewordDecode 0 false false 0 0 false, .xgemFrame xgem0,
     .reorderRelease none, .bondStall 0, .parkingDone 0, .losDeclared 0] : List Instr), i.wf = true := by decide

/-- Terms that pass every check, part 2. -/
theorem test_wf_accepts_2 : ∀ i ∈ (
    [.losCleared 0, .prcFrameJudged 0 0, .lineSecond 0, .pmBinClosed false 0, .portSet okD, .pmRead okD, .pmThreshold okD, .actIdentity okD,
     .chEnable okD, .chDisable okD, .bondSet okD, .park okD, .unpark okD, .actQuery okD, .allocRead okD,
     .burstProfile 0 0 ⟨0, false, 8, 64, 0, 0⟩ okM, .assignOnuId 0 0 none okM, .rangingTime 0 0 okM, .assignAllocId 0 0 false okM,
     .deactivateOnuId 0 okM, .disableSerialNumber 0 false okM, .tuningControl 0 0 0 false false 0 okM, .keyRequest 0 0 0 false .ok okM,
     .timerExpired 0 1, .parkEntry 0, .unparkApply 0, .rollout 0, .parkAnswer 0 0 false okM, .allocationStructure okA, .filling 0 none,
     .handed 0 none, .lateFill 0 none, .contextExchange 0 0, .contextCheck 0 false false, .mapGap 0 0 okG, .outsideWindow 0 0 0,
     .darkViolation 0 0 0, .sweep 0, .eyeSample 0 0, .selftestEnd 0, .periodicSelftest 0, .whsReenable okD, .whsSelftest okD, .whsQuery okD,
     .strainerPass [] [], .ruleWrite okD, .ruleRead okD [], .ruleCopy okD [], .ruleSwap okD, .profileSet okD, .selectorSet okD, .ingressMap okD,
     .resteepSet okD, .readSlot 0 0 0, .writeSlot 0 0, .deleteSlot 0 0, .tableBatch okD [] 0, .flowCountRead okD, .fpRebuild 0 0 0 0 0 [],
     .tailWrite 0] : List Instr), i.wf = true := by decide

/-- Terms that pass every check, part 3. -/
theorem test_wf_accepts_3 : ∀ i ∈ (
    [.refill 0 [], .downstreamDequeue 0 ⟨0, 0⟩ none, .queueSet okD, .queueRead okD, .queueFlush okD, .groupSet okD, .portTcSet okD, .meterSet okD,
     .meterRead okD, .watchSet okD, .samplerRead okD, .ddrTrainingEnd [], .qdrTrainingEnd none, .parityAlert 0 [] 0 0 0, .entryRetire 0 [],
     .refetch 0 0 0 0 none, .narrowWrite 0 0 0 (List.replicate 4 0) none, .settleEnd 0, .rinsePass 0 0 0, .memResume okD, .memFreeze okD,
     .memTestEntry okD, .memTestExit okD, .memFreq okD 0 none [], .memTest okD 0, .memDiagRead okD, .memTrackRead okD, .memTrackClear okD,
     .memLineRewrite okD 0, .memPageRetire okD, .rinseRead okD, .rxFrame 0 [] false false ⟨0, 0⟩ ⟨false, 0, 0, 0, false, []⟩, .pauseTimerExpiry 0 0,
     .fcRefresh 0, .portStats okD [], .wakePatternEnable okD, .wakePatternDisable okD, .saEnable okD .ok, .saDisable okD, .saRead okD,
     .txSaSelect okD, .portKeySet okD, .keyImport okD none, .keyErase okD, .keyQuery okD, .upIndexSwitch 0, .todSet okD, .todRead okD,
     .servoSample okD, .trigSet okD, .trigFired 0, .capture 0 false 0 0, .standbyLoad 0, .lockout okD, .forcedSwitch okD, .manualSwitch okD,
     .exercise okD, .clear okD, .streamSet 0 [], .coreNop 0 .good] : List Instr), i.wf = true := by decide

/-- Terms that pass every check, part 4. -/
theorem test_wf_accepts_4 : ∀ i ∈ (
    [.halt 0 .good, .sig 0 .good, .wait 0 .good, .loop 0 .good, .br 0 .good, .ldi 0 .good, .ld 0 .good, .st 0 .good, .mld 0 .good, .mac 0 .good,
     .msb 0 .good, .mul 0 .good, .add 0 .good, .sub 0 .good, .and 0 .good, .or 0 .good, .xor 0 .good, .mov 0 .good, .shf 0 .good, .sgnb 0 .good,
     .blkx 0 .good, .clr 0 .good, .lda 0 .good, .addx 0 .good, .sha 0 .good, .sta 0 .good, .inp 0 .good, .inComplete 0, .out 0 false .good,
     .outComplete 0, .infLoad okD, .infStart okD, .infHalt okD, .infDataRead okD none, .infDataWrite okD none, .domainPowerDown 0 0,
     .domainReady 0 0 false [], .entryTimeout 0, .waking none [] false [], .simmerWake okD, .simmerHold okD, .simmerRelease okD, .pwrQuery okD,
     .txPllLock 0, .lightPresent 0 0 0 0, .headEndPark 0 0 false okM, .headEndPowerMessage 0 .wake okM, .groupKeyMessage 0 0 none .ok,
     .mapGapHoldEnd 0, .pulseWidthEnd 0] : List Instr), i.wf = true := by decide

/-- An ill-formed term for each check, part 1. -/
theorem test_wf_refuses_1 : ∀ i ∈ (
    [.badBarAccess 33554432 1 false, .badBarAccess 0 0 false, .setupRegisterWrite 33554432 0 none, .w1cClear 33554432 0 0, .rcRead 33554432 false 0,
     .lowRegisterRead 33554432 false, .mrstN false false false 0 4294967296, .mainDiePowerLoss 4294967296, .thermtrip 4294967296,
     .imageLoadEnd 0 0 4294967296 false false false [], .doorbellPoll badP, .commandFetch false 16 (List.replicate 16 0) [],
     .commandFetch false 0 (List.replicate 16 (2 ^ 32)) [], .commandFetch false 0 [] [], .saucerReturn 8 0, .agePromotion 8, .retire false 16,
     .nop badD, .journalMark badD, .journalRead badD, .ringStart badD, .ringStop badD, .engineQuery badD, .ringCfgWrite 5 0 0, .ringCfgWrite 0 32 0,
     .engineRestart 4 0 [] [], .engineRestart 0 4294967296 [] [], .engineRestart 0 0 [badD] [], .injectDownstream badD, .injectUpstream badD,
     .vectorRaise 5 0, .vectorRaise 0 32, .arrival 8 false none, .arrival 0 false (some 16777216), .rxLaneEnable 8 0, .cdrLock 8 0, .trackEntry 8,
     .acqRetry 8 false, .cdrLoss 8 false, .tapWrite 8 0 0, .tapWrite 0 5 0, .txLaneEnable 8 0, .benRise 8, .lastBitSerialised 8, .benFall 8,
     .txDisableAsserted 8, .txDisableReleased 8, .laneLoopSet badD, .laneLoopRemove badD, .laneTest badD, .osaRead badD false none,
     .osaRead okD false (some 256), .osaWrite badD false false, .anResolved 4 [], .anRestart 4, .trainComplete 4 [], .trainFail 4, .alignDone 4 [],
     .deskewFail 4 none, .linkDown 4 0 false false] : List Instr), i.wf = false := by decide

/-- An ill-formed term for each check, part 2. -/
theorem test_wf_refuses_2 : ∀ i ∈ (
    [.linkDown 0 8 false false, .psyncMatch 8 0 none, .psyncMatch 0 0 (some (2 ^ 51)), .candidateCheck 8 0 0 none 0 false,
     .candidateCheck 0 0 65 none 0 false, .candidateCheck 0 0 0 (some (2 ^ 51)) 0 false, .psbdCheck 8 0 none 0 false, .psbdCheck 0 65 none 0 false,
     .psbdCheck 0 0 (some (2 ^ 51)) 0 false, .huntRestart badD, .codewordDecode 8 false false 0 0 false, .xgemFrame ({ xgem0 with chan := 8 }),
     .xgemFrame ({ xgem0 with sfc := 2 ^ 51 }), .xgemFrame ({ xgem0 with offset := 777600 }), .xgemFrame ({ xgem0 with hec := 3 }),
     .xgemFrame ({ xgem0 with pli := 16384 }), .xgemFrame ({ xgem0 with keyIdx := 4 }), .xgemFrame ({ xgem0 with port := 65536 }),
     .xgemFrame ({ xgem0 with prc := [256] }), .reorderRelease (some ⟨256, 0, 0, []⟩), .bondStall 8, .parkingDone 8, .losDeclared 8, .losCleared 8,
     .prcFrameJudged 2 0, .lineSecond 70368744177664, .pmBinClosed false 70368744177664, .portSet badD, .pmRead badD, .pmThreshold badD,
     .actIdentity badD, .chEnable badD, .chDisable badD, .bondSet badD, .park badD, .unpark badD, .actQuery badD, .allocRead badD,
     .burstProfile 8 0 ⟨0, false, 8, 64, 0, 0⟩ okM, .burstProfile 0 4 ⟨0, false, 8, 64, 0, 0⟩ okM, .burstProfile 0 0 ⟨3, false, 8, 64, 0, 0⟩ okM,
     .burstProfile 0 0 ⟨0, false, 8, 64, 2 ^ 64, 0⟩ okM, .burstProfile 0 0 ⟨0, false, 8, 64, 0, 2 ^ 64⟩ okM,
     .burstProfile 0 0 ⟨0, false, 8, 64, 0, 0⟩ badM, .assignOnuId 8 0 none okM, .assignOnuId 0 1023 none okM, .assignOnuId 0 0 (some 16777216) okM,
     .assignOnuId 0 0 none badM, .rangingTime 8 0 okM, .rangingTime 0 0 badM, .assignAllocId 8 0 false okM, .assignAllocId 0 16384 false okM,
     .assignAllocId 0 0 false badM, .deactivateOnuId 8 okM, .deactivateOnuId 0 badM, .disableSerialNumber 8 false okM,
     .disableSerialNumber 0 false badM, .tuningControl 8 0 0 false false 0 okM, .tuningControl 0 8 0 false false 0 okM,
     .tuningControl 0 0 0 false false 0 badM] : List Instr), i.wf = false := by decide

/-- An ill-formed term for each check, part 3. -/
theorem test_wf_refuses_3 : ∀ i ∈ (
    [.keyRequest 8 0 0 false .ok okM, .keyRequest 0 4 0 false .ok okM, .keyRequest 0 0 0 false ((.slotMem 256 0 0)) okM,
     .keyRequest 0 0 0 false .ok badM, .timerExpired 8 1, .timerExpired 0 0, .timerExpired 0 6, .parkEntry 8, .unparkApply 8, .rollout 8,
     .parkAnswer 8 0 false okM, .parkAnswer 0 0 false badM, .allocationStructure ({ okA with chan := 8 }),
     .allocationStructure ({ okA with alloc := 16384 }), .allocationStructure ({ okA with profile := 4 }), .filling 8 none,
     .filling 0 (some (256, 0, 0)), .handed 8 none, .handed 0 (some (256, 0, 0)), .lateFill 8 none, .lateFill 0 (some (256, 0, 0)),
     .contextExchange 8 0, .contextCheck 8 false false, .mapGap 8 0 okG, .outsideWindow 8 0 0, .darkViolation 8 0 0, .sweep 256, .eyeSample 8 0,
     .eyeSample 0 4096, .selftestEnd 9, .periodicSelftest 9, .whsReenable badD, .whsSelftest badD, .whsQuery badD, .strainerPass [256] [],
     .ruleWrite badD, .ruleRead badD [], .ruleCopy badD [], .ruleSwap badD, .profileSet badD, .selectorSet badD, .ingressMap badD, .resteepSet badD,
     .readSlot 4194304 0 0, .writeSlot 4194304 0, .deleteSlot 4194304 0, .tableBatch badD [] 0, .flowCountRead badD, .fpRebuild 0 65536 0 0 0 [],
     .fpRebuild 3 0 0 0 0 [], .fpRebuild 0 0 256 0 0 [], .fpRebuild 0 0 0 0 512 [], .tailWrite 131072, .refill 131072 [],
     .downstreamDequeue 4 ⟨0, 0⟩ none, .downstreamDequeue 0 ⟨0, 0⟩ (some (0, 256, 0)), .queueSet badD, .queueRead badD, .queueFlush badD,
     .groupSet badD] : List Instr), i.wf = false := by decide

/-- An ill-formed term for each check, part 4. -/
theorem test_wf_refuses_4 : ∀ i ∈ (
    [.portTcSet badD, .meterSet badD, .meterRead badD, .watchSet badD, .samplerRead badD, .ddrTrainingEnd [⟨4, 0, 0, 0⟩],
     .qdrTrainingEnd (some ⟨0, 8, 0, 0⟩), .parityAlert 4 [] 0 0 0, .parityAlert 0 [⟨0, 0, 0, 0, 0, 0, 0⟩] 0 0 0, .parityAlert 0 [] 2 0 0,
     .parityAlert 0 [] 0 2 0, .parityAlert 0 [] 0 0 512, .entryRetire 4 [], .entryRetire 0 [⟨1, 0, 0, 0, 6, 0, 0⟩], .refetch 5 0 0 0 none,
     .refetch 0 0 6 0 none, .narrowWrite 4 0 0 (List.replicate 4 0) none, .narrowWrite 0 0 0 (List.replicate 3 0) none,
     .narrowWrite 0 0 0 (List.replicate 33 0) none, .settleEnd 4, .rinsePass 5 0 0, .memResume badD, .memFreeze badD, .memTestEntry badD,
     .memTestExit badD, .memFreq badD 0 none [], .memFreq okD 201 none [], .memFreq okD 0 (some (4, 0, 0)) [], .memFreq okD 0 (some (0, 0, 512)) [],
     .memFreq okD 0 none [4], .memTest badD 0, .memDiagRead badD, .memTrackRead badD, .memTrackClear badD, .memLineRewrite badD 0,
     .memPageRetire badD, .rinseRead badD, .rxFrame 4 [] false false ⟨0, 0⟩ ⟨false, 0, 0, 0, false, []⟩,
     .rxFrame 0 [256] false false ⟨0, 0⟩ ⟨false, 0, 0, 0, false, []⟩, .pauseTimerExpiry 4 0, .pauseTimerExpiry 0 9, .fcRefresh 4, .portStats badD [],
     .wakePatternEnable badD, .wakePatternDisable badD, .saEnable badD .ok, .saEnable okD ((.slotMem 256 0 0)), .saDisable badD, .saRead badD,
     .txSaSelect badD, .portKeySet badD, .keyImport badD none, .keyErase badD, .keyQuery badD, .upIndexSwitch 8, .todSet badD, .todRead badD,
     .servoSample badD, .trigSet badD, .trigFired 8] : List Instr), i.wf = false := by decide

/-- An ill-formed term for each check, part 5. -/
theorem test_wf_refuses_5 : ∀ i ∈ (
    [.capture 4 false 0 0, .capture 0 false 0 16, .standbyLoad 4, .lockout badD, .forcedSwitch badD, .manualSwitch badD, .exercise badD, .clear badD,
     .streamSet 64 [], .coreNop 4 .good, .coreNop 0 ((.program 256 0)), .coreNop 0 ((.data 0 512)), .halt 4 .good, .halt 0 ((.program 256 0)),
     .halt 0 ((.data 0 512)), .sig 4 .good, .sig 0 ((.program 256 0)), .sig 0 ((.data 0 512)), .wait 4 .good, .wait 0 ((.program 256 0)),
     .wait 0 ((.data 0 512)), .loop 4 .good, .loop 0 ((.program 256 0)), .loop 0 ((.data 0 512)), .br 4 .good, .br 0 ((.program 256 0)),
     .br 0 ((.data 0 512)), .ldi 4 .good, .ldi 0 ((.program 256 0)), .ldi 0 ((.data 0 512)), .ld 4 .good, .ld 0 ((.program 256 0)),
     .ld 0 ((.data 0 512)), .st 4 .good, .st 0 ((.program 256 0)), .st 0 ((.data 0 512)), .mld 4 .good, .mld 0 ((.program 256 0)),
     .mld 0 ((.data 0 512)), .mac 4 .good, .mac 0 ((.program 256 0)), .mac 0 ((.data 0 512)), .msb 4 .good, .msb 0 ((.program 256 0)),
     .msb 0 ((.data 0 512)), .mul 4 .good, .mul 0 ((.program 256 0)), .mul 0 ((.data 0 512)), .add 4 .good, .add 0 ((.program 256 0)),
     .add 0 ((.data 0 512)), .sub 4 .good, .sub 0 ((.program 256 0)), .sub 0 ((.data 0 512)), .and 4 .good, .and 0 ((.program 256 0)),
     .and 0 ((.data 0 512)), .or 4 .good, .or 0 ((.program 256 0)), .or 0 ((.data 0 512))] : List Instr), i.wf = false := by decide

/-- An ill-formed term for each check, part 6. -/
theorem test_wf_refuses_6 : ∀ i ∈ (
    [.xor 4 .good, .xor 0 ((.program 256 0)), .xor 0 ((.data 0 512)), .mov 4 .good, .mov 0 ((.program 256 0)), .mov 0 ((.data 0 512)), .shf 4 .good,
     .shf 0 ((.program 256 0)), .shf 0 ((.data 0 512)), .sgnb 4 .good, .sgnb 0 ((.program 256 0)), .sgnb 0 ((.data 0 512)), .blkx 4 .good,
     .blkx 0 ((.program 256 0)), .blkx 0 ((.data 0 512)), .clr 4 .good, .clr 0 ((.program 256 0)), .clr 0 ((.data 0 512)), .lda 4 .good,
     .lda 0 ((.program 256 0)), .lda 0 ((.data 0 512)), .addx 4 .good, .addx 0 ((.program 256 0)), .addx 0 ((.data 0 512)), .sha 4 .good,
     .sha 0 ((.program 256 0)), .sha 0 ((.data 0 512)), .sta 4 .good, .sta 0 ((.program 256 0)), .sta 0 ((.data 0 512)), .inp 4 .good,
     .inp 0 ((.program 256 0)), .inp 0 ((.data 0 512)), .inComplete 4, .out 4 false .good, .out 0 false ((.program 256 0)),
     .out 0 false ((.data 0 512)), .outComplete 4, .infLoad badD, .infStart badD, .infHalt badD, .infDataRead badD none,
     .infDataRead okD (some (256, 0)), .infDataWrite badD none, .infDataWrite okD (some (0, 512)), .domainPowerDown 14 0, .domainPowerDown 0 4,
     .domainReady 14 0 false [], .domainReady 0 4 false [], .domainReady 0 0 false [(0, .slotMem 0 256 0)], .entryTimeout 8,
     .waking (some (8, 0)) [] false [], .waking (some (0, 2 ^ 51)) [] false [], .waking none [4] false [],
     .waking none [] false [(0, .slotMem 0 0 512)], .simmerWake badD, .simmerHold badD, .simmerRelease badD, .pwrQuery badD, .txPllLock 8] : List Instr), i.wf = false := by decide

/-- An ill-formed term for each check, part 7. -/
theorem test_wf_refuses_7 : ∀ i ∈ (
    [.lightPresent 8 0 0 0, .lightPresent 0 4096 0 0, .headEndPark 8 0 false okM, .headEndPark 0 0 false badM, .headEndPowerMessage 8 .wake okM,
     .headEndPowerMessage 0 .wake badM, .groupKeyMessage 8 0 none .ok, .groupKeyMessage 0 4 none .ok, .groupKeyMessage 0 0 none ((.slotMem 256 0 0)),
     .mapGapHoldEnd 8, .pulseWidthEnd 9] : List Instr), i.wf = false := by decide

/-! The spec's own worked examples, each on one step or one operation. -/

/-- The state a step or a command gives, or the given state where it stops. -/
def after (s : State) (o : Host.Outcome State Fault Refusal) : State := match o with | .next t => t | _ => s

/-- 18_register_summary.md: DSF_CH5_CW's BAR0 address is 0x0030_1150. -/
theorem test_register_address : F.DSF_CH_CW_COUNT.base + F.DSF_CH_CW_COUNT.stride * 5 = 0x301150 := by decide

/-- 05_activation_and_ranging.md: channel A1's ranging grant has its reference at line cycle 44,348 with fine offset 27, and with EqD 746,511 at 63,011 and 18. -/
theorem test_burst_reference : duLc (burstReference 1000 37 0) = 44348 ∧ duFine (burstReference 1000 37 0) = 27 ∧
    duLc (burstReference 1000 37 746511) = 63011 ∧ duFine (burstReference 1000 37 746511) = 18 := by decide

/-- The same: 344,348 line cycles from frame 2,000,001 lie at 2,000,003:33,308. -/
theorem test_stamp_carries : stampAdd (stampOf 2000001 0) 344348 = stampOf 2000003 33308 := by decide

/-- 06_upstream_bursts_and_whistle.md: the allocation of 9,000 bytes on channel A1 becomes a burst at line cycle 113,001 with fine offset 34, 3,610 line cycles long. -/
theorem test_burst_placed :
    ((after State.reset (exec (.allocationStructure { okA with chan := 1, profile := 1, startDu := 2000000, bytes := 9000 }) exBurst)).ubeCh 1).bursts.map
      (fun b => (b.start, b.fine, b.len, b.lead, b.lag)) = [(113001, 34, 3610, 16, 8)] := by decide +kernel

/-- 07_strainer_classification.md: the swap that took effect at line cycle 1,020 ends its drain at 1,412 with RESULT 0x0001_8807. -/
theorem test_swap_result : (after State.reset (exec .drainEnd exSwap)).lfg.volatile.map (fun r => (r.status, r.result)) = [(0, 0x18807)] := by decide +kernel

/-- 08_flow_table_and_learning.md: at EPOCH 41,000 with AGE_EPOCHS 300 an entry stamped 40,699 has age 301 and is stale. -/
theorem test_stale : let s : State := st [(F.TBL_AGE_CFG_EN, 0, 1), (F.TBL_AGE_CFG_AGE_EPOCHS, 0, 300), (F.TBL_AGE_STATUS_EPOCH, 0, 41000)]
    s.age 40699 = 301 ∧ s.stale 1234567 40699 = true := by decide +kernel

/-- 09_traffic_management.md: meter 7,001 with its first three frames of 1,500 bytes at 0, 20 and 40 µs: colour and both buckets after each. -/
def exMeter : List (Nat × Nat × Nat) :=
  let m : Meter := { meterOff with en := true, aware := true, r1 := 100000, r2 := 200000, b1 := 3000, b2 := 6000, t1 := 3000 * 65536, t2 := 6000 * 65536 }
  let a := m.colour 1500 0
  let b := (a.2.fill 24884).colour 1500 0
  let c := (b.2.fill 49767).colour 1500 0
  [a, b, c].map (fun p => (p.1, p.2.t1 / 65536, p.2.t2 / 65536))

theorem test_meter : exMeter = [(0, 1500, 4500), (0, 250, 3500), (1, 500, 2500)] := by decide +kernel

/-- The same: the shaper of queue 3,210 at its first three frames: E_base, e and e's line cycle rounded up. -/
def exShaper : List (Nat × Nat) :=
  let a := charge 0 4096000000 1000000 3000 1500 0
  let b := charge a.2.2 4096000040 1000000 3000 1500 0
  let c := charge b.2.2 4096000080 1000000 3000 1500 0
  [a, b, c].map (fun p => ((p.1 + 32768) / 65536, (p.2.2 + 65535) / 65536))

theorem test_shaper : exShaper = [(4095970140, 4095985071), (4095985070, 4096000000), (4096000000, 4096014930)] := by decide +kernel

/-- The same: queue 5 of group 17 wakes with finish 11,536,000, and queue 9's next finish after 10,512,000 is 11,024,000. -/
theorem test_virtual_time : vtFinish (vtMax 2000000 10000000) 1500 1 = 11536000 ∧ vtFinish 10512000 1500 3 = 11024000 := by decide +kernel

/-- 11_host_ethernet_ports.md: 256 quanta at 400 Gb/s are 408 line cycles. -/
theorem test_pause_quanta : quantaLc 256 400 = 408 := by decide

/-- 13_network_time.md: D is 1,407,940 DU, 28,290 ns and fraction 0xF9B6. -/
theorem test_tod_offset : todD 12800000 10000000 0x80000000 100 = 1407940 * 2 ^ 32 ∧ duUnits (1407940 * 2 ^ 32) = 28290 * 65536 + 0xF9B6 := by decide

/-- 14_path_protection.md: B0's EqD on the standby path is 2,600,000 DU, and its reference for frame 8,000,006 is line cycle 138,349 with fine offset 24. -/
theorem test_standby_eqd : (st [(F.ACT_STATUS_PATH, 0, 1), (F.ACT_CH_EQD_EQD, 0, 5000000), (F.LTB_CH_OFS_OFS, 4, 30000), (F.PRT_SB_CFG_RUP, 0, 0x10000)]).standbyEqd 0 =
      2600000 * 65536 ∧ duLc (burstReference 30000 0 2600000) = 138349 ∧ duFine (burstReference 30000 0 2600000) = 24 := by decide +kernel

/-- 15_infuser_signal_cores.md: what the words of the 32-tap correlation encode. -/
theorem test_core_words : coreOp 0x42042ec0 = some .mld ∧ coreOp 0x42242ec0 = some .mac ∧ coreOp 0x42242800 = some .mac ∧ coreOp 0x1000f000 = some .loop ∧
    coreOp 0x8040a880 = some .sta := by decide

/-- The same: the MLD of c3 turns the ring by 2 and advances s0 and s1; at 0x103F s0 wraps to 0x1000 (XM 3). -/
theorem test_mld_pointers : ((after State.reset (exec (.mld 0 .good) (coreS { core0 0x42042ec0 with regs := [(0x20, 0x103F), (0x21, 0x2000)] }))).core 0).regs =
    [(0x20, 0x1000), (0x21, 0x2001), (0x33, 30)] := by decide +kernel

/-! States that meet the hypotheses of the statements. -/

/-- States and operands that meet the hypotheses of StepTakesTheFrontCommand, clause by clause. -/
theorem test_meets_StepTakesTheFrontCommand :
    (∃ (s : State) (c : Instr) (rest : List Instr), s.pending = c :: rest) :=
  ⟨{ State.reset with pending := [.step] }, .step, [], by decide +kernel⟩

/-- States and operands that meet the hypotheses of IdleStepPassesALineCycle, clause by clause. -/
theorem test_meets_IdleStepPassesALineCycle :
    (∃ (s : State), s.pending = [] ∧ s.pins.keepPower = true ∧ s.pins.mainPower = true ∧ s.pins.tripLow = false ∧ s.fld F.HIF_STATUS_STAGE 0 = 0) ∧
    (∃ (s : State), s.pending = [] ∧ s.fld F.HIF_STATUS_STAGE 0 ≠ 0 ∧ s.fld F.WHS_STATUS_STATE 0 ≠ 0 ∧ s.ltb.sleep = none ∧ s.ltb.cycle + 1 < 155520) ∧
    (∃ (s : State), s.pending = [] ∧ s.fld F.HIF_STATUS_STAGE 0 ≠ 0 ∧ s.fld F.WHS_STATUS_STATE 0 ≠ 0 ∧ s.ltb.sleep = none ∧ s.ltb.cycle = 155519) ∧
    (∃ (s : State), s.pending = [] ∧ s.fld F.HIF_STATUS_STAGE 0 ≠ 0 ∧ s.fld F.WHS_STATUS_STATE 0 ≠ 0 ∧ s.ltb.sleep.isSome = true ∧ s.simmer ≠ 7 ∧ s.pins.keepPower = true) :=
  ⟨⟨State.reset, by decide +kernel⟩,
   ⟨{ st [(F.HIF_STATUS_STAGE, 0, 1), (F.WHS_STATUS_STATE, 0, 1)] with ltb := { State.reset.ltb with cycle := 155518 } }, by decide +kernel⟩,
   ⟨{ st [(F.HIF_STATUS_STAGE, 0, 1), (F.WHS_STATUS_STATE, 0, 1)] with ltb := { State.reset.ltb with cycle := 155519 } }, by decide +kernel⟩,
   ⟨{ st [(F.HIF_STATUS_STAGE, 0, 1), (F.WHS_STATUS_STATE, 0, 1)] with ltb := { State.reset.ltb with sleep := some ⟨0, 0, 0, 0, false, [], 0, false⟩ } }, by decide +kernel⟩⟩

/-- States and operands that meet the hypotheses of EveryStepKeepsTheRegisterFileCanonical, clause by clause. -/
theorem test_meets_EveryStepKeepsTheRegisterFileCanonical :
    (∃ (s : State) (t : State), s.regsCanonical ∧ step s = .next t) :=
  ⟨{ State.reset with pending := [.farListScan] }, State.reset, by unfold Machine.State.regsCanonical; decide +kernel, rfl⟩

/-- States and operands that meet the hypotheses of EveryStepKeepsTheLineTimeLegal, clause by clause. -/
theorem test_meets_EveryStepKeepsTheLineTimeLegal :
    (∃ (s : State) (t : State), s.timeLegal ∧ step s = .next t) :=
  ⟨{ State.reset with pending := [.farListScan] }, State.reset, ⟨by decide, by decide, fun r h => by cases h⟩, rfl⟩

/-- States and operands that meet the hypotheses of RegisterWritesTakeEffect, clause by clause. -/
theorem test_meets_RegisterWritesTakeEffect :
    (∃ (s : State) (addr : Nat), addr / 0x100000 ∈ [4, 5, 6, 11, 17] ∧ addr % 4 = 0 ∧ s.access addr = .ok ∧ s.absentReg addr = false) ∧
    (∃ (s : State) (addr : Nat), addr % 4 = 0 ∧ keepingAddr addr = true ∧ s.linkOk = false) :=
  ⟨⟨State.reset, 0x400000, by decide +kernel⟩,
   ⟨State.reset, 0x1000000, by decide +kernel⟩⟩

/-- States and operands that meet the hypotheses of AHardwareSetWinsOverAClear, clause by clause. -/
theorem test_meets_AHardwareSetWinsOverAClear :
    (∃ (s : State) (addr : Nat) (sets : Word) (p : Fld × Nat), addr % 4 = 0 ∧ s.access addr = .ok ∧ p ∈ fieldsAt addr ∧ p.1.acc = .w1c ∧ bits sets.toNat p.1.hi p.1.lo % 2 = 1) ∧
    (∃ (s : State) (addr : Nat) (p : Fld × Nat), addr / 0x100000 ∈ [4, 5, 6, 11, 17] ∧ addr % 4 = 0 ∧ s.access addr = .ok ∧ s.absentReg addr = false ∧ p ∈ fieldsAt addr ∧ p.1.acc = .w1c) :=
  ⟨⟨State.reset, 0x500008, 0xFFFFFFFF, (F.UBE_EVENT_OVERLAP, 0), by decide +kernel⟩,
   ⟨st [(F.UBE_EVENT_OVERLAP, 0, 1)], 0x500008, (F.UBE_EVENT_OVERLAP, 0), by decide +kernel⟩⟩

/-- States and operands that meet the hypotheses of AReadThatClears, clause by clause. -/
theorem test_meets_AReadThatClears :
    (∃ (s : State) (addr : Nat), addr % 4 = 0 ∧ s.access addr = .ok ∧ hiOf addr = none) :=
  ⟨st [(F.UBE_CH_DISC_STATE, 0, 9)], 0x501010, by decide +kernel⟩

/-- States and operands that meet the hypotheses of LatchedAndBadReads, clause by clause. -/
theorem test_meets_LatchedAndBadReads :
    (∃ (s : State) (addr : Nat) (h : Nat), s.access addr = .ok ∧ hiOf addr = some h) ∧
    (∃ (addr : Nat) (size : Nat), (¬ ((size = 4 ∨ size = 8) ∧ addr % size = 0))) ∧
    (∃ (addr : Nat) (size : Nat), (¬ ((size = 4 ∨ size = 8) ∧ addr % size = 0))) :=
  ⟨⟨State.reset, 0x100020, 0x100024, by decide +kernel⟩,
   ⟨2, 4, by decide +kernel⟩,
   ⟨4, 8, by decide +kernel⟩⟩

/-- States and operands that meet the hypotheses of ResetInputs, clause by clause. -/
theorem test_meets_ResetInputs :
    (∃ (s : State), s.pins.keepPower = true ∧ s.pins.mainPower = true ∧ s.pins.tripLow = false) ∧
    (∃ (s : State), s.pins.keepPower = true ∧ s.pins.mainPower = true ∧ s.pins.tripLow = false) ∧
    (∃ (s : State), s.pins.mainPower = true) ∧
    (∃ (s : State), s.pins.keepPower = true) ∧
    (∃ (s : State), s.pins.mainPower = true ∧ s.pins.tripLow = false) ∧
    (∃ (deg : Int), 105 ≤ deg) ∧
    (∃ (deg : Int), deg < 100) :=
  ⟨⟨st [(F.HIF_STATUS_STAGE, 0, 4), (F.WHS_STATUS_LINK_OK, 0, 1), (F.DSF_CFG_REASM_MAX, 0, 5)], by decide +kernel⟩,
   ⟨st [(F.HIF_STATUS_STAGE, 0, 4), (F.WHS_STATUS_LINK_OK, 0, 1), (F.DSF_CFG_REASM_MAX, 0, 5)], by decide +kernel⟩,
   ⟨st [(F.HIF_STATUS_STAGE, 0, 4), (F.WHS_STATUS_LINK_OK, 0, 1)], by decide +kernel⟩,
   ⟨st [(F.HIF_STATUS_STAGE, 0, 4), (F.WHS_STATUS_LINK_OK, 0, 1)], by decide +kernel⟩,
   ⟨st [(F.HIF_STATUS_STAGE, 0, 4)], by decide +kernel⟩,
   ⟨105, by decide +kernel⟩,
   ⟨99, by decide +kernel⟩⟩

/-- States and operands that meet the hypotheses of FunctionLevelReset, clause by clause. -/
theorem test_meets_FunctionLevelReset :
    (∃ (s : State), s.pins.mainPower = true ∧ s.pins.tripLow = false) ∧
    (∃ (s : State), s.pins.perstLow = true ∧ s.pins.mainPower = true ∧ s.pins.tripLow = false) :=
  ⟨⟨st [(F.HIF_STATUS_STAGE, 0, 4), (F.HIF_DB_MAGIC_MAGIC, 0, 7)], by decide +kernel⟩,
   ⟨{ st [(F.HIF_STATUS_STAGE, 0, 4)] with pins := { State.reset.pins with perstLow := true } }, by decide +kernel⟩⟩

/-- States and operands that meet the hypotheses of DomainDemands, clause by clause. -/
theorem test_meets_DomainDemands :
    (∃ (s : State) (n : Nat) (sl : Nat), s.dom n sl = 3 ∧ ((∀ d ∈ s.pwr.stalled, ¬ (d.dom = n ∧ d.slice = sl)))) ∧
    (∃ (s : State) (d : Demand) (rest : List Demand), s.pwr.stalled = d :: rest ∧ s.dom d.dom d.slice ≠ 2 ∧ d.kind = 0 ∧ d.lc + usLc 12 ≤ s.ltb.lc) :=
  ⟨⟨State.reset.setDom 7 0 3, 7, 0, by decide +kernel⟩,
   ⟨{ (State.reset.setDom 7 0 3) with pwr := { (State.reset.setDom 7 0 3).pwr with stalled := [⟨7, 0, 0, 0x600000, 0, false, none, 0⟩] }, ltb := { State.reset.ltb with lc := 20000 } }, ⟨7, 0, 0, 0x600000, 0, false, none, 0⟩, [], by decide +kernel⟩⟩

/-- States and operands that meet the hypotheses of DoorbellPolls, clause by clause. -/
theorem test_meets_DoorbellPolls :
    (∃ (s : State) (pg : DbPage) (n : Nat), n < 16 ∧ s.polls = true ∧ s.pollDue = true ∧ (s.fld F.HIF_CTRL_DB_CHECK 0 = 0 ∨ pg.magic = s.fld F.HIF_DB_MAGIC_MAGIC 0) ∧ s.ringOpen 0 n = true) ∧
    (∃ (s : State) (pg : DbPage), s.polls = true ∧ s.pollDue = true ∧ s.fld F.HIF_CTRL_DB_CHECK 0 = 1 ∧ pg.magic ≠ s.fld F.HIF_DB_MAGIC_MAGIC 0) ∧
    (∃ (s : State), (s.polls = false ∨ s.pollDue = false)) ∧
    (∃ (s : State) (v : Word), s.polls = true ∧ v.toNat % 2 = 1) :=
  ⟨⟨{ (hostSt [(F.HIF_CMD_CFG_EN, 0, 1), (F.HIF_CMD_CFG_LOG2_SIZE, 0, 6)]) with hif := { (hostSt []).hif with pollAsked := true } }, ⟨List.replicate 16 64, [], [], [], [], 0, []⟩, 0, by decide +kernel⟩,
   ⟨{ (hostSt [(F.HIF_CTRL_DB_CHECK, 0, 1), (F.HIF_DB_MAGIC_MAGIC, 0, 5)]) with hif := { (hostSt []).hif with pollAsked := true } }, ⟨[], [], [], [], [], 4, []⟩, by decide +kernel⟩,
   ⟨hostSt [], by decide +kernel⟩,
   ⟨hostSt [], 1, by decide +kernel⟩⟩

/-- States and operands that meet the hypotheses of ADescriptorsWordsSpellItBothWays, clause by clause. -/
theorem test_meets_ADescriptorsWordsSpellItBothWays :
    (∃ (d : Desc), d.wf = true) ∧
    (∃ (ws : List Nat), ws.length = 16 ∧ ((∀ w ∈ ws, w < 2 ^ 32)) ∧ bits (ws.getD 1 0) 31 5 = 0 ∧ bits (ws.getD 4 0) 31 24 = 0) :=
  ⟨⟨⟨31, 4294967295, 65535, 65535, true, true, true, true, true, 2 ^ 64 - 64, 2 ^ 24 - 1, List.replicate 11 0xFFFFFFFF#32, [5]⟩, by decide +kernel⟩,
   ⟨[4294967295, 31, 64, 4294967295, 2 ^ 24 - 1] ++ List.replicate 11 4294967295, by decide +kernel⟩⟩

/-- States and operands that meet the hypotheses of CommandsAreFetchedAndDispatched, clause by clause. -/
theorem test_meets_CommandsAreFetchedAndDispatched :
    (∃ (s : State) (inj : Bool) (n : Nat), n < 16 ∧ s.fld (ringCpl (if inj then 4 else 0)) n < 16 ∧ s.polls = true ∧ s.fld F.HIF_CTRL_RINGS_EN 0 = 1 ∧ s.ringOpen (if inj then 4 else 0) n = true ∧ (s.ring (if inj then 4 else 0) n).head ≠ (s.ring (if inj then 4 else 0) n).tail ∧ s.cplRoom (if inj then 4 else 0) n = true ∧ s.roomAt (s.ringPriority (if inj then 4 else 0) n) = .chip) ∧
    (∃ (s : State) (inj : Bool) (n : Nat), s.polls = true ∧ s.fld F.HIF_CTRL_RINGS_EN 0 = 1 ∧ s.ringOpen (if inj then 4 else 0) n = true ∧ (s.ring (if inj then 4 else 0) n).head ≠ (s.ring (if inj then 4 else 0) n).tail ∧ s.cplRoom (if inj then 4 else 0) n = true ∧ s.roomAt (s.ringPriority (if inj then 4 else 0) n) = .none) ∧
    (∃ (s : State) (p : Nat) (e : Entry) (rest : List Entry), s.saucerAt p = e :: rest ∧ (s.readyAt p).length < 1024 ∧ s.ddrInService = true ∧ s.ddrGood (s.oldestSpill p / 64) = true) ∧
    (∃ (s : State) (p : Nat) (fails : Nat) (d : Desc) (rest : List Entry), s.saucerAt p = .cmd false d :: rest ∧ (s.readyAt p).length < 1024 ∧ s.ddrInService = true ∧ s.refetchMax < fails) ∧
    (∃ (s : State) (p : Nat) (e : Entry) (rest : List Entry), s.fld F.HIF_DISPATCH_CFG_AGE_LIMIT 0 ≠ 0 ∧ 2 ≤ p ∧ s.readyAt p = e :: rest ∧ usLc (s.fld F.HIF_DISPATCH_CFG_AGE_LIMIT 0) < s.ltb.lc - SMap.get s.hif.headSince p 0 ∧ s.roomAt (p - 1) = .chip) ∧
    (∃ (s : State) (p : Nat), (s.fld F.HIF_DISPATCH_CFG_AGE_LIMIT 0 = 0 ∨ p < 2 ∨ s.ltb.lc - SMap.get s.hif.headSince p 0 ≤ usLc (s.fld F.HIF_DISPATCH_CFG_AGE_LIMIT 0))) ∧
    (∃ (s : State) (p : Nat) (d : Desc) (rest : List Entry), s.nextEntry (List.range 8) = some (p, .cmd false d, rest) ∧ opcodeDefined d.opcode = true ∧ s.domOfCmd d = none ∧ ((∀ k < 4, (s.engine k).waiting = []))) ∧
    (∃ (s : State) (p : Nat) (d : Desc) (rest : List Entry), s.nextEntry (List.range 8) = some (p, .cmd false d, rest) ∧ opcodeDefined d.opcode = false ∧ ((∀ k < 4, (s.engine k).waiting = []))) :=
  ⟨⟨(hostSt [(F.HIF_CMD_CFG_EN, 0, 1), (F.HIF_CMD_CFG_LOG2_SIZE, 0, 6), (F.HIF_CPL_CFG_EN, 0, 1), (F.HIF_CPL_CFG_LOG2_SIZE, 0, 6)]).setRing 0 0 ⟨0, 1, 0⟩, false, 0, by decide +kernel⟩,
   ⟨(let u := (hostSt [(F.HIF_CMD_CFG_EN, 0, 1), (F.HIF_CMD_CFG_LOG2_SIZE, 0, 6), (F.HIF_CPL_CFG_EN, 0, 1), (F.HIF_CPL_CFG_LOG2_SIZE, 0, 6)]).setRing 0 0 ⟨0, 1, 0⟩; { u with hif := { u.hif with saucer := [(1, [.cmd false (cmdD 0 [])])] } }), false, 0, by decide +kernel⟩,
   ⟨{ st [(F.MEM_CH_STATUS_STATE, 0, 2), (F.MEM_CH_STATUS_STATE, 1, 2), (F.MEM_CH_STATUS_STATE, 2, 2), (F.MEM_CH_STATUS_STATE, 3, 2)] with hif := { State.reset.hif with saucer := [(1, [.cmd false (cmdD 0 [])])], spillNo := [(1, 1)] } }, 1, .cmd false (cmdD 0 []), [], by decide +kernel⟩,
   ⟨{ st [(F.MEM_CH_STATUS_STATE, 0, 2), (F.MEM_CH_STATUS_STATE, 1, 2), (F.MEM_CH_STATUS_STATE, 2, 2), (F.MEM_CH_STATUS_STATE, 3, 2)] with hif := { State.reset.hif with saucer := [(1, [.cmd false (cmdD 0 [])])], spillNo := [(1, 1)] } }, 1, 5, cmdD 0 [], [], by decide +kernel⟩,
   ⟨{ st [(F.HIF_DISPATCH_CFG_AGE_LIMIT, 0, 1)] with hif := { State.reset.hif with ready := [(2, [.cmd false (cmdD 0 [])])] }, ltb := { State.reset.ltb with lc := 2000 } }, 2, .cmd false (cmdD 0 []), [], by decide +kernel⟩,
   ⟨State.reset, 3, by decide +kernel⟩,
   ⟨{ State.reset with hif := { State.reset.hif with ready := [(2, [.cmd false (cmdD 0 [])])], flight := [⟨false, cmdD 0 [], false, false, none⟩] } }, 2, cmdD 0 [], [], by decide +kernel⟩,
   ⟨{ State.reset with hif := { State.reset.hif with ready := [(2, [.cmd false (cmdD 0x7777 [])])], flight := [⟨false, cmdD 0x7777 [], false, false, none⟩] } }, 2, cmdD 0x7777 [], [], by decide +kernel⟩⟩

/-- States and operands that meet the hypotheses of CommandsRetire, clause by clause. -/
theorem test_meets_CommandsRetire :
    (∃ (s : State) (ring : Nat) (f : Flight) (rest : List Flight) (dn : Done), s.fld F.LFG_STATUS_LAGGING 0 ≠ 1 ∧ firstOf false ring s.hif.flight = some (f, rest) ∧ f.done = some dn ∧ f.drop = false ∧ f.desc.durable = false ∧ dn.saucerLost = false ∧ s.hostUp = true ∧ (f.desc.quiet = false ∨ dn.status ≠ 0) ∧ f.desc.irq = false) ∧
    (∃ (s : State) (ring : Nat) (f : Flight) (rest : List Flight) (dn : Done), firstOf true ring s.hif.flight = some (f, rest) ∧ f.done = some dn ∧ s.hostUp = false) ∧
    (∃ (s : State), s.fld F.LFG_STATUS_LAGGING 0 = 1) ∧
    (∃ (s : State) (ring : Nat) (f : Flight) (rest : List Flight) (dn : Done), firstOf false ring s.hif.flight = some (f, rest) ∧ f.done = some dn ∧ f.desc.durable = true ∧ s.unmirroredSeq dn.seq = true ∧ s.mirrorOn = true) ∧
    (∃ (s : State) (kind : Nat) (n : Nat), 0 < (s.vec (s.fld (ringVec kind) n)).owed ∧ (s.vecCount (s.fld (ringVec kind) n) ≤ (s.vec (s.fld (ringVec kind) n)).owed ∨ s.vecHeldOff (s.fld (ringVec kind) n) = true)) ∧
    (∃ (s : State) (kind : Nat) (n : Nat), (s.vec (s.fld (ringVec kind) n)).owed < s.vecCount (s.fld (ringVec kind) n) ∧ s.vecHeldOff (s.fld (ringVec kind) n) = false) :=
  ⟨⟨{ (hostSt [(F.HIF_CPL_CFG_EN, 0, 1), (F.HIF_CPL_CFG_LOG2_SIZE, 0, 6)]) with hif := { (hostSt []).hif with rings := [(32, ⟨5, 0, 1⟩)], flight := [⟨false, cmdD 0 [], true, false, some ⟨0, 3, 8, false⟩⟩] } }, 0, ⟨false, cmdD 0 [], true, false, some ⟨0, 3, 8, false⟩⟩, [], ⟨0, 3, 8, false⟩, by decide +kernel⟩,
   ⟨{ State.reset with hif := { State.reset.hif with flight := [⟨true, cmdD 0 [], true, false, some ⟨0, 3, 8, false⟩⟩] } }, 0, ⟨true, cmdD 0 [], true, false, some ⟨0, 3, 8, false⟩⟩, [], ⟨0, 3, 8, false⟩, by decide +kernel⟩,
   ⟨st [(F.LFG_STATUS_LAGGING, 0, 1)], by decide +kernel⟩,
   ⟨(let u := (st [(F.LFG_CFG_MIRROR_EN, 0, 1)]).commit 5 0 [1]; { u with hif := { u.hif with flight := [⟨false, { cmdD 0 [] with durable := true }, true, false, some ⟨0, 3, 0, false⟩⟩] } }), 0, ⟨false, { cmdD 0 [] with durable := true }, true, false, some ⟨0, 3, 0, false⟩⟩, [], ⟨0, 3, 0, false⟩, by decide +kernel⟩,
   ⟨State.reset.setVec 0 ⟨1, 0⟩, 1, 0, by decide +kernel⟩,
   ⟨State.reset, 1, 0, by decide +kernel⟩⟩

/-- States and operands that meet the hypotheses of HostInterfaceCommands, clause by clause. -/
theorem test_meets_HostInterfaceCommands :
    (∃ (d : Desc), d.opcode = 0x0000) ∧
    (∃ (d : Desc), d.opcode = 0x0001) ∧
    (∃ (d : Desc), d.opcode = 0x0002 ∧ d.buf = true ∧ 1 ≤ d.dw 7 % 2 ^ 17 ∧ d.dw 7 % 2 ^ 17 ≤ 65536 ∧ d.dw 7 % 2 ^ 17 * 64 ≤ d.bufLen) ∧
    (∃ (d : Desc), d.opcode = 0x0002 ∧ (d.buf = false ∨ d.bufLen < d.dw 7 % 2 ^ 17 * 64)) ∧
    (∃ (d : Desc), d.opcode = 0x0002 ∧ d.buf = true ∧ (d.dw 7 % 2 ^ 17 = 0 ∨ 65536 < d.dw 7 % 2 ^ 17) ∧ d.dw 7 % 2 ^ 17 * 64 ≤ d.bufLen) ∧
    (∃ (s : State) (d : Desc), d.opcode = 0x0003 ∧ bit (d.dw 5) 8 = true ∧ ringControlBad d = false ∧ s.fld (ringEn (bits (d.dw 5) 7 5)) (bits (d.dw 5) 4 0) ≠ 0) ∧
    (∃ (s : State) (d : Desc), d.opcode = 0x0003 ∧ bit (d.dw 5) 8 = true ∧ ringControlBad d = false ∧ s.fld (ringEn (bits (d.dw 5) 7 5)) (bits (d.dw 5) 4 0) = 0) ∧
    (∃ (d : Desc), d.opcode = 0x0003 ∧ bit (d.dw 5) 8 = false ∧ ringControlBad d = false) ∧
    (∃ (d : Desc), d.opcode = 0x0003 ∧ bit (d.dw 5) 8 = true ∧ ringControlBad d = true) ∧
    (∃ (d : Desc), d.opcode = 0x0003 ∧ bit (d.dw 5) 8 = false ∧ ringControlBad d = true) ∧
    (∃ (d : Desc), d.opcode = 0x0004 ∧ d.buf = true ∧ 64 ≤ d.bufLen) ∧
    (∃ (d : Desc), d.opcode = 0x0004 ∧ (d.buf = false ∨ d.bufLen < 64)) ∧
    (∃ (s : State) (k : Nat), s.fld (engRunning k) 0 ≠ 0) :=
  ⟨⟨cmdD 0 [], by decide +kernel⟩,
   ⟨cmdD 1 [], by decide +kernel⟩,
   ⟨cmdB 2 [0, 0, 1, 0] 64 [], by decide +kernel⟩,
   ⟨cmdD 2 [0, 0, 1, 0], by decide +kernel⟩,
   ⟨cmdB 2 [0, 0, 0, 0] 64 [], by decide +kernel⟩,
   ⟨st [(F.HIF_CMD_CFG_EN, 15, 1), (F.HIF_CMD_STATUS_STOPPED, 15, 1)], cmdD 3 [0x10F], by decide +kernel⟩,
   ⟨st [(F.HIF_CMD_STATUS_STOPPED, 15, 1)], cmdD 3 [0x10F], by decide +kernel⟩,
   ⟨cmdD 3 [0x0F], by decide +kernel⟩,
   ⟨cmdD 3 [0x110], by decide +kernel⟩,
   ⟨cmdD 3 [0x10], by decide +kernel⟩,
   ⟨cmdB 4 [] 64 [], by decide +kernel⟩,
   ⟨cmdB 4 [] 63 [], by decide +kernel⟩,
   ⟨st [(F.HIF_ENGINE_STATUS_RUNNING0, 0, 1)], 0, by decide +kernel⟩⟩

/-- States and operands that meet the hypotheses of StagesAndRingSetup, clause by clause. -/
theorem test_meets_StagesAndRingSetup :
    (∃ (s : State) (kind : Nat) (n : Nat) (v : Word), kind < 5 ∧ n < ringCount kind ∧ s.fld (ringEn kind) n = 0 ∧ s.ringIdle kind n = true ∧ 6 ≤ bits v.toNat 4 0 ∧ bits v.toNat 4 0 ≤ 16) ∧
    (∃ (s : State) (kind : Nat) (n : Nat) (v : Word), kind < 5 ∧ n < ringCount kind ∧ s.fld (ringEn kind) n = 1 ∧ s.fld (ringPrio kind) n ≠ bits v.toNat 26 24) ∧
    (∃ (s : State) (v : Word), s.fld F.HIF_STATUS_STAGE 0 = 1 ∧ bit v.toNat 31 = true) ∧
    (∃ (s : State) (v : Word), s.fld F.HIF_STATUS_STAGE 0 = 3 ∧ bit v.toNat 0 = true ∧ s.whs.kept = []) ∧
    (∃ (s : State) (magic : Nat) (hdrLen : Nat), s.fld F.HIF_STATUS_STAGE 0 = 2 ∧ magic = 0x4C444E55 ∧ s.fld F.HIF_IMG_CTRL_LEN 0 = hdrLen + 96 ∧ hdrLen ≤ 3145728) ∧
    (∃ (s : State), s.fld F.HIF_STATUS_STAGE 0 = 2) :=
  ⟨⟨State.reset, 1, 3, 0x80000010, by decide +kernel⟩,
   ⟨st [(F.HIF_CMD_CFG_EN, 0, 1)], 0, 0, 0x87000010, by decide +kernel⟩,
   ⟨st [(F.HIF_STATUS_STAGE, 0, 1)], 0x80000060, by decide +kernel⟩,
   ⟨st [(F.HIF_STATUS_STAGE, 0, 3)], 3, by decide +kernel⟩,
   ⟨st [(F.HIF_STATUS_STAGE, 0, 2), (F.HIF_IMG_CTRL_LEN, 0, 160), (F.INF_CFG_AUTO, 0, 15)], 0x4C444E55, 64, by decide +kernel⟩,
   ⟨st [(F.HIF_STATUS_STAGE, 0, 2), (F.HIF_IMG_CTRL_LEN, 0, 160)], by decide +kernel⟩⟩

/-- States and operands that meet the hypotheses of TheMirror, clause by clause. -/
theorem test_meets_TheMirror :
    (∃ (s : State) (r : Record), s.mirrorRuns = true ∧ s.oldestUnmirrored = some r ∧ s.lfg.held = []) ∧
    (∃ (s : State) (r : Record) (e : Ended), s.mirrorRuns = true ∧ s.oldestUnmirrored = some r ∧ s.lfg.held = [e] ∧ s.lfg.unmirrored - 1 < s.lagLimit) ∧
    (∃ (s : State) (r : Record), s.mirrorRuns = true ∧ s.oldestUnmirrored = some r ∧ s.lfg.held = []) ∧
    (∃ (s : State) (v : Word), s.linkOk = true ∧ bit v.toNat 16 = false) :=
  ⟨⟨(st [(F.LFG_CFG_MIRROR_EN, 0, 1), (F.WHS_STATUS_LINK_OK, 0, 1)]).commit 5 0 [1], (((st [(F.LFG_CFG_MIRROR_EN, 0, 1), (F.WHS_STATUS_LINK_OK, 0, 1)]).commit 5 0 [1]).lfg.volatile.getD 0 ⟨0, 0, 0, 0, 0, 0, 0, 0, 0, 0, 0, 0, 0, 0, []⟩), by decide +kernel⟩,
   ⟨(let u := (st [(F.LFG_CFG_MIRROR_EN, 0, 1), (F.WHS_STATUS_LINK_OK, 0, 1)]).commit 5 0 [1]; { u with lfg := { u.lfg with held := [⟨cmdD 4 [], 0, 9⟩] } }), (((st [(F.LFG_CFG_MIRROR_EN, 0, 1), (F.WHS_STATUS_LINK_OK, 0, 1)]).commit 5 0 [1]).lfg.volatile.getD 0 ⟨0, 0, 0, 0, 0, 0, 0, 0, 0, 0, 0, 0, 0, 0, []⟩), ⟨cmdD 4 [], 0, 9⟩, by decide +kernel⟩,
   ⟨(st [(F.LFG_CFG_MIRROR_EN, 0, 1), (F.WHS_STATUS_LINK_OK, 0, 1)]).commit 5 0 [1], (((st [(F.LFG_CFG_MIRROR_EN, 0, 1), (F.WHS_STATUS_LINK_OK, 0, 1)]).commit 5 0 [1]).lfg.volatile.getD 0 ⟨0, 0, 0, 0, 0, 0, 0, 0, 0, 0, 0, 0, 0, 0, []⟩), by decide +kernel⟩,
   ⟨st [(F.WHS_STATUS_LINK_OK, 0, 1), (F.LFG_STATUS_LAGGING, 0, 1), (F.LFG_CFG_MIRROR_EN, 0, 1)], 5, by decide +kernel⟩⟩

/-- States and operands that meet the hypotheses of InfuserAluInstructions, clause by clause. -/
theorem test_meets_InfuserAluInstructions :
    (∃ (s : State) (n : Nat) (w : Nat) (k : Nat), CoreAt s n .ldi w ∧ coreReg (coreLand (s.core n)) (bits w 23 18) = some k ∧ NoClash (coreLand (s.core n)) k) ∧
    (∃ (s : State) (n : Nat) (w : Nat) (k : Nat), coreReg (coreLand (s.core n)) (bits w 17 12) = some k ∧ NoClash (coreLand (s.core n)) k ∧ CoreAt s n .and w) ∧
    (∃ (s : State) (n : Nat) (w : Nat) (k : Nat), coreReg (coreLand (s.core n)) (bits w 17 12) = some k ∧ NoClash (coreLand (s.core n)) k ∧ CoreAt s n .or w) ∧
    (∃ (s : State) (n : Nat) (w : Nat) (k : Nat), coreReg (coreLand (s.core n)) (bits w 17 12) = some k ∧ NoClash (coreLand (s.core n)) k ∧ CoreAt s n .xor w) ∧
    (∃ (s : State) (n : Nat) (w : Nat) (k : Nat), coreReg (coreLand (s.core n)) (bits w 17 12) = some k ∧ NoClash (coreLand (s.core n)) k ∧ CoreAt s n .mov w) ∧
    (∃ (s : State) (n : Nat) (w : Nat) (k : Nat), coreReg (coreLand (s.core n)) (bits w 17 12) = some k ∧ NoClash (coreLand (s.core n)) k ∧ CoreAt s n .sgnb w) ∧
    (∃ (s : State) (n : Nat) (w : Nat) (k : Nat), coreReg (coreLand (s.core n)) (bits w 17 12) = some k ∧ NoClash (coreLand (s.core n)) k ∧ CoreAt s n .add w ∧ bit w 19 = false) ∧
    (∃ (s : State) (n : Nat) (w : Nat) (k : Nat), coreReg (coreLand (s.core n)) (bits w 17 12) = some k ∧ NoClash (coreLand (s.core n)) k ∧ CoreAt s n .sub w ∧ bit w 19 = false) ∧
    (∃ (s : State) (n : Nat) (w : Nat) (k : Nat), coreReg (coreLand (s.core n)) (bits w 17 12) = some k ∧ NoClash (coreLand (s.core n)) k ∧ CoreAt s n .shf w ∧ bit w 19 = false) ∧
    (∃ (s : State) (n : Nat) (w : Nat) (k : Nat), coreReg (coreLand (s.core n)) (bits w 17 12) = some k ∧ NoClash (coreLand (s.core n)) k ∧ CoreAt s n .add w ∧ bit w 19 = true) ∧
    (∃ (s : State) (n : Nat) (w : Nat) (k : Nat), coreReg (coreLand (s.core n)) (bits w 17 12) = some k ∧ NoClash (coreLand (s.core n)) k ∧ CoreAt s n .sub w ∧ bit w 19 = true) ∧
    (∃ (s : State) (n : Nat) (w : Nat), CoreAt s n .blkx w ∧ NoClash (coreLand (s.core n)) 0x30) :=
  ⟨⟨coreS (core0 0x2008beef), 0, 0x2008beef, 2, by unfold CoreAt NoClash; decide +kernel⟩,
   ⟨coreS (core0 0x50203042), 0, 0x50203042, 3, by unfold CoreAt NoClash; decide +kernel⟩,
   ⟨coreS (core0 0x51303042), 0, 0x51303042, 3, by unfold CoreAt NoClash; decide +kernel⟩,
   ⟨coreS (core0 0x50403042), 0, 0x50403042, 3, by unfold CoreAt NoClash; decide +kernel⟩,
   ⟨coreS (core0 0x50503042), 0, 0x50503042, 3, by unfold CoreAt NoClash; decide +kernel⟩,
   ⟨coreS (core0 0x50703042), 0, 0x50703042, 3, by unfold CoreAt NoClash; decide +kernel⟩,
   ⟨coreS (core0 0x50003042), 0, 0x50003042, 3, by unfold CoreAt NoClash; decide +kernel⟩,
   ⟨coreS (core0 0x53103042), 0, 0x53103042, 3, by unfold CoreAt NoClash; decide +kernel⟩,
   ⟨coreS (core0 0x5060305f), 0, 0x5060305f, 3, by unfold CoreAt NoClash; decide +kernel⟩,
   ⟨coreS (core0 0x50083042), 0, 0x50083042, 3, by unfold CoreAt NoClash; decide +kernel⟩,
   ⟨coreS (core0 0x50183042), 0, 0x50183042, 3, by unfold CoreAt NoClash; decide +kernel⟩,
   ⟨coreS (core0 0x50803042), 0, 0x50803042, by unfold CoreAt NoClash; decide +kernel⟩⟩

/-- States and operands that meet the hypotheses of InfuserAccumulatorInstructions, clause by clause. -/
theorem test_meets_InfuserAccumulatorInstructions :
    (∃ (s : State) (n : Nat) (w : Nat), CoreAt s n .clr w) ∧
    (∃ (s : State) (n : Nat) (w : Nat), CoreAt s n .lda w) ∧
    (∃ (s : State) (n : Nat) (w : Nat), CoreAt s n .addx w) ∧
    (∃ (s : State) (n : Nat) (w : Nat), CoreAt s n .sha w) ∧
    (∃ (s : State) (n : Nat) (w : Nat), NoClash (coreLand (s.core n)) 0x20 ∧ NoClash (coreLand (s.core n)) 0x21 ∧ CoreAt s n .mld w) ∧
    (∃ (s : State) (n : Nat) (w : Nat), NoClash (coreLand (s.core n)) 0x20 ∧ NoClash (coreLand (s.core n)) 0x21 ∧ CoreAt s n .mul w) ∧
    (∃ (s : State) (n : Nat) (w : Nat), NoClash (coreLand (s.core n)) 0x20 ∧ NoClash (coreLand (s.core n)) 0x21 ∧ CoreAt s n .mac w) ∧
    (∃ (s : State) (n : Nat) (w : Nat), NoClash (coreLand (s.core n)) 0x20 ∧ NoClash (coreLand (s.core n)) 0x21 ∧ CoreAt s n .msb w) ∧
    (∃ (s : State) (n : Nat) (w : Nat) (k : Nat), CoreAt s n .sta w ∧ coreReg (coreLand (s.core n)) (bits w 11 6) = some k ∧ NoClash (coreLand (s.core n)) k ∧ bit w 13 = true) ∧
    (∃ (s : State) (n : Nat) (w : Nat) (k : Nat), CoreAt s n .sta w ∧ coreReg (coreLand (s.core n)) (bits w 11 6) = some k ∧ NoClash (coreLand (s.core n)) k ∧ bit w 13 = false) :=
  ⟨⟨coreS (core0 0x80010000), 0, 0x80010000, by unfold CoreAt; decide +kernel⟩,
   ⟨coreS (core0 0x80100040), 0, 0x80100040, by unfold CoreAt; decide +kernel⟩,
   ⟨coreS (core0 0x80200000), 0, 0x80200000, by unfold CoreAt; decide +kernel⟩,
   ⟨coreS (core0 0x80300005), 0, 0x80300005, by unfold CoreAt; decide +kernel⟩,
   ⟨coreS ({ core0 0x40811682 with data := [(0, 77)] }), 0, 0x40811682, by unfold CoreAt NoClash; decide +kernel⟩,
   ⟨coreS ({ core0 0x40611682 with data := [(0, 77)] }), 0, 0x40611682, by unfold CoreAt NoClash; decide +kernel⟩,
   ⟨coreS ({ core0 0x40211682 with data := [(0, 77)] }), 0, 0x40211682, by unfold CoreAt NoClash; decide +kernel⟩,
   ⟨coreS ({ core0 0x40411682 with data := [(0, 77)] }), 0, 0x40411682, by unfold CoreAt NoClash; decide +kernel⟩,
   ⟨coreS ({ core0 0x8040a150 with cycle := 5, a0 := [⟨0, 123456789, false⟩] }), 0, 0x8040a150, 5, by unfold CoreAt NoClash; decide +kernel⟩,
   ⟨coreS ({ core0 0x80404150 with cycle := 5, a0 := [⟨0, 123456789, false⟩] }), 0, 0x80404150, 5, by unfold CoreAt NoClash; decide +kernel⟩⟩

/-- States and operands that meet the hypotheses of InfuserControlInstructions, clause by clause. -/
theorem test_meets_InfuserControlInstructions :
    (∃ (s : State) (n : Nat) (w : Nat), CoreAt s n .nop w) ∧
    (∃ (s : State) (n : Nat) (w : Nat), CoreAt s n .halt w) ∧
    (∃ (s : State) (n : Nat) (w : Nat), CoreAt s n .sig w) ∧
    (∃ (s : State) (n : Nat) (w : Nat), CoreAt s n .wait w) ∧
    (∃ (s : State) (n : Nat) (w : Nat), CoreAt s n .loop w) ∧
    (∃ (s : State) (n : Nat) (w : Nat), CoreAt s n .br w ∧ bits w 23 20 < 7) :=
  ⟨⟨coreS (core0 0x0), 0, 0x0, by unfold CoreAt; decide +kernel⟩,
   ⟨coreS (core0 0x4000000), 0, 0x4000000, by unfold CoreAt; decide +kernel⟩,
   ⟨coreS (core0 0x8000055), 0, 0x8000055, by unfold CoreAt; decide +kernel⟩,
   ⟨coreS (core0 0xc00ffff), 0, 0xc00ffff, by unfold CoreAt; decide +kernel⟩,
   ⟨coreS (core0 0x10001804), 0, 0x10001804, by unfold CoreAt; decide +kernel⟩,
   ⟨coreS (core0 0x14000009), 0, 0x14000009, by unfold CoreAt; decide +kernel⟩⟩

/-- States and operands that meet the hypotheses of InfuserMemoryAndStreams, clause by clause. -/
theorem test_meets_InfuserMemoryAndStreams :
    (∃ (s : State) (n : Nat) (w : Nat) (k : Nat), CoreAt s n .ld w ∧ coreReg (coreLand (s.core n)) (bits w 23 18) = some k ∧ ((∀ j v, (coreAddr (coreLand (s.core n)) w).2 = some (j, v) → NoClash (coreLand (s.core n)) j))) ∧
    (∃ (s : State) (n : Nat) (w : Nat), CoreAt s n .st w ∧ ((∀ j v, (coreAddr (coreLand (s.core n)) w).2 = some (j, v) → NoClash (coreLand (s.core n)) j))) ∧
    (∃ (s : State) (n : Nat) (w : Nat) (k : Nat) (v : Nat) (rest : List Nat), CoreAt s n .inp w ∧ coreReg (coreLand (s.core n)) (bits w 23 18) = some k ∧ coreFifo (coreLand (s.core n)) (bits w 17 16) = v :: rest) ∧
    (∃ (s : State) (n : Nat) (w : Nat), CoreAt s n .inp w ∧ coreFifo (coreLand (s.core n)) (bits w 17 16) = []) ∧
    (∃ (s : State) (n : Nat) (w : Nat) (k : Nat) (v : Nat) (rest : List Nat), (s.core n).st = 2 ∧ (s.core n).due + 2 ≤ s.ltb.lc ∧ SMap.get (s.core n).prog (s.core n).pc 0 = w ∧ coreOp w = some .inp ∧ coreFifo (s.core n) (bits w 17 16) = v :: rest ∧ coreReg (coreLand { s.core n with st := 1, cycle := (s.core n).cycle + 1 }) (bits w 23 18) = some k) ∧
    (∃ (s : State) (n : Nat) (w : Nat), CoreAt s n .out w) ∧
    (∃ (s : State) (n : Nat) (w : Nat), CoreAt s n .out w ∧ bits w 3 0 < 8 ∧ (SMap.get (s.core n).taps (bits w 3 0) []).length < 17) ∧
    (∃ (s : State) (n : Nat) (w : Nat), (s.core n).st = 2 ∧ (s.core n).due + 2 ≤ s.ltb.lc ∧ SMap.get (s.core n).prog (s.core n).pc 0 = w ∧ coreOp w = some .out ∧ 8 ≤ bits w 3 0 ∧ SMap.find (s.core n).bus (bits w 3 0 - 8) = none ∧ bit (coreRead (coreLand { s.core n with st := 1, cycle := (s.core n).cycle + 1 }) (bits w 11 6)) 15 = true) ∧
    (∃ (s : State) (src : Nat) (n : Nat) (k : Nat), 0x08 ≤ src ∧ src < 0x10 ∧ s.rxState (src - 8) = 3 ∧ s.fld F.LLN_RX_CFG_ADAPT (src - 8) = 0 ∧ s.hasChannel (src - 8) = true ∧ s.boundTo src = some (n, k) ∧ (s.core n).st ≠ 4 ∧ ((∀ l, SMap.find s.inf.setLc (src - 8) = some l → l + 64 ≤ s.ltb.lc)) ∧ (coreFifo (s.core n) k).length ≤ 492) ∧
    (∃ (s : State) (src : Nat) (n : Nat) (k : Nat) (r : Nat) (w : Option Nat) (rest : List (Nat × Nat × Option Nat)), (src = 0x18 ∨ src = 0x19) ∧ s.inf.requests = (src - 0x18, r, w) :: rest ∧ s.boundTo src = some (n, k) ∧ (s.core n).st ≠ 4 ∧ (coreFifo (s.core n) k).length ≤ 511) :=
  ⟨⟨coreS ({ core0 0x24110001 with regs := [(0x20, 9)], data := [(9, 321)] }), 0, 0x24110001, 4, ⟨by unfold CoreAt; decide +kernel, by decide +kernel, by intro j v _ l hl; exact absurd hl (List.not_mem_nil)⟩⟩,
   ⟨coreS ({ core0 0x280584ff with regs := [(1, 0x77), (0x20, 16)] }), 0, 0x280584ff, ⟨by unfold CoreAt; decide +kernel, by intro j v _ l hl; exact absurd hl (List.not_mem_nil)⟩⟩,
   ⟨coreS ({ core0 0xc0110000 with fifos := [(1, [8, 9])] }), 0, 0xc0110000, 4, 8, [9], by unfold CoreAt; decide +kernel⟩,
   ⟨coreS (core0 0xc0110000), 0, 0xc0110000, by unfold CoreAt; decide +kernel⟩,
   ⟨(let u := coreS ({ core0 0xc0110000 with st := 2, fifos := [(1, [8, 9])] }); { u with ltb := { u.ltb with lc := 2 } }), 0, 0xc0110000, 4, 8, [9], by decide +kernel⟩,
   ⟨coreS (core0 0xc4000047), 0, 0xc4000047, by unfold CoreAt; decide +kernel⟩,
   ⟨coreS (core0 0xc4000047), 0, 0xc4000047, by unfold CoreAt; decide +kernel⟩,
   ⟨(let u := coreS ({ core0 0xc4000048 with st := 2, regs := [(1, 0x8001)] }); { u with ltb := { u.ltb with lc := 2 } }), 0, 0xc4000048, by decide +kernel⟩,
   ⟨{ st [(F.LLN_RX_STATUS_STATE, 7, 3), (F.INF_C_IN_SRC0, 0, 0x0F)] with inf := { State.reset.inf with cores := [(0, core0 0)] } }, 0x0F, 0, 0, by decide +kernel⟩,
   ⟨{ st [(F.INF_C_IN_SRC0, 0, 0x18)] with inf := { State.reset.inf with cores := [(0, core0 0)], requests := [(0, 0x8001, none)] } }, 0x18, 0, 0, 0x8001, none, [], by decide +kernel⟩⟩

/-- States and operands that meet the hypotheses of InfuserCommands, clause by clause. -/
theorem test_meets_InfuserCommands :
    (∃ (s : State) (d : Desc), d.opcode = 0x3801 ∧ d.buf = true ∧ 4 * (bits (d.dw 7) 13 0) ≤ d.bufLen ∧ (bits (d.dw 6) 12 0) + (bits (d.dw 7) 13 0) ≤ 8192 ∧ (bits (d.dw 7) 13 0) ≠ 0 ∧ ((s.core (bits (d.dw 5) 1 0)).st = 0 ∨ (s.core (bits (d.dw 5) 1 0)).st = 3)) ∧
    (∃ (s : State) (d : Desc), d.opcode = 0x3801 ∧ d.buf = true ∧ 4 * (bits (d.dw 7) 13 0) ≤ d.bufLen ∧ (bits (d.dw 6) 12 0) + (bits (d.dw 7) 13 0) ≤ 8192 ∧ (bits (d.dw 7) 13 0) ≠ 0 ∧ ((s.core (bits (d.dw 5) 1 0)).st = 1 ∨ (s.core (bits (d.dw 5) 1 0)).st = 2 ∨ (s.core (bits (d.dw 5) 1 0)).st = 4)) ∧
    (∃ (s : State) (d : Desc), d.opcode = 0x3802 ∧ bit (d.dw 5) 8 = true ∧ ((s.core (bits (d.dw 5) 1 0)).st = 0 ∨ (s.core (bits (d.dw 5) 1 0)).st = 3)) ∧
    (∃ (s : State) (d : Desc), d.opcode = 0x3802 ∧ bit (d.dw 5) 8 = false ∧ ((s.core (bits (d.dw 5) 1 0)).st = 1 ∨ (s.core (bits (d.dw 5) 1 0)).st = 2)) ∧
    (∃ (d : Desc), d.opcode = 0x3803 ∧ d.buf = true ∧ 2 * (bits (d.dw 7) 15 0) ≤ d.bufLen ∧ (bits (d.dw 6) 14 0) + (bits (d.dw 7) 15 0) ≤ 32768 ∧ (bits (d.dw 7) 15 0) ≠ 0 ∧ bit (d.dw 5) 8 = false) ∧
    (∃ (d : Desc), d.opcode = 0x3803 ∧ d.buf = true ∧ 2 * (bits (d.dw 7) 15 0) ≤ d.bufLen ∧ (bits (d.dw 6) 14 0) + (bits (d.dw 7) 15 0) ≤ 32768 ∧ (bits (d.dw 7) 15 0) ≠ 0 ∧ bit (d.dw 5) 8 = true) ∧
    (∃ (d : Desc), d.opcode = 0x3803 ∧ d.buf = true ∧ 2 * (bits (d.dw 7) 15 0) ≤ d.bufLen ∧ (bits (d.dw 6) 14 0) + (bits (d.dw 7) 15 0) ≤ 32768 ∧ (bits (d.dw 7) 15 0) ≠ 0 ∧ bit (d.dw 5) 8 = false) :=
  ⟨⟨State.reset, cmdB 0x3801 [0, 8190, 2] 8 [7, 8], by decide +kernel⟩,
   ⟨coreS (core0 0), cmdB 0x3801 [0, 8190, 2] 8 [7, 8], by decide +kernel⟩,
   ⟨coreS { core0 0 with st := 3 }, cmdD 0x3802 [0x100, 8191], by decide +kernel⟩,
   ⟨coreS (core0 0), cmdD 0x3802 [0], by decide +kernel⟩,
   ⟨cmdB 0x3803 [0, 32767, 1] 2 [], by decide +kernel⟩,
   ⟨cmdB 0x3803 [0x100, 32766, 2] 4 [0x00070008], by decide +kernel⟩,
   ⟨cmdB 0x3803 [0, 32766, 2] 4 [0x00070008], by decide +kernel⟩⟩

/-- States and operands that meet the hypotheses of AllocationStructures, clause by clause. -/
theorem test_meets_AllocationStructures :
    (∃ (s : State) (a : AllocStruct), s.inSync a.chan = false) ∧
    (∃ (s : State) (a : AllocStruct), s.inSync a.chan = true ∧ a.hecOk = false) ∧
    (∃ (s : State) (a : AllocStruct) (x : Ctx) (p : Profile), s.inSync a.chan = true ∧ a.hecOk = true ∧ a.contiguous = false ∧ a.inFrame = true ∧ s.ubeMode a.chan = 3 ∧ a.alloc ∈ (s.actCh a.chan).allocs ∧ s.entryQuiet = false ∧ s.ctxFor a.chan (s.actCh a.chan).refFrame = some x ∧ x.profs.getD a.profile none = some p ∧ (s.ubeCh a.chan).lastFall = none) ∧
    (∃ (s : State) (a : AllocStruct) (x : Ctx) (p : Profile) (f : Int) (e : Nat), s.inSync a.chan = true ∧ a.hecOk = true ∧ a.contiguous = false ∧ a.inFrame = true ∧ s.ubeMode a.chan = 3 ∧ a.alloc ∈ (s.actCh a.chan).allocs ∧ s.entryQuiet = false ∧ s.ctxFor a.chan (s.actCh a.chan).refFrame = some x ∧ x.profs.getD a.profile none = some p ∧ (s.ubeCh a.chan).lastFall = some (f, e) ∧ e = (s.actCh a.chan).refEqd ∧ duLc ((s.actCh a.chan).ref + a.startDu - ((profOverhead p * duPerBit p.rate : Nat) : Int)) - x.lead < f + 8) ∧
    (∃ (s : State) (a : AllocStruct), s.inSync a.chan = true ∧ a.hecOk = true ∧ s.ubeMode a.chan = 4 ∧ a.alloc ∈ (s.actCh a.chan).allocs ∧ s.entryQuiet = false) :=
  ⟨⟨State.reset, ⟨0, false, 7, false, 0, 0, 100, 0, true, false, false, false⟩, by decide +kernel⟩,
   ⟨st [(F.DSF_CH_STATUS_STATE, 0, 3)], ⟨0, false, 7, false, 0, 0, 100, 0, true, false, false, false⟩, by decide +kernel⟩,
   ⟨(let u := whsS 3 [(F.DSF_CH_STATUS_STATE, 0, 3), (F.ACT_CH_STATUS_STATE, 0, 0x51)]; u.setWhsCh 0 { u.whsCh 0 with ctxs := [{ ctx0 3 with profs := [some ⟨0, true, 8, 64, 0, 0⟩] }] }), ⟨0, true, 7, false, 0, 1000, 100, 24, true, false, false, false⟩, { ctx0 3 with profs := [some ⟨0, true, 8, 64, 0, 0⟩] }, ⟨0, true, 8, 64, 0, 0⟩, by decide +kernel⟩,
   ⟨{ (whsS 3 [(F.DSF_CH_STATUS_STATE, 0, 3), (F.ACT_CH_STATUS_STATE, 0, 0x51)]) with ube := [(0, { ubeChEmpty with lastFall := some (1000000, 0) })] }, ⟨0, true, 7, false, 0, 1000, 100, 24, true, false, false, false⟩, ctx0 3, ⟨0, false, 8, 64, 0, 0⟩, 1000000, 0, by decide +kernel⟩,
   ⟨{ (st [(F.DSF_CH_STATUS_STATE, 0, 3)]) with act := { State.reset.act with chans := [(0, { actChEmpty with allocs := [7] })] } }, ⟨0, true, 7, false, 0, 1000, 100, 24, true, false, false, false⟩, by decide +kernel⟩⟩

/-- States and operands that meet the hypotheses of WhistleContextsAndLink, clause by clause. -/
theorem test_meets_WhistleContextsAndLink :
    (∃ (s : State) (c : Nat) (m : Nat), s.linkOk = true ∧ m < 2 ∧ (s.actCh c).unparkAt = none) ∧
    (∃ (s : State) (c : Nat) (m : Nat), s.linkOk = true ∧ 2 ≤ m ∧ (s.whsCh c).fault = false) ∧
    (∃ (s : State), s.fld F.PWR_STATUS_DARK 0 = 1) ∧
    (∃ (s : State) (c : Nat) (crc : Bool) (parity : Bool), s.linkOk = true ∧ s.fld F.PWR_STATUS_DARK 0 ≠ 1 ∧ s.ltb.cycle = 0 ∧ (s.whsCh c).ctxs ≠ [] ∧ (s.whsCh c).fault = false ∧ (crc = false ∨ parity = false)) ∧
    (∃ (s : State), s.pending = [] ∧ s.fld F.HIF_STATUS_STAGE 0 ≠ 0 ∧ s.fld F.WHS_STATUS_STATE 0 ≠ 0 ∧ s.ltb.sleep = none ∧ s.ltb.cycle = 155519 ∧ s.linkOk = true) ∧
    (∃ (s : State) (frames : Nat), s.fld F.PWR_STATUS_DARK 0 ≠ 1 ∧ 2 < frames ∧ s.linkOk = true) ∧
    (∃ (s : State), s.diesUp = true ∧ s.fld F.HIF_STATUS_STAGE 0 ≠ 0) ∧
    (∃ (s : State), s.diesUp = true ∧ s.fld F.HIF_STATUS_STAGE 0 = 0) ∧
    (∃ (s : State) (c : Nat), c < 8 ∧ 2 ≤ s.permInForce c) ∧
    (∃ (s : State) (c : Nat) (e : Int), c < 8 ∧ 2 ≤ s.permInForce c ∧ (s.whsCh c).expect = some e) ∧
    (∃ (s : State) (c : Nat) (e : Int), c < 8 ∧ 2 ≤ s.permInForce c ∧ (s.whsCh c).expect = some e) ∧
    (∃ (s : State) (c : Nat), s.permInForce c < 2) :=
  ⟨⟨whsS 3 [], 0, 1, by decide +kernel⟩,
   ⟨whsS 3 [], 0, 2, by decide +kernel⟩,
   ⟨whsS 3 [(F.PWR_STATUS_DARK, 0, 1)], by decide +kernel⟩,
   ⟨whsS 3 [], 0, true, false, by decide +kernel⟩,
   ⟨(let u := whsS 3 [(F.HIF_STATUS_STAGE, 0, 4), (F.WHS_CFG_DEB, 0, 5)]; { u with ltb := { u.ltb with cycle := 155519 } }), by decide +kernel⟩,
   ⟨whsS 3 [], 3, by decide +kernel⟩,
   ⟨st [(F.HIF_STATUS_STAGE, 0, 2)], by decide +kernel⟩,
   ⟨State.reset, by decide +kernel⟩,
   ⟨whsS 2 [], 0, by decide +kernel⟩,
   ⟨(let u := whsS 2 []; u.setWhsCh 0 { u.whsCh 0 with expect := some 1000 }), 0, 1000, by decide +kernel⟩,
   ⟨(let u := whsS 2 []; u.setWhsCh 0 { u.whsCh 0 with expect := some 1000 }), 0, 1000, by decide +kernel⟩,
   ⟨whsS 1 [], 0, by decide +kernel⟩⟩

/-- States and operands that meet the hypotheses of ViolationsShut, clause by clause. -/
theorem test_meets_ViolationsShut :
    (∃ (s : State) (c : Nat) (a : Int) (b : Int), Armed s ∧ s.fld F.PWR_STATUS_DARK 0 ≠ 1 ∧ s.permInForce c ≠ 0 ∧ (s.whs.force.deb : Int) ≤ b - a ∧ s.outside c a b = true ∧ (s.whsCh c).emitUntil = none) ∧
    (∃ (s : State) (a : Int) (b : Int), b - a < s.whs.force.deb) ∧
    (∃ (s : State) (c : Nat) (code : Nat) (a : Int) (b : Int), Armed s ∧ s.fld F.PWR_STATUS_DARK 0 ≠ 1 ∧ s.permInForce c ≠ 0 ∧ s.whs.force.thresh.getD c 0 < code ∧ s.outside c a b = true ∧ (s.whsCh c).emitUntil = none) ∧
    (∃ (s : State) (c : Nat) (n : Nat), Armed s ∧ s.fld F.PWR_STATUS_DARK 0 = 1 ∧ s.simmer = 9 ∧ 8 ≤ n ∧ (s.whsCh c).darkOn = false) ∧
    (∃ (s : State) (c : Nat) (n : Nat), Armed s ∧ s.fld F.PWR_STATUS_DARK 0 = 1 ∧ s.lowPower = true ∧ 8 ≤ n ∧ (s.whsCh c).darkOn = false) ∧
    (∃ (s : State) (c : Nat), Armed s ∧ s.fld F.PWR_STATUS_DARK 0 ≠ 1 ∧ c < 8 ∧ s.whsPerm c = 0 ∧ (s.whsCh c).sweepOn = false) ∧
    (∃ (s : State) (c : Nat) (code : Nat), code < 4096 ∧ code ≤ s.whs.force.limits.getD c 0) ∧
    (∃ (s : State) (c : Nat) (code : Nat), Armed s ∧ s.fld F.PWR_STATUS_DARK 0 ≠ 1 ∧ s.whs.force.limits.getD c 0 < code ∧ (s.whsCh c).eyeOn = false ∧ s.whs.force.eyeN ≤ (s.whsCh c).eyeRun + 1) ∧
    (∃ (s : State) (d : Int), Armed s ∧ s.fld F.PWR_STATUS_DARK 0 ≠ 1 ∧ s.whsCounts = true ∧ s.ltb.cycle = 0 ∧ 8 < d.natAbs ∧ s.whs.diverged = false) ∧
    (∃ (s : State) (d : Int), s.whsCounts = true ∧ s.ltb.cycle = 0 ∧ d.natAbs ≤ 8) ∧
    (∃ (s : State) (ns : Nat), Armed s ∧ s.fld F.PWR_STATUS_DARK 0 ≠ 1 ∧ s.whsCounts = true ∧ 1600 < ((ns : Int) - 8000000).natAbs ∧ s.whs.diverged = false) ∧
    (∃ (ns : Nat), ((ns : Int) - 8000000).natAbs ≤ 1600) :=
  ⟨⟨whsS 3 [], 0, 1000, 1003, by unfold Armed; decide +kernel⟩,
   ⟨whsS 3 [], 1000, 1002, by decide +kernel⟩,
   ⟨whsS 3 [], 0, 0x81, 1000, 1003, by unfold Armed; decide +kernel⟩,
   ⟨whsS 3 [(F.PWR_STATUS_DARK, 0, 1), (F.PWR_STATUS_STATE, 0, 9)], 0, 8, by unfold Armed; decide +kernel⟩,
   ⟨whsS 3 [(F.PWR_STATUS_DARK, 0, 1), (F.PWR_STATUS_STATE, 0, 4)], 0, 8, by unfold Armed; decide +kernel⟩,
   ⟨whsS 0 [], 0, by unfold Armed; decide +kernel⟩,
   ⟨{ (whsS 3 []) with whs := { (whsS 3 []).whs with force := { WhsCfg.reset with limits := [5, 0, 0, 0, 0, 0, 0, 0] } } }, 0, 5, by decide +kernel⟩,
   ⟨{ (whsS 3 []) with whs := { (whsS 3 []).whs with chans := [(0, { whsChEmpty with eyeRun := 3 })] } }, 0, 1, by unfold Armed; decide +kernel⟩,
   ⟨whsS 3 [], -9, by unfold Armed; decide +kernel⟩,
   ⟨whsS 3 [], -8, by decide +kernel⟩,
   ⟨whsS 3 [], 8001601, by unfold Armed; decide +kernel⟩,
   ⟨8001600, by decide +kernel⟩⟩

/-- States and operands that meet the hypotheses of WhistleSelftestAndCommands, clause by clause. -/
theorem test_meets_WhistleSelftestAndCommands :
    (∃ (s : State), s.fld F.WHS_STATUS_STATE 0 = 1 ∧ s.linkOk = true ∧ s.whs.latch = none ∧ s.whs.waiters = []) ∧
    (∃ (s : State) (d : Desc), s.fld F.WHS_STATUS_STATE 0 = 1 ∧ s.linkOk = true ∧ s.whs.waiters = [d]) ∧
    (∃ (s : State) (step : Nat), s.fld F.WHS_STATUS_STATE 0 = 1 ∧ step ≠ 0 ∧ (s.linkOk = true ∨ (step ≠ 2 ∧ step ≠ 7))) ∧
    (∃ (s : State) (step : Nat), s.fld F.WHS_STATUS_STATE 0 = 2 ∧ s.whs.force.periodic ≠ 0 ∧ step ≠ 0 ∧ s.whs.repeatAt + 32768 ≤ s.sleepCount ∧ (s.linkOk = true ∨ step ≠ 2)) ∧
    (∃ (s : State), s.fld F.WHS_STATUS_STATE 0 = 2 ∧ s.whs.force.periodic ≠ 0 ∧ s.whs.repeatAt + 32768 ≤ s.sleepCount) ∧
    (∃ (s : State), s.sleepCount < s.whs.repeatAt + 32768) ∧
    (∃ (s : State) (d : Desc), d.opcode = 0x4001 ∧ s.fld F.WHS_STATUS_STATE 0 = 3 ∧ s.recentViolation = false ∧ s.fld F.WHS_STATUS_RELEASE_SEEN 0 ≠ 0) ∧
    (∃ (s : State) (d : Desc), d.opcode = 0x4001 ∧ (s.fld F.WHS_STATUS_STATE 0 ≠ 3 ∨ s.recentViolation = true ∨ s.fld F.WHS_STATUS_RELEASE_SEEN 0 = 0)) ∧
    (∃ (s : State) (d : Desc), d.opcode = 0x4002 ∧ (s.fld F.WHS_STATUS_STATE 0 = 4 ∨ (s.fld F.WHS_STATUS_STATE 0 = 2 ∧ s.anyPermitted = false))) ∧
    (∃ (d : Desc), d.opcode = 0x4003 ∧ d.buf = true ∧ 64 ≤ d.bufLen) ∧
    (∃ (s : State) (c : Nat) (m : Ploam), PloamHeard s c m ∧ s.act_st c ≠ stDisabled ∧ s.act_st c ≠ stO11 ∧ s.act_st c ≠ stO12 ∧ s.act_st c ≠ stO82) ∧
    (∃ (s : State) (m : Ploam), PloamBad s m) :=
  ⟨⟨whsS 0 [(F.WHS_STATUS_STATE, 0, 1)], by decide +kernel⟩,
   ⟨{ (whsS 0 [(F.WHS_STATUS_STATE, 0, 1)]) with whs := { State.reset.whs with waiters := [cmdD 0x4002 []], latch := some ⟨1, 1, 1, 1, 5⟩ } }, cmdD 0x4002 [], by decide +kernel⟩,
   ⟨whsS 0 [(F.WHS_STATUS_STATE, 0, 1)], 3, by decide +kernel⟩,
   ⟨(let u := whsS 0 []; { u with ltb := { u.ltb with ticks := 40000 } }), 2, by decide +kernel⟩,
   ⟨(let u := whsS 0 []; { u with ltb := { u.ltb with ticks := 40000 } }), by decide +kernel⟩,
   ⟨whsS 0 [], by decide +kernel⟩,
   ⟨whsS 0 [(F.WHS_STATUS_STATE, 0, 3), (F.WHS_STATUS_ROGUE, 0, 1), (F.WHS_STATUS_RELEASE_SEEN, 0, 1)], cmdD 0x4001 [], by decide +kernel⟩,
   ⟨whsS 0 [(F.WHS_STATUS_STATE, 0, 3)], cmdD 0x4001 [], by decide +kernel⟩,
   ⟨whsS 1 [], cmdD 0x4002 [], by decide +kernel⟩,
   ⟨cmdB 0x4003 [] 64 [], by decide +kernel⟩,
   ⟨st [(F.ACT_CH_STATUS_STATE, 7, 0x23), (F.ACT_CH_STATUS_ONU_ID, 7, 0x3FF), (F.HIF_ENGINE_STATUS_RUNNING0, 0, 1)], 7, ⟨true, .serial 0, false⟩, by unfold PloamHeard; decide +kernel⟩,
   ⟨st [(F.HIF_ENGINE_STATUS_RUNNING0, 0, 1)], ⟨false, .serial 0, false⟩, by unfold PloamBad; decide +kernel⟩⟩

/-- States and operands that meet the hypotheses of ArrivalsAndSteps, clause by clause. -/
theorem test_meets_ArrivalsAndSteps :
    (∃ (s : State) (c : Nat) (at' : Nat) (sfc : Nat), (s.framing c).arr = some (at', sfc) ∧ s.inSync c = true ∧ s.ltb.sleep = none ∧ s.tstate = 0 ∧ s.tc = c ∧ s.prt.passed = false) ∧
    (∃ (s : State) (c : Nat) (at' : Nat) (sfc : Nat), (s.framing c).arr = some (at', sfc) ∧ s.inSync c = true ∧ s.ltb.sleep = none ∧ s.tstate = 2 ∧ s.tc = c ∧ s.onActive c = true ∧ s.fld F.LTB_CTRL_FORCE_LOCAL 0 = 0 ∧ s.ltb.lockReady = true ∧ s.prt.passed = false) ∧
    (∃ (s : State) (c : Nat) (at' : Nat) (sfc : Nat), (s.framing c).arr = some (at', sfc) ∧ at' ≤ s.ltb.lc ∧ s.inSync c = true ∧ s.ltb.sleep = none ∧ s.tstate = 2 ∧ s.tc = c ∧ s.ltb.lockReady = false ∧ s.prt.passed = false) ∧
    (∃ (s : State) (c : Nat), ((s.framing c).arr = none ∨ s.inSync c = false ∨ s.ltb.sleep.isSome = true)) ∧
    (∃ (s : State) (p : PendStep), s.ltb.pendStep = some p ∧ s.ltb.sleep = none ∧ s.ltb.cycle = 0 ∧ s.ltb.frame = p.frame) ∧
    (∃ (s : State), s.ltb.pendStep = none) ∧
    (∃ (s : State) (p : PendStep), s.ltb.pendStep = some p ∧ (s.ltb.sleep.isSome = true ∨ s.ltb.cycle ≠ 0 ∨ s.ltb.frame ≠ p.frame)) :=
  ⟨⟨(let u := whsS 3 [(F.DSF_CH_STATUS_STATE, 0, 3), (F.LTB_STATUS_COASTING, 0, 1)]; { u with dsf := { u.dsf with chans := [(0, { framingEmpty with arr := some (0, 0) })] } }), 0, 0, 0, by decide +kernel⟩,
   ⟨(let u := { st [(F.DSF_CH_STATUS_STATE, 0, 3), (F.ACT_STATUS_PATH, 0, 1)] with ltb := { State.reset.ltb with lockReady := true, lc := 5 } }; { u with dsf := { u.dsf with chans := [(0, { framingEmpty with arr := some (3, 70368744177663) })] } }), 0, 3, 0x3FFFFFFFFFFF, by decide +kernel⟩,
   ⟨(let u := { st [(F.DSF_CH_STATUS_STATE, 0, 3)] with ltb := { State.reset.ltb with lc := 311045, prevArrival := some 155520, goodRun := 1 } }; { u with dsf := { u.dsf with chans := [(0, { framingEmpty with arr := some (311041, 9) })] } }), 0, 311041, 9, by decide +kernel⟩,
   ⟨State.reset, 0, by decide +kernel⟩,
   ⟨{ State.reset with ltb := { State.reset.ltb with pendStep := some ⟨-300000, 4, 0⟩, frame := 4 }, ube := [(0, { ubeChEmpty with bursts := [burst0 1] })] }, ⟨-300000, 4, 0⟩, by decide +kernel⟩,
   ⟨State.reset, by decide +kernel⟩,
   ⟨{ State.reset with ltb := { State.reset.ltb with pendStep := some ⟨-300000, 4, 0⟩, frame := 3 } }, ⟨-300000, 4, 0⟩, by decide +kernel⟩⟩

/-- States and operands that meet the hypotheses of TimeBaseEvents, clause by clause. -/
theorem test_meets_TimeBaseEvents :
    (∃ (s : State), s.tstate = 0 ∧ s.ltb.sleep = none ∧ s.arrivalLate = true ∧ s.fld F.DSF_CH_STATUS_LOS s.tc ≠ 1 ∧ s.fld F.DSF_CH_STATUS_LOF s.tc ≠ 1) ∧
    (∃ (s : State), s.tstate = 0 ∧ s.ltb.sleep = none ∧ s.arrivalLate = true ∧ s.fld F.DSF_CH_STATUS_LOS s.tc = 1 ∧ s.fld F.LTB_TC_CFG_AUTO_CHANGE 0 = 0) ∧
    (∃ (s : State), (s.tstate ≠ 0 ∨ s.arrivalLate = false ∨ s.ltb.sleep.isSome = true)) ∧
    (∃ (s : State) (v : Word), bit v.toNat 0 = true ∧ s.tstate = 0) ∧
    (∃ (v : Word), bit v.toNat 0 = false) ∧
    (∃ (s : State) (v : Word), s.hasChannel (bits v.toNat 2 0) = true) ∧
    (∃ (s : State) (v : Word), s.hasChannel (bits v.toNat 2 0) = false) ∧
    (∃ (s : State), s.fld F.LTB_STATUS_SLEWING 0 = 1 ∧ s.slewMet = true) ∧
    (∃ (s : State), (s.fld F.LTB_STATUS_SLEWING 0 = 0 ∨ s.slewMet = false)) ∧
    (∃ (s : State), s.fld F.LTB_SLEEP_CFG_SRC 0 ≠ 0 ∧ s.pins.keepPower = true) ∧
    (∃ (s : State), s.ltb.extSrc = false ∧ s.pins.keepPower = true ∧ s.fld F.LTB_SLEEP_CFG_SRC 0 = 1) ∧
    (∃ (s : State), s.ltb.extSrc = true ∧ s.pins.keepPower = true ∧ s.fld F.LTB_SLEEP_CFG_SRC 0 ≠ 1) :=
  ⟨⟨(let u := whsS 3 []; { u with ltb := { u.ltb with frame := 3 } }), by decide +kernel⟩,
   ⟨(let u := whsS 3 [(F.DSF_CH_STATUS_LOS, 0, 1), (F.LTB_TC_CFG_AUTO_CHANGE, 0, 0)]; { u with ltb := { u.ltb with frame := 3 } }), by decide +kernel⟩,
   ⟨State.reset, by decide +kernel⟩,
   ⟨whsS 3 [], 1, by decide +kernel⟩,
   ⟨0, by decide +kernel⟩,
   ⟨State.reset, 7, by decide +kernel⟩,
   ⟨{ State.reset with hif := { State.reset.hif with part := .lk9520 } }, 2, by decide +kernel⟩,
   ⟨{ st [(F.LTB_STATUS_SLEWING, 0, 1)] with ltb := { State.reset.ltb with slew := -5, raw := [(0, some 1)], slewAcc := 4000000000 } }, by decide +kernel⟩,
   ⟨{ st [(F.LTB_STATUS_SLEWING, 0, 1)] with ltb := { State.reset.ltb with slew := -5, raw := [(0, some 1)], slewAcc := 3999999999 } }, by decide +kernel⟩,
   ⟨{ st [(F.LTB_SLEEP_CFG_SRC, 0, 1)] with ltb := { State.reset.ltb with extSrc := true, sleep := some ⟨5, 5, 0, 7, true, [], 0, false⟩ } }, by decide +kernel⟩,
   ⟨{ st [(F.LTB_SLEEP_CFG_SRC, 0, 1)] with ltb := { State.reset.ltb with sleep := some ⟨5, 5, 0, 7, false, [], 0, false⟩ } }, by decide +kernel⟩,
   ⟨{ State.reset with ltb := { State.reset.ltb with extSrc := true, sleep := some ⟨5, 5, 0, 7, true, [], 0, false⟩ } }, by decide +kernel⟩⟩

/-- States and operands that meet the hypotheses of ReceiveLaneMoves, clause by clause. -/
theorem test_meets_ReceiveLaneMoves :
    (∃ (s : State) (n : Nat) (ctle : Nat), n < 8 ∧ ctle < 16 ∧ s.rxState n = 1 ∧ (s.rxLane n).since + 4096 ≤ s.ltb.lc) ∧
    (∃ (s : State) (n : Nat), (s.rxState n ≠ 1 ∨ s.ltb.lc < (s.rxLane n).since + 4096)) ∧
    (∃ (s : State) (n : Nat), n < 8 ∧ s.rxState n = 2 ∧ (s.rxLane n).since + 4096 ≤ s.ltb.lc) ∧
    (∃ (s : State) (n : Nat), n < 8 ∧ s.rxState n = 1 ∧ (s.rxLane n).since + usLc (max 1 (s.fld F.LLN_RX_CFG_ACQ_TIMEOUT n)) ≤ s.ltb.lc) ∧
    (∃ (s : State) (n : Nat) (lost : Bool), n < 8 ∧ (s.rxState n = 2 ∨ s.rxState n = 3) ∧ (lost = true ∨ (s.rxLane n).since + 64 ≤ s.ltb.lc) ∧ s.fld F.DSF_CH_STATUS_STATE n = 0 ∧ s.tc ≠ n ∧ s.fld F.LTB_STATUS_COASTING 0 = 0) :=
  ⟨⟨(let u := st [(F.LLN_RX_STATUS_STATE, 7, 1)]; { u with ltb := { u.ltb with lc := 4096 } }), 7, 15, by decide +kernel⟩,
   ⟨(let u := st [(F.LLN_RX_STATUS_STATE, 7, 1)]; { u with ltb := { u.ltb with lc := 4095 } }), 7, by decide +kernel⟩,
   ⟨(let u := st [(F.LLN_RX_STATUS_STATE, 7, 2), (F.DSF_CH_STATUS_STATE, 7, 1)]; { u with ltb := { u.ltb with lc := 4096 } }), 7, by decide +kernel⟩,
   ⟨(let u := st [(F.LLN_RX_STATUS_STATE, 7, 1), (F.LLN_RX_EVENT_EVCNT_ACQ_RETRY, 7, 255), (F.LLN_RX_CFG_ACQ_TIMEOUT, 7, 0)]; { u with ltb := { u.ltb with lc := 1245 } }), 7, by decide +kernel⟩,
   ⟨(let u := st [(F.LLN_RX_STATUS_STATE, 7, 3)]; { u with ltb := { u.ltb with lc := 64 } }), 7, false, by decide +kernel⟩⟩

/-- States and operands that meet the hypotheses of TransmitLaneMoves, clause by clause. -/
theorem test_meets_TransmitLaneMoves :
    (∃ (s : State) (n : Nat), n < 8 ∧ s.txState n = 0 ∧ s.fld F.LLN_TX_CFG_EN n = 1 ∧ s.dom (4 + n / 4) (n % 4) = 2 ∧ s.txStandby n = false) ∧
    (∃ (s : State) (n : Nat) (b : Burst) (rest : List Burst), n < 8 ∧ s.pullBurst n 3 = some (b, rest) ∧ b.start - b.lead ≤ s.lin ∧ s.txState n = 1 ∧ s.txBusy n = false ∧ b.rate < 8 ∧ bit (s.fld F.LLN_TX_CFG_RATE_EN n) b.rate = true ∧ (s.txLane n).retunes b = false) ∧
    (∃ (s : State) (n : Nat) (b : Burst) (rest : List Burst), s.pullBurst n 3 = some (b, rest) ∧ s.lin < b.start - b.lead) ∧
    (∃ (s : State) (n : Nat) (b : Burst), n < 8 ∧ (s.txLane n).burst = some b ∧ s.txState n = 2 ∧ b.start + b.len - 1 ≤ s.lin) ∧
    (∃ (s : State) (n : Nat) (b : Burst), n < 8 ∧ (s.txLane n).burst = some b ∧ s.txState n = 1 ∧ b.fall ≤ s.lin ∧ s.fld F.LLN_TX_CFG_EN n = 1) ∧
    (∃ (s : State) (n : Nat), n < 8 ∧ s.txState n = 1 ∧ (s.txLane n).burst = none) ∧
    (∃ (s : State) (n : Nat), n < 8 ∧ s.txState n = 3) :=
  ⟨⟨st [(F.LLN_TX_CFG_EN, 7, 1)], 7, by decide +kernel⟩,
   ⟨(let u := { st [(F.LLN_TX_STATUS_STATE, 7, 1), (F.LLN_TX_CFG_RATE_EN, 7, 1), (F.LLN_TX_EMPH_AMPL, 7, 63)] with ube := [(7, { ubeChEmpty with bursts := [burst0 3] })] }; { u with ltb := { u.ltb with cycle := 990 } }), 7, burst0 3, [], by decide +kernel⟩,
   ⟨(let u := { st [(F.LLN_TX_STATUS_STATE, 7, 1), (F.LLN_TX_CFG_RATE_EN, 7, 1), (F.LLN_TX_EMPH_AMPL, 7, 63)] with ube := [(7, { ubeChEmpty with bursts := [burst0 3] })] }; { u with ltb := { u.ltb with cycle := 989 } }), 7, burst0 3, [], by decide +kernel⟩,
   ⟨(let u := { st [(F.LLN_TX_STATUS_STATE, 7, 2)] with lln := { State.reset.lln with tx := [(7, { txLaneEmpty with ben := true, burst := some (burst0 4) })] } }; { u with ltb := { u.ltb with cycle := 1099 } }), 7, burst0 4, by decide +kernel⟩,
   ⟨(let u := { st [(F.LLN_TX_STATUS_STATE, 7, 1), (F.LLN_TX_CFG_EN, 7, 1)] with ube := [(7, { ubeChEmpty with bursts := [burst0 4] })], lln := { State.reset.lln with tx := [(7, { txLaneEmpty with ben := true, burst := some (burst0 4) })] } }; { u with ltb := { u.ltb with cycle := 1109 } }), 7, burst0 4, by decide +kernel⟩,
   ⟨st [(F.LLN_TX_STATUS_STATE, 7, 1)], 7, by decide +kernel⟩,
   ⟨st [(F.LLN_TX_STATUS_STATE, 7, 3)], 7, by decide +kernel⟩⟩

/-- States and operands that meet the hypotheses of BurstsAreFilledAndHandedOver, clause by clause. -/
theorem test_meets_BurstsAreFilledAndHandedOver :
    (∃ (s : State) (c : Nat) (b : Burst) (rest : List Burst) (cell : Option (Nat × Nat × Nat)), c < 8 ∧ s.pullBurst c 2 = some (b, rest) ∧ ((s.refreshUp.fillCell c b cell).fillBurst c b).2.waitsFor c ((s.refreshUp.fillCell c b cell).fillBurst c b).1 = false ∧ ((s.refreshUp.fillCell c b cell).fillBurst c b).2.tooLate ((s.refreshUp.fillCell c b cell).fillBurst c b).1 = false) ∧
    (∃ (s : State) (c : Nat) (b : Burst) (rest : List Burst) (cell : Option (Nat × Nat × Nat)), c < 8 ∧ s.pullBurst c 2 = some (b, rest) ∧ ((s.refreshUp.fillCell c b cell).fillBurst c b).2.waitsFor c ((s.refreshUp.fillCell c b cell).fillBurst c b).1 = true) ∧
    (∃ (s : State) (c : Nat) (b : Burst) (rest : List Burst) (cell : Option (Nat × Nat × Nat)), c < 8 ∧ s.pullBurst c 2 = some (b, rest) ∧ ((s.refreshUp.fillCell c b cell).fillBurst c b).2.waitsFor c ((s.refreshUp.fillCell c b cell).fillBurst c b).1 = false ∧ ((s.refreshUp.fillCell c b cell).fillBurst c b).2.tooLate ((s.refreshUp.fillCell c b cell).fillBurst c b).1 = true) ∧
    (∃ (s : State) (c : Nat) (b : Burst) (rest : List Burst) (cell : Option (Nat × Nat × Nat)), c < 8 ∧ s.pullBurst c 2 = some (b, rest) ∧ b.start - b.lead - 64 ≤ s.lin ∧ ((s.refreshUp.fillCell c b cell).fillBurst c b).2.waitsFor c ((s.refreshUp.fillCell c b cell).fillBurst c b).1 = true ∧ ((s.refreshUp.fillCell c b cell).fillBurst c b).2.tooLate ((s.refreshUp.fillCell c b cell).fillBurst c b).1 = false) ∧
    (∃ (s : State) (c : Nat) (b : Burst) (rest : List Burst) (cell : Option (Nat × Nat × Nat)), c < 8 ∧ s.pullBurst c 2 = some (b, rest) ∧ b.start - b.lead - 64 ≤ s.lin ∧ ((s.refreshUp.fillCell c b cell).fillBurst c b).2.waitsFor c ((s.refreshUp.fillCell c b cell).fillBurst c b).1 = false ∧ ((s.refreshUp.fillCell c b cell).fillBurst c b).2.tooLate ((s.refreshUp.fillCell c b cell).fillBurst c b).1 = false) ∧
    (∃ (s : State) (c : Nat) (b : Burst) (rest : List Burst), c < 8 ∧ s.pullBurst c 2 = some (b, rest) ∧ s.lin < b.start - b.lead - 64) ∧
    (∃ (s : State) (c : Nat) (b : Burst) (rest : List Burst), c < 8 ∧ s.pullBurst c 2 = some (b, rest) ∧ ((∀ p ∈ b.parts, p.room = 0)) ∧ b.response = none ∧ s.tooLate b = false ∧ s.dom (4 + c / 4) (c % 4) = 2) ∧
    (∃ (s : State) (c : Nat), s.pullBurst c 1 = none) ∧
    (∃ (s : State) (c : Nat) (b : Burst) (rest : List Burst), s.pullBurst c 1 = some (b, rest) ∧ s.lin < b.start - b.fillLead) ∧
    (∃ (s : State) (c : Nat) (b : Burst) (m : Ploamu) (rest : List Burst), s.pullBurst c 1 = some (b, rest) ∧ b.start - b.fillLead ≤ s.lin ∧ b.response = some m ∧ m ≠ .registration) ∧
    (∃ (s : State) (c : Nat) (b : Burst) (m : Ploamu) (ms : List Ploamu) (rest : List Burst), s.pullBurst c 1 = some (b, rest) ∧ b.start - b.fillLead ≤ s.lin ∧ b.response = none ∧ b.wantPloamu = true ∧ b.parts = [] ∧ (s.ubeCh c).ploams = m :: ms) ∧
    (∃ (s : State) (c : Nat) (a : Nat) (n : Nat) (left : Nat) (e : Nat) (b : Burst) (rest : List Burst), s.pullBurst c 1 = some (b, rest) ∧ b.start - b.fillLead ≤ s.lin ∧ b.response = none ∧ b.wantPloamu = false ∧ b.parts = [⟨a, n, false, 0, 0, []⟩] ∧ SMap.find (s.ubeCh c).rem a = some (left, e) ∧ bit (s.portKey e) 2 = false ∧ xgemBytes left ≤ n ∧ s.tmg.queues = []) ∧
    (∃ (s : State) (c : Nat) (a : Nat) (n : Nat) (left : Nat) (e : Nat) (b : Burst) (rest : List Burst), s.pullBurst c 1 = some (b, rest) ∧ b.start - b.fillLead ≤ s.lin ∧ b.response = none ∧ b.wantPloamu = false ∧ b.parts = [⟨a, n, false, 0, 0, []⟩] ∧ SMap.find (s.ubeCh c).rem a = some (left, e) ∧ bit (s.portKey e) 2 = false ∧ left ≤ 16383 ∧ n < left + 8 ∧ s.fragMin ≤ n ∧ s.tmg.queues = []) ∧
    (∃ (s : State) (c : Nat) (a : Nat) (n : Nat) (left : Nat) (e : Nat) (i : Nat) (b : Burst) (rest : List Burst), s.pullBurst c 1 = some (b, rest) ∧ b.start - b.fillLead ≤ s.lin ∧ b.response = none ∧ b.wantPloamu = false ∧ b.parts = [⟨a, n, false, 0, 0, []⟩] ∧ SMap.find (s.ubeCh c).rem a = some (left, e) ∧ bit (s.portKey e) 2 = true ∧ b.key = some i ∧ xgemBytes left ≤ n ∧ s.tmg.queues = []) ∧
    (∃ (s : State) (c : Nat) (a : Nat) (b : Burst) (rest : List Burst), s.pullBurst c 1 = some (b, rest) ∧ b.start - b.fillLead ≤ s.lin ∧ b.response = none ∧ b.wantPloamu = false ∧ b.parts = [⟨a, 4, true, 0, 0, []⟩] ∧ SMap.find (s.ubeCh c).rem a = none ∧ s.tmg.queues = []) :=
  ⟨⟨{ State.reset with ube := [(7, { ubeChEmpty with bursts := [burst0 2] })] }, 7, burst0 2, [], none, by decide +kernel⟩,
   ⟨{ st [(F.ACT_STATUS_PATH, 0, 1)] with ube := [(3, { ubeChEmpty with bursts := [burst0 2] })], act := { State.reset.act with chans := [(3, { actChEmpty with allocs := [7] })] }, dsf := { State.reset.dsf with ports := [(0, ⟨5, false, 0x8⟩)] }, tmg := { State.reset.tmg with queues := [(1, { queueOff with st := 1, cfg := { qcfg0 with chan := 3, parent := 7 }, middle := [⟨0, [qf 64 1 0], true⟩] })] } }, 3, burst0 2, [], none, by decide +kernel⟩,
   ⟨(let u := { State.reset with ube := [(7, { ubeChEmpty with bursts := [burst0 2] })] }; { u with ltb := { u.ltb with cycle := 927 } }), 7, burst0 2, [], none, by decide +kernel⟩,
   ⟨(let u := { st [(F.ACT_STATUS_PATH, 0, 1)] with ube := [(3, { ubeChEmpty with bursts := [burst0 2] })], act := { State.reset.act with chans := [(3, { actChEmpty with allocs := [7] })] }, dsf := { State.reset.dsf with ports := [(0, ⟨5, false, 0x8⟩)] }, tmg := { State.reset.tmg with queues := [(1, { queueOff with st := 1, cfg := { qcfg0 with chan := 3, parent := 7 }, middle := [⟨0, [qf 64 1 0], true⟩] })] } }; { u with ltb := { u.ltb with cycle := 926 } }), 3, burst0 2, [], none, by decide +kernel⟩,
   ⟨(let u := { State.reset with ube := [(7, { ubeChEmpty with bursts := [burst0 2] })] }; { u with ltb := { u.ltb with cycle := 926 } }), 7, burst0 2, [], none, by decide +kernel⟩,
   ⟨(let u := { State.reset with ube := [(7, { ubeChEmpty with bursts := [burst0 2] })] }; { u with ltb := { u.ltb with cycle := 925 } }), 7, burst0 2, [], by decide +kernel⟩,
   ⟨{ State.reset with ube := [(7, { ubeChEmpty with bursts := [{ burst0 2 with parts := [⟨7, 100, false, 0, 0, []⟩] }] })] }, 7, { burst0 2 with parts := [⟨7, 100, false, 0, 0, []⟩] }, [], by decide +kernel⟩,
   ⟨State.reset, 0, by decide +kernel⟩,
   ⟨{ State.reset with ube := [(0, { ubeChEmpty with bursts := [{ burst0 1 with start := 99999 }] })] }, 0, { burst0 1 with start := 99999 }, [], by decide +kernel⟩,
   ⟨{ State.reset with ube := [(0, { ubeChEmpty with bursts := [{ burst0 1 with response := some .nack }] })] }, 0, { burst0 1 with response := some .nack }, .nack, [], by decide +kernel⟩,
   ⟨{ State.reset with ube := [(0, { ubeChEmpty with bursts := [{ burst0 1 with parts := [], wantPloamu := true }], ploams := [.nack, .nack] })] }, 0, { burst0 1 with parts := [], wantPloamu := true }, .nack, [.nack], [], by decide +kernel⟩,
   ⟨(let u := fillS { ubeChEmpty with bursts := [{ burst0 1 with start := 0, parts := [⟨7, 100, false, 0, 0, []⟩] }], rem := [(7, (92, 4))] }; { u with dsf := { u.dsf with ports := [] } }), 0, 7, 100, 92, 4, { burst0 1 with start := 0, parts := [⟨7, 100, false, 0, 0, []⟩] }, [], by decide +kernel⟩,
   ⟨(let u := fillS { ubeChEmpty with bursts := [{ burst0 1 with start := 0, parts := [⟨7, 100, false, 0, 0, []⟩] }], rem := [(7, (93, 4))] }; { u with dsf := { u.dsf with ports := [] } }), 0, 7, 100, 93, 4, { burst0 1 with start := 0, parts := [⟨7, 100, false, 0, 0, []⟩] }, [], by decide +kernel⟩,
   ⟨(let u := fillS { ubeChEmpty with bursts := [{ burst0 1 with start := 0, key := some 2, parts := [⟨7, 100, false, 0, 0, []⟩] }], rem := [(7, (92, 4))] }; { u with cph := { u.cph with ports := [(4, 4)] } }), 0, 7, 100, 92, 4, 2, { burst0 1 with start := 0, key := some 2, parts := [⟨7, 100, false, 0, 0, []⟩] }, [], by decide +kernel⟩,
   ⟨fillS { ubeChEmpty with bursts := [{ burst0 1 with start := 0, parts := [⟨7, 4, true, 0, 0, []⟩] }] }, 0, 7, { burst0 1 with start := 0, parts := [⟨7, 4, true, 0, 0, []⟩] }, [], by decide +kernel⟩⟩

/-- States and operands that meet the hypotheses of LaneCommandsComplete, clause by clause. -/
theorem test_meets_LaneCommandsComplete :
    (∃ (s : State) (d : Desc), d.opcode = 0x0801 ∧ hostArg d = false ∧ s.hasLane false (laneArg d) = true ∧ (bits (d.dw 5) 9 8) ≠ 0 ∧ (bits (d.dw 5) 9 8) ≠ 3 ∧ s.rxState (laneArg d) = 0 ∧ s.txState (laneArg d) = 0) ∧
    (∃ (s : State) (d : Desc), d.opcode = 0x0801 ∧ hostArg d = false ∧ s.hasLane false (laneArg d) = true ∧ (bits (d.dw 5) 9 8) ≠ 0 ∧ (bits (d.dw 5) 9 8) ≠ 3 ∧ s.rxState (laneArg d) ≠ 0) ∧
    (∃ (s : State) (d : Desc), d.opcode = 0x0801 ∧ hostArg d = false ∧ s.hasLane false (laneArg d) = true ∧ (bits (d.dw 5) 9 8) ≠ 0 ∧ (bits (d.dw 5) 9 8) ≠ 3 ∧ s.rxState (laneArg d) = 0 ∧ s.txState (laneArg d) ≠ 0) ∧
    (∃ (s : State) (d : Desc), d.opcode = 0x0801 ∧ hostArg d = false ∧ s.hasLane false (laneArg d) = true ∧ (bits (d.dw 5) 9 8) = 3) ∧
    (∃ (s : State) (d : Desc), d.opcode = 0x0801 ∧ hostArg d = false ∧ s.hasLane false (laneArg d) = true ∧ (bits (d.dw 5) 9 8) = 0 ∧ s.rxState (laneArg d) = 4 ∧ s.txState (laneArg d) = 4) ∧
    (∃ (s : State) (d : Desc), d.opcode = 0x0801 ∧ hostArg d = false ∧ s.hasLane false (laneArg d) = true ∧ (bits (d.dw 5) 9 8) = 0 ∧ s.rxState (laneArg d) ≠ 4) ∧
    (∃ (s : State) (d : Desc), d.opcode = 0x0801 ∧ hostArg d = true ∧ s.hasLane true (laneArg d) = true ∧ (bits (d.dw 5) 9 8) ≠ 0 ∧ s.hostState (laneArg d) = 0) ∧
    (∃ (s : State) (d : Desc), d.opcode = 0x0801 ∧ hostArg d = true ∧ s.hasLane true (laneArg d) = true ∧ (bits (d.dw 5) 9 8) ≠ 0 ∧ s.hostState (laneArg d) ≠ 0) ∧
    (∃ (s : State) (d : Desc), d.opcode = 0x0801 ∧ hostArg d = true ∧ s.hasLane true (laneArg d) = true ∧ (bits (d.dw 5) 9 8) = 0 ∧ s.hostState (laneArg d) = 5) ∧
    (∃ (s : State) (d : Desc), d.opcode = 0x0801 ∧ hostArg d = true ∧ s.hasLane true (laneArg d) = true ∧ (bits (d.dw 5) 9 8) = 0 ∧ s.hostState (laneArg d) ≠ 5) ∧
    (∃ (s : State) (d : Desc), d.opcode = 0x0801 ∧ s.hasLane (hostArg d) (laneArg d) = false ∧ bits (d.dw 5) 9 8 ≠ 0) ∧
    (∃ (s : State) (d : Desc), d.opcode = 0x0801 ∧ s.hasLane (hostArg d) (laneArg d) = false ∧ bits (d.dw 5) 9 8 = 0) ∧
    (∃ (s : State) (d : Desc), d.opcode = 0x0802 ∧ hostArg d = false ∧ s.hasLane false (laneArg d) = true ∧ (bits (d.dw 6) 3 0) < 3 ∧ ((bits (d.dw 6) 3 0) = 0 ∨ (s.rxState (laneArg d) = 4 ∧ s.txState (laneArg d) = 4 ∧ (bit (d.dw 6) 8 = true ∨ bit (d.dw 6) 9 = true)))) ∧
    (∃ (s : State) (d : Desc), d.opcode = 0x0802 ∧ hostArg d = true ∧ s.hasLane true (laneArg d) = true ∧ (bits (d.dw 6) 3 0) < 6 ∧ ((bits (d.dw 6) 3 0) = 0 ∨ (s.hostState (laneArg d) = 5 ∧ (bit (d.dw 6) 8 = true ∨ bit (d.dw 6) 9 = true)))) ∧
    (∃ (s : State) (d : Desc), d.opcode = 0x0802 ∧ hostArg d = false ∧ s.hasLane false (laneArg d) = true ∧ 0 < bits (d.dw 6) 3 0 ∧ bits (d.dw 6) 3 0 < 3 ∧ s.rxState (laneArg d) ≠ 4) ∧
    (∃ (d : Desc), d.opcode = 0x0803 ∧ bit (d.dw 5) 1 = true) ∧
    (∃ (d : Desc), d.opcode = 0x0803 ∧ bit (d.dw 5) 1 = false) ∧
    (∃ (d : Desc), d.opcode = 0x0803 ∧ bit (d.dw 5) 1 = true) ∧
    (∃ (d : Desc), d.opcode = 0x0803 ∧ bit (d.dw 5) 1 = false) ∧
    (∃ (d : Desc), d.opcode = 0x0803 ∧ bit (d.dw 5) 1 = true) ∧
    (∃ (d : Desc), d.opcode = 0x0803 ∧ bit (d.dw 5) 1 = false) :=
  ⟨⟨State.reset, cmdD 0x801 [0x270], by decide +kernel⟩,
   ⟨st [(F.LLN_RX_STATUS_STATE, 7, 4), (F.LLN_TX_STATUS_STATE, 7, 4)], cmdD 0x801 [0x270], by decide +kernel⟩,
   ⟨st [(F.LLN_TX_STATUS_STATE, 7, 1)], cmdD 0x801 [0x270], by decide +kernel⟩,
   ⟨State.reset, cmdD 0x801 [0x370], by decide +kernel⟩,
   ⟨{ st [(F.LLN_RX_STATUS_STATE, 7, 4), (F.LLN_TX_STATUS_STATE, 7, 4)] with lln := { State.reset.lln with rx := [(7, { rxLaneEmpty with loop := 2 })], tx := [(7, { txLaneEmpty with loop := 2 })] } }, cmdD 0x801 [0x70], by decide +kernel⟩,
   ⟨State.reset, cmdD 0x801 [0x70], by decide +kernel⟩,
   ⟨st [(F.HPM_CFG_MODE, 0, 1)], cmdD 0x801 [0x341], by decide +kernel⟩,
   ⟨(st [(F.HPM_CFG_MODE, 0, 1)]).lanesTo 1 5, cmdD 0x801 [0x341], by decide +kernel⟩,
   ⟨(st [(F.HPM_CFG_MODE, 0, 1)]).lanesTo 1 5, cmdD 0x801 [0x41], by decide +kernel⟩,
   ⟨State.reset, cmdD 0x801 [0x41], by decide +kernel⟩,
   ⟨{ State.reset with hif := { State.reset.hif with part := .lk9520 } }, cmdD 0x801 [0x170], by decide +kernel⟩,
   ⟨{ State.reset with hif := { State.reset.hif with part := .lk9520 } }, cmdD 0x801 [0x70], by decide +kernel⟩,
   ⟨st [(F.LLN_RX_STATUS_STATE, 7, 4), (F.LLN_TX_STATUS_STATE, 7, 4)], cmdD 0x802 [0x70, 0x102], by decide +kernel⟩,
   ⟨(st [(F.HPM_CFG_MODE, 0, 1)]).lanesTo 1 5, cmdD 0x802 [0x41, 0x205], by decide +kernel⟩,
   ⟨State.reset, cmdD 0x802 [0x70, 0x102], by decide +kernel⟩,
   ⟨cmdD 0x803 [0x00520142 + 1], by decide +kernel⟩,
   ⟨cmdD 0x803 [0x00520141, 0x1FF], by decide +kernel⟩,
   ⟨cmdD 0x803 [2], by decide +kernel⟩,
   ⟨cmdD 0x803 [0], by decide +kernel⟩,
   ⟨cmdD 0x803 [3], by decide +kernel⟩,
   ⟨cmdD 0x803 [1], by decide +kernel⟩⟩

/-- States and operands that meet the hypotheses of HostLaneBringUp, clause by clause. -/
theorem test_meets_HostLaneBringUp :
    (∃ (s : State) (p : Nat) (partner : List Ability), p < 4 ∧ s.portState p = 1 ∧ (advertised (s.fld F.HPM_CFG_MODE 0)).any (fun a => partner.contains a) = true) ∧
    (∃ (s : State) (p : Nat) (partner : List Ability), (s.portState p ≠ 1 ∨ (advertised (s.fld F.HPM_CFG_MODE 0)).any (fun a => partner.contains a) = false)) ∧
    (∃ (s : State) (p : Nat), p < 4 ∧ s.portState p = 1) ∧
    (∃ (s : State) (p : Nat) (cs : List (Nat × Nat × Nat × Nat)), p < 4 ∧ s.portState p = 2 ∧ cs.length = (s.lanesOf p).length) ∧
    (∃ (s : State) (p : Nat), p < 4 ∧ s.portState p = 2) ∧
    (∃ (s : State) (p : Nat) (skew : Option Nat), p < 4 ∧ s.portState p = 3 ∧ ((∀ x, skew = some x → 200 < x)) ∧ ((skew = none → (s.hostLane (s.firstLane p)).since + 12441600 ≤ s.ltb.lc))) ∧
    (∃ (x : Nat), x ≤ 200) :=
  ⟨⟨(st [(F.HPM_CFG_MODE, 0, 1)]).lanesTo 1 1, 1, [.kr4RsFec], by decide +kernel⟩,
   ⟨(st [(F.HPM_CFG_MODE, 0, 1)]).lanesTo 1 1, 1, [], by decide +kernel⟩,
   ⟨(st [(F.HPM_CFG_MODE, 0, 2)]).lanesTo 1 1, 1, by decide +kernel⟩,
   ⟨st [(F.HPM_CFG_MODE, 0, 0), (F.HPM_SD_STATUS_STATE, 0, 2), (F.HPM_SD_STATUS_STATE, 1, 2), (F.HPM_SD_STATUS_STATE, 2, 2), (F.HPM_SD_STATUS_STATE, 3, 2), (F.HPM_SD_STATUS_STATE, 4, 2), (F.HPM_SD_STATUS_STATE, 5, 2), (F.HPM_SD_STATUS_STATE, 6, 2), (F.HPM_SD_STATUS_STATE, 7, 2)], 0, [(0, 1, 2, 3), (0, 1, 2, 3), (0, 1, 2, 3), (0, 1, 2, 3), (0, 1, 2, 3), (0, 1, 2, 3), (0, 1, 2, 3), (0, 1, 2, 3)], by decide +kernel⟩,
   ⟨st [(F.HPM_CFG_MODE, 0, 0), (F.HPM_SD_STATUS_STATE, 0, 2), (F.HPM_SD_STATUS_STATE, 1, 2), (F.HPM_SD_STATUS_STATE, 2, 2), (F.HPM_SD_STATUS_STATE, 3, 2), (F.HPM_SD_STATUS_STATE, 4, 2), (F.HPM_SD_STATUS_STATE, 5, 2), (F.HPM_SD_STATUS_STATE, 6, 2), (F.HPM_SD_STATUS_STATE, 7, 2)], 0, by decide +kernel⟩,
   ⟨(st [(F.HPM_CFG_MODE, 0, 0)]).lanesTo 0 3, 0, some 201, by decide +kernel⟩,
   ⟨200, by decide +kernel⟩⟩

/-- States and operands that meet the hypotheses of DownstreamFrames, clause by clause. -/
theorem test_meets_DownstreamFrames :
    (∃ (s : State) (x : XgemHdr) (e : Nat) (pe : PortEntry), x.chan < 8 ∧ s.inSync x.chan = true ∧ s.ltb.sleep = none ∧ s.fld F.DSF_CH_STATUS_FEC_IN_USE x.chan ≠ 0 ∧ (s.framing x.chan).lostFrame ≠ some x.sfc ∧ x.hec = 0 ∧ x.idle = false ∧ ((s.fld F.DSF_PRC_CFG_EN 0 = 1 → x.port ≠ s.fld F.DSF_PRC_CFG_PORT_ID 0)) ∧ s.portEntry x.port = some (e, pe) ∧ pe.bonded = false ∧ bit pe.mask (x.chan % 4) = true ∧ s.onActive x.chan = true ∧ s.member x.chan ≠ 2 ∧ x.errored = false ∧ x.keyIdx = 0 ∧ bit (s.portKey e) 0 = false ∧ x.lf = true ∧ 0 < x.pli ∧ DsfQuiet s) ∧
    (∃ (s : State) (x : XgemHdr), x.chan < 8 ∧ s.inSync x.chan = true ∧ s.ltb.sleep = none ∧ s.fld F.DSF_CH_STATUS_FEC_IN_USE x.chan ≠ 0 ∧ (s.framing x.chan).lostFrame ≠ some x.sfc ∧ x.hec = 2 ∧ DsfQuiet s) ∧
    (∃ (s : State) (x : XgemHdr), x.chan < 8 ∧ s.inSync x.chan = true ∧ s.ltb.sleep = none ∧ s.fld F.DSF_CH_STATUS_FEC_IN_USE x.chan ≠ 0 ∧ (s.framing x.chan).lostFrame ≠ some x.sfc ∧ x.hec = 0 ∧ x.idle = false ∧ s.fld F.DSF_PRC_CFG_EN 0 = 0 ∧ s.portEntry x.port = none ∧ s.member x.chan ≠ 2 ∧ DsfQuiet s) ∧
    (∃ (s : State) (x : XgemHdr) (e : Nat) (k : Nat) (pe : PortEntry), x.chan < 8 ∧ s.inSync x.chan = true ∧ s.ltb.sleep = none ∧ s.fld F.DSF_CH_STATUS_FEC_IN_USE x.chan ≠ 0 ∧ (s.framing x.chan).lostFrame ≠ some x.sfc ∧ x.hec = 0 ∧ x.idle = false ∧ ((s.fld F.DSF_PRC_CFG_EN 0 = 1 → x.port ≠ s.fld F.DSF_PRC_CFG_PORT_ID 0)) ∧ s.portEntry x.port = some (e, pe) ∧ pe.bonded = true ∧ s.dsf.bondOn = true ∧ bit pe.mask (x.chan % 4) = true ∧ s.onActive x.chan = true ∧ s.member x.chan = 1 ∧ x.pli < 2 ^ 14 ∧ s.dsf.released = none ∧ k < 4 ∧ s.chanOf k ≠ x.chan ∧ s.member k = 1 ∧ (s.framing (s.chanOf k)).pos < xgemKeyLc x ∧ DsfQuiet s) ∧
    (∃ (s : State) (x : Xgem), s.dsf.held = [x] ∧ s.releasable x = true ∧ s.dsf.losses = [] ∧ s.dsf.reasm = [] ∧ s.dsf.thresholds = [] ∧ x.errored = false ∧ x.keyIdx = 0 ∧ bit (s.portKey x.entry) 0 = false ∧ x.lf = true ∧ 0 < x.pli) ∧
    (∃ (s : State) (x : Xgem) (rest : List Xgem), s.dsf.held = x :: rest ∧ s.releasable x = false ∧ s.dsf.losses = []) ∧
    (∃ (s : State) (x : Xgem) (rest : List Xgem), s.dsf.held = x :: rest ∧ s.releasable x = false ∧ s.dsf.losses = []) ∧
    (∃ (s : State) (c : Nat), s.onActive c = true ∧ s.member c = 1 ∧ s.dsf.held = [] ∧ s.dsf.losses = [] ∧ (s.framing c).posLc + s.stallLc ≤ s.ltb.lc) ∧
    (∃ (s : State) (c : Nat), s.ltb.lc < (s.framing c).posLc + s.stallLc) ∧
    (∃ (s : State) (c : Nat) (fp : Nat), SMap.find s.dsf.parkAt c = some fp ∧ (s.framing c).pos < fp * 155520) ∧
    (∃ (s : State) (c : Nat) (fp : Nat), s.onActive c = true ∧ s.member c = 3 ∧ s.dsf.held = [] ∧ s.dsf.losses = [] ∧ SMap.find s.dsf.parkAt c = some fp ∧ fp * 155520 ≤ (s.framing c).pos) :=
  ⟨⟨{ (dsfS []) with dsf := { State.reset.dsf with ports := [(4, ⟨1021, false, 1⟩)] } }, xgem0, 4, ⟨1021, false, 1⟩, by unfold DsfQuiet; decide +kernel⟩,
   ⟨dsfS [], { xgem0 with hec := 2 }, by unfold DsfQuiet; decide +kernel⟩,
   ⟨dsfS [], xgem0, by unfold DsfQuiet; decide +kernel⟩,
   ⟨{ (dsfS [(F.DSF_BOND_STATUS_MSTATE, 0, 5)]) with dsf := { State.reset.dsf with ports := [(4, ⟨1021, true, 3⟩)] } }, xgem0, 4, 1, ⟨1021, true, 3⟩, by unfold DsfQuiet; decide +kernel⟩,
   ⟨{ (dsfS [(F.DSF_BOND_STATUS_MSTATE, 0, 1), (F.DSF_BOND_HELD_UNITS, 0, 4)]) with dsf := { State.reset.dsf with held := [⟨0, 4, 1021, 777, 1000, 64, 0, 0, true, false⟩] } }, ⟨0, 4, 1021, 777, 1000, 64, 0, 0, true, false⟩, by decide +kernel⟩,
   ⟨{ (dsfS [(F.DSF_BOND_STATUS_MSTATE, 0, 5), (F.DSF_BOND_HELD_UNITS, 0, 4)]) with dsf := { State.reset.dsf with held := [⟨0, 4, 1021, 777, 1000, 64, 0, 0, true, false⟩] } }, ⟨0, 4, 1021, 777, 1000, 64, 0, 0, true, false⟩, [], by decide +kernel⟩,
   ⟨{ (dsfS [(F.DSF_BOND_STATUS_MSTATE, 0, 5), (F.DSF_BOND_HELD_UNITS, 0, 4)]) with dsf := { State.reset.dsf with held := [⟨0, 4, 1021, 777, 1000, 64, 0, 0, true, false⟩] } }, ⟨0, 4, 1021, 777, 1000, 64, 0, 0, true, false⟩, [], by decide +kernel⟩,
   ⟨(let u := dsfS [(F.DSF_BOND_STATUS_MSTATE, 0, 0xFD)]; { u with ltb := { u.ltb with lc := 124416 } }), 0, by decide +kernel⟩,
   ⟨dsfS [(F.DSF_BOND_STATUS_MSTATE, 0, 0xFD)], 0, by decide +kernel⟩,
   ⟨{ (dsfS [(F.DSF_BOND_STATUS_MSTATE, 0, 0x57)]) with dsf := { State.reset.dsf with parkAt := [(0, 9)] } }, 0, 9, by decide +kernel⟩,
   ⟨{ (dsfS [(F.DSF_BOND_STATUS_MSTATE, 0, 0x57)]) with dsf := { State.reset.dsf with parkAt := [(0, 9)], chans := [(0, { framing0 with pos := 1399680 })] } }, 0, 9, by decide +kernel⟩⟩

/-- States and operands that meet the hypotheses of FramingAndDefects, clause by clause. -/
theorem test_meets_FramingAndDefects :
    (∃ (s : State) (c : Nat), ((s.fld F.DSF_CH_STATUS_STATE c = 1 ∨ s.fld F.DSF_CH_STATUS_STATE c = 2)) ∧ (s.framing c).cands.length < 8) ∧
    (∃ (s : State) (c : Nat), ((s.fld F.DSF_CH_STATUS_STATE c = 1 ∨ s.fld F.DSF_CH_STATUS_STATE c = 2)) ∧ 8 ≤ (s.framing c).cands.length) ∧
    (∃ (s : State) (c : Nat) (align : Nat) (diff : Nat) (v : Nat) (w : Nat) (k : Candidate) (rest : List Candidate), s.fld F.DSF_CH_STATUS_STATE c = 2 ∧ pullFirst (fun k => k.align == align) (s.framing c).cands = some (k, rest) ∧ k.sfc = some w ∧ v = (w + 1) % 2 ^ 51 ∧ diff ≤ s.psyncTol ∧ k.at_ + 155528 ≤ s.ltb.lc ∧ k.first rest = true ∧ s.simmer ≠ 7 ∧ s.act_st c = 0 ∧ s.fld F.DSF_CH_STATUS_LOF c = 0 ∧ s.member c ≠ 2) ∧
    (∃ (s : State) (c : Nat) (align : Nat) (diff : Nat) (sfc : Option Nat) (k : Candidate), s.fld F.DSF_CH_STATUS_STATE c = 2 ∧ pullFirst (fun k => k.align == align) (s.framing c).cands = some (k, []) ∧ ((sfc = none ∨ s.psyncTol < diff)) ∧ k.at_ + 155528 ≤ s.ltb.lc ∧ s.dsf.thresholds = []) ∧
    (∃ (s : State) (c : Nat) (align : Nat) (k : Candidate) (rest : List Candidate), pullFirst (fun k => k.align == align) (s.framing c).cands = some (k, rest) ∧ (s.ltb.lc < k.at_ + 155528 ∨ k.first rest = false)) ∧
    (∃ (s : State) (c : Nat), (s.inSync c = false ∨ s.ltb.lc < (s.framing c).lastPs + 155520)) ∧
    (∃ (s : State) (c : Nat) (diff : Nat), s.inSync c = true ∧ (s.framing c).lastPs + 155520 ≤ s.ltb.lc ∧ s.simmer ≠ 7 ∧ diff ≤ s.psyncTol) ∧
    (∃ (s : State) (c : Nat) (diff : Nat), s.inSync c = true ∧ (s.framing c).lastPs + 155520 ≤ s.ltb.lc ∧ s.simmer ≠ 7 ∧ s.psyncTol < diff ∧ (s.framing c).misses + 1 < s.missLimit ∧ s.dsf.thresholds = []) ∧
    (∃ (s : State) (c : Nat) (diff : Nat), s.inSync c = true ∧ (s.framing c).lastPs + 155520 ≤ s.ltb.lc ∧ s.psyncTol < diff ∧ s.missLimit ≤ (s.framing c).misses + 1 ∧ s.quietLine = false ∧ DsfQuiet s ∧ DefectAlone s c) ∧
    (∃ (s : State) (c : Nat), s.quietLine = false ∧ s.fld F.LLN_RX_CFG_EN c ≠ 0 ∧ s.fld F.DSF_CH_STATUS_LOS c ≠ 1 ∧ s.sigFor c 0 (usLc (max 1 (s.fld F.DSF_DEF_CFG_LOS_SET_US 0))) = true ∧ DsfQuiet s ∧ DefectAlone s c) ∧
    (∃ (s : State) (c : Nat), (s.fld F.LLN_RX_CFG_EN c = 0 ∨ s.sigFor c 0 (usLc (max 1 (s.fld F.DSF_DEF_CFG_LOS_SET_US 0))) = false)) ∧
    (∃ (s : State) (c : Nat), s.fld F.DSF_CH_STATUS_LOS c = 1 ∧ s.sigFor c 1 (155520 * max 1 (s.fld F.DSF_DEF_CFG_LOS_CLR_FR 0)) = true) ∧
    (∃ (s : State) (c : Nat) (iters : Nat) (bits : Nat), s.inSync c = true ∧ s.fld F.DSF_CH_STATUS_FEC_IN_USE c ≠ 0 ∧ s.dsf.thresholds = [] ∧ 0 < bits ∧ iters < max 4 (s.fld F.DSF_CH_CFG_ITER_MAX c)) ∧
    (∃ (s : State) (c : Nat), s.inSync c = true ∧ s.fld F.DSF_CH_STATUS_FEC_IN_USE c ≠ 0 ∧ s.dsf.thresholds = []) ∧
    (∃ (s : State) (c : Nat), s.inSync c = true ∧ s.fld F.DSF_CH_STATUS_FEC_IN_USE c = 0 ∧ 7 ≤ (s.framing c).run1) ∧
    (∃ (s : State) (d : Desc), d.opcode = 0x0C04 ∧ s.hasChannel (bits (d.dw 5) 2 0) = true ∧ s.fld F.DSF_CH_STATUS_STATE (bits (d.dw 5) 2 0) ≠ 0 ∧ s.inSync (bits (d.dw 5) 2 0) = false) ∧
    (∃ (s : State) (d : Desc), d.opcode = 0x0C04 ∧ s.hasChannel (bits (d.dw 5) 2 0) = true ∧ s.fld F.DSF_CH_STATUS_STATE (bits (d.dw 5) 2 0) = 0) :=
  ⟨⟨{ st [(F.DSF_CH_STATUS_STATE, 7, 2)] with dsf := { State.reset.dsf with chans := [(7, { framing0 with cands := List.replicate 7 ⟨3, 3, none⟩ })] } }, 7, by decide +kernel⟩,
   ⟨{ st [(F.DSF_CH_STATUS_STATE, 7, 2)] with dsf := { State.reset.dsf with chans := [(7, { framing0 with cands := List.replicate 8 ⟨3, 3, none⟩ })] } }, 7, by decide +kernel⟩,
   ⟨(let u := { st [(F.DSF_CH_STATUS_STATE, 7, 2), (F.DSF_CH_STATUS_CANDIDATES, 7, 1)] with dsf := { State.reset.dsf with chans := [(7, { framing0 with cands := [⟨3, 4, some 0x7FFFFFFFFFFFF⟩] })] } }; { u with ltb := { u.ltb with lc := 155531 } }), 7, 4, 0, 0, 0x7FFFFFFFFFFFF, ⟨3, 4, some 0x7FFFFFFFFFFFF⟩, [], by decide +kernel⟩,
   ⟨(let u := { st [(F.DSF_CH_STATUS_STATE, 7, 2), (F.DSF_CH_STATUS_CANDIDATES, 7, 1)] with dsf := { State.reset.dsf with chans := [(7, { framing0 with cands := [⟨3, 4, some 8⟩] })] } }; { u with ltb := { u.ltb with lc := 155531 } }), 7, 4, 0, none, ⟨3, 4, some 8⟩, by decide +kernel⟩,
   ⟨(let u := { st [(F.DSF_CH_STATUS_STATE, 7, 2), (F.DSF_CH_STATUS_CANDIDATES, 7, 1)] with dsf := { State.reset.dsf with chans := [(7, { framing0 with cands := [⟨3, 4, some 8⟩] })] } }; { u with ltb := { u.ltb with lc := 155530 } }), 7, 4, ⟨3, 4, some 8⟩, [], by decide +kernel⟩,
   ⟨(let u := dsfS []; { u with ltb := { u.ltb with lc := 155519 } }), 0, by decide +kernel⟩,
   ⟨(let u := dsfS []; { u with ltb := { u.ltb with lc := 155520 } }), 0, 0, by decide +kernel⟩,
   ⟨(let u := dsfS [(F.DSF_HUNT_CFG_PSYNC_TOL, 0, 0), (F.DSF_HUNT_CFG_MISS_LIMIT, 0, 2)]; { u with ltb := { u.ltb with lc := 155520 } }), 0, 1, by decide +kernel⟩,
   ⟨(let u := dsfS [(F.DSF_HUNT_CFG_PSYNC_TOL, 0, 0), (F.DSF_HUNT_CFG_MISS_LIMIT, 0, 0)]; { u with ltb := { u.ltb with lc := 155520 } }), 0, 1, by unfold DsfQuiet DefectAlone; decide +kernel⟩,
   ⟨(let u := dsfS [(F.LLN_RX_CFG_EN, 0, 1)]; { u with ltb := { u.ltb with lc := 124416000 } }), 0, by unfold DsfQuiet DefectAlone; decide +kernel⟩,
   ⟨dsfS [(F.LLN_RX_CFG_EN, 0, 1)], 0, by decide +kernel⟩,
   ⟨(let u := dsfS [(F.DSF_CH_STATUS_LOS, 0, 1), (F.DSF_CH_STATUS_LOF, 0, 1), (F.LLN_RX_STATUS_SIG_DET, 0, 1)]; { u with ltb := { u.ltb with lc := 1000000000 } }), 0, by decide +kernel⟩,
   ⟨dsfS [], 0, 3, 5, by decide +kernel⟩,
   ⟨dsfS [], 0, by decide +kernel⟩,
   ⟨{ (dsfS [(F.DSF_CH_STATUS_FEC_IN_USE, 0, 0)]) with dsf := { State.reset.dsf with chans := [(0, { framing0 with run1 := 7 })] } }, 0, by decide +kernel⟩,
   ⟨{ st [(F.DSF_CH_STATUS_STATE, 7, 2), (F.DSF_CH_STATUS_CANDIDATES, 7, 1)] with dsf := { State.reset.dsf with chans := [(7, { framing0 with cands := [⟨3, 4, some 8⟩] })] } }, cmdD 0xC04 [7], by decide +kernel⟩,
   ⟨State.reset, cmdD 0xC04 [7], by decide +kernel⟩⟩

/-- States and operands that meet the hypotheses of PerformanceAndRequests, clause by clause. -/
theorem test_meets_PerformanceAndRequests :
    (∃ (s : State) (p : Nat) (k : Nat), s.pathPassed p k = false) ∧
    (∃ (s : State) (p : Nat) (k : Nat), s.pathPassed p k = true ∧ ((∀ m ∈ s.dsf.prcMsgs, ¬ (m.chan / 4 = p ∧ m.frame = k)))) ∧
    (∃ (s : State) (p : Nat) (k : Nat) (c : Nat) (arg : Nat) (target : Nat), s.pathPassed p k = true ∧ p < 2 ∧ c / 4 = p ∧ s.dsf.prcMsgs = [⟨c, k, true, 0x20, target, arg⟩] ∧ SMap.find s.dsf.prcRuns p = some ⟨0x20, target, arg, 2, k - 1, false⟩ ∧ 0 < k ∧ k < 2 ^ 51 ∧ s.fld (rdiFld p) 0 ≠ 1) ∧
    (∃ (s : State) (f : Nat) (c : Nat), s.boundary f 8000 = true ∧ s.dsf.lastSecond = none ∧ s.dsf.thresholds = [] ∧ s.quietLine = false ∧ s.hasChannel c = true) ∧
    (∃ (s : State) (f : Nat) (st : Nat), s.dsf.lastSecond = some st ∧ stampDiff (stampOf f 0) st ≤ 0) ∧
    (∃ (s : State) (f : Nat) (c : Nat), s.boundary f 7200000 = true ∧ s.hasChannel c = true ∧ 0 < stampDiff (stampOf f 0) (s.pm c).cur.start) ∧
    (∃ (s : State) (day : Bool) (f : Nat), s.boundary f (if day then 691200000 else 7200000) = false) ∧
    (∃ (s : State) (f : Nat), s.boundary f 8000 = false) ∧
    (∃ (s : State) (v : Word), s.dom 6 0 = 2 ∧ min 7199999 (v.toNat % 2 ^ 23) ≠ min 7199999 (s.fld F.DSF_PM_CFG_PHASE 0) ∧ s.quietLine = true) ∧
    (∃ (s : State) (d : Desc), d.opcode = 0x0C01 ∧ bits (d.dw 5) 15 14 = 0 ∧ bit (d.dw 6) 0 = false ∧ ((∀ p ∈ s.dsf.ports, p.1 ≠ bits (d.dw 5) 13 0 → p.2.port ≠ bits (d.dw 5) 31 16)) ∧ (s.fld F.DSF_PRC_CFG_EN 0 = 0 ∨ bits (d.dw 5) 31 16 ≠ s.fld F.DSF_PRC_CFG_PORT_ID 0)) ∧
    (∃ (s : State) (d : Desc), d.opcode = 0x0C01 ∧ bits (d.dw 5) 15 14 = 0 ∧ bit (d.dw 6) 0 = true ∧ (s.fld F.DSF_PRC_CFG_EN 0 = 0 ∨ bits (d.dw 5) 31 16 ≠ s.fld F.DSF_PRC_CFG_PORT_ID 0) ∧ ((∀ p ∈ s.dsf.ports, p.1 ≠ bits (d.dw 5) 13 0 → p.2.port ≠ bits (d.dw 5) 31 16)) ∧ bits (d.dw 6) 7 4 ≠ 0 ∧ s.hif.part = .lk9540) ∧
    (∃ (s : State) (d : Desc), d.opcode = 0x0C02 ∧ d.buf = true ∧ 192 ≤ d.bufLen ∧ s.hasChannel (bits (d.dw 5) 2 0) = true ∧ bits (d.dw 5) 5 4 = 0) ∧
    (∃ (d : Desc), d.opcode = 0x0C03 ∧ bits (d.dw 5) 4 0 ≤ 17) ∧
    (∃ (d : Desc), d.opcode = 0x0C03 ∧ 17 < bits (d.dw 5) 4 0) :=
  ⟨⟨st [(F.DSF_CH_STATUS_STATE, 4, 3)], 1, 5, by decide +kernel⟩,
   ⟨{ State.reset with dsf := { State.reset.dsf with prcRuns := [(1, ⟨0x20, 0, 0, 2, 4, false⟩)], prcMsgs := [⟨0, 5, true, 0x20, 0, 0⟩] } }, 1, 5, by decide +kernel⟩,
   ⟨{ State.reset with dsf := { State.reset.dsf with prcRuns := [(1, ⟨0x20, 1, 2, 2, 4, false⟩)], prcMsgs := [⟨7, 5, true, 0x20, 1, 2⟩] } }, 1, 5, 7, 2, 1, by decide +kernel⟩,
   ⟨(let u := { State.reset with dsf := { State.reset.dsf with limits := [(1, 1)] } }; { u with ltb := { u.ltb with frame := 8001 } }), 8000, 7, by decide +kernel⟩,
   ⟨{ State.reset with dsf := { State.reset.dsf with lastSecond := some (8 * 2 ^ 18) } }, 8, 8 * 2 ^ 18, by decide +kernel⟩,
   ⟨(let u := State.reset; { u with ltb := { u.ltb with frame := 7200000 } }), 7200000, 7, by decide +kernel⟩,
   ⟨State.reset, true, 7200000, by decide +kernel⟩,
   ⟨State.reset, 8000, by decide +kernel⟩,
   ⟨st [(F.PWR_STATUS_RX_DARK, 0, 1)], 7199999, by decide +kernel⟩,
   ⟨{ State.reset with dsf := { State.reset.dsf with ports := [(0x3FFF, ⟨1021, false, 1⟩)] } }, cmdD 0xC01 [0x3FFF, 0], by decide +kernel⟩,
   ⟨{ State.reset with dsf := { State.reset.dsf with ports := [(0x3FFF, ⟨1021, false, 1⟩)] } }, cmdD 0xC01 [0x03FD3FFF, 0xF3], by decide +kernel⟩,
   ⟨State.reset, cmdB 0xC02 [7] 192 [], by decide +kernel⟩,
   ⟨cmdD 0xC03 [17, 99], by decide +kernel⟩,
   ⟨cmdD 0xC03 [18, 99], by decide +kernel⟩⟩

/-- States and operands that meet the hypotheses of LaneRegisterWrites, clause by clause. -/
theorem test_meets_LaneRegisterWrites :
    (∃ (s : State) (n : Nat) (v : Word), s.hasChannel n = true ∧ s.dom (2 + n / 4) (n % 4) = 2 ∧ s.fld F.LLN_RX_CFG_EN n = 0 ∧ bit v.toNat 0 = true ∧ s.rxState n = 0 ∧ s.inSync n = false ∧ s.quietLine = false) ∧
    (∃ (s : State) (n : Nat) (v : Word), s.hasChannel n = true ∧ s.dom (2 + n / 4) (n % 4) = 2 ∧ s.fld F.LLN_RX_CFG_EN n = 1 ∧ bit v.toNat 0 = false ∧ 0 < s.rxState n ∧ s.rxState n < 4 ∧ s.inSync n = false) ∧
    (∃ (s : State) (n : Nat) (k : Nat), s.hasChannel n = true ∧ k < 5 ∧ s.dom (2 + n / 4) (n % 4) = 2 ∧ s.rxState n = 3 ∧ s.fld F.LLN_RX_CFG_ADAPT n = 1) ∧
    (∃ (s : State) (n : Nat) (k : Nat), n < 8 ∧ k < 5 ∧ s.dom (2 + n / 4) (n % 4) = 2 ∧ (s.rxState n ≠ 3 ∨ s.fld F.LLN_RX_CFG_ADAPT n ≠ 1)) ∧
    (∃ (s : State) (n : Nat) (v : Word), s.hasChannel n = true ∧ s.dom (4 + n / 4) (n % 4) = 2 ∧ bit v.toNat 0 = true ∧ s.act_st n ≠ 0x12) ∧
    (∃ (s : State) (n : Nat) (v : Word), s.hasChannel n = true ∧ s.dom (4 + n / 4) (n % 4) = 2 ∧ s.fld F.LLN_TX_CFG_EN n = 1 ∧ bit v.toNat 0 = false ∧ ((s.txState n = 1 ∨ s.txState n = 3)) ∧ s.txBusy n = false ∧ s.act_st n ≠ 0x12) :=
  ⟨⟨State.reset, 7, 1, by decide +kernel⟩,
   ⟨st [(F.LLN_RX_CFG_EN, 7, 1), (F.LLN_RX_STATUS_STATE, 7, 3), (F.DSF_CH_STATUS_STATE, 7, 1)], 7, 0, by decide +kernel⟩,
   ⟨st [(F.LLN_RX_CFG_ADAPT, 7, 1), (F.LLN_RX_STATUS_STATE, 7, 3)], 7, 4, by decide +kernel⟩,
   ⟨st [(F.LLN_RX_CFG_ADAPT, 7, 0)], 7, 4, by decide +kernel⟩,
   ⟨State.reset, 7, 0x1111, by decide +kernel⟩,
   ⟨st [(F.LLN_TX_CFG_EN, 7, 1), (F.LLN_TX_STATUS_STATE, 7, 3), (F.LLN_TX_STATUS_PLL_LOCK, 7, 1)], 7, 0, by decide +kernel⟩⟩

/-- States and operands that meet the hypotheses of BadMessagesAreDiscarded, clause by clause. -/
theorem test_meets_BadMessagesAreDiscarded :
    (∃ (s : State) (c : Nat) (x : Nat) (y : Nat) (e : Int) (o : Option Nat) (a : Bool) (b : Bool) (l : Bool) (p : Profile) (k : KeyFetch) (m : Ploam) (i : Instr), PloamBad s m ∧ i ∈ [Instr.assignOnuId c x o m, .rangingTime c e m, .assignAllocId c x a m, .deactivateOnuId c m, .disableSerialNumber c a m, .tuningControl c x y a b x m, .parkAnswer c x a m, .headEndPark c x a m, .burstProfile c x p m, .keyRequest c x y l k m]) ∧
    (∃ (s : State) (m : Ploam), PloamBad s m ∧ (s.simmer < 5 ∨ 7 < s.simmer) ∧ s.fld F.PWR_STATUS_RX_DARK 0 ≠ 1) ∧
    (∃ (s : State) (c : Nat) (x : Nat) (y : Nat) (e : Int) (o : Option Nat) (a : Bool) (b : Bool) (l : Bool) (p : Profile) (k : KeyFetch) (w : PowerMsg) (m : Ploam) (i : Instr), (s.fld (engRunning 0) 0 = 0 ∨ m.lost = true ∨ (m.mic = true ∧ s.addressed c m.dest = false)) ∧ i ∈ [Instr.assignOnuId c x o m, .rangingTime c e m, .assignAllocId c x a m, .deactivateOnuId c m, .disableSerialNumber c true m, .tuningControl c x y a b x m, .parkAnswer c x a m, .headEndPark c x a m, .burstProfile c x p m, .keyRequest c x y l k m, .headEndPowerMessage c w m]) :=
  ⟨⟨st [eng0], 7, 1, 2, 3, none, true, true, true, ⟨1, false, 8, 64, 0, 0⟩, .ok, ⟨false, .onu 1, false⟩, .deactivateOnuId 7 ⟨false, .onu 1, false⟩, by unfold PloamBad; decide +kernel⟩,
   ⟨st [eng0], ⟨false, .onu 1, false⟩, by unfold PloamBad; decide +kernel⟩,
   ⟨st [eng0], 7, 1, 2, 3, none, true, true, true, ⟨1, false, 8, 64, 0, 0⟩, .ok, .wake, ⟨true, .onu 1, false⟩, .deactivateOnuId 7 ⟨true, .onu 1, false⟩, by decide +kernel⟩⟩

/-- States and operands that meet the hypotheses of ActivationStates, clause by clause. -/
theorem test_meets_ActivationStates :
    (∃ (s : State) (c : Nat) (onu : Nat) (e : Option Nat) (m : Ploam), PloamHeard s c m ∧ s.act_st c = 0x23 ∧ onu < 1023 ∧ e.getD 0 < 2 ^ 24 ∧ SimmerOff s) ∧
    (∃ (s : State) (c : Nat) (m : Ploam), PloamHeard s c m ∧ s.act_st c ≠ 0x23) ∧
    (∃ (s : State) (c : Nat) (e : Nat) (m : Ploam), PloamHeard s c m ∧ s.act_st c = 0x40 ∧ e < 2 ^ 24 ∧ SimmerOff s ∧ s.fld F.PRT_SB_CFG_PRERANGE 0 = 0) ∧
    (∃ (s : State) (c : Nat) (e : Nat) (m : Ploam), PloamHeard s c m ∧ s.act_st c = 0x51 ∧ e < 2 ^ 24 ∧ s.fld F.PRT_SB_CFG_PRERANGE 0 = 0) ∧
    (∃ (s : State) (c : Nat) (e : Int) (m : Ploam), PloamHeard s c m ∧ ((s.act_st c = 0x40 ∨ s.act_st c = 0x51)) ∧ ((e < 0 ∨ 2 ^ 24 ≤ e))) ∧
    (∃ (s : State) (c : Nat) (a : Nat) (m : Ploam), PloamHeard s c m ∧ s.fld F.ACT_CH_STATUS_ONU_ID c ≠ 0x3FF ∧ a ∉ (s.actCh c).allocs ∧ (s.actCh c).allocs.length < 256) ∧
    (∃ (s : State) (c : Nat) (a : Nat) (m : Ploam), PloamHeard s c m ∧ s.fld F.ACT_CH_STATUS_ONU_ID c ≠ 0x3FF ∧ a ∉ (s.actCh c).allocs ∧ 256 ≤ (s.actCh c).allocs.length) ∧
    (∃ (s : State) (c : Nat) (a : Nat) (m : Ploam), PloamHeard s c m ∧ s.fld F.ACT_CH_STATUS_ONU_ID c ≠ 0x3FF ∧ a ∈ (s.actCh c).allocs ∧ a ≠ s.fld F.ACT_CH_STATUS_ONU_ID c ∧ SMap.find (s.ubeCh c).rem a = none) ∧
    (∃ (s : State) (c : Nat) (m : Ploam), PloamHeard s c m) ∧
    (∃ (s : State) (c : Nat) (m : Ploam), PloamHeard s c m ∧ s.act_st c = 0x51 ∧ s.inSync c = true ∧ ContextAlone s c) ∧
    (∃ (s : State) (c : Nat) (m : Ploam), PloamHeard s c m ∧ s.act_st c = 0x51 ∧ ContextAlone s c) ∧
    (∃ (s : State) (c : Nat) (m : Ploam), PloamHeard s c m ∧ s.act_st c = 0x70 ∧ s.inSync c = true ∧ s.whs.latch = none ∧ SimmerOff s) ∧
    (∃ (s : State) (c : Nat) (g : Nat) (m : Ploam), PloamHeard s c m ∧ s.act_st c = 0x51 ∧ s.fld F.ACT_CH_STATUS_PARK_PENDING c = 0 ∧ s.act.exchange = none ∧ s.onActive g = true ∧ s.act_st g = 0 ∧ s.fld F.LLN_RX_CFG_EN g = 1 ∧ s.fld F.LLN_TX_CFG_EN g = 1 ∧ s.fld F.ACT_CH_STATUS_ESTOP g = 0 ∧ SimmerOff s) ∧
    (∃ (s : State) (c : Nat) (m : Ploam), PloamHeard s c m ∧ s.act_st c ≠ 0x51) ∧
    (∃ (s : State) (c : Nat) (m : Ploam), PloamHeard s c m ∧ s.act_st c = 0x52 ∧ SimmerOff s) ∧
    (∃ (s : State) (c : Nat) (g : Nat) (f : Nat), (s.actCh c).tuning = some ⟨g, f⟩ ∧ s.reached c f = false) ∧
    (∃ (s : State) (c : Nat) (g : Nat) (f : Nat), (s.actCh c).tuning = some ⟨g, f⟩ ∧ s.act_st c = 0x52 ∧ s.reached c f = true ∧ g ≠ c ∧ c < 8 ∧ g < 8 ∧ s.act_st g = 0 ∧ s.tc ≠ c ∧ SimmerOff s) ∧
    (∃ (s : State) (c : Nat), (s.actCh c).timer = 1 ∧ (s.actCh c).due ≤ s.ltb.lc ∧ s.act_st c = 0x40 ∧ (s.ubeCh c).rem = [] ∧ SimmerOff s) ∧
    (∃ (s : State) (c : Nat), (s.actCh c).timer = 2 ∧ (s.actCh c).due ≤ s.ltb.lc ∧ s.act_st c = 0x60 ∧ s.inSync c = false ∧ ContextAlone s c) ∧
    (∃ (s : State) (c : Nat), (s.actCh c).timer = 5 ∧ (s.actCh c).due ≤ s.ltb.lc ∧ s.act_st c = 0x52 ∧ SimmerOff s) ∧
    (∃ (s : State) (c : Nat) (n : Nat), ((s.actCh c).timer ≠ n ∨ s.ltb.lc < (s.actCh c).due)) :=
  ⟨⟨st [eng0, (F.ACT_CH_STATUS_STATE, 7, 0x23)], 7, 1022, some 9, mSn, by unfold PloamHeard SimmerOff; decide +kernel⟩,
   ⟨st [eng0], 7, mSn, by unfold PloamHeard; decide +kernel⟩,
   ⟨actS 7 (actCh7 1) [eng0, (F.ACT_CH_STATUS_STATE, 7, 0x40), (F.PRT_SB_CFG_PRERANGE, 0, 0)], 7, 0xFFFFFF, mSn, by unfold PloamHeard SimmerOff; decide +kernel⟩,
   ⟨actS 7 (actCh7 0) [eng0, (F.ACT_CH_STATUS_STATE, 7, 0x51), (F.PRT_SB_CFG_PRERANGE, 0, 0)], 7, 0xFFFFFF, mSn, by unfold PloamHeard; decide +kernel⟩,
   ⟨actS 7 (actCh7 0) [eng0, (F.ACT_CH_STATUS_STATE, 7, 0x51)], 7, -1, mSn, by unfold PloamHeard; decide +kernel⟩,
   ⟨actS 7 (actCh7 0) [eng0, (F.ACT_CH_STATUS_ONU_ID, 7, 5)], 7, 0x400, mOnu 5, by unfold PloamHeard; decide +kernel⟩,
   ⟨actS 7 { actChEmpty with allocs := List.replicate 256 7 } [eng0, (F.ACT_CH_STATUS_ONU_ID, 7, 5)], 7, 0x400, mOnu 5, by unfold PloamHeard; decide +kernel⟩,
   ⟨actS 7 (actCh7 0) [eng0, (F.ACT_CH_STATUS_ONU_ID, 7, 5), (F.ACT_CH_STATUS_ALLOCS, 7, 1)], 7, 7, mOnu 5, by unfold PloamHeard; decide +kernel⟩,
   ⟨actS 7 (actCh7 0) [eng0, (F.ACT_CH_STATUS_ONU_ID, 7, 5)], 7, mOnu 5, by unfold PloamHeard; decide +kernel⟩,
   ⟨actS 7 (actCh7 0) [eng0, (F.ACT_CH_STATUS_STATE, 7, 0x51), (F.DSF_CH_STATUS_STATE, 7, 3), (F.ACT_STATUS_PATH, 0, 2), (F.DSF_BOND_STATUS_MSTATE, 0, 0x55)], 7, mSn, by unfold PloamHeard ContextAlone SimmerOff; decide +kernel⟩,
   ⟨actS 7 (actCh7 0) [eng0, (F.ACT_CH_STATUS_STATE, 7, 0x51), (F.ACT_CH_STATUS_ONU_ID, 7, 5)], 7, mOnu 5, by unfold PloamHeard ContextAlone SimmerOff; decide +kernel⟩,
   ⟨st [eng0, (F.ACT_CH_STATUS_STATE, 7, 0x70), (F.ACT_CH_STATUS_ESTOP, 7, 1), (F.DSF_CH_STATUS_STATE, 7, 3)], 7, mSn, by unfold PloamHeard SimmerOff; decide +kernel⟩,
   ⟨actS 0 (actCh7 0) [eng0, (F.ACT_CH_STATUS_STATE, 0, 0x51), (F.ACT_STATUS_PATH, 0, 1), (F.LLN_RX_CFG_EN, 3, 1), (F.LLN_TX_CFG_EN, 3, 1)], 0, 3, mSn, by unfold PloamHeard SimmerOff; decide +kernel⟩,
   ⟨st [eng0], 7, mSn, by unfold PloamHeard; decide +kernel⟩,
   ⟨actS 0 { actCh7 5 with tuning := some ⟨3, 9⟩ } [eng0, (F.ACT_CH_STATUS_STATE, 0, 0x52), (F.ACT_CH_STATUS_TUNE_PENDING, 0, 1)], 0, mSn, by unfold PloamHeard SimmerOff; decide +kernel⟩,
   ⟨actS 1 { actCh7 5 with tuning := some ⟨3, 9⟩ } [(F.ACT_CH_STATUS_STATE, 1, 0x52)], 1, 3, 9, by decide +kernel⟩,
   ⟨actS 1 { actCh7 5 with tuning := some ⟨3, 9⟩, refFrame := 9 } [(F.ACT_CH_STATUS_STATE, 1, 0x52), (F.ACT_CH_STATUS_TUNE_PENDING, 1, 1), (F.ACT_CH_STATUS_ONU_ID, 1, 5), (F.UBE_CH_PROF1_VALID, 1, 1), (F.UBE_CH_PROF1_RATE, 1, 2)], 1, 3, 9, by unfold SimmerOff; decide +kernel⟩,
   ⟨actS 7 (actCh7 1) [(F.ACT_CH_STATUS_STATE, 7, 0x40), (F.ACT_CH_STATUS_ONU_ID, 7, 5)], 7, by unfold SimmerOff; decide +kernel⟩,
   ⟨actS 7 (actCh7 2) [(F.ACT_CH_STATUS_STATE, 7, 0x60), (F.ACT_CH_STATUS_ONU_ID, 7, 5)], 7, by unfold ContextAlone SimmerOff; decide +kernel⟩,
   ⟨actS 7 { actCh7 5 with tuning := some ⟨3, 9⟩ } [(F.ACT_CH_STATUS_STATE, 7, 0x52)], 7, by unfold SimmerOff; decide +kernel⟩,
   ⟨State.reset, 7, 5, by decide +kernel⟩⟩

/-- States and operands that meet the hypotheses of ParkingAndActCommands, clause by clause. -/
theorem test_meets_ParkingAndActCommands :
    (∃ (s : State) (c : Nat) (at' : Int), s.act_st c = 0x51 ∧ s.fld F.ACT_CH_STATUS_PARK_PENDING c = 1 ∧ (s.actCh c).parkDue = some at' ∧ at' ≤ s.lin ∧ SimmerOff s) ∧
    (∃ (s : State) (c : Nat) (at' : Int), (s.actCh c).parkDue = some at' ∧ s.lin < at') ∧
    (∃ (s : State) (c : Nat) (fu : Nat), (s.actCh c).unparkAt = some fu ∧ s.reached c fu = false) ∧
    (∃ (s : State) (c : Nat) (fu : Nat), s.act_st c = 0x53 ∧ (s.actCh c).unparkAt = some fu ∧ s.reached c fu = true ∧ s.fld F.ACT_CH_STATUS_MEMBER c = 1 ∧ s.onActive c = true ∧ s.member c = 0 ∧ SimmerOff s) ∧
    (∃ (s : State) (c : Nat) (f : Nat) (d : Desc) (x : Exchange) (m : Ploam), PloamHeard s c m ∧ s.act.exchange = some x ∧ x = ⟨c, true, false, some d, x.start⟩ ∧ s.parkOverdue x = false ∧ s.reached c f = false ∧ s.member c = 1) ∧
    (∃ (s : State) (c : Nat) (d : Desc) (x : Exchange) (m : Ploam), PloamHeard s c m ∧ s.act.exchange = some x ∧ x = ⟨c, x.park, false, some d, x.start⟩ ∧ s.parkOverdue x = false) ∧
    (∃ (s : State) (c : Nat) (m : Ploam), PloamHeard s c m ∧ s.act.exchange = none ∧ s.act.timedOut.find? (fun x => x.chan == c) = none) ∧
    (∃ (s : State) (c : Nat) (x : Exchange) (m : Ploam), PloamHeard s c m ∧ s.act.exchange = none ∧ s.act.timedOut.find? (fun x => x.chan == c) = some x) ∧
    (∃ (s : State) (c : Nat) (d : Desc) (x : Exchange), s.act.exchange = some x ∧ x = ⟨c, x.park, x.own, some d, x.start⟩ ∧ s.parkOverdue x = true) ∧
    (∃ (s : State), s.act.exchange = none) ∧
    (∃ (s : State) (x : Exchange), s.act.exchange = some x ∧ s.ltb.lc < x.start + 1244160 * max 1 (s.fld F.ACT_PARK_CFG_AGREE_MS 0)) ∧
    (∃ (s : State) (c : Nat) (m : Ploam), PloamHeard s c m ∧ s.act_st c = 0x51 ∧ s.member c = 0) ∧
    (∃ (s : State) (c : Nat) (m : Ploam), PloamHeard s c m ∧ s.act_st c = 0x53) ∧
    (∃ (s : State), s.act.window = none) ∧
    (∃ (s : State) (w : LoadWindow), s.act.window = some w ∧ (s.fld (engRunning 3) 0 = 0 ∨ s.ltb.lc < w.start + 12441600 * w.units)) ∧
    (∃ (s : State) (w : LoadWindow), s.act.window = some w ∧ WindowOver s w ∧ 0 < s.windowLoad w ∧ s.fld F.ACT_PARK_LOAD_LOW_PCT 0 < s.fld F.ACT_PARK_LOAD_HIGH_PCT 0 ∧ s.fld F.ACT_PARK_LOAD_HIGH_PCT 0 ≤ 100 ∧ ((∀ c < 4, s.act_st c ≠ 0x51)) ∧ s.act_st 0 = 0x53 ∧ 0 ∉ s.act.waiting) ∧
    (∃ (s : State) (w : LoadWindow), s.act.window = some w ∧ WindowOver s w ∧ s.windowLoad w = 0 ∧ 0 < w.units ∧ 0 < s.fld F.ACT_PARK_LOAD_LOW_PCT 0 ∧ s.fld F.ACT_PARK_LOAD_LOW_PCT 0 < s.fld F.ACT_PARK_LOAD_HIGH_PCT 0 ∧ s.fld F.ACT_PARK_LOAD_HIGH_PCT 0 ≤ 100 ∧ s.act_st 0 = 0x51 ∧ s.act_st 1 = 0x51 ∧ s.act_st 2 ≠ 0x51 ∧ s.act_st 3 ≠ 0x51 ∧ s.member 0 ≠ 0 ∧ s.member 1 ≠ 0 ∧ s.tc = 0 ∧ s.fld F.ACT_PARK_CFG_MIN_ACTIVE 0 ≤ 1 ∧ 1 ∉ s.act.waiting) ∧
    (∃ (s : State) (w : LoadWindow), s.act.window = some w ∧ s.fld (engRunning 3) 0 ≠ 0 ∧ w.start + 12441600 * w.units ≤ s.ltb.lc ∧ (s.act.exchange.isSome = true ∨ s.prtSteady = false)) ∧
    (∃ (s : State) (d : Desc), d.opcode = 0x1001 ∧ d.buf = true ∧ 36 ≤ d.bufLen ∧ ((∀ c < 8, s.act_st c = 0))) ∧
    (∃ (s : State) (d : Desc), d.opcode = 0x1003 ∧ d.dw 5 < 16 ∧ s.hif.part = .lk9540) ∧
    (∃ (s : State) (d : Desc), d.opcode = 0x1004 ∧ bit (d.dw 5) 8 = true ∧ s.hasChannel (bits (d.dw 5) 2 0) = true ∧ s.act_st (bits (d.dw 5) 2 0) = 0x51 ∧ s.act.exchange = none ∧ s.prtSteady = true ∧ s.onActive (bits (d.dw 5) 2 0) = true ∧ s.member (bits (d.dw 5) 2 0) ≠ 0 ∧ s.fld F.ACT_CH_STATUS_PARK_PENDING (bits (d.dw 5) 2 0) = 0 ∧ s.minActive < s.membersUp) ∧
    (∃ (s : State) (d : Desc), d.opcode = 0x1004 ∧ bit (d.dw 5) 8 = true ∧ s.hasChannel (bits (d.dw 5) 2 0) = true ∧ s.act_st (bits (d.dw 5) 2 0) = 0x51 ∧ (s.act.exchange.isSome = true ∨ s.prtSteady = false)) ∧
    (∃ (s : State) (d : Desc), d.opcode = 0x1004 ∧ bit (d.dw 5) 8 = false ∧ s.hasChannel (bits (d.dw 5) 2 0) = true ∧ s.act_st (bits (d.dw 5) 2 0) = 0x53 ∧ s.act.exchange = none ∧ s.prtSteady = true) ∧
    (∃ (s : State) (d : Desc), d.opcode = 0x1004 ∧ bit (d.dw 5) 8 = false ∧ s.hasChannel (bits (d.dw 5) 2 0) = true ∧ s.act_st (bits (d.dw 5) 2 0) ≠ 0x53) ∧
    (∃ (d : Desc), d.opcode = 0x1005 ∧ d.buf = true ∧ 256 ≤ d.bufLen) ∧
    (∃ (s : State) (d : Desc), d.opcode = 0x1006 ∧ d.buf = true ∧ 512 ≤ d.bufLen ∧ s.hasChannel (bits (d.dw 5) 2 0) = true) :=
  ⟨⟨actS 7 { actCh7 0 with parkAt := some 5, parkDue := some 0 } [(F.ACT_CH_STATUS_STATE, 7, 0x51), (F.ACT_CH_STATUS_PARK_PENDING, 7, 1)], 7, 0, by unfold SimmerOff; decide +kernel⟩,
   ⟨actS 7 { actCh7 0 with parkDue := some 9 } [], 7, 9, by decide +kernel⟩,
   ⟨actS 2 { actCh7 0 with unparkAt := some 5 } [(F.ACT_CH_STATUS_STATE, 2, 0x53)], 2, 5, by decide +kernel⟩,
   ⟨actS 2 { actCh7 0 with unparkAt := some 5, refFrame := 5 } [(F.ACT_CH_STATUS_STATE, 2, 0x53), (F.ACT_CH_STATUS_MEMBER, 2, 1), (F.ACT_STATUS_PATH, 0, 1)], 2, 5, by unfold SimmerOff; decide +kernel⟩,
   ⟨xchS (xchg true) (st [eng0, (F.ACT_CH_STATUS_STATE, 2, 0x51), (F.DSF_BOND_STATUS_MSTATE, 0, 0x55), (F.ACT_STATUS_PATH, 0, 1)]), 2, 5, cmdD 0x1004 [0x102], xchg true, mSn, by unfold PloamHeard; decide +kernel⟩,
   ⟨xchS (xchg true) (st [eng0]), 2, cmdD 0x1004 [0x102], xchg true, mSn, by unfold PloamHeard; decide +kernel⟩,
   ⟨st [eng0], 2, mSn, by unfold PloamHeard; decide +kernel⟩,
   ⟨(let u := st [eng0]; { u with act := { u.act with timedOut := [{ xchg true with desc := none }] } }), 2, { xchg true with desc := none }, mSn, by unfold PloamHeard; decide +kernel⟩,
   ⟨(let u := xchS (xchg true) State.reset; { u with ltb := { u.ltb with lc := 622080000 } }), 2, cmdD 0x1004 [0x102], xchg true, by decide +kernel⟩,
   ⟨State.reset, by decide +kernel⟩,
   ⟨xchS (xchg true) State.reset, xchg true, by decide +kernel⟩,
   ⟨actS 2 { actCh7 0 with refFrame := 3 } [eng0, (F.ACT_CH_STATUS_STATE, 2, 0x51)], 2, mSn, by unfold PloamHeard; decide +kernel⟩,
   ⟨actS 2 { actCh7 0 with refFrame := 3 } [eng0, (F.ACT_CH_STATUS_STATE, 2, 0x53)], 2, mSn, by unfold PloamHeard; decide +kernel⟩,
   ⟨State.reset, by decide +kernel⟩,
   ⟨(let u := State.reset; { u with act := { u.act with window := some ⟨0, 1, [0, 0, 0, 0]⟩ } }), ⟨0, 1, [0, 0, 0, 0]⟩, by decide +kernel⟩,
   ⟨(let u := st [(F.HIF_ENGINE_STATUS_RUNNING3, 0, 1), (F.ACT_PARK_CFG_EN, 0, 1), (F.ACT_STATUS_PATH, 0, 1), (F.ACT_PARK_LOAD_LOW_PCT, 0, 0), (F.ACT_PARK_LOAD_HIGH_PCT, 0, 100), (F.ACT_CH_STATUS_STATE, 0, 0x53), (F.ACT_CH_STATUS_MEMBER, 0, 1)]; { u with act := { u.act with window := some ⟨0, 1, [0, 0, 0, 0]⟩ }, ltb := { u.ltb with lc := 12441600 }, tmg := { u.tmg with chBytes := [(0, 7)] } }), ⟨0, 1, [0, 0, 0, 0]⟩, by unfold WindowOver; decide +kernel⟩,
   ⟨(let u := st [(F.HIF_ENGINE_STATUS_RUNNING3, 0, 1), (F.ACT_PARK_CFG_EN, 0, 1), (F.ACT_STATUS_PATH, 0, 1), (F.ACT_PARK_LOAD_LOW_PCT, 0, 10), (F.ACT_PARK_LOAD_HIGH_PCT, 0, 100), (F.ACT_CH_STATUS_STATE, 0, 0x51), (F.ACT_CH_STATUS_STATE, 1, 0x51), (F.DSF_BOND_STATUS_MSTATE, 0, 5)]; { u with act := { u.act with window := some ⟨0, 1, [0, 0, 0, 0]⟩ }, ltb := { u.ltb with lc := 12441600 } }), ⟨0, 1, [0, 0, 0, 0]⟩, by unfold WindowOver; decide +kernel⟩,
   ⟨(let u := xchS (xchg true) (st [(F.HIF_ENGINE_STATUS_RUNNING3, 0, 1)]); { u with act := { u.act with window := some ⟨0, 1, [0, 0, 0, 0]⟩ }, ltb := { u.ltb with lc := 12441600 } }), ⟨0, 1, [0, 0, 0, 0]⟩, by decide +kernel⟩,
   ⟨State.reset, cmdB 0x1001 [1, 2] 36 [9, 8, 7], by decide +kernel⟩,
   ⟨st [(F.ACT_STATUS_PATH, 0, 1), (F.ACT_CH_STATUS_MEMBER, 1, 1)], cmdD 0x1003 [15], by decide +kernel⟩,
   ⟨st [(F.ACT_STATUS_PATH, 0, 1), (F.ACT_CH_STATUS_STATE, 0, 0x51), (F.ACT_CH_STATUS_STATE, 1, 0x51), (F.DSF_BOND_STATUS_MSTATE, 0, 5)], cmdD 0x1004 [0x101], by decide +kernel⟩,
   ⟨xchS (xchg true) (st [(F.ACT_CH_STATUS_STATE, 1, 0x51)]), cmdD 0x1004 [0x101], by decide +kernel⟩,
   ⟨st [(F.ACT_CH_STATUS_STATE, 1, 0x53)], cmdD 0x1004 [1], by decide +kernel⟩,
   ⟨State.reset, cmdD 0x1004 [1], by decide +kernel⟩,
   ⟨cmdB 0x1005 [] 256 [], by decide +kernel⟩,
   ⟨actS 7 { actChEmpty with allocs := [9, 7, 8] } [], cmdB 0x1006 [7] 512 [], by decide +kernel⟩⟩

/-- States and operands that meet the hypotheses of PathProtection, clause by clause. -/
theorem test_meets_PathProtection :
    (∃ (s : State), PrtWorking s ∧ s.prt.localReqs = [] ∧ s.prtBlind = false ∧ s.prt.skipPs = 0 ∧ s.ltb.cycle = 0 ∧ s.prt.psLc ≠ some s.ltb.lc ∧ ((∀ p < 2, s.pathPresent p = true ∧ (s.path p).missKa < max 1 (s.fld F.PRT_HB_CFG_MISS_KA 0)))) ∧
    (∃ (s : State), PrtWorking s ∧ s.prt.localReqs = [] ∧ s.prtBlind = false ∧ s.prt.skipPs = 0 ∧ s.ltb.cycle = 0 ∧ s.prt.psLc ≠ some s.ltb.lc ∧ s.pathPresent 0 = false ∧ max 1 (s.fld F.PRT_HB_CFG_MISS_PSYNC 0) ≤ (s.path 0).missPs + 1 ∧ s.pathPresent 1 = true ∧ (s.path 1).missKa < max 1 (s.fld F.PRT_HB_CFG_MISS_KA 0)) ∧
    (∃ (s : State), PrtWorking s ∧ s.prt.localReqs = [] ∧ s.prtBlind = false ∧ s.prt.skipKa = 0 ∧ s.prt.kaFrom + s.kaLc ≤ s.ltb.lc ∧ ((∀ p < 2, (s.path p).alive = true ∧ (s.path p).missPs < max 1 (s.fld F.PRT_HB_CFG_MISS_PSYNC 0)))) ∧
    (∃ (s : State), (s.prtState = 0 ∨ s.prtBlind = true ∨ s.ltb.cycle ≠ 0)) ∧
    (∃ (s : State), (s.prtState = 0 ∨ s.ltb.lc < s.prt.kaFrom + s.kaLc)) ∧
    (∃ (s : State), s.prtState ≠ 0 ∧ s.prt.kaFrom + s.kaLc ≤ s.ltb.lc ∧ s.prtBlind = true) ∧
    (∃ (s : State), s.fld F.PRT_SB_CFG_PRERANGE 0 = 0) ∧
    (∃ (s : State) (k : Nat), k < 4 ∧ s.fld F.PRT_SB_CFG_PRERANGE 0 ≠ 0 ∧ s.prtState ≠ 0 ∧ s.fld F.ACT_STATUS_PATH 0 = 1 ∧ s.act_st k = 0x51 ∧ s.act_st (4 + k) = 0x54 ∧ s.fld F.LTB_CH_OFS_VALID k ≠ 0 ∧ s.fld F.LTB_CH_OFS_VALID (4 + k) ≠ 0 ∧ s.standbyEqd k % 65536 = 0 ∧ 0 ≤ s.standbyEqd k ∧ s.standbyEqd k < 2 ^ 40) ∧
    (∃ (s : State), (s.prtState ≠ 4 ∨ s.prt.passed = true ∨ stampLe (stampOf s.prt.f1 0) s.stamp = false)) ∧
    (∃ (s : State), s.prtState = 4 ∧ s.prt.passed = false ∧ stampLe (stampOf s.prt.f1 0) s.stamp = true ∧ s.prt.newPath = 1 ∧ s.fld F.ACT_STATUS_PATH 0 = 1 ∧ s.dsf.held = [] ∧ s.dsf.losses = [] ∧ s.linkOk = false ∧ s.tstate ≠ 0 ∧ SimmerOff s ∧ ((∀ c < 4, s.act_st c = 0 ∧ s.txState c = 0)) ∧ ((∀ c < 8, s.fld F.ACT_CH_STATUS_MEMBER c = 0))) ∧
    (∃ (s : State), s.prtState = 3 ∧ s.fld F.ACT_STATUS_PATH 0 = 2 ∧ s.workPath = 0 ∧ (s.path 0).remote = none ∧ (s.path 1).remote = none ∧ s.sf 0 = false ∧ s.sf 1 = false ∧ s.prt.exercise = none ∧ s.prt.waiters = [] ∧ s.prt.localReqs = [] ∧ s.act.exchange = none ∧ s.prt.wtrLen * 1244160000 ≤ s.ltb.lc - s.prt.wtrFrom) ∧
    (∃ (s : State), (s.prtState ≠ 3 ∨ s.ltb.lc - s.prt.wtrFrom < s.prt.wtrLen * 1244160000)) ∧
    (∃ (s : State) (ms : Nat) (start : Nat), s.prt.exercise = some (ms, start) ∧ s.prtState = 5 ∧ ms ≤ s.msSince start ∧ s.act.exchange = none ∧ s.prt.waiters = []) ∧
    (∃ (s : State), s.prt.exercise = none) :=
  ⟨⟨(let u := prtS []; { u with prt := { u.prt with paths := [(0, ⟨[999], true, 0, 0, 1, 1, none⟩), (1, ⟨[999], true, 0, 0, 1, 1, none⟩)] }, ltb := { u.ltb with lc := 1000 } }), by unfold PrtWorking; decide +kernel⟩,
   ⟨(let u := prtS [(F.PRT_HB_CFG_MISS_PSYNC, 0, 3)]; { u with prt := { u.prt with paths := [(0, ⟨[], true, 2, 0, 1, 1, none⟩), (1, ⟨[999], true, 0, 0, 1, 1, none⟩)] }, ltb := { u.ltb with lc := 1000 } }), by unfold PrtWorking; decide +kernel⟩,
   ⟨(let u := prtS []; { u with prt := { u.prt with paths := [(0, ⟨[], true, 0, 0, 1, 1, none⟩), (1, ⟨[], true, 0, 0, 1, 1, none⟩)] }, ltb := { u.ltb with lc := 12441600000 } }), by unfold PrtWorking; decide +kernel⟩,
   ⟨State.reset, by decide +kernel⟩,
   ⟨State.reset, by decide +kernel⟩,
   ⟨(let u := prtS [(F.PWR_STATUS_RX_DARK, 0, 1)]; { u with ltb := { u.ltb with lc := 12441600000 } }), by decide +kernel⟩,
   ⟨st [(F.PRT_SB_CFG_PRERANGE, 0, 0)], by decide +kernel⟩,
   ⟨{ st [(F.PRT_STATUS_STATE, 0, 1), (F.ACT_STATUS_PATH, 0, 1), (F.PRT_SB_CFG_PRERANGE, 0, 1), (F.ACT_CH_STATUS_STATE, 3, 0x51), (F.ACT_CH_STATUS_STATE, 7, 0x54), (F.LTB_CH_OFS_VALID, 3, 1), (F.LTB_CH_OFS_VALID, 7, 1), (F.ACT_CH_EQD_EQD, 3, 5000)] with act := { State.reset.act with chans := [(3, actCh7 0)] } }, 3, by decide +kernel⟩,
   ⟨State.reset, by decide +kernel⟩,
   ⟨{ st [(F.PRT_STATUS_STATE, 0, 4), (F.ACT_STATUS_PATH, 0, 1), (F.ACT_CH_STATUS_STATE, 4, 0x54), (F.DSF_BOND_STATUS_MSTATE, 0, 0x55)] with prt := { State.reset.prt with newPath := 1, held := 0xFF } }, by unfold SimmerOff; decide +kernel⟩,
   ⟨{ st [(F.PRT_STATUS_STATE, 0, 3), (F.ACT_STATUS_PATH, 0, 2)] with prt := { State.reset.prt with wtrLen := 0 } }, by decide +kernel⟩,
   ⟨{ st [(F.PRT_STATUS_STATE, 0, 3), (F.ACT_STATUS_PATH, 0, 2)] with prt := { State.reset.prt with wtrLen := 1 } }, by decide +kernel⟩,
   ⟨{ st [(F.PRT_STATUS_STATE, 0, 5), (F.ACT_STATUS_PATH, 0, 2)] with prt := { State.reset.prt with exercise := some (1, 0) }, ltb := { State.reset.ltb with lc := 1244160 } }, 1, 0, by decide +kernel⟩,
   ⟨State.reset, by decide +kernel⟩⟩

/-- States and operands that meet the hypotheses of ProtectionAndChannelCommands, clause by clause. -/
theorem test_meets_ProtectionAndChannelCommands :
    (∃ (s : State) (v : Word), s.prtState = 0 ∧ s.fld F.ACT_STATUS_PATH 0 = 1 ∧ s.fld F.PRT_CFG_EN 0 = 0 ∧ bit v.toNat 31 = true ∧ bit v.toNat 8 = false ∧ s.fld F.PRT_SB_CFG_PRERANGE 0 ≠ 1 ∧ ((∀ c, 4 ≤ c → c < 8 → s.act_st c = 0 ∧ s.fld F.LLN_RX_CFG_EN c ≠ 1))) ∧
    (∃ (s : State) (v : Word), s.prtState ≠ 0 ∧ s.fld F.PRT_CFG_EN 0 = 1 ∧ bit v.toNat 31 = true) ∧
    (∃ (s : State) (d : Desc) (i : Instr), d.opcode = 0x3401 ∧ s.prtState = 0 ∧ (prtCode d, i) ∈ [(0x10, Instr.lockout d), (0x11, .forcedSwitch d), (0x14, .manualSwitch d), (0x16, .clear d)]) ∧
    (∃ (d : Desc) (i : Instr), d.opcode = 0x3401 ∧ prtCode d ∉ [0x10, 0x11, 0x14, 0x15, 0x16] ∧ i ∈ [Instr.lockout d, .forcedSwitch d, .manualSwitch d, .exercise d, .clear d]) ∧
    (∃ (s : State) (d : Desc), d.opcode = 0x3401 ∧ prtCode d = 0x10 ∧ PrtWorking s ∧ s.prt.localReqs = [] ∧ s.fld F.PRT_STATUS_REQ 0 ≤ 8) ∧
    (∃ (s : State) (d : Desc), d.opcode = 0x3401 ∧ prtCode d = 0x11 ∧ bits (d.dw 5) 8 8 = 1 ∧ PrtWorking s ∧ s.prt.localReqs = [] ∧ s.fld F.PRT_STATUS_REQ 0 ≤ 6) ∧
    (∃ (s : State) (d : Desc), d.opcode = 0x3401 ∧ prtCode d = 0x14 ∧ bits (d.dw 5) 8 8 = 1 ∧ PrtWorking s ∧ s.prt.localReqs = [] ∧ s.fld F.PRT_STATUS_REQ 0 ≤ 3 ∧ s.fld F.PRT_STATUS_SB_UP_FAULT 0 = 0) ∧
    (∃ (s : State) (d : Desc), d.opcode = 0x3401 ∧ prtCode d = 0x14 ∧ s.prtState ≠ 0 ∧ s.sf (bits (d.dw 5) 8 8) = true) ∧
    (∃ (s : State) (d : Desc), d.opcode = 0x3401 ∧ prtCode d = 0x15 ∧ 1 ≤ d.dw 6 ∧ d.dw 6 ≤ 60000 ∧ PrtWorking s ∧ s.prt.localReqs = [] ∧ s.fld F.PRT_STATUS_REQ 0 ≤ 1 ∧ s.fld F.PRT_STATUS_SB_UP_FAULT 0 = 0 ∧ s.allStandby = true) ∧
    (∃ (d : Desc), d.opcode = 0x3401 ∧ prtCode d = 0x15 ∧ ((d.dw 6 = 0 ∨ 60000 < d.dw 6))) ∧
    (∃ (s : State) (d : Desc), d.opcode = 0x3401 ∧ prtCode d = 0x16 ∧ PrtWorking s ∧ s.fld F.PRT_STATUS_REQ 0 ≤ 8) ∧
    (∃ (s : State) (d : Desc) (c : Nat), d.opcode = 0x1002 ∧ bit (d.dw 5) 8 = true ∧ c = bits (d.dw 5) 2 0 ∧ s.hasChannel c = true ∧ s.act_st c = 0 ∧ ((s.fld F.ACT_STATUS_PATH 0 = 0 ∨ s.fld F.ACT_STATUS_PATH 0 = 1 + c / 4)) ∧ s.fld F.PRT_CFG_EN 0 = 0 ∧ s.prtState = 0 ∧ s.inSync c = false ∧ s.fld F.ACT_CH_STATUS_ESTOP c = 0 ∧ SimmerOff s) ∧
    (∃ (s : State) (d : Desc) (c : Nat), d.opcode = 0x1002 ∧ bit (d.dw 5) 8 = true ∧ c = bits (d.dw 5) 2 0 ∧ s.hasChannel c = true ∧ s.act_st c ≠ 0) ∧
    (∃ (s : State) (d : Desc) (c : Nat), d.opcode = 0x1002 ∧ bit (d.dw 5) 8 = true ∧ c = bits (d.dw 5) 2 0 ∧ s.hasChannel c = true ∧ s.act_st c = 0 ∧ s.fld F.ACT_STATUS_PATH 0 ≠ 0 ∧ s.fld F.ACT_STATUS_PATH 0 ≠ 1 + c / 4) ∧
    (∃ (s : State) (d : Desc) (c : Nat), d.opcode = 0x1002 ∧ bit (d.dw 5) 8 = false ∧ c = bits (d.dw 5) 2 0 ∧ s.hasChannel c = true ∧ s.act_st c = 0x11 ∧ ((∀ k < 8, k ≠ c → s.act_st k = 0)) ∧ s.fld F.PRT_CFG_EN 0 = 0 ∧ s.prtState = 0 ∧ ContextAlone s c) ∧
    (∃ (s : State) (d : Desc) (c : Nat), d.opcode = 0x1002 ∧ bit (d.dw 5) 8 = false ∧ c = bits (d.dw 5) 2 0 ∧ s.hasChannel c = true ∧ s.act_st c = 0) :=
  ⟨⟨st [(F.ACT_STATUS_PATH, 0, 1), (F.PRT_SB_CFG_PRERANGE, 0, 0), (F.PRT_CFG_EN, 0, 0)], 0x80000000, by decide +kernel⟩,
   ⟨st [(F.PRT_STATUS_STATE, 0, 1), (F.PRT_CFG_EN, 0, 1), (F.PRT_STATUS_SB_UP_FAULT, 0, 1)], 0x80000001, by decide +kernel⟩,
   ⟨State.reset, cmdD 0x3401 [0x16], .clear (cmdD 0x3401 [0x16]), by decide +kernel⟩,
   ⟨cmdD 0x3401 [0x12], .lockout (cmdD 0x3401 [0x12]), by decide +kernel⟩,
   ⟨prtS [(F.PRT_STATUS_REQ, 0, 8)], cmdD 0x3401 [0x10], by unfold PrtWorking; decide +kernel⟩,
   ⟨prtS [(F.PRT_STATUS_REQ, 0, 6)], cmdD 0x3401 [0x111], by unfold PrtWorking; decide +kernel⟩,
   ⟨prtS [(F.PRT_STATUS_REQ, 0, 3)], cmdD 0x3401 [0x114], by unfold PrtWorking; decide +kernel⟩,
   ⟨prtS [(F.PRT_STATUS_SF_B, 0, 1)], cmdD 0x3401 [0x114], by decide +kernel⟩,
   ⟨prtS [(F.PRT_STATUS_REQ, 0, 1)], cmdD 0x3401 [0x15, 60000], by unfold PrtWorking; decide +kernel⟩,
   ⟨cmdD 0x3401 [0x15, 60001], by decide +kernel⟩,
   ⟨{ (prtS [(F.PRT_STATUS_REQ, 0, 8)]) with prt := { State.reset.prt with localReqs := [(0x10, (0, 5))] } }, cmdD 0x3401 [0x16], by unfold PrtWorking; decide +kernel⟩,
   ⟨State.reset, cmdD 0x1002 [0x107], 7, by unfold SimmerOff; decide +kernel⟩,
   ⟨st [(F.ACT_CH_STATUS_STATE, 7, 0x11)], cmdD 0x1002 [0x107], 7, by decide +kernel⟩,
   ⟨st [(F.ACT_STATUS_PATH, 0, 1)], cmdD 0x1002 [0x107], 7, by decide +kernel⟩,
   ⟨st [(F.ACT_STATUS_PATH, 0, 2), (F.ACT_CH_STATUS_STATE, 7, 0x11)], cmdD 0x1002 [7], 7, by unfold ContextAlone SimmerOff; decide +kernel⟩,
   ⟨State.reset, cmdD 0x1002 [7], 7, by decide +kernel⟩⟩

/-- States and operands that meet the hypotheses of HostPortFrames, clause by clause. -/
theorem test_meets_HostPortFrames :
    (∃ (s : State) (p : Nat), s.portUp p = false) ∧
    (∃ (s : State) (p : Nat) (b : List Nat), s.portUp p = true ∧ s.listen p = 0 ∧ 64 ≤ b.length ∧ b.length ≤ s.maxFrame p ∧ be16 b 12 ≠ 0x8808 ∧ s.fld F.HPM_P_CFG_TS_EN p = 0 ∧ s.fld F.CPH_P_CFG_VALIDATE p = 0) ∧
    (∃ (s : State) (p : Nat) (b : List Nat), s.portUp p = true ∧ s.listen p = 0 ∧ 64 ≤ b.length ∧ b.length ≤ s.maxFrame p) ∧
    (∃ (s : State) (p : Nat) (b : List Nat), s.portUp p = true ∧ s.listen p = 0 ∧ b.length < 64) ∧
    (∃ (s : State) (p : Nat) (b : List Nat), s.portUp p = true ∧ s.listen p = 0 ∧ s.maxFrame p < b.length) ∧
    (∃ (s : State) (p : Nat) (b : List Nat), s.portUp p = true ∧ s.listen p = 0 ∧ 64 ≤ b.length ∧ b.length ≤ s.maxFrame p ∧ be16 b 12 = 0x8808 ∧ be16 b 14 = 1 ∧ s.fcMode p = 1 ∧ s.ctrlForUs p b = true ∧ be16 b 16 ≠ 0) ∧
    (∃ (s : State) (p : Nat) (k : Nat) (b : List Nat), p < 4 ∧ s.portUp p = true ∧ s.listen p = 1 ∧ 64 ≤ b.length ∧ b.length ≤ s.maxFrame p ∧ be16 b 12 ≠ 0x8808 ∧ s.wakeMatch p b = some k ∧ s.simmer < 3) ∧
    (∃ (s : State) (p : Nat) (i : Nat) (e : Nat), SMap.find (s.hport p).timers i = some e ∧ e ≤ s.ltb.lc) ∧
    (∃ (s : State) (p : Nat) (i : Nat) (e : Nat), SMap.find (s.hport p).timers i = some e ∧ s.ltb.lc < e) ∧
    (∃ (s : State) (p : Nat), s.fcGenerates p = true ∧ s.fcMode p = 1 ∧ s.fld F.HPM_P_FC_STATUS_TX_XOFF p ≠ 0 ∧ (s.hport p).ctrlLc + s.refreshLc p ≤ s.ltb.lc) ∧
    (∃ (s : State) (p : Nat), (s.fld F.HPM_P_FC_STATUS_TX_XOFF p = 0 ∨ s.ltb.lc < (s.hport p).ctrlLc + s.refreshLc p)) :=
  ⟨⟨State.reset, 1, by decide +kernel⟩,
   ⟨hpmS 4 [(F.CPH_P_CFG_VALIDATE, 1, 0)], 1, List.replicate 64 0, by decide +kernel⟩,
   ⟨hpmS 4 [], 1, List.replicate 64 0, by decide +kernel⟩,
   ⟨hpmS 4 [], 1, List.replicate 63 0, by decide +kernel⟩,
   ⟨hpmS 4 [(F.HPM_P_CFG_MAX_FRAME, 1, 64)], 1, List.replicate 65 0, by decide +kernel⟩,
   ⟨hpmS 4 [(F.HPM_P_CFG_FC_MODE, 1, 1)], 1, pauseFrm, by decide +kernel⟩,
   ⟨{ (hpmS 4 [(F.HPM_STATUS_LISTEN, 0, 4), (F.HPM_P_WAKE_CFG_PATTERNS, 1, 0x80)]) with hpm := [(1, { hportEmpty with patterns := [(7, ⟨[], crc32c [], 0⟩)] })] }, 1, 7, List.replicate 64 0, by decide +kernel⟩,
   ⟨{ (hpmS 4 [(F.HPM_P_FC_STATUS_PAUSED, 1, 0xFF)]) with hpm := [(1, { hportEmpty with timers := [(2, 100), (8, 50)] })], ltb := { State.reset.ltb with lc := 50 } }, 1, 8, 50, by decide +kernel⟩,
   ⟨{ (hpmS 4 [(F.HPM_P_FC_STATUS_PAUSED, 1, 0xFF)]) with hpm := [(1, { hportEmpty with timers := [(2, 100), (8, 50)] })], ltb := { State.reset.ltb with lc := 49 } }, 1, 8, 50, by decide +kernel⟩,
   ⟨(let u := hpmS 4 [(F.HPM_P_CFG_FC_MODE, 1, 1), (F.HPM_P_CFG_TX_FC, 1, 1), (F.TMG_CFG_FC_EN, 0, 1), (F.HPM_P_FC_STATUS_TX_XOFF, 1, 0xFF), (F.HPM_P_FC_TX_TX_QUANTA, 1, 0)]; { u with ltb := { u.ltb with lc := 99999 } }), 1, by decide +kernel⟩,
   ⟨State.reset, 1, by decide +kernel⟩⟩

/-- States and operands that meet the hypotheses of HostPortLinksAndCommands, clause by clause. -/
theorem test_meets_HostPortLinksAndCommands :
    (∃ (s : State) (p : Nat) (skew : List Nat), p < 4 ∧ s.portState p = 3 ∧ s.listen p ≠ 1 ∧ skew.length = (s.lanesOf p).length ∧ ((∀ x ∈ skew, x ≤ 200)) ∧ s.ltb.lc ≤ (s.hostLane (s.firstLane p)).since + 12441600) ∧
    (∃ (s : State) (p : Nat) (lane : Nat) (x : Bool) (y : Bool), p < 4 ∧ s.portState p = 4 ∧ lane ∈ s.lanesOf p ∧ (x && y) = false ∧ s.listen p ≠ 1) ∧
    (∃ (s : State) (v : Word), s.hif.part = .lk9540 ∧ s.fld F.HPM_CFG_PORT_EN 0 = 0 ∧ bits v.toNat 9 8 = 2 ∧ ((∀ l < 8, s.fld F.HPM_SD_STATUS_STATE l = 0 ∧ bit (s.hostLane l).cfg 1 = true))) ∧
    (∃ (s : State) (v : Word), s.hif.part = .lk9540 ∧ s.fld F.HPM_CFG_PORT_EN 0 = 0 ∧ bits v.toNat 9 8 = 0 ∧ 1 < bits v.toNat 3 0) ∧
    (∃ (s : State) (d : Desc), d.opcode = 0x2801 ∧ d.buf = true ∧ 512 ≤ d.bufLen ∧ s.hasPort (d.dw 5 % 4) = true ∧ bit (d.dw 5) 8 = true) ∧
    (∃ (s : State) (d : Desc) (w : WakePat) (p : Nat) (k : Nat), d.opcode = 0x2802 ∧ bit (d.dw 5) 16 = true ∧ d.buf = true ∧ 64 ≤ d.bufLen ∧ wakeRecord (bufBytes d 0 64) = some w ∧ p = d.dw 5 % 4 ∧ k = bits (d.dw 5) 10 8 ∧ s.hasPort p = true ∧ s.listen p = 0) ∧
    (∃ (s : State) (d : Desc) (p : Nat) (k : Nat), d.opcode = 0x2802 ∧ bit (d.dw 5) 16 = false ∧ p = d.dw 5 % 4 ∧ k = bits (d.dw 5) 10 8 ∧ s.hasPort p = true ∧ s.listen p = 0) ∧
    (∃ (s : State) (d : Desc) (p : Nat), d.opcode = 0x2802 ∧ bit (d.dw 5) 16 = false ∧ p = d.dw 5 % 4 ∧ s.hasPort p = true ∧ s.listen p ≠ 0) ∧
    (∃ (s : State) (d : Desc), d.opcode = 0x0011 ∧ d.buf = true ∧ 64 ≤ d.bufLen ∧ d.bufLen ≤ s.dsMax ∧ bit (d.dw 5) 31 = false) ∧
    (∃ (s : State) (d : Desc), d.opcode = 0x0010 ∧ d.buf = true ∧ 64 ≤ d.bufLen ∧ d.bufLen ≤ s.dsMax ∧ bit (d.dw 5) 31 = false) ∧
    (∃ (d : Desc), d.opcode = 0x0011 ∧ d.bufLen < 64) ∧
    (∃ (d : Desc), d.opcode = 0x0010 ∧ d.bufLen < 64) ∧
    (∃ (s : State) (d : Desc), d.opcode = 0x0010 ∧ d.buf = true ∧ 64 ≤ d.bufLen ∧ d.bufLen ≤ s.dsMax ∧ bit (d.dw 5) 31 = true ∧ bits (d.dw 5) 14 0 < 8192 ∧ (s.queue (qKey 1 (bits (d.dw 5) 14 0))).st = 0) :=
  ⟨⟨hpmS 3 [], 1, [1, 2, 3, 4], by decide +kernel⟩,
   ⟨{ (hpmS 4 [(F.HPM_P_FC_STATUS_PAUSED, 1, 0xFF)]) with hpm := [(1, { hportEmpty with timers := [(8, 50)] })] }, 1, 7, true, false, by decide +kernel⟩,
   ⟨(let u := st [(F.HPM_CFG_PORT_EN, 0, 0)]; { u with lln := { u.lln with host := (List.range 8).map (fun l => (l, { hostLaneEmpty with cfg := 2 })) } }), 0x20B, by decide +kernel⟩,
   ⟨st [(F.HPM_CFG_PORT_EN, 0, 0)], 0x002, by decide +kernel⟩,
   ⟨{ (hpmS 4 []) with hpm := [(1, { hportEmpty with counters := [(0, 9)] })] }, cmdB 0x2801 [0x101] 512 [], by decide +kernel⟩,
   ⟨hpmS 4 [], cmdB 0x2802 [0x10701] 64 (List.replicate 16 0), ⟨List.replicate 16 0, 0, 0⟩, 1, 7, by decide +kernel⟩,
   ⟨hpmS 4 [(F.HPM_P_WAKE_CFG_PATTERNS, 1, 0xFF)], cmdD 0x2802 [0x701], 1, 7, by decide +kernel⟩,
   ⟨hpmS 4 [(F.HPM_STATUS_LISTEN, 0, 4)], cmdD 0x2802 [0x701], 1, by decide +kernel⟩,
   ⟨State.reset, cmdB 0x0011 [0] 64 (List.replicate 16 7), by decide +kernel⟩,
   ⟨State.reset, cmdB 0x0010 [0] 64 (List.replicate 16 7), by decide +kernel⟩,
   ⟨cmdB 0x0011 [0] 63 [], by decide +kernel⟩,
   ⟨cmdB 0x0010 [0] 63 [], by decide +kernel⟩,
   ⟨State.reset, cmdB 0x0010 [0x80000001] 64 (List.replicate 16 7), by decide +kernel⟩⟩

/-- States and operands that meet the hypotheses of SecureAssociations, clause by clause. -/
theorem test_meets_SecureAssociations :
    (∃ (s : State) (d : Desc) (n : Nat) (slot : Nat) (pn : Nat), d.opcode = 0x2C01 ∧ bit (d.dw 5) 31 = true ∧ n = bits (d.dw 5) 8 0 ∧ slot = bits (d.dw 6) 11 0 ∧ pn = d.dw 10 * 2 ^ 32 + d.dw 9 ∧ s.hif.part = .lk9540 ∧ 0x080 ≤ slot ∧ (s.slot slot).st ≠ 0 ∧ (s.slot slot).long = suiteLong (bits (d.dw 5) 27 26) ∧ bits (d.dw 6) 23 16 = 0 ∧ bits (d.dw 5) 30 30 = 1 ∧ (s.sa n).st = 0 ∧ (s.slot slot).floor ≤ pn ∧ pn ≤ lastPn (bits (d.dw 5) 27 26)) ∧
    (∃ (s : State) (d : Desc), d.opcode = 0x2C01 ∧ bit (d.dw 5) 31 = true ∧ s.hif.part = .lk9540 ∧ bits (d.dw 6) 11 0 < 0x080) ∧
    (∃ (s : State) (d : Desc) (n : Nat) (slot : Nat) (pn : Nat), d.opcode = 0x2C01 ∧ bit (d.dw 5) 31 = true ∧ n = bits (d.dw 5) 8 0 ∧ slot = bits (d.dw 6) 11 0 ∧ pn = d.dw 10 * 2 ^ 32 + d.dw 9 ∧ s.hif.part = .lk9540 ∧ 0x080 ≤ slot ∧ (s.slot slot).st ≠ 0 ∧ (s.slot slot).long = suiteLong (bits (d.dw 5) 27 26) ∧ bits (d.dw 6) 23 16 = 0 ∧ bits (d.dw 5) 30 30 = 1 ∧ (s.sa n).st = 0 ∧ pn < (s.slot slot).floor) ∧
    (∃ (s : State) (d : Desc) (n : Nat), d.opcode = 0x2C01 ∧ bit (d.dw 5) 31 = false ∧ n = bits (d.dw 5) 8 0 ∧ (s.sa n).st = 1 ∧ ((∀ p ∈ s.cph.sas, p.1 ≠ n → p.2.slot ≠ (s.sa n).slot))) ∧
    (∃ (s : State) (d : Desc) (n : Nat), d.opcode = 0x2C01 ∧ bit (d.dw 5) 31 = false ∧ n = bits (d.dw 5) 8 0 ∧ (s.sa n).st = 2) ∧
    (∃ (d : Desc), d.opcode = 0x2C02 ∧ d.buf = true ∧ 0 < bits (d.dw 6) 9 0 ∧ bits (d.dw 6) 9 0 * 64 ≤ d.bufLen ∧ bits (d.dw 5) 8 0 + bits (d.dw 6) 9 0 ≤ 512) ∧
    (∃ (s : State) (d : Desc) (n : Nat) (p : Nat), d.opcode = 0x2C03 ∧ n = bits (d.dw 5) 8 0 ∧ p = bits (d.dw 5) 21 20 ∧ s.noPort p = false ∧ (s.sa n).st = 1 ∧ (s.sa n).dir = 1 ∧ (s.sa n).port = p ∧ s.fld F.CPH_P_TXSA_VALID p = 0) ∧
    (∃ (s : State) (d : Desc) (n : Nat) (p : Nat) (o : Nat), d.opcode = 0x2C03 ∧ n = bits (d.dw 5) 8 0 ∧ p = bits (d.dw 5) 21 20 ∧ s.noPort p = false ∧ (s.sa n).st = 1 ∧ (s.sa n).dir = 1 ∧ (s.sa n).port = p ∧ s.fld F.CPH_P_TXSA_VALID p = 1 ∧ s.fld F.CPH_P_TXSA_SA p = o ∧ (s.sa o).st = 2) ∧
    (∃ (s : State) (d : Desc) (n : Nat), d.opcode = 0x2C03 ∧ n = bits (d.dw 5) 8 0 ∧ s.noPort (bits (d.dw 5) 21 20) = false ∧ (s.sa n).st ≠ 1) ∧
    (∃ (s : State) (d : Desc), d.opcode = 0x2C03 ∧ s.noPort (bits (d.dw 5) 21 20) = true) ∧
    (∃ (d : Desc), d.opcode = 0x2C04 ∧ 0 < bits (d.dw 6) 14 0 ∧ bits (d.dw 5) 13 0 + bits (d.dw 6) 14 0 ≤ 16384) ∧
    (∃ (d : Desc), d.opcode = 0x2C04 ∧ ((bits (d.dw 6) 14 0 = 0 ∨ 16384 < bits (d.dw 5) 13 0 + bits (d.dw 6) 14 0))) :=
  ⟨⟨cphS [] [], cmdD 0x2C01 [0xC0100005, 0x080, 1, 2, 5, 0], 5, 0x080, 5, by decide +kernel⟩,
   ⟨State.reset, cmdD 0x2C01 [0xC0100005, 0x07F], by decide +kernel⟩,
   ⟨cphS [] [], cmdD 0x2C01 [0xC0100005, 0x080, 1, 2, 4, 0], 5, 0x080, 4, by decide +kernel⟩,
   ⟨cphS [(5, sa0 1)] [], cmdD 0x2C01 [5], 5, by decide +kernel⟩,
   ⟨cphS [(5, sa0 2)] [], cmdD 0x2C01 [5], 5, by decide +kernel⟩,
   ⟨cmdB 0x2C02 [511, 1] 64 [], by decide +kernel⟩,
   ⟨cphS [(5, sa0 1)] [], cmdD 0x2C03 [0x00100005], 5, 1, by decide +kernel⟩,
   ⟨cphS [(5, sa0 1), (6, sa0 2)] [(F.CPH_P_TXSA_VALID, 1, 1), (F.CPH_P_TXSA_SA, 1, 6)], cmdD 0x2C03 [0x00100005], 5, 1, 6, by decide +kernel⟩,
   ⟨State.reset, cmdD 0x2C03 [0x00100005], 5, by decide +kernel⟩,
   ⟨{ State.reset with hif := { State.reset.hif with part := .lk9520 } }, cmdD 0x2C03 [0x00100005], by decide +kernel⟩,
   ⟨cmdD 0x2C04 [16383, 1, 2], by decide +kernel⟩,
   ⟨cmdD 0x2C04 [16383, 2, 2], by decide +kernel⟩⟩

/-- States and operands that meet the hypotheses of Keys, clause by clause. -/
theorem test_meets_Keys :
    (∃ (s : State) (d : Desc) (t0 : Nat) (w : Nat), d.opcode = 0x4401 ∧ t0 = bits (d.dw 5) 11 0 ∧ w = bits (d.dw 6) 11 0 ∧ w ≠ 0xFFF ∧ 0x041 ≤ t0 ∧ d.buf = true ∧ wrappedLen t0 (bit (d.dw 7) 0) (bit (d.dw 7) 1) ≤ d.bufLen ∧ wrapMatches t0 w = true ∧ (s.slot t0).st = 0 ∧ (s.slot w).st ≠ 0) ∧
    (∃ (s : State) (d : Desc) (t0 : Nat) (w : Nat), d.opcode = 0x4401 ∧ t0 = bits (d.dw 5) 11 0 ∧ w = bits (d.dw 6) 11 0 ∧ w ≠ 0xFFF ∧ 0x041 ≤ t0 ∧ d.buf = true ∧ wrappedLen t0 (bit (d.dw 7) 0) (bit (d.dw 7) 1) ≤ d.bufLen ∧ wrapMatches t0 w = true ∧ (s.slot t0).st = 0 ∧ (s.slot w).st ≠ 0) ∧
    (∃ (d : Desc), (bits (d.dw 6) 11 0 = 0xFFF ∨ bits (d.dw 5) 11 0 < 0x041)) ∧
    (∃ (s : State) (d : Desc) (n : Nat), d.opcode = 0x4402 ∧ bit (d.dw 5) 31 = false ∧ n = bits (d.dw 5) 11 0 ∧ 0x041 ≤ n ∧ (s.slot n).st = 1) ∧
    (∃ (s : State) (d : Desc) (n : Nat), d.opcode = 0x4402 ∧ bit (d.dw 5) 31 = false ∧ n = bits (d.dw 5) 11 0 ∧ 0x041 ≤ n ∧ (s.slot n).st = 2) ∧
    (∃ (d : Desc), d.opcode = 0x4402 ∧ bit (d.dw 5) 31 = false ∧ bits (d.dw 5) 11 0 < 0x041) ∧
    (∃ (s : State) (d : Desc), d.opcode = 0x4402 ∧ bit (d.dw 5) 31 = true ∧ ((∀ p ∈ s.cdy, 0x041 ≤ p.1 → p.2.st ≠ 2))) ∧
    (∃ (d : Desc), d.opcode = 0x4403 ∧ d.buf = true ∧ 0 < bits (d.dw 6) 12 0 ∧ bits (d.dw 6) 12 0 * 16 ≤ d.bufLen ∧ bits (d.dw 5) 11 0 + bits (d.dw 6) 12 0 ≤ 4096) ∧
    (∃ (s : State) (c : Nat) (i : Nat) (frame : Nat) (m : Ploam), PloamHeard s c m ∧ s.hasChannel c = true ∧ ((i = 1 ∨ i = 2)) ∧ (s.slot (kekSlot c)).st ≠ 0 ∧ frame + s.keyLife < 2 ^ 51 ∧ s.dom 11 0 = 2) ∧
    (∃ (s : State) (c : Nat) (i : Nat) (frame : Nat) (m : Ploam), PloamHeard s c m ∧ s.hasChannel c = true ∧ ((i = 1 ∨ i = 2)) ∧ (((s.slot (kekSlot c)).st = 0 ∨ 2 ^ 51 ≤ frame + s.keyLife))) ∧
    (∃ (s : State) (c : Nat) (i : Nat), s.hasChannel c = true ∧ ((i = 1 ∨ i = 2)) ∧ (s.slot (kekSlot c)).st ≠ 0 ∧ s.dom 11 0 = 2) ∧
    (∃ (s : State) (c : Nat) (i : Nat) (frame : Nat), SMap.find s.cph.named c = some (i, frame) ∧ ((i = 1 ∨ i = 2)) ∧ stampLe (stampOf (frame % 2 ^ 46) 0) s.stamp = true) ∧
    (∃ (s : State) (c : Nat), SMap.find s.cph.named c = none) ∧
    (∃ (s : State) (c : Nat) (i : Nat) (frame : Nat), SMap.find s.cph.named c = some (i, frame) ∧ stampLe (stampOf (frame % 2 ^ 46) 0) s.stamp = false) :=
  ⟨⟨cphS [] [], cmdB 0x4401 [0x081, 0x041, 1] 40 [], 0x081, 0x041, by decide +kernel⟩,
   ⟨cphS [] [], cmdB 0x4401 [0x081, 0x041, 1] 40 [], 0x081, 0x041, by decide +kernel⟩,
   ⟨cmdD 0x4401 [0x040, 0x041], by decide +kernel⟩,
   ⟨cphS [] [], cmdD 0x4402 [0x041], 0x041, by decide +kernel⟩,
   ⟨{ State.reset with cdy := [(0x080, ⟨2, 9, false, none, 0⟩)] }, cmdD 0x4402 [0x080], 0x080, by decide +kernel⟩,
   ⟨cmdD 0x4402 [0x040], by decide +kernel⟩,
   ⟨{ State.reset with cdy := [(0, ⟨2, 9, false, none, 0⟩), (0x041, ⟨1, 9, false, none, 0⟩), (0x080, ⟨1, 9, false, none, 0⟩)] }, cmdD 0x4402 [0x80000000], by decide +kernel⟩,
   ⟨cmdB 0x4403 [4095, 1] 16 [], by decide +kernel⟩,
   ⟨{ st [eng0] with cdy := [(0x037, ⟨1, 9, false, none, 0⟩)] }, 7, 2, 0, mSn, by unfold PloamHeard; decide +kernel⟩,
   ⟨st [eng0], 7, 2, 0, mSn, by unfold PloamHeard; decide +kernel⟩,
   ⟨{ State.reset with cdy := [(0x037, ⟨1, 9, false, none, 0⟩)] }, 7, 2, by decide +kernel⟩,
   ⟨{ State.reset with cph := { State.reset.cph with named := [(7, (2, 0))] } }, 7, 2, 0, by decide +kernel⟩,
   ⟨State.reset, 7, by decide +kernel⟩,
   ⟨{ State.reset with cph := { State.reset.cph with named := [(7, (2, 5))] } }, 7, 2, 5, by decide +kernel⟩⟩

/-- States and operands that meet the hypotheses of StrainerPasses, clause by clause. -/
theorem test_meets_StrainerPasses :
    (∃ (s : State), s.dsf.out = [] ∧ s.str.up = [] ∧ s.str.inj = [] ∧ s.nextRq = none) ∧
    (∃ (s : State) (f : Machine.Frm) (rest : List Machine.Frm) (grp : Nat) (p : Nat) (key : Nat) (i : Nat) (r : Rule), s.dsf.out = [] ∧ s.str.up = f :: rest ∧ s.str.inj = [] ∧ s.nextRq = none ∧ f.dir = 0 ∧ f.last = false ∧ grp = SMap.get (s.bank s.gen).ingressUp f.src 0 ∧ p = ((s.bank s.gen).sel grp).pick f ∧ key = ({ f with id := s.str.nextId, gen := s.gen, group := grp, pass := 0 } : Machine.Frm).keyOf 0 ((s.bank s.gen).prof p).points ∧ (s.bank s.gen).search p key = some (i, r) ∧ (decisionOf r.action).disp = 0 ∧ (decisionOf r.action).tblEn = false ∧ (decisionOf r.action).queue ≠ none) ∧
    (∃ (s : State) (f : Machine.Frm) (rest : List Machine.Frm) (grp : Nat) (p : Nat), s.dsf.out = [] ∧ s.str.up = f :: rest ∧ s.str.inj = [] ∧ s.nextRq = none ∧ f.dir = 0 ∧ f.last = false ∧ p < 64 ∧ ((∀ g ∈ s.str.flight, g.id ≠ s.str.nextId)) ∧ grp = SMap.get (s.bank s.gen).ingressUp f.src 0 ∧ p = ((s.bank s.gen).sel grp).pick f ∧ (s.bank s.gen).search p (({ f with id := s.str.nextId, gen := s.gen, group := grp, pass := 0 } : Machine.Frm).keyOf 0 ((s.bank s.gen).prof p).points) = none ∧ (decisionOf ((s.bank s.gen).prof p).dflt).disp = 1) ∧
    (∃ (s : State) (f : Machine.Frm) (rest : List Machine.Frm) (p : Nat) (strip : Nat) (d0 : Decision), s.dsf.out = [] ∧ s.str.up = [] ∧ s.str.inj = [] ∧ s.str.flight = f :: rest ∧ f.place = 1 ∧ f.rq = s.str.rrRq ∧ s.str.rrRq < 16 ∧ f.last = false ∧ ((∀ g ∈ rest, g.id ≠ f.id)) ∧ (SMap.get (s.bank f.gen).resteep f.rq (false, 0, 0)).2 = (strip, p) ∧ ((s.bank f.gen).search (({ f with pass := 1, place := 0 } : Machine.Frm).tagOf p) (({ f with pass := 1, place := 0 } : Machine.Frm).keyOf strip ((s.bank f.gen).prof p).points)) = none ∧ d0 = decisionOf ((s.bank f.gen).prof p).dflt ∧ d0.disp = 0 ∧ d0.tblEn = true) ∧
    (∃ (s : State) (id : Nat), ((∀ f ∈ s.str.flight, f.id = id → f.last = true))) ∧
    (∃ (s : State) (f : Machine.Frm), s.str.flight = [f] ∧ f.last = false ∧ f.conflict = none ∧ f.place ≠ 4) ∧
    (∃ (s : State) (f : Machine.Frm), s.str.flight = [f] ∧ f.last = false ∧ f.conflict = some 0 ∧ f.place ≠ 1) ∧
    (∃ (s : State) (f : Machine.Frm) (k : Nat), s.str.flight = [f] ∧ f.last = false ∧ f.conflict = some (k + 1) ∧ f.place ≠ 4) :=
  ⟨⟨{ State.reset with str := { State.reset.str with slots := List.replicate 16 true } }, by decide +kernel⟩,
   ⟨{ State.reset with str := { State.reset.str with up := [frm0 0], bank0 := { Bank.reset with rules := [(9, ⟨0, 0, 0, 0, true, 5, [0, 0x80000001, 0, 0]⟩)] } } }, frm0 0, [], 0, 0, 0, 9, ⟨0, 0, 0, 0, true, 5, [0, 0x80000001, 0, 0]⟩, by decide +kernel⟩,
   ⟨{ State.reset with str := { State.reset.str with up := [frm0 0] } }, frm0 0, [], 0, 0, by decide +kernel⟩,
   ⟨{ State.reset with str := { State.reset.str with flight := [frm0 1], bank0 := { Bank.reset with profs := [(0, { profReset with dflt := [0, 0, 0, 0x80000000] })] } } }, frm0 1, [], 0, 0, decisionOf [0, 0, 0, 0x80000000], by decide +kernel⟩,
   ⟨State.reset, 0, by decide +kernel⟩,
   ⟨{ State.reset with str := { State.reset.str with flight := [frm0 1] } }, frm0 1, by decide +kernel⟩,
   ⟨{ State.reset with str := { State.reset.str with flight := [frmBad 0] } }, frmBad 0, by decide +kernel⟩,
   ⟨{ State.reset with str := { State.reset.str with flight := [frmBad 1] } }, frmBad 1, 0, by decide +kernel⟩⟩

/-- States and operands that meet the hypotheses of StrainerBanks, clause by clause. -/
theorem test_meets_StrainerBanks :
    (∃ (s : State) (d : Desc) (b : Nat) (first : Nat) (n : Nat), d.opcode = 0x1801 ∧ b = d.dw 5 % 2 ∧ first = bits (d.dw 6) 13 0 ∧ n = bits (d.dw 7) 14 0 ∧ d.buf = true ∧ n * 160 ≤ d.bufLen ∧ 0 < n ∧ first + n ≤ 16384 ∧ firstBad d n 160 badRule = none ∧ s.bankSt b = 0) ∧
    (∃ (d : Desc) (n : Nat) (i : Nat) (k : Nat), d.opcode = 0x1801 ∧ n = bits (d.dw 7) 14 0 ∧ d.buf = true ∧ n * 160 ≤ d.bufLen ∧ 0 < n ∧ bits (d.dw 6) 13 0 + n ≤ 16384 ∧ firstBad d n 160 badRule = some (i, k)) ∧
    (∃ (d : Desc) (b : Nat) (first : Nat) (n : Nat), d.opcode = 0x1802 ∧ b = d.dw 5 % 2 ∧ first = bits (d.dw 6) 13 0 ∧ n = bits (d.dw 7) 14 0 ∧ d.buf = true ∧ n * 160 ≤ d.bufLen ∧ 0 < n ∧ first + n ≤ 16384) ∧
    (∃ (d : Desc) (b : Nat) (first : Nat) (n : Nat) (i : Nat), d.opcode = 0x1802 ∧ b = d.dw 5 % 2 ∧ first = bits (d.dw 6) 13 0 ∧ n = bits (d.dw 7) 14 0 ∧ d.buf = true ∧ n * 160 ≤ d.bufLen ∧ 0 < n ∧ first + n ≤ 16384 ∧ first ≤ i ∧ i < first + n) ∧
    (∃ (s : State) (d : Desc) (a : Nat), d.opcode = 0x1803 ∧ a = s.gen % 2 ∧ s.bankSt (1 - a) = 0) ∧
    (∃ (s : State) (d : Desc), d.opcode = 0x1804 ∧ s.bankSt (1 - s.gen % 2) = 0 ∧ ((∀ f ∈ s.str.flight, f.place = 1 → f.gen = (s.gen + 1) % 256))) ∧
    (∃ (s : State) (d : Desc) (f : Machine.Frm), d.opcode = 0x1804 ∧ s.bankSt (1 - s.gen % 2) = 0 ∧ f ∈ s.str.flight ∧ f.place = 1 ∧ f.gen ≠ (s.gen + 1) % 256) ∧
    (∃ (s : State) (d : Desc), s.str.swap = some d ∧ s.unfinished = 0) ∧
    (∃ (s : State), (s.str.swap = none ∨ s.unfinished ≠ 0)) ∧
    (∃ (s : State) (d : Desc) (b : Nat), d.opcode = 0x1805 ∧ b = d.dw 5 % 2 ∧ d.buf = true ∧ 64 ≤ d.bufLen ∧ badProf (bufBytes d 0 64) = none ∧ s.bankSt b = 0) ∧
    (∃ (s : State) (d : Desc) (b : Nat), d.opcode = 0x1806 ∧ b = d.dw 5 % 2 ∧ d.buf = true ∧ 64 ≤ d.bufLen ∧ badSel (bufBytes d 0 64) = none ∧ s.bankSt b = 0) ∧
    (∃ (s : State) (d : Desc) (b : Nat) (first : Nat) (n : Nat), d.opcode = 0x1807 ∧ b = d.dw 5 % 2 ∧ bit (d.dw 5) 8 = false ∧ first = bits (d.dw 6) 14 0 ∧ n = bits (d.dw 7) 14 0 ∧ 0 < n ∧ first + n ≤ 5 ∧ s.bankSt b = 0) ∧
    (∃ (s : State) (d : Desc) (b : Nat) (first : Nat) (n : Nat), d.opcode = 0x1807 ∧ b = d.dw 5 % 2 ∧ bit (d.dw 5) 8 = true ∧ first = bits (d.dw 6) 14 0 ∧ n = bits (d.dw 7) 14 0 ∧ 0 < n ∧ first + n ≤ 16385 ∧ s.bankSt b = 0) ∧
    (∃ (s : State) (d : Desc) (b : Nat), d.opcode = 0x1808 ∧ b = d.dw 5 % 2 ∧ ((bit (d.dw 6) 8 = true → d.dw 7 % 256 ≠ 0)) ∧ s.bankSt b = 0) ∧
    (∃ (d : Desc), d.opcode = 0x1808 ∧ bit (d.dw 6) 8 = true ∧ d.dw 7 % 256 = 0) ∧
    (∃ (s : State) (d : Desc) (b : Nat), d.opcode = 0x1805 ∧ b = d.dw 5 % 2 ∧ s.bankSt b ≠ 0 ∧ d.buf = true ∧ 64 ≤ d.bufLen ∧ badProf (bufBytes d 0 64) = none) ∧
    (∃ (s : State) (d : Desc) (b : Nat), d.opcode = 0x1808 ∧ b = d.dw 5 % 2 ∧ s.bankSt b ≠ 0 ∧ ((bit (d.dw 6) 8 = true → d.dw 7 % 256 ≠ 0))) ∧
    (∃ (s : State) (d : Desc) (b : Nat), d.opcode = 0x1803 ∧ b = 1 - s.gen % 2 ∧ s.bankSt b ≠ 0) ∧
    (∃ (s : State) (d : Desc) (b : Nat), d.opcode = 0x1804 ∧ b = 1 - s.gen % 2 ∧ s.bankSt b ≠ 0) :=
  ⟨⟨State.reset, cmdB 0x1801 [1, 16383, 1] 160 (0x01000000 :: List.replicate 39 0), 1, 16383, 1, by decide +kernel⟩,
   ⟨cmdB 0x1801 [1, 16382, 2] 320 (List.replicate 72 0 ++ [0x00020000]), 2, 1, 130, by decide +kernel⟩,
   ⟨cmdB 0x1802 [1, 16383, 1] 160 [], 1, 16383, 1, by decide +kernel⟩,
   ⟨cmdB 0x1802 [1, 16382, 2] 320 [], 1, 16382, 2, 16383, by decide +kernel⟩,
   ⟨{ State.reset with str := { State.reset.str with bank0 := { Bank.reset with rules := [(16383, { ruleNone with valid := true, hits := 7 })] } } }, cmdD 0x1803 [], 0, by decide +kernel⟩,
   ⟨st [(F.STR_STATUS_GEN, 0, 254)], cmdD 0x1804 [], by decide +kernel⟩,
   ⟨{ State.reset with str := { State.reset.str with flight := [frm0 1] } }, cmdD 0x1804 [], frm0 1, by decide +kernel⟩,
   ⟨{ st [(F.STR_STATUS_GEN, 0, 1), (F.STR_STATUS_BANK0, 0, 2), (F.STR_STATUS_BANK1, 0, 1)] with str := { State.reset.str with swap := some (cmdD 0x1804 []), swapLc := 5 }, ltb := { State.reset.ltb with lc := 9 } }, cmdD 0x1804 [], by decide +kernel⟩,
   ⟨State.reset, by decide +kernel⟩,
   ⟨State.reset, cmdB 0x1805 [1, 63] 64 [0, 0, 0, 0, 0, 0, 0, 0, 0x00FF0000], 1, by decide +kernel⟩,
   ⟨State.reset, cmdB 0x1806 [1, 31] 64 [], 1, by decide +kernel⟩,
   ⟨State.reset, cmdD 0x1807 [1, 0, 5, 31], 1, 0, 5, by decide +kernel⟩,
   ⟨State.reset, cmdD 0x1807 [0x101, 16384, 1, 31], 1, 16384, 1, by decide +kernel⟩,
   ⟨State.reset, cmdD 0x1808 [1, 0x10F, 0x01FF], 1, by decide +kernel⟩,
   ⟨cmdD 0x1808 [1, 0x10F, 0], by decide +kernel⟩,
   ⟨State.reset, cmdB 0x1805 [0, 63] 64 [0, 0, 0, 0, 0, 0, 0, 0, 0x00FF0000], 0, by decide +kernel⟩,
   ⟨State.reset, cmdD 0x1808 [0, 0x10F, 0x01FF], 0, by decide +kernel⟩,
   ⟨st [(F.STR_STATUS_BANK1, 0, 2)], cmdD 0x1803 [], 1, by decide +kernel⟩,
   ⟨st [(F.STR_STATUS_BANK1, 0, 2)], cmdD 0x1804 [], 1, by decide +kernel⟩⟩

/-- States and operands that meet the hypotheses of TableCommandWindow, clause by clause. -/
theorem test_meets_TableCommandWindow :
    (∃ (s : State) (b : List Nat) (n : Nat), b = s.staging ∧ TcwReady s ∧ s.badEntry b = none ∧ KeyAbsent s b ∧ (bucketSlots (hashB1 (s.hashOf b)) ++ bucketSlots (hashB2 (s.hashOf b))).find? (fun n => s.fp n == 0) = some n) ∧
    (∃ (s : State) (b : List Nat) (m : Nat) (w : Nat), b = s.staging ∧ TcwReady s ∧ s.badEntry b = none ∧ s.stashFind (s.hashOf b) (entryOf b).fmt (entryOf b).key = none ∧ s.fpFind (s.hashOf b) = some m ∧ (s.tblLine m).key ≠ (entryOf b).key ∧ (stashSlots (s.hashOf b)).find? (fun n => (SMap.find s.tbl.stash n).isNone) = some w) ∧
    (∃ (s : State) (b : List Nat) (n : Nat), b = s.staging ∧ TcwReady s ∧ s.badEntry b = none ∧ KeyAt s b n) ∧
    (∃ (s : State) (b : List Nat) (n : Nat), b = s.staging ∧ TcwReady s ∧ s.badEntry b = none ∧ KeyAt s b n) ∧
    (∃ (s : State) (b : List Nat), b = s.staging ∧ TcwReady s ∧ s.badEntry b = none ∧ KeyAbsent s b) ∧
    (∃ (s : State) (b : List Nat) (n : Nat), b = s.staging ∧ TcwReady s ∧ s.badKey b = none ∧ KeyAt s b n) ∧
    (∃ (s : State) (b : List Nat), b = s.staging ∧ TcwReady s ∧ s.badKey b = none ∧ KeyAbsent s b) ∧
    (∃ (s : State) (b : List Nat) (n : Nat), b = s.staging ∧ TcwReady s ∧ s.badKey b = none ∧ KeyAt s b n) ∧
    (∃ (s : State) (b : List Nat), b = s.staging ∧ TcwReady s ∧ s.badKey b = none ∧ KeyAbsent s b) ∧
    (∃ (s : State) (n : Nat), TcwReady s ∧ n ≤ 0x200FFF ∧ ((n < 0x200000 → s.lineGood n = true))) ∧
    (∃ (s : State) (b : List Nat) (n : Nat), b = s.staging ∧ TcwReady s ∧ s.badEntry b = none ∧ n < 0x200000 ∧ n ∈ pairSlots (s.hashOf b) ∧ s.fp n = hashF (s.hashOf b)) ∧
    (∃ (s : State) (b : List Nat) (n : Nat), b = s.staging ∧ TcwReady s ∧ s.badEntry b = none ∧ n < 0x200000 ∧ n ∉ pairSlots (s.hashOf b)) ∧
    (∃ (s : State) (n : Nat), TcwReady s ∧ n < 0x200000 ∧ s.fp n ≠ 0) ∧
    (∃ (s : State) (n : Nat), TcwReady s ∧ n ≤ 0x200FFF ∧ s.slotOccupied n = false) ∧
    (∃ (s : State) (n : Nat), TcwReady s ∧ 0x200FFF < n ∧ n < 2 ^ 22) ∧
    (∃ (s : State) (n : Nat), TcwReady s ∧ 0x200FFF < n ∧ n < 2 ^ 22) ∧
    (∃ (s : State), s.access 0x700200 = .ok ∧ s.fld F.TBL_TCW_STATUS_BUSY 0 = 0 ∧ s.fld F.TBL_STATUS_READY 0 = 0) ∧
    (∃ (s : State), s.access 0x700200 = .ok ∧ s.fld F.TBL_TCW_STATUS_BUSY 0 = 0 ∧ s.fld F.TBL_STATUS_READY 0 = 0) ∧
    (∃ (s : State) (j : Nat), s.access 0x700200 = .ok ∧ s.fld F.TBL_TCW_STATUS_BUSY 0 = 0 ∧ s.fld F.TBL_STATUS_READY 0 = 0 ∧ s.hostUp = true ∧ 0 < j) ∧
    (∃ (s : State), s.access 0x700200 = .ok ∧ s.fld F.TBL_TCW_STATUS_BUSY 0 = 1) :=
  ⟨⟨tblS [], tblB, tblN, by unfold TcwReady KeyAbsent; decide +kernel⟩,
   ⟨tblAt { tblEntryZero with key := 5, valid := true } [], tblB, tblN, 0x200000 + 4 * stashSet tblH, by unfold TcwReady; decide +kernel⟩,
   ⟨tblAt tblE [], tblB, tblN, by unfold TcwReady KeyAt; decide +kernel⟩,
   ⟨tblAt tblE [], tblB, tblN, by unfold TcwReady KeyAt; decide +kernel⟩,
   ⟨tblS [], tblB, by unfold TcwReady KeyAbsent; decide +kernel⟩,
   ⟨tblAt tblE [], tblB, tblN, by unfold TcwReady KeyAt; decide +kernel⟩,
   ⟨tblS [], tblB, by unfold TcwReady KeyAbsent; decide +kernel⟩,
   ⟨tblAt { tblE with queue := 0x1234 } [], tblB, tblN, by unfold TcwReady KeyAt; decide +kernel⟩,
   ⟨tblS [], tblB, by unfold TcwReady KeyAbsent; decide +kernel⟩,
   ⟨{ tblS [] with tbl := { State.reset.tbl with stash := [(0x200FFF, { tblE with key := 7 })] } }, 0x200FFF, by unfold TcwReady; decide +kernel⟩,
   ⟨tblAt { tblE with queue := 0x1234 } [], tblB, tblN, by unfold TcwReady; decide +kernel⟩,
   ⟨tblS [], tblB, tblN + 4, by unfold TcwReady; decide +kernel⟩,
   ⟨tblAt tblE [], tblN, by unfold TcwReady; decide +kernel⟩,
   ⟨tblS [], 0x200FFF, by unfold TcwReady; decide +kernel⟩,
   ⟨tblS [], 0x201000, by unfold TcwReady; decide +kernel⟩,
   ⟨tblS [], 0x201000, by unfold TcwReady; decide +kernel⟩,
   ⟨State.reset, by decide +kernel⟩,
   ⟨State.reset, by decide +kernel⟩,
   ⟨hostSt [], 2, by decide +kernel⟩,
   ⟨st [(F.TBL_TCW_STATUS_BUSY, 0, 1)], by decide +kernel⟩⟩

/-- States and operands that meet the hypotheses of FlowTable, clause by clause. -/
theorem test_meets_FlowTable :
    (∃ (s : State), ((∀ f ∈ s.str.flight, f.place ≠ 2))) ∧
    (∃ (s : State) (f : Machine.Frm), s.str.flight = [f] ∧ f.place = 2 ∧ s.fld F.TBL_KFMT_EN f.dec.tblKey = 0 ∧ f.dec.queue ≠ none ∧ f.dec.disp = 0 ∧ f.last = false) ∧
    (∃ (s : State) (f : Machine.Frm) (k : Nat) (key : Nat) (h : Nat) (n : Nat) (e : TblEntry), s.str.flight = [f] ∧ f.place = 2 ∧ k = f.dec.tblKey ∧ s.fld F.TBL_KFMT_EN k = 1 ∧ ((s.fmtDir k = 2 ∨ s.fmtDir k = f.dir)) ∧ key = s.tblKey k f.key ∧ h = s.tblHash k key ∧ s.stashFind h k key = none ∧ s.fpFind h = some n ∧ e = s.tblLine n ∧ s.lineGood n = true ∧ e.key = key ∧ e.fmt = k ∧ bit e.flags 1 = false ∧ (e.apply f.dec).disp = 0 ∧ (e.apply f.dec).queue ≠ none ∧ f.last = false) ∧
    (∃ (s : State) (f : Machine.Frm) (k : Nat) (h : Nat), s.str.flight = [f] ∧ f.place = 2 ∧ k = f.dec.tblKey ∧ s.fld F.TBL_KFMT_EN k = 1 ∧ ((s.fmtDir k = 2 ∨ s.fmtDir k = f.dir)) ∧ h = s.tblHash k (s.tblKey k f.key) ∧ s.stashFind h k (s.tblKey k f.key) = none ∧ s.fpFind h = none ∧ s.fld F.TBL_KFMT_LEARN k = 0 ∧ s.fld F.TBL_KFMT_MISS_DROP k = 1 ∧ f.last = false) ∧
    (∃ (s : State) (d : Desc) (n : Nat), d.opcode = 0x1C01 ∧ bits (d.dw 5) 16 0 = 1 ∧ d.buf = true ∧ 64 ≤ d.bufLen ∧ s.hostUp = true ∧ s.fld F.TBL_STATUS_READY 0 = 1 ∧ d.word 8 % 16 = 4 ∧ s.badKey (bufBytes d 0 32) = none ∧ KeyAt s (bufBytes d 0 32) n) ∧
    (∃ (s : State) (d : Desc), d.opcode = 0x1C01 ∧ bits (d.dw 5) 16 0 = 1 ∧ d.buf = true ∧ 64 ≤ d.bufLen ∧ s.hostUp = true ∧ s.fld F.TBL_STATUS_READY 0 = 1 ∧ d.word 8 % 16 = 0) ∧
    (∃ (d : Desc) (first : Nat) (n : Nat), first = d.dw 5 % 2 ^ 16 ∧ n = d.dw 6 % 2 ^ 17 ∧ d.opcode = 0x1C02 ∧ d.buf = true ∧ n * 16 ≤ d.bufLen ∧ 0 < n ∧ first + n ≤ 65536) ∧
    (∃ (s : State), 2 ≤ s.fld F.MEM_QDR_STATUS_STATE 0 ∧ s.fld F.TBL_STATUS_READY 0 = 0) ∧
    (∃ (n : Nat), n < 65536) ∧
    (∃ (n : Nat), n < 65664) ∧
    (∃ (n : Nat), n < 4096) ∧
    (∃ (s : State), s.tbl.epochLc + s.epochLen ≤ s.ltb.lc) ∧
    (∃ (s : State), s.ltb.lc < s.tbl.epochLc + s.epochLen) ∧
    (∃ (s : State) (n : Nat) (rest : List (Nat × Nat × Nat)), s.tbl.deletes = (n, s.fp n, s.fresh n) :: rest ∧ n < 0x200000 ∧ s.fp n ≠ 0 ∧ s.lineGood n = true ∧ s.fld F.TBL_LEARN_CFG_AGED_EN 0 = 0) ∧
    (∃ (s : State) (n : Nat) (stamp : Nat) (rest : List (Nat × Nat × Nat)), s.tbl.deletes = (n, s.fp n, stamp) :: rest ∧ n < 0x200000 ∧ s.fp n ≠ 0 ∧ s.lineGood n = true ∧ stamp ≠ s.fresh n) ∧
    (∃ (s : State) (n : Nat) (fp : Nat) (stamp : Nat) (rest : List (Nat × Nat × Nat)), s.tbl.deletes = (n, fp, stamp) :: rest ∧ n < 0x200000 ∧ s.fp n ≠ fp ∧ s.lineGood n = true) ∧
    (∃ (s : State), s.tbl.deletes = []) ∧
    (∃ (s : State) (n : Nat) (rest : List (Nat × Nat)), s.tbl.deletes = [] ∧ s.tbl.clamps = (n, s.fresh n) :: rest ∧ s.scanFp n ≠ 0) ∧
    (∃ (s : State) (n : Nat) (stamp : Nat) (rest : List (Nat × Nat)), s.tbl.deletes = [] ∧ s.tbl.clamps = (n, stamp) :: rest ∧ ((s.scanFp n = 0 ∨ s.fresh n ≠ stamp))) ∧
    (∃ (s : State), ((s.tbl.deletes ≠ [] ∨ s.tbl.clamps = []))) ∧
    (∃ (s : State) (n : Nat), s.tbl.scan = n ∧ s.tbl.deletes.length < 64 ∧ n < 0x200FFF ∧ s.scanFp n ≠ 0 ∧ s.stale n (s.fresh n) = true) ∧
    (∃ (s : State) (n : Nat), s.tbl.scan = n ∧ s.tbl.deletes.length < 64 ∧ n < 0x200FFF ∧ s.scanFp n ≠ 0 ∧ s.stale n (s.fresh n) = false ∧ 32767 < s.age (s.fresh n)) ∧
    (∃ (s : State), 64 ≤ s.tbl.deletes.length) ∧
    (∃ (s : State), s.tbl.scan = 0x200FFF ∧ s.tbl.deletes.length < 64) :=
  ⟨⟨State.reset, by decide +kernel⟩,
   ⟨{ State.reset with str := { State.reset.str with flight := [frmT] } }, frmT, by decide +kernel⟩,
   ⟨{ tblAt { tblE with flags := 0x80 } [] with str := { State.reset.str with flight := [frmT] } }, frmT, 0, tblK, tblH, tblN, { tblE with flags := 0x80 }, by decide +kernel⟩,
   ⟨{ tblS [(F.TBL_KFMT_MISS_DROP, 0, 1)] with str := { State.reset.str with flight := [frmT] } }, frmT, 0, tblH, by decide +kernel⟩,
   ⟨{ tblAt tblE [(F.HIF_STATUS_BME, 0, 1)] with hif := { State.reset.hif with linkUp := true } }, cmdB 0x1C01 [1] 64 [0x04030201, 0, 0, 0, 0, 0, 0, 0, 4], tblN, by unfold KeyAt; decide +kernel⟩,
   ⟨{ tblS [(F.HIF_STATUS_BME, 0, 1)] with hif := { State.reset.hif with linkUp := true } }, cmdB 0x1C01 [1] 64 [], by decide +kernel⟩,
   ⟨cmdB 0x1C02 [65535, 1, 1] 16 [], 65535, 1, by decide +kernel⟩,
   ⟨{ st [(F.MEM_QDR_STATUS_STATE, 0, 2)] with tbl := { State.reset.tbl with lines := [(5, goodLine 5 tblE)] } }, by decide +kernel⟩,
   ⟨tblN / 32, by decide +kernel⟩,
   ⟨tblN / 32, by decide +kernel⟩,
   ⟨4095, by decide +kernel⟩,
   ⟨(let u := st [(F.TBL_AGE_STATUS_EPOCH, 0, 65535)]; { u with ltb := { u.ltb with lc := 99999999999 } }), by decide +kernel⟩,
   ⟨State.reset, by decide +kernel⟩,
   ⟨(let u := tblAt tblE [(F.TBL_LEARN_CFG_AGED_EN, 0, 0)]; { u with tbl := { u.tbl with deletes := [(tblN, hashF tblH, 3), (1, 2, 3)] } }), tblN, [(1, 2, 3)], by decide +kernel⟩,
   ⟨(let u := tblAt tblE [(F.TBL_LEARN_CFG_AGED_EN, 0, 0)]; { u with tbl := { u.tbl with deletes := [(tblN, hashF tblH, 4)] } }), tblN, 4, [], by decide +kernel⟩,
   ⟨(let u := tblAt tblE [(F.TBL_LEARN_CFG_AGED_EN, 0, 0)]; { u with tbl := { u.tbl with deletes := [(tblN, 0, 4)] } }), tblN, 0, 4, [], by decide +kernel⟩,
   ⟨State.reset, by decide +kernel⟩,
   ⟨(let u := tblAt tblE [(F.TBL_AGE_STATUS_EPOCH, 0, 40000)]; { u with tbl := { u.tbl with clamps := [(tblN, 3)] } }), tblN, [], by decide +kernel⟩,
   ⟨(let u := tblAt tblE [(F.TBL_AGE_STATUS_EPOCH, 0, 40000)]; { u with tbl := { u.tbl with clamps := [(tblN, 4)] } }), tblN, 4, [], by decide +kernel⟩,
   ⟨State.reset, by decide +kernel⟩,
   ⟨(let u := tblAt tblE [(F.TBL_AGE_CFG_EN, 0, 1), (F.TBL_AGE_CFG_AGE_EPOCHS, 0, 4), (F.TBL_AGE_STATUS_EPOCH, 0, 9)]; { u with tbl := { u.tbl with scan := tblN } }), tblN, by decide +kernel⟩,
   ⟨(let u := tblAt tblE [(F.TBL_AGE_CFG_EN, 0, 0), (F.TBL_AGE_STATUS_EPOCH, 0, 40000)]; { u with tbl := { u.tbl with scan := tblN } }), tblN, by decide +kernel⟩,
   ⟨(let u := State.reset; { u with tbl := { u.tbl with deletes := List.replicate 64 (1, 2, 3) } }), by decide +kernel⟩,
   ⟨(let u := State.reset; { u with tbl := { u.tbl with scan := 0x200FFF } }), by decide +kernel⟩⟩

/-- States and operands that meet the hypotheses of QueuesMetersAndCalendar, clause by clause. -/
theorem test_meets_QueuesMetersAndCalendar :
    (∃ (s : State), ((∀ f ∈ s.str.flight, f.place = 3 → f.last = false))) ∧
    (∃ (s : State) (f : Machine.Frm), s.str.flight = [f] ∧ f.place = 3 ∧ f.last = true ∧ f.errored = true) ∧
    (∃ (s : State) (f : Machine.Frm) (i : Nat) (k : Nat) (x : Nat) (m : Meter), s.str.flight = [f] ∧ f.place = 3 ∧ f.last = true ∧ f.errored = false ∧ f.dec.meter = some i ∧ k = qKey f.dir (f.dec.queue.getD 0) ∧ (s.queue k).st ≠ 1 ∧ s.fld F.TMG_CFG_KETTLE_EN 0 ≠ 1 ∧ (s.meter i).en = true ∧ (s.meter i).mode = 0 ∧ (s.meter i).aware = false ∧ (s.meter i).adj = 0 ∧ m = (s.meter i).fill s.calNow ∧ x = max 1 f.len * 65536 ∧ x ≤ m.t1 ∧ x ≤ m.t2) ∧
    (∃ (s : State) (f : Machine.Frm) (k : Nat) (q : Queue), s.str.flight = [f] ∧ f.place = 3 ∧ f.last = true ∧ f.errored = false ∧ f.dec.meter = none ∧ f.dir = 1 ∧ k = qKey 1 (f.dec.queue.getD 0) ∧ f.dec.queue.getD 0 < 8192 ∧ q = s.queue k ∧ q.st = 1 ∧ s.fld F.TMG_CFG_KETTLE_EN 0 ≠ 1 ∧ s.fld F.TMG_CFG_SAMPLER_EN 0 = 0 ∧ q.middle = [] ∧ q.tail = [] ∧ cellsOf f.len ≤ s.poolFree 1 ∧ q.headCells + cellsOf f.len ≤ q.cfg.onchipMax ∧ q.occ + f.len ≤ q.cfg.threshold f.dec.colour) ∧
    (∃ (s : State) (k : Nat) (q : Queue), q = s.queue k ∧ (((q.head = [] ∧ q.middle = []) ∨ q.tail = []))) ∧
    (∃ (s : State) (k : Nat) (pg : Nat) (q : Queue), q = s.queue k ∧ q.head ≠ [] ∧ 64 ≤ q.tailLines ∧ s.freePage = some pg ∧ s.fld F.TMG_CFG_FC_EN 0 = 0 ∧ s.fld F.TMG_FC_STATUS_XOFF 0 = 0) ∧
    (∃ (s : State) (k : Nat), (s.queue k).middle = []) ∧
    (∃ (s : State) (k : Nat) (pg : KPage) (rest : List KPage) (q : Queue), q = s.queue k ∧ q.middle = pg :: rest ∧ q.headCells < q.cfg.refill * 16 ∧ s.chInService (s.pageChan pg.page) = true ∧ ((∀ b < 64, s.ddrGood (s.pageAddr pg.page / 64 + b) = true)) ∧ sumOf (pg.frames.map (fun f => cellsOf f.len)) ≤ s.poolFree 3 ∧ s.fld F.TMG_CFG_FC_EN 0 = 0 ∧ s.fld F.TMG_FC_STATUS_XOFF 0 = 0) ∧
    (∃ (s : State) (p : Nat), s.portUp p = false) ∧
    (∃ (s : State) (p : Nat) (tc : Nat) (g : Nat) (k : Nat) (f : QFrm), s.hasPort p = true ∧ s.portUp p = true ∧ s.listen p = 0 ∧ (s.hport p).tx = [] ∧ (s.refreshPort p).pickPort p = some (tc, g, k) ∧ (s.queue k).first = some f ∧ f.spoiled = false ∧ 4 ≤ f.ingress ∧ s.fld F.CPH_P_CFG_PROTECT p = 0 ∧ f.len ≤ s.maxFrame p ∧ (s.queue k).cfg.shapeEn = false ∧ (s.group g).pir = 0) ∧
    (∃ (s : State), (((∀ x ∈ s.tmg.cal, s.calNow < x.due) ∨ (s.tmg.relLc = s.ltb.lc ∧ 4 ≤ s.tmg.relCnt)))) ∧
    (∃ (s : State) (x : CalEntry), s.tmg.cal = [x] ∧ x.place = 0 ∧ ((s.tmg.relLc ≠ s.ltb.lc ∨ s.tmg.relCnt < 4)) ∧ x.due ≤ s.calNow ∧ s.calNow ≤ x.due + 64) ∧
    (∃ (s : State) (x : CalEntry), s.tmg.cal = [x] ∧ x.place = 0 ∧ ((s.tmg.relLc ≠ s.ltb.lc ∨ s.tmg.relCnt < 4)) ∧ x.due + 64 < s.calNow) ∧
    (∃ (s : State) (l : List CalEntry) (r : List CalEntry), l = s.tmg.cal.filter (fun x => x.place == 1 && decide (x.due / 32768 * 32768 ≤ s.calNow + 4096)) ∧ r = s.tmg.cal.filter (fun x => !l.contains x)) ∧
    (∃ (s : State) (l : List CalEntry) (r : List CalEntry), s.tmg.farScan < s.calNow / 67108864 ∧ l = s.tmg.cal.filter (fun x => x.place == 2 && decide (x.e < (s.calNow + 134217728) * 65536)) ∧ r = s.tmg.cal.filter (fun x => !l.contains x)) ∧
    (∃ (s : State), s.calNow / 67108864 ≤ s.tmg.farScan) ∧
    (∃ (s : State), ((s.fld F.TMG_CFG_SAMPLER_EN 0 = 0 ∨ s.ltb.lc < s.tmg.sampleLc + usLc (max 1 (s.fld F.TMG_SAMPLE_CFG_SAMPLE_US 0))))) ∧
    (∃ (s : State), s.fld F.TMG_CFG_SAMPLER_EN 0 ≠ 0 ∧ SMap.wf s.tmg.watches = true ∧ s.tmg.sampleLc + usLc (max 1 (s.fld F.TMG_SAMPLE_CFG_SAMPLE_US 0)) ≤ s.ltb.lc) :=
  ⟨⟨State.reset, by decide +kernel⟩,
   ⟨admS { frmA 0 with errored := true } State.reset, { frmA 0 with errored := true }, by decide +kernel⟩,
   ⟨admS { frmA 0 with dec := { decisionNone with queue := some 1, meter := some 65535 } } { State.reset with tmg := { State.reset.tmg with meters := [(65535, { meterOff with en := true, r1 := 5, r2 := 6, b1 := 1000, b2 := 1000, t1 := 65536000, t2 := 65536000 })] } }, { frmA 0 with dec := { decisionNone with queue := some 1, meter := some 65535 } }, 65535, 1, 64 * 65536, { meterOff with en := true, r1 := 5, r2 := 6, b1 := 1000, b2 := 1000, t1 := 65536000, t2 := 65536000 }, by decide +kernel⟩,
   ⟨admS (frmA 1) (tmgS [(qKey 1 1, queueOn [] [])] [(F.TMG_CFG_SAMPLER_EN, 0, 0)]), frmA 1, qKey 1 1, queueOn [] [], by decide +kernel⟩,
   ⟨tmgS [(1, queueOn [qf 64 0 0] [])] [], 1, queueOn [qf 64 0 0] [], by decide +kernel⟩,
   ⟨tmgS [(1, queueOn [qf 64 0 0] [qf 4000 3 63, qf 100 3 2])] kettle, 1, 0, queueOn [qf 64 0 0] [qf 4000 3 63, qf 100 3 2], by decide +kernel⟩,
   ⟨State.reset, 7, by decide +kernel⟩,
   ⟨tmgS [(1, { queueOn [qf 64 0 0] [] with middle := [⟨2, [qf 4000 3 63], false⟩, ⟨3, [], false⟩] })] kettle, 1, ⟨2, [qf 4000 3 63], false⟩, [⟨3, [], false⟩], { queueOn [qf 64 0 0] [] with middle := [⟨2, [qf 4000 3 63], false⟩, ⟨3, [], false⟩] }, by decide +kernel⟩,
   ⟨State.reset, 0, by decide +kernel⟩,
   ⟨portS, 1, 3, 0, qKey 1 1, qf 64 1 0, by decide +kernel⟩,
   ⟨{ State.reset with tmg := { State.reset.tmg with cal := [⟨3, 65537, 0⟩] } }, by decide +kernel⟩,
   ⟨{ State.reset with tmg := { State.reset.tmg with cal := [⟨3, 65536, 0⟩] }, ltb := { State.reset.ltb with lc := 65 } }, ⟨3, 65536, 0⟩, by decide +kernel⟩,
   ⟨{ State.reset with tmg := { State.reset.tmg with cal := [⟨3, 65536, 0⟩] }, ltb := { State.reset.ltb with lc := 66 } }, ⟨3, 65536, 0⟩, by decide +kernel⟩,
   ⟨{ State.reset with tmg := { State.reset.tmg with cal := [⟨3, 65536, 1⟩, ⟨4, 7, 2⟩] } }, [⟨3, 65536, 1⟩], [⟨4, 7, 2⟩], by decide +kernel⟩,
   ⟨{ State.reset with tmg := { State.reset.tmg with cal := [⟨3, 65536, 2⟩, ⟨4, 7, 1⟩] }, ltb := { State.reset.ltb with lc := 67108864 } }, [⟨3, 65536, 2⟩], [⟨4, 7, 1⟩], by decide +kernel⟩,
   ⟨State.reset, by decide +kernel⟩,
   ⟨st [(F.TMG_CFG_SAMPLER_EN, 0, 0)], by decide +kernel⟩,
   ⟨{ tmgS [(qKey 1 1, queueOn [qf 9000 1 0] [])] [(F.TMG_CFG_SAMPLER_EN, 0, 1)] with tmg := { State.reset.tmg with watches := [(2047, { watchOff with en := true, dir := 1, queue := 1 })] }, ltb := { State.reset.ltb with lc := 999999999 } }, by decide +kernel⟩⟩

/-- States and operands that meet the hypotheses of QueueCommands, clause by clause. -/
theorem test_meets_QueueCommands :
    (∃ (s : State) (d : Desc) (k : Nat), d.opcode = 0x2001 ∧ k = qKey (bits (d.dw 5) 30 30) (bits (d.dw 5) 14 0) ∧ queueSetBad d = 0 ∧ s.flushing k = false) ∧
    (∃ (d : Desc), d.opcode = 0x2001 ∧ bits (d.dw 5) 30 30 = 1 ∧ 8192 ≤ bits (d.dw 5) 14 0) ∧
    (∃ (d : Desc), d.opcode = 0x2001 ∧ bits (d.dw 5) 14 0 < 8192 ∧ bits (d.dw 7) 9 0 = 0) ∧
    (∃ (s : State) (d : Desc) (dir : Nat) (first : Nat) (n : Nat), d.opcode = 0x2002 ∧ dir = bits (d.dw 5) 30 30 ∧ first = bits (d.dw 5) 14 0 ∧ n = bits (d.dw 6) 8 0 ∧ d.buf = true ∧ n * 64 ≤ d.bufLen ∧ 0 < n ∧ n ≤ 256 ∧ first + n ≤ (if dir = 0 then 16384 else 8192) ∧ ((∀ i < n, s.flushing (qKey dir (first + i)) = false)) ∧ bit (d.dw 7) 0 = false) ∧
    (∃ (s : State) (d : Desc) (dir : Nat) (first : Nat) (n : Nat), d.opcode = 0x2002 ∧ dir = bits (d.dw 5) 30 30 ∧ first = bits (d.dw 5) 14 0 ∧ n = bits (d.dw 6) 8 0 ∧ d.buf = true ∧ n * 64 ≤ d.bufLen ∧ 0 < n ∧ n ≤ 256 ∧ first + n ≤ (if dir = 0 then 16384 else 8192) ∧ ((∀ i < n, s.flushing (qKey dir (first + i)) = false)) ∧ bit (d.dw 7) 0 = true) ∧
    (∃ (s : State) (d : Desc) (dir : Nat) (n : Nat), d.opcode = 0x2003 ∧ dir = bits (d.dw 5) 30 30 ∧ n = bits (d.dw 5) 14 0 ∧ badQueue dir n = false ∧ s.flushing (qKey dir n) = false ∧ (s.queue (qKey dir n)).st = 1) ∧
    (∃ (s : State) (d : Desc) (dir : Nat) (n : Nat), d.opcode = 0x2003 ∧ dir = bits (d.dw 5) 30 30 ∧ n = bits (d.dw 5) 14 0 ∧ badQueue dir n = false ∧ s.flushing (qKey dir n) = false ∧ (s.queue (qKey dir n)).st = 0) ∧
    (∃ (s : State) (d : Desc) (dir : Nat) (n : Nat) (k : Nat) (c : Nat), d.opcode = 0x2003 ∧ dir = bits (d.dw 5) 30 30 ∧ n = bits (d.dw 5) 14 0 ∧ badQueue dir n = false ∧ k = qKey dir n ∧ s.flushing k = false ∧ (s.queue k).st = 2 ∧ (s.queue k).middle = [] ∧ c = (s.queue k).head.length + (s.queue k).tail.length ∧ s.fld F.TMG_CFG_FC_EN 0 = 0 ∧ s.fld F.TMG_FC_STATUS_XOFF 0 = 0) ∧
    (∃ (s : State) (d : Desc), d.opcode = 0x2003 ∧ badQueue (bits (d.dw 5) 30 30) (bits (d.dw 5) 14 0) = false ∧ s.flushing (qKey (bits (d.dw 5) 30 30) (bits (d.dw 5) 14 0)) = true) ∧
    (∃ (s : State) (d : Desc) (g : Nat) (p : Nat), d.opcode = 0x2004 ∧ g = bits (d.dw 5) 9 0 ∧ p = bits (d.dw 6) 1 0 ∧ s.noPort p = false ∧ bits (d.dw 7) 9 0 ≠ 0) ∧
    (∃ (s : State) (d : Desc), d.opcode = 0x2004 ∧ s.noPort (bits (d.dw 6) 1 0) = false ∧ bits (d.dw 7) 9 0 = 0) ∧
    (∃ (s : State) (d : Desc) (p : Nat) (x : PortTc), d.opcode = 0x2005 ∧ p = bits (d.dw 5) 1 0 ∧ s.noPort p = false ∧ x.strict = bits (d.dw 6) 7 0 ∧ x.weights = (List.range 8).map (fun t => bits (d.dw (7 + t / 4)) (8 * (t % 4) + 7) (8 * (t % 4))) ∧ ((∀ t < 8, bit x.strict t = true ∨ x.weights.getD t 0 ≠ 0))) ∧
    (∃ (s : State) (d : Desc) (i : Nat) (m : Meter), d.opcode = 0x2006 ∧ i = bits (d.dw 5) 15 0 ∧ m = (s.meter i).fill s.calNow ∧ ((bits (d.dw 5) 30 30 = 1 ∨ bit (d.dw 5) 31 = false ∨ bits (d.dw 6) 28 0 ≤ bits (d.dw 7) 28 0))) ∧
    (∃ (d : Desc), d.opcode = 0x2006 ∧ bits (d.dw 5) 30 30 = 0 ∧ bit (d.dw 5) 31 = true ∧ bits (d.dw 7) 28 0 < bits (d.dw 6) 28 0) ∧
    (∃ (d : Desc) (first : Nat) (n : Nat), d.opcode = 0x2007 ∧ first = bits (d.dw 5) 15 0 ∧ n = bits (d.dw 6) 16 0 ∧ d.buf = true ∧ n * 64 ≤ d.bufLen ∧ 0 < n ∧ first + n ≤ 65536) ∧
    (∃ (d : Desc) (w : Nat) (dir : Nat) (q : Nat), d.opcode = 0x2008 ∧ w = bits (d.dw 5) 10 0 ∧ dir = bits (d.dw 5) 30 30 ∧ q = bits (d.dw 6) 14 0 ∧ badQueue dir q = false) ∧
    (∃ (d : Desc), d.opcode = 0x2008 ∧ badQueue (bits (d.dw 5) 30 30) (bits (d.dw 6) 14 0) = true) ∧
    (∃ (d : Desc) (first : Nat) (n : Nat), d.opcode = 0x2009 ∧ first = bits (d.dw 5) 10 0 ∧ n = bits (d.dw 6) 11 0 ∧ d.buf = true ∧ n * 160 ≤ d.bufLen ∧ 0 < n ∧ first + n ≤ 2048) :=
  ⟨⟨State.reset, cmdD 0x2001 [0xC0001FFF, 5, 0x03000001, 100, 0x3219, 0x020003E8, 0, 0, 0, 0], qKey 1 8191, by decide +kernel⟩,
   ⟨cmdD 0x2001 [0xC0002000, 5, 0x03000001], by decide +kernel⟩,
   ⟨cmdD 0x2001 [0xC0001FFF, 5, 0x03000000], by decide +kernel⟩,
   ⟨tmgS [(qKey 1 8191, queueOn [qf 64 1 0] [])] [], cmdB 0x2002 [0x40001FFF, 1, 0] 64 [], 1, 8191, 1, by decide +kernel⟩,
   ⟨tmgS [(qKey 1 8190, { queueOn [qf 64 1 0] [] with enq := 5, drops := [(4, 6)], peak := 7 }), (qKey 1 8191, { queueOn [qf 64 1 0] [] with enq := 5, drops := [(4, 6)], peak := 7 })] [], cmdB 0x2002 [0x40001FFF, 1, 1] 64 [], 1, 8191, 1, by decide +kernel⟩,
   ⟨tmgS [(16383, queueOn [qf 64 1 0] [])] [], cmdD 0x2003 [0x3FFF], 0, 16383, by decide +kernel⟩,
   ⟨State.reset, cmdD 0x2003 [0x3FFF], 0, 16383, by decide +kernel⟩,
   ⟨tmgS [(16383, { queueOn [qf 64 0 0] [qf 100 3 2] with st := 2 })] [], cmdD 0x2003 [0x3FFF], 0, 16383, 16383, 2, by decide +kernel⟩,
   ⟨{ State.reset with tmg := { State.reset.tmg with flushes := [(cmdD 0x2003 [5], 1)] } }, cmdD 0x2003 [5], by decide +kernel⟩,
   ⟨State.reset, cmdD 0x2004 [0x800003FF, 0x301, 5, 0, 0, 0x80], 1023, 1, by decide +kernel⟩,
   ⟨State.reset, cmdD 0x2004 [0x800003FF, 0x301, 0], by decide +kernel⟩,
   ⟨State.reset, cmdD 0x2005 [3, 0x0F, 0, 0x04030201], 3, ⟨0x0F, [0, 0, 0, 0, 1, 2, 3, 4]⟩, by decide +kernel⟩,
   ⟨State.reset, cmdD 0x2006 [0x9000FFFF, 5, 5, 1000, 2000, 0x14], 65535, (meterOff).fill State.reset.calNow, by decide +kernel⟩,
   ⟨cmdD 0x2006 [0x9000FFFF, 5, 4], by decide +kernel⟩,
   ⟨cmdB 0x2007 [65535, 1, 1] 64 [], 65535, 1, by decide +kernel⟩,
   ⟨cmdD 0x2008 [0xC00007FF, 8191], 2047, 1, 8191, by decide +kernel⟩,
   ⟨cmdD 0x2008 [0xC00007FF, 8192], by decide +kernel⟩,
   ⟨cmdB 0x2009 [2047, 1, 1] 160 [], 2047, 1, by decide +kernel⟩⟩

/-- States and operands that meet the hypotheses of ExternalMemories, clause by clause. -/
theorem test_meets_ExternalMemories :
    (∃ (s : State) (v : Word), s.access 0x900000 = .ok ∧ ((∀ n < 4, s.chSt n = 0)) ∧ s.fld F.HIF_STATUS_STAGE 0 = 3 ∧ bit v.toNat 31 = true) ∧
    (∃ (s : State) (n : Nat), s.access 0x900000 = .ok ∧ n < 4 ∧ s.chSt n ≠ 0) ∧
    (∃ (s : State), ((∀ n < 4, s.chSt n ≠ 1))) ∧
    (∃ (s : State), ((∀ n < 4, s.chSt n = 1)) ∧ s.mem.inited = false ∧ s.mem.freq = none ∧ s.tmg.flushes = []) ∧
    (∃ (s : State) (x : TrainFail), x.chan < 4 ∧ s.chSt x.chan = 1 ∧ s.mem.freq = none) ∧
    (∃ (s : State) (v : Word), s.access 0x900008 = .ok ∧ s.fld F.HIF_STATUS_STAGE 0 = 3 ∧ s.fld F.MEM_QDR_STATUS_STATE 0 = 0 ∧ bit v.toNat 31 = true) ∧
    (∃ (s : State), s.fld F.MEM_QDR_STATUS_STATE 0 = 1) ∧
    (∃ (s : State), s.fld F.MEM_QDR_STATUS_STATE 0 = 1) ∧
    (∃ (s : State) (n : Nat), s.chSt n = 2 ∧ s.fld F.MEM_CH_CFG_PARITY_MODE n = 0 ∧ (s.memCh n).waiting = []) ∧
    (∃ (s : State) (n : Nat) (c : Nat) (r : Nat) (reqs : List MemReq), (((s.chSt n = 2 ∧ s.fld F.MEM_CH_CFG_PARITY_MODE n = 1 ∧ c = 1 ∧ r = 0 ∧ reqs = []) ∨ (s.chSt n = 3 ∧ max 1 (s.fld F.MEM_CH_CFG_REPLAY_MAX n) ≤ (s.memCh n).replays ∧ c = 2 ∧ r = (s.memCh n).replays))) ∧ s.fld F.MEM_CH_CFG_FREEZE_TRAFFIC n ≠ 1 ∧ (s.memCh n).waiting = []) ∧
    (∃ (s : State) (n : Nat), s.chInService n = false) ∧
    (∃ (s : State) (n : Nat), s.chInService n = false) ∧
    (∃ (s : State) (n : Nat) (e : RetryEntry) (rest : List RetryEntry), s.chInService n = true ∧ (s.memCh n).retry = e :: rest ∧ (s.memCh n).waiting = [] ∧ e.issued + e.win ≤ s.ltb.lc) ∧
    (∃ (s : State) (n : Nat) (r : MemReq), s.chInService n = true ∧ (s.memCh n).waiting = [] ∧ (s.memCh n).retry.length < 64 ∧ (s.memCh n).retry.head?.all (fun e => decide (s.ltb.lc < e.issued + e.win)) = true ∧ ((reqAccess r = false ∨ s.qosMode n = 1 ∨ SMap.get (s.memCh n).budget (r.client % 6) 0 ≠ 0))) ∧
    (∃ (s : State) (n : Nat) (r : MemReq), s.chInService n = true ∧ (s.memCh n).waiting = [] ∧ (s.memCh n).retry.head?.all (fun e => decide (s.ltb.lc < e.issued + e.win)) = true ∧ reqAccess r = true ∧ s.qosMode n ≠ 1 ∧ SMap.get (s.memCh n).budget (r.client % 6) 0 = 0 ∧ s.fld F.MEM_QOS_CFG_SPARE_EN 0 ≠ 1) ∧
    (∃ (s : State) (n : Nat) (r : MemReq), s.chInService n = true ∧ (s.memCh n).waiting = [] ∧ 64 ≤ (s.memCh n).retry.length ∧ (s.memCh n).retry.head?.all (fun e => decide (s.ltb.lc < e.issued + e.win)) = true ∧ reqAccess r = false) ∧
    (∃ (s : State), s.fld F.MEM_QDR_STATUS_STATE 0 = 2 ∧ s.mem.qdrParity = true) ∧
    (∃ (s : State) (itf : Nat) (line : Nat) (client : Nat) (fails : Nat) (k : Nat), itf < 4 ∧ client ≠ 3 ∧ s.ddrGood line = true ∧ max 1 fails ≤ s.refetchMax ∧ s.trackOf itf line = none ∧ s.freeTrack = some k) ∧
    (∃ (s : State) (itf : Nat) (line : Nat) (fails : Nat) (k : Nat) (p : RinsePass), itf < 4 ∧ s.ddrGood line = true ∧ max 1 fails ≤ s.refetchMax ∧ s.trackOf itf line = none ∧ s.freeTrack = some k ∧ SMap.find s.mem.passes itf = some p) ∧
    (∃ (s : State) (itf : Nat) (line : Nat) (fails : Nat), itf < 4 ∧ ((s.refetchMax < fails ∨ s.ddrGood line = false))) ∧
    (∃ (s : State) (itf : Nat) (line : Nat) (client : Nat) (fails : Nat), itf < 4 ∧ client ≠ 3 ∧ client ≠ 5 ∧ ((s.refetchMax < fails ∨ s.ddrGood line = false))) ∧
    (∃ (s : State) (a : Nat), s.engineBase ≤ a ∧ a < s.engineBase + 2 ^ 28 ∧ s.chInService (s.ddrChan a) = true ∧ s.ddrGood (a / 64) = true) ∧
    (∃ (s : State) (a : Nat), s.chInService (s.ddrChan a) = false) ∧
    (∃ (s : State), s.mem.regLc + s.mem.regLen * 1024 ≤ s.ltb.lc ∧ ((∀ n < 4, (s.memCh n).waiting = []))) ∧
    (∃ (s : State), s.ltb.lc < s.mem.regLc + s.mem.regLen * 1024) ∧
    (∃ (s : State) (n : Nat) (at_ : Nat), (s.memCh n).settleEnd = some at_ ∧ at_ ≤ s.ltb.lc ∧ (s.memCh n).waiting = []) ∧
    (∃ (s : State) (n : Nat) (at_ : Nat), (s.memCh n).settleEnd = some at_ ∧ s.ltb.lc < at_) ∧
    (∃ (s : State) (itf : Nat) (skipped : Nat) (no : Nat) (skip : Nat) (lines : Nat) (late : Nat) (p : RinsePass), itf ≤ 4 ∧ SMap.find s.mem.passes itf = some p ∧ s.fld (if itf < 4 then F.MEM_RINSE_CFG_DDR_EN else F.MEM_RINSE_CFG_QDR_EN) 0 = 1 ∧ p.from_ + p.len ≤ s.ltb.lc ∧ no = SMap.get s.mem.passNo itf 0 + 1 ∧ skip = (if itf < 4 then min skipped (s.rinseLines itf) else 0) ∧ lines = s.rinseLines itf - skip ∧ late = b2n (decide (p.from_ + p.len < s.ltb.lc))) ∧
    (∃ (s : State) (itf : Nat) (p : RinsePass), SMap.find s.mem.passes itf = some p ∧ s.ltb.lc < p.from_ + p.len) :=
  ⟨⟨st [(F.HIF_STATUS_STAGE, 0, 3)], 0xC6000001#32, by decide +kernel⟩,
   ⟨memS 2 [(F.HIF_STATUS_STAGE, 0, 3)], 3, by decide +kernel⟩,
   ⟨memS 2 [], by decide +kernel⟩,
   ⟨{ memS 1 [] with mem := { State.reset.mem with full := true } }, by decide +kernel⟩,
   ⟨memS 1 [], ⟨3, 7, 8, 9⟩, by decide +kernel⟩,
   ⟨st [(F.HIF_STATUS_STAGE, 0, 3)], 0x80000001#32, by decide +kernel⟩,
   ⟨st [(F.MEM_QDR_STATUS_STATE, 0, 1)], by decide +kernel⟩,
   ⟨st [(F.MEM_QDR_STATUS_STATE, 0, 1)], by decide +kernel⟩,
   ⟨memCh1 { memChEmpty with retry := [retry0, retry0] } (memS 2 [(F.MEM_CH_CFG_PARITY_MODE, 1, 0)]), 1, by decide +kernel⟩,
   ⟨memCh1 { memChEmpty with retry := [retry0] } (memS 2 [(F.MEM_CH_CFG_PARITY_MODE, 1, 1)]), 1, 1, 0, [], by decide +kernel⟩,
   ⟨memS 4 [], 3, by decide +kernel⟩,
   ⟨memS 4 [], 3, by decide +kernel⟩,
   ⟨{ memCh1 { memChEmpty with retry := [retry0, retry0], replayLeft := 1, replays := 1 } (memS 3 []) with ltb := { State.reset.ltb with lc := 46 } }, 1, retry0, [retry0], by decide +kernel⟩,
   ⟨memCh1 { memChEmpty with retry := [retry0], budget := [(5, 3)] } (memS 2 []), 1, ⟨2, 2, 3, 4, 5, 7, 8⟩, by decide +kernel⟩,
   ⟨memCh1 { memChEmpty with budget := [(5, 3)] } (memS 2 [(F.MEM_QOS_CFG_SPARE_EN, 0, 0)]), 1, ⟨3, 2, 3, 4, 4, 7, 8⟩, by decide +kernel⟩,
   ⟨memCh1 { memChEmpty with retry := List.replicate 64 retry0 } (memS 2 []), 1, retry0.req, by decide +kernel⟩,
   ⟨{ st [(F.MEM_QDR_STATUS_STATE, 0, 2), (F.MEM_QDR_COUNT_REPLAYS, 0, 255)] with mem := { State.reset.mem with qdrParity := true } }, by decide +kernel⟩,
   ⟨State.reset, 3, 77, 1, 0, 0, by decide +kernel⟩,
   ⟨{ State.reset with mem := { State.reset.mem with passes := [(3, ⟨0, 0, 100, 1, 2⟩)] } }, 3, 77, 0, 0, ⟨0, 0, 100, 1, 2⟩, by decide +kernel⟩,
   ⟨State.reset, 3, 77, 16, by decide +kernel⟩,
   ⟨{ State.reset with mem := { State.reset.mem with lines := [(77, ⟨1, 2, [3], 4⟩)] } }, 3, 77, 1, 0, by decide +kernel⟩,
   ⟨memS 2 [], 0x20FFFFFFF, by decide +kernel⟩,
   ⟨memS 4 [], 0x20FFFFFFF, by decide +kernel⟩,
   ⟨{ memS 2 [] with ltb := { State.reset.ltb with lc := 9999999 } }, by decide +kernel⟩,
   ⟨{ memS 2 [] with mem := { State.reset.mem with regLen := 1 } }, by decide +kernel⟩,
   ⟨memCh1 { memChEmpty with settleEnd := some 5 } { memS 2 [] with ltb := { State.reset.ltb with lc := 5 } }, 1, 5, by decide +kernel⟩,
   ⟨memCh1 { memChEmpty with settleEnd := some 6 } { memS 2 [] with ltb := { State.reset.ltb with lc := 5 } }, 1, 6, by decide +kernel⟩,
   ⟨{ st [(F.MEM_RINSE_CFG_QDR_EN, 0, 1)] with mem := { State.reset.mem with tracks := [(0, ⟨4, 1, 1, 0, 0, false⟩), (1, ⟨4, 2, 1, 0, 0, true⟩)], passes := [(4, ⟨5, 0, 1, 2, 3⟩)] }, ltb := { State.reset.ltb with lc := 5 } }, 4, 1, 1, 0, 2097152, 1, ⟨5, 0, 1, 2, 3⟩, by decide +kernel⟩,
   ⟨{ State.reset with mem := { State.reset.mem with passes := [(4, ⟨5, 0, 1, 2, 3⟩)] } }, 4, ⟨5, 0, 1, 2, 3⟩, by decide +kernel⟩⟩

/-- States and operands that meet the hypotheses of MemoryCommands, clause by clause. -/
theorem test_meets_MemoryCommands :
    (∃ (s : State) (d : Desc) (n : Nat), d.opcode = 0x2401 ∧ bits (d.dw 5) 9 8 = 0 ∧ n = d.dw 5 % 4 ∧ s.chSt n = 4 ∧ (s.memCh n).refreshed = true) ∧
    (∃ (s : State) (d : Desc) (n : Nat) (x : Snap), d.opcode = 0x2401 ∧ bits (d.dw 5) 9 8 = 0 ∧ n = d.dw 5 % 4 ∧ s.chSt n = 4 ∧ (s.memCh n).refreshed = false ∧ (s.memCh n).snap = some x ∧ x.lc + 16 * 1244160 < s.ltb.lc) ∧
    (∃ (s : State) (d : Desc) (n : Nat), d.opcode = 0x2401 ∧ bits (d.dw 5) 9 8 = 0 ∧ n = d.dw 5 % 4 ∧ s.chSt n ≠ 4) ∧
    (∃ (s : State) (d : Desc) (n : Nat), d.opcode = 0x2401 ∧ bits (d.dw 5) 9 8 = 1 ∧ n = d.dw 5 % 4 ∧ s.chSt n = 2 ∧ s.fld F.MEM_CH_CFG_FREEZE_TRAFFIC n ≠ 1) ∧
    (∃ (s : State) (d : Desc) (n : Nat), d.opcode = 0x2401 ∧ bits (d.dw 5) 9 8 = 1 ∧ n = d.dw 5 % 4 ∧ s.chSt n ≠ 2) ∧
    (∃ (s : State) (d : Desc) (n : Nat), d.opcode = 0x2401 ∧ bits (d.dw 5) 9 8 = 2 ∧ n = d.dw 5 % 4 ∧ s.chSt n ≠ 2) ∧
    (∃ (s : State) (d : Desc) (n : Nat), d.opcode = 0x2401 ∧ bits (d.dw 5) 9 8 = 2 ∧ n = d.dw 5 % 4 ∧ s.chSt n = 2 ∧ s.pagesIn n = 0 ∧ s.hif.saucer = []) ∧
    (∃ (s : State) (d : Desc) (n : Nat), d.opcode = 0x2401 ∧ bits (d.dw 5) 9 8 = 2 ∧ n = d.dw 5 % 4 ∧ s.chSt n = 2 ∧ s.pagesIn n ≠ 0) ∧
    (∃ (s : State) (d : Desc) (n : Nat), d.opcode = 0x2401 ∧ bits (d.dw 5) 9 8 = 3 ∧ n = d.dw 5 % 4 ∧ s.chSt n = 6) ∧
    (∃ (s : State) (d : Desc) (set : Nat), d.opcode = 0x2402 ∧ set = d.dw 5 % 2 ∧ ((∀ n < 4, s.chInService n = true ∧ (s.memCh n).waiting = [])) ∧ s.fld (validF set) 0 ≠ 0 ∧ s.activeSet ≠ set) ∧
    (∃ (s : State) (d : Desc) (set : Nat) (failed : List Nat), d.opcode = 0x2402 ∧ set = d.dw 5 % 2 ∧ ((∀ n < 4, s.chInService n = true ∧ (s.memCh n).waiting = [])) ∧ s.fld (validF set) 0 ≠ 0 ∧ s.activeSet ≠ set ∧ ((∃ n < 4, n ∈ failed))) ∧
    (∃ (s : State) (d : Desc) (set : Nat), set = d.dw 5 % 2 ∧ ((∀ n < 4, s.chInService n = true)) ∧ s.fld (validF set) 0 = 0) ∧
    (∃ (s : State) (d : Desc) (set : Nat), set = d.dw 5 % 2 ∧ ((∀ n < 4, s.chInService n = true)) ∧ s.fld (validF set) 0 ≠ 0 ∧ s.activeSet = set) ∧
    (∃ (s : State) (d : Desc) (n : Nat) (a : Nat) (cnt : Nat), d.opcode = 0x2403 ∧ n = d.dw 5 % 4 ∧ a = addr64 d 8 ∧ cnt = d.dw 10 ∧ d.dw 6 % 16 ≤ 3 ∧ s.badLine a = false ∧ touches a cnt (s.saucerBase, 2 ^ 26) = false ∧ touches a cnt (s.engineBase, 2 ^ 28) = false ∧ s.leavesChan n a cnt = false ∧ 0 < cnt ∧ s.chSt n = 6) ∧
    (∃ (d : Desc), d.opcode = 0x2403 ∧ 3 < d.dw 6 % 16) ∧
    (∃ (s : State) (d : Desc) (n : Nat), d.opcode = 0x2404 ∧ n = d.dw 5 % 4 ∧ d.buf = true ∧ 4160 ≤ d.bufLen ∧ (s.memCh n).snap = none) ∧
    (∃ (s : State) (d : Desc) (n : Nat) (x : Snap), d.opcode = 0x2404 ∧ n = d.dw 5 % 4 ∧ d.buf = true ∧ 4160 ≤ d.bufLen ∧ (s.memCh n).snap = some x) ∧
    (∃ (d : Desc), d.opcode = 0x2405 ∧ d.buf = true ∧ 2048 ≤ d.bufLen) ∧
    (∃ (d : Desc), d.opcode = 0x2406) ∧
    (∃ (s : State) (d : Desc), d.opcode = 0x2407 ∧ s.badLine (addr64 d 5) = false ∧ s.chInService (s.ddrChan (addr64 d 5)) = true ∧ s.ddrGood (addr64 d 5 / 64) = true) ∧
    (∃ (s : State) (d : Desc), d.opcode = 0x2407 ∧ s.badLine (addr64 d 5) = true) ∧
    (∃ (s : State) (d : Desc) (a : Nat) (p : Nat) (n : Nat), d.opcode = 0x2408 ∧ a = addr64 d 5 ∧ s.badLine a = false ∧ s.kettleBase ≤ a ∧ a < s.kettleBase + s.kettleSize ∧ p = (a - s.kettleBase) / 4096 ∧ n = s.tmg.retired.length + s.tmg.retiring.length ∧ p ∉ s.tmg.retired ∧ p ∉ s.tmg.retiring ∧ n < 4096) ∧
    (∃ (d : Desc), d.opcode = 0x2409 ∧ d.buf = true ∧ 512 ≤ d.bufLen ∧ d.dw 5 % 8 ≤ 4) ∧
    (∃ (d : Desc), d.opcode = 0x2409 ∧ d.buf = true ∧ 512 ≤ d.bufLen ∧ 4 < d.dw 5 % 8) :=
  ⟨⟨memCh1 { memChEmpty with refreshed := true } (memS 4 []), cmdD 0x2401 [0x1], 1, by decide +kernel⟩,
   ⟨{ memCh1 { memChEmpty with refreshed := false, snap := some ⟨3, 0, 0, 0, [], 9⟩ } (memS 4 []) with ltb := { State.reset.ltb with lc := 19906570 } }, cmdD 0x2401 [0x1], 1, ⟨3, 0, 0, 0, [], 9⟩, by decide +kernel⟩,
   ⟨memS 3 [], cmdD 0x2401 [0x3], 3, by decide +kernel⟩,
   ⟨memCh1 { memChEmpty with retry := [retry0] } (memS 2 []), cmdD 0x2401 [0x101], 1, by decide +kernel⟩,
   ⟨memS 3 [], cmdD 0x2401 [0x103], 3, by decide +kernel⟩,
   ⟨memS 3 [], cmdD 0x2401 [0x203], 3, by decide +kernel⟩,
   ⟨memS 2 [], cmdD 0x2401 [0x203], 3, by decide +kernel⟩,
   ⟨{ memS 2 [] with tmg := { State.reset.tmg with queues := [(1, { queueOn [] [] with middle := [⟨3, [], false⟩] })] } }, cmdD 0x2401 [0x203], 3, by decide +kernel⟩,
   ⟨memS 6 [], cmdD 0x2401 [0x303], 3, by decide +kernel⟩,
   ⟨memS 2 [(F.MEM_DDR_STATUS_VALID_B, 0, 1)], cmdD 0x2402 [1], 1, by decide +kernel⟩,
   ⟨memS 2 [(F.MEM_DDR_STATUS_VALID_B, 0, 1)], cmdD 0x2402 [1], 1, [3, 7], by decide +kernel⟩,
   ⟨memS 2 [(F.MEM_DDR_STATUS_VALID_B, 0, 0)], cmdD 0x2402 [1], 1, by decide +kernel⟩,
   ⟨memS 2 [(F.MEM_DDR_STATUS_VALID_B, 0, 1), (F.MEM_DDR_STATUS_ACTIVE_SET, 0, 1)], cmdD 0x2402 [1], 1, by decide +kernel⟩,
   ⟨{ memS 6 [] with mem := { State.reset.mem with lines := [(0x4000000 / 64, goodDdr (0x4000000 / 64) 6 9 [])] } }, cmdD 0x2403 [1, 3, 0xA5A5A5A5, 0x4001FC0, 0, 1], 1, 0x4001FC0, 1, by decide +kernel⟩,
   ⟨cmdD 0x2403 [1, 4], by decide +kernel⟩,
   ⟨State.reset, cmdB 0x2404 [3] 4160 [], 3, by decide +kernel⟩,
   ⟨memCh1 { memChEmpty with snap := some ⟨3, 300, 0, 5, [retry0], 9⟩ } State.reset, cmdB 0x2404 [1] 4160 [], 1, ⟨3, 300, 0, 5, [retry0], 9⟩, by decide +kernel⟩,
   ⟨cmdB 0x2405 [] 2048 [], by decide +kernel⟩,
   ⟨cmdD 0x2406 [63], by decide +kernel⟩,
   ⟨memS 2 [], cmdD 0x2407 [0x3FFBFFC0, 0], by decide +kernel⟩,
   ⟨memS 2 [], cmdD 0x2407 [0, 40], by decide +kernel⟩,
   ⟨memS 2 [], cmdD 0x2408 [0x3FFFF000, 1], 0x13FFFF000, 262143, 0, by decide +kernel⟩,
   ⟨cmdB 0x2409 [4] 512 [], by decide +kernel⟩,
   ⟨cmdB 0x2409 [5] 512 [], by decide +kernel⟩⟩

/-- States and operands that meet the hypotheses of NetworkTime, clause by clause. -/
theorem test_meets_NetworkTime :
    (∃ (s : State) (d : Desc) (dd : Int), d.opcode = 0x3001 ∧ s.badTod d = none ∧ s.tstate = 0 ∧ d.dw 12 % 8 = s.tc ∧ s.fld F.TIM_STATUS_TOD_VALID 0 = 0 ∧ s.fld F.ACT_CH_EQD_VALID s.tc = 1 ∧ dd = todD (d.dw 11) (s.fld F.ACT_CH_EQD_EQD s.tc) (s.fld F.TIM_CH_ASYM_ALPHA s.tc) (signed 16 (s.fld F.TIM_CH_RXOPT_RXOPT s.tc))) ∧
    (∃ (s : State) (d : Desc), d.opcode = 0x3001 ∧ s.badTod d = none ∧ s.tstate = 0 ∧ d.dw 12 % 8 = s.tc ∧ s.fld F.TIM_STATUS_TOD_VALID 0 = 1) ∧
    (∃ (s : State) (d : Desc), d.opcode = 0x3001 ∧ s.badTod d = none ∧ ((s.tstate ≠ 0 ∨ d.dw 12 % 8 ≠ s.tc))) ∧
    (∃ (s : State) (d : Desc) (k : Nat), d.opcode = 0x3001 ∧ s.badTod d = some k) ∧
    (∃ (s : State) (d : Desc) (u : Nat) (ns : Nat), d.opcode = 0x3002 ∧ d.buf = true ∧ 64 ≤ d.bufLen ∧ u = (s.todOf s.stamp 0).toNat ∧ ns = u / 65536) ∧
    (∃ (s : State) (d : Desc) (us : Nat) (e : Int) (m : Int) (i : Int), d.opcode = 0x3003 ∧ us = d.dw 7 ∧ 0 < us ∧ us ≤ 16000000 ∧ s.fld F.TIM_STATUS_SRC_USED 0 ≠ 0 ∧ s.fld F.TIM_CFG_STEP_EN 0 = 0 ∧ e = signed 32 (d.dw 5) * 65536 + bits (d.dw 6) 15 0 ∧ m = s.servoMax ∧ i = clampI (-m) m (s.timInt + servoTerm e us (s.fld F.TIM_SERVO_CFG_KI_SHIFT 0))) ∧
    (∃ (s : State) (d : Desc), d.opcode = 0x3003 ∧ 0 < d.dw 7 ∧ d.dw 7 ≤ 16000000 ∧ s.fld F.TIM_STATUS_SRC_USED 0 = 0) ∧
    (∃ (d : Desc), d.opcode = 0x3003 ∧ ((d.dw 7 = 0 ∨ 16000000 < d.dw 7))) ∧
    (∃ (s : State), s.fld F.TIM_STATUS_SLEWING 0 = 1 ∧ s.phiBase.tim.slewLeft = 0) ∧
    (∃ (s : State), s.fld F.TIM_STATUS_SRC_USED 0 ≠ 0 ∧ s.tim.sampleLc + max 1 (s.fld F.TIM_SERVO_CFG_HOLD_SAMPLES 0) * usLc s.tim.sampleUs ≤ s.ltb.lc) ∧
    (∃ (s : State), ((s.ppsCross = none ∨ s.ltb.sleep.isSome = true))) ∧
    (∃ (s : State) (f : Nat), s.ppsCross = some f ∧ s.ltb.sleep = none ∧ s.ppsSquelch = true) ∧
    (∃ (s : State) (f : Nat), s.ppsCross = some f ∧ s.ltb.sleep = none ∧ s.ppsSquelch = false ∧ s.fld F.TIM_CFG_PPS_EN 0 = 1) ∧
    (∃ (s : State) (k : Nat), s.armed k = false) ∧
    (∃ (s : State) (k : Nat) (x : Trig), x = s.trig k ∧ s.armed k = true ∧ x.period = 0 ∧ x.next = 0 ∧ 0 ≤ stampDiff s.stamp x.start ∧ x.notify = false ∧ s.tstate ≠ 2 ∧ s.fld F.TIM_STATUS_TOD_VALID 0 ≠ 0) ∧
    (∃ (s : State) (k : Nat) (x : Trig), x = s.trig k ∧ s.armed k = true ∧ x.period = 0 ∧ x.next = 0 ∧ 0 ≤ stampDiff s.stamp x.start ∧ s.fld F.TIM_STATUS_TOD_VALID 0 = 0) ∧
    (∃ (s : State) (d : Desc) (k : Nat) (start : Nat) (w : Nat) (p : Nat), d.opcode = 0x3004 ∧ k = d.dw 5 % 8 ∧ start = d.dw 6 + d.dw 7 * 2 ^ 32 ∧ w = bits (d.dw 9) 23 0 ∧ p = d.dw 10 ∧ start % 2 ^ 18 ≤ 155519 ∧ 0 < w ∧ ((p = 0 ∨ w < p)) ∧ ((bit (d.dw 5) 31 = true → 64 ≤ stampDiff start s.stamp))) ∧
    (∃ (d : Desc), d.opcode = 0x3004 ∧ ((155519 < (d.dw 6 + d.dw 7 * 2 ^ 32) % 2 ^ 18 ∨ bits (d.dw 9) 23 0 = 0))) ∧
    (∃ (s : State) (e : Nat) (f : Nat), s.tim.pps = some (e, f)) ∧
    (∃ (s : State) (w : Nat) (e : Nat), w ≠ 8 ∧ (s.trig w).high = some e ∧ e ≤ s.ltb.lc) ∧
    (∃ (s : State) (c : Nat) (ago : Nat) (rising : Bool), ((bit (s.fld F.TIM_CAP_CFG_EDGE c) (if rising then 0 else 1) = false ∨ ago < 4))) ∧
    (∃ (s : State) (c : Nat) (ago : Nat) (st : Nat) (rising : Bool), bit (s.fld F.TIM_CAP_CFG_EDGE c) (if rising then 0 else 1) = true ∧ 4 ≤ ago ∧ s.ltb.sleep = none ∧ SMap.find s.tim.caps c = none ∧ s.fld F.TIM_CAP_CFG_NOTIFY c = 0 ∧ st = stampAdd s.stamp (-ago)) ∧
    (∃ (s : State) (c : Nat) (k : Nat) (ago : Nat) (rising : Bool) (l : Int), bit (s.fld F.TIM_CAP_CFG_EDGE c) (if rising then 0 else 1) = true ∧ 4 ≤ ago ∧ s.ltb.sleep = none ∧ SMap.find s.tim.caps c = some (l, k) ∧ (s.ltb.lc : Int) - ago - l < 8) :=
  ⟨⟨timS 0 [], cmdD 0x3001 [100, 0, 1700000000, 0, 999999999, 65535, 0x80000000, 0], todD 0x80000000 1000 (State.reset.fld F.TIM_CH_ASYM_ALPHA 0) (signed 16 (State.reset.fld F.TIM_CH_RXOPT_RXOPT 0)), by decide +kernel⟩,
   ⟨timS 1 [], cmdD 0x3001 [100, 0, 1700000000, 0, 999999999, 65535, 0x80000000, 0], by decide +kernel⟩,
   ⟨st [(F.LTB_STATUS_STATE, 0, 1)], cmdD 0x3001 [100, 0, 1700000000, 0, 999999999, 65535, 0x80000000, 0], by decide +kernel⟩,
   ⟨State.reset, cmdD 0x3001 [100, 0, 1700000000, 0, 1000000000, 65535, 0x80000000, 0], 9, by decide +kernel⟩,
   ⟨timS 1 [], cmdB 0x3002 [] 64 [], ((timS 1 []).todOf (timS 1 []).stamp 0).toNat, ((timS 1 []).todOf (timS 1 []).stamp 0).toNat / 65536, by decide +kernel⟩,
   ⟨timS 1 [(F.TIM_STATUS_SRC_USED, 0, 1), (F.TIM_CFG_STEP_EN, 0, 0)], cmdD 0x3003 [0xFFFFFFF0, 0x8000, 1000], 1000, -16 * 65536 + 32768, State.reset.servoMax, clampI (-State.reset.servoMax) State.reset.servoMax (State.reset.timInt + servoTerm (-16 * 65536 + 32768) 1000 (State.reset.fld F.TIM_SERVO_CFG_KI_SHIFT 0)), by decide +kernel⟩,
   ⟨timS 1 [(F.TIM_STATUS_SRC_USED, 0, 0)], cmdD 0x3003 [0xFFFFFFF0, 0x8000, 16000000], by decide +kernel⟩,
   ⟨cmdD 0x3003 [0, 0, 16000001], by decide +kernel⟩,
   ⟨timS 1 [(F.TIM_STATUS_SLEWING, 0, 1)], by decide +kernel⟩,
   ⟨{ timS 1 [(F.TIM_STATUS_SRC_USED, 0, 1), (F.TIM_SERVO_CFG_HOLD_SAMPLES, 0, 2), (F.TIM_SERVO_INT_INT, 0, 0xFFFFFFF0)] with ltb := { State.reset.ltb with lc := 2488330 }, tim := { State.reset.tim with sampleUs := 1000, sampleLc := 10 } }, by decide +kernel⟩,
   ⟨{ State.reset with tim := { State.reset.tim with tRef := 6553600 } }, by decide +kernel⟩,
   ⟨st [(F.TIM_STATUS_PPS_SQUELCHED, 0, 0)], 0, by decide +kernel⟩,
   ⟨timS 1 [(F.TIM_STATUS_PPS_SQUELCHED, 0, 1), (F.TIM_CFG_PPS_EN, 0, 1)], 0, by decide +kernel⟩,
   ⟨State.reset, 7, by decide +kernel⟩,
   ⟨trigS 0 [], 7, ⟨false, false, 0, 0, 50, 0, 0, 0, none⟩, by decide +kernel⟩,
   ⟨trigS 0 [(F.TIM_STATUS_TOD_VALID, 0, 0)], 7, ⟨false, false, 0, 0, 50, 0, 0, 0, none⟩, by decide +kernel⟩,
   ⟨timS 1 [], cmdD 0x3004 [0xE0000007, 64, 0, 15, 1, 2, 9], 7, 64, 1, 2, by decide +kernel⟩,
   ⟨cmdD 0x3004 [7, 155520, 0, 0, 5], by decide +kernel⟩,
   ⟨{ State.reset with tim := { State.reset.tim with pps := some (0, 5) } }, 0, 5, by decide +kernel⟩,
   ⟨{ State.reset with tim := { State.reset.tim with trigs := [(7, ⟨false, false, 0, 0, 50, 0, 0, 1, some 0⟩)] } }, 7, 0, by decide +kernel⟩,
   ⟨st [(F.TIM_CAP_CFG_EDGE, 3, 2)], 3, 5, true, by decide +kernel⟩,
   ⟨st [(F.TIM_CAP_CFG_EDGE, 3, 2), (F.TIM_CAP_CFG_NOTIFY, 3, 0)], 3, 4, stampAdd State.reset.stamp (-4), false, by decide +kernel⟩,
   ⟨{ st [(F.TIM_CAP_CFG_EDGE, 3, 3)] with tim := { State.reset.tim with caps := [(3, (10, 4))] }, ltb := { State.reset.ltb with lc := 21 } }, 3, 4, 4, true, 10, by decide +kernel⟩⟩

/-- States and operands that meet the hypotheses of SimmerStates, clause by clause. -/
theorem test_meets_SimmerStates :
    (∃ (s : State), s.simmer = 1) ∧
    (∃ (s : State), s.simmer ≠ 1) ∧
    (∃ (s : State) (mode : Nat), s.simmer = 2 ∧ s.simmerChans ≠ [] ∧ mode = deepestMode s.simmerModes ∧ mode ≠ 0 ∧ s.upIdle = true ∧ s.pollUnits = none) ∧
    (∃ (s : State) (u : Nat) (r : Nat), s.simmer = 2 ∧ s.simmerChans ≠ [] ∧ deepestMode s.simmerModes ≠ 0 ∧ s.upIdle = true ∧ s.pollUnits = some (u, r)) ∧
    (∃ (s : State), ((s.simmer ≠ 2 ∨ s.upIdle = false))) ∧
    (∃ (s : State) (c : Nat) (m : Nat), s.simmer = 3 ∧ s.simmerMs (max 1 (s.fld F.PWR_SIMMER_CFG_ENTRY_MS 0)) = true ∧ .sleepRequest m ∈ (s.ubeCh c).ploams) ∧
    (∃ (s : State), ((s.simmer ≠ 3 ∨ s.simmerMs (max 1 (s.fld F.PWR_SIMMER_CFG_ENTRY_MS 0)) = false))) ∧
    (∃ (s : State), ((s.simmer = 4 ∨ s.simmer = 5)) ∧ s.simmerSleepMs (s.fld F.PWR_SIMMER_TIME_LOWPOWER_MS 0) = true) ∧
    (∃ (s : State), (((s.simmer ≠ 4 ∧ s.simmer ≠ 5) ∨ s.simmerSleepMs (s.fld F.PWR_SIMMER_TIME_LOWPOWER_MS 0) = false))) ∧
    (∃ (s : State), s.simmer = 8 ∧ s.fld F.PWR_STATUS_DARK 0 = 0 ∧ s.simmerMs (s.fld F.PWR_SIMMER_TIME_AWARE_MS 0) = true ∧ ((bit s.simmerModes (s.fld F.PWR_STATUS_MODE 0 - 1) = false ∨ s.upIdle = false))) ∧
    (∃ (s : State), s.simmer = 8 ∧ s.fld F.PWR_STATUS_DARK 0 = 0 ∧ s.simmerMs (s.fld F.PWR_SIMMER_TIME_AWARE_MS 0) = true ∧ bit s.simmerModes (s.fld F.PWR_STATUS_MODE 0 - 1) = true ∧ s.upIdle = true ∧ s.pollUnits = none) ∧
    (∃ (s : State) (u : Nat) (r : Nat), s.simmer = 8 ∧ s.fld F.PWR_STATUS_DARK 0 = 0 ∧ s.simmerMs (s.fld F.PWR_SIMMER_TIME_AWARE_MS 0) = true ∧ bit s.simmerModes (s.fld F.PWR_STATUS_MODE 0 - 1) = true ∧ s.upIdle = true ∧ s.pollUnits = some (u, r)) ∧
    (∃ (s : State), s.simmerMs (s.fld F.PWR_SIMMER_TIME_AWARE_MS 0) = false) ∧
    (∃ (s : State) (c : Nat), c = s.sampleChan ∧ c < 8 ∧ s.simmer = 6 ∧ s.pwr.nextSample ≤ s.sleepCount) ∧
    (∃ (s : State), ((s.simmer ≠ 6 ∨ s.sleepCount < s.pwr.nextSample))) ∧
    (∃ (s : State) (forced : Bool) (ploams : List Nat), s.simmer = 7 ∧ s.inSync s.sampleChan = true ∧ ((forced = true ∨ ploams ≠ []))) ∧
    (∃ (s : State) (c : Nat), c = s.sampleChan ∧ c < 8 ∧ s.simmer = 7 ∧ s.inSync c = true ∧ s.dsf.held = [] ∧ s.dsf.reasm = [] ∧ max 1 (s.fld F.PWR_WATCH_CFG_SAMPLE_FRAMES 0) ≤ s.pwr.examined) ∧
    (∃ (s : State), ((s.simmer ≠ 7 ∨ s.inSync s.sampleChan = false ∨ s.pwr.examined < max 1 (s.fld F.PWR_WATCH_CFG_SAMPLE_FRAMES 0)))) ∧
    (∃ (s : State), s.simmer = 7 ∧ s.inSync s.sampleChan = false ∧ s.simmerMs 1 = true ∧ max 1 (s.fld F.PWR_WATCH_CFG_MISS_WAKE 0) ≤ s.pwr.misses + 1) ∧
    (∃ (s : State), s.simmer = 7 ∧ s.inSync s.sampleChan = false ∧ s.simmerMs 1 = true ∧ s.sampleChan < 8 ∧ s.pwr.misses + 1 < max 1 (s.fld F.PWR_WATCH_CFG_MISS_WAKE 0)) ∧
    (∃ (s : State) (d : Desc), d.opcode = 0x3C01 ∧ s.simmer ≠ 3 ∧ s.lowPower = false) ∧
    (∃ (s : State) (d : Desc), d.opcode = 0x3C01 ∧ s.lowPower = true) ∧
    (∃ (s : State) (d : Desc), d.opcode = 0x3C01 ∧ s.simmer = 3) ∧
    (∃ (d : Desc), d.opcode = 0x3C02 ∧ bit (d.dw 5) 0 = true) ∧
    (∃ (d : Desc), d.opcode = 0x3C02 ∧ bit (d.dw 5) 0 = false) ∧
    (∃ (d : Desc), d.opcode = 0x3C03 ∧ d.buf = true ∧ 64 ≤ d.bufLen) ∧
    (∃ (s : State), ((5 ≤ s.simmer ∧ s.simmer ≤ 7) ∨ s.fld F.PWR_STATUS_RX_DARK 0 = 1)) ∧
    (∃ (s : State) (c : Nat) (m : Ploam), s.simmer < 5 ∧ s.fld F.PWR_STATUS_RX_DARK 0 ≠ 1 ∧ s.fld F.PWR_STATUS_MODE 0 = 0 ∧ s.fld (engRunning 0) 0 ≠ 0 ∧ m.mic = true ∧ m.lost = false ∧ s.addressed c m.dest = true) ∧
    (∃ (s : State) (m : Ploam), s.simmer < 5 ∧ s.fld F.PWR_STATUS_RX_DARK 0 ≠ 1 ∧ s.fld (engRunning 0) 0 ≠ 0 ∧ m.mic = true ∧ m.lost = false ∧ s.addressed s.tc m.dest = true) ∧
    (∃ (s : State) (c : Nat) (m : Ploam), s.simmer = 4 ∧ s.fld F.PWR_STATUS_RX_DARK 0 ≠ 1 ∧ s.fld (engRunning 0) 0 ≠ 0 ∧ m.mic = true ∧ m.lost = false ∧ s.addressed c m.dest = true) :=
  ⟨⟨simS 1 [], by decide +kernel⟩,
   ⟨simS 2 [], by decide +kernel⟩,
   ⟨{ (simS 2 []) with ltb := { State.reset.ltb with lc := 999999999999, ticks := 0 } }, 2, by decide +kernel⟩,
   ⟨{ (simS 2 [(F.PWR_STATUS_HOLD, 0, 1)]) with ltb := { State.reset.ltb with lc := 999999999999, ticks := 0 } }, 0, 2, by decide +kernel⟩,
   ⟨simS 3 [], by decide +kernel⟩,
   ⟨{ (askS 2 (simS 3 [(F.PWR_STATUS_MODE, 0, 2)])) with ltb := { State.reset.ltb with lc := 999999999999, ticks := 0 } }, 1, 2, by decide +kernel⟩,
   ⟨simS 4 [], by decide +kernel⟩,
   ⟨{ ({ simS 5 [] with pwr := { (simS 5 []).pwr with dom := [(8, 1), (16, 0), (17, 0)] } }) with ltb := { State.reset.ltb with lc := 999999999999, ticks := 0 } }, by decide +kernel⟩,
   ⟨simS 6 [], by decide +kernel⟩,
   ⟨{ (simS 8 [(F.PWR_STATUS_MODE, 0, 3)]) with ltb := { State.reset.ltb with lc := 999999999999, ticks := 0 } }, by decide +kernel⟩,
   ⟨{ (simS 8 [(F.PWR_STATUS_MODE, 0, 2)]) with ltb := { State.reset.ltb with lc := 999999999999, ticks := 0 } }, by decide +kernel⟩,
   ⟨{ (simS 8 [(F.PWR_STATUS_MODE, 0, 2), (F.PWR_STATUS_HOLD, 0, 1)]) with ltb := { State.reset.ltb with lc := 999999999999, ticks := 0 } }, 0, 2, by decide +kernel⟩,
   ⟨simS 8 [(F.PWR_STATUS_DARK, 0, 0), (F.PWR_SIMMER_TIME_AWARE_MS, 0, 5)], by decide +kernel⟩,
   ⟨{ ({ simS 6 [(F.PWR_STATUS_SAMPLE_CH, 0, 1)] with pwr := { (simS 6 []).pwr with dom := [(16, 0), (17, 0)] } }) with ltb := { State.reset.ltb with lc := 999999999999, ticks := 0 } }, 1, by decide +kernel⟩,
   ⟨simS 7 [], by decide +kernel⟩,
   ⟨simS 7 [], false, [1, 2, 3, 4, 5], by decide +kernel⟩,
   ⟨(let u := simS 7 [(F.PWR_STATUS_SAMPLE_CH, 0, 1)]; { u with pwr := { u.pwr with examined := 999 } }), 1, by decide +kernel⟩,
   ⟨simS 7 [], by decide +kernel⟩,
   ⟨{ ({ simS 7 [(F.PWR_STATUS_SAMPLE_CH, 0, 2), (F.PWR_WATCH_CFG_MISS_WAKE, 0, 3)] with pwr := { (simS 7 []).pwr with misses := 2 } }) with ltb := { State.reset.ltb with lc := 999999999999, ticks := 0 } }, by decide +kernel⟩,
   ⟨{ ({ simS 7 [(F.PWR_STATUS_SAMPLE_CH, 0, 2), (F.PWR_WATCH_CFG_MISS_WAKE, 0, 3)] with pwr := { (simS 7 []).pwr with misses := 1 } }) with ltb := { State.reset.ltb with lc := 999999999999, ticks := 0 } }, by decide +kernel⟩,
   ⟨simS 8 [], cmdD 0x3C01 [], by decide +kernel⟩,
   ⟨simS 6 [], cmdD 0x3C01 [], by decide +kernel⟩,
   ⟨askS 2 (simS 3 [(F.PWR_STATUS_MODE, 0, 2)]), cmdD 0x3C01 [], by decide +kernel⟩,
   ⟨cmdD 0x3C02 [1], by decide +kernel⟩,
   ⟨cmdD 0x3C02 [0], by decide +kernel⟩,
   ⟨cmdB 0x3C03 [] 64 [], by decide +kernel⟩,
   ⟨simS 7 [], by decide +kernel⟩,
   ⟨simS 2 ([eng0] ++ [(F.ACT_CH_STATUS_ONU_ID, 1, 9), (F.ACT_CH_STATUS_ONU_ID, 0, 9)]), 1, mOnu 9, by decide +kernel⟩,
   ⟨simS 1 ([eng0] ++ [(F.ACT_CH_STATUS_ONU_ID, 1, 9), (F.ACT_CH_STATUS_ONU_ID, 0, 9)]), mOnu 9, by decide +kernel⟩,
   ⟨simS 4 ([eng0] ++ [(F.ACT_CH_STATUS_ONU_ID, 1, 9), (F.ACT_CH_STATUS_ONU_ID, 0, 9)]), 1, mOnu 9, by decide +kernel⟩⟩

/-- States and operands that meet the hypotheses of DarkAndWaking, clause by clause. -/
theorem test_meets_DarkAndWaking :
    (∃ (s : State), s.fld F.PWR_DOM_CFG_MODE 11 = 1 ∧ s.fld F.PWR_DOM_CFG_DEPTH 11 = 0 ∧ s.dom 11 0 = 2 ∧ s.domIdle 11 0 = true ∧ s.idleDue 11 0 = true ∧ s.lowPower = false ∧ s.simmer ≠ 9 ∧ s.fld F.PWR_STATUS_DARK 0 = 0) ∧
    (∃ (s : State), s.fld F.PWR_DOM_CFG_MODE 12 = 1 ∧ s.fld F.PWR_DOM_CFG_DEPTH 12 = 1 ∧ s.dom 12 0 = 2 ∧ s.domIdle 12 0 = true ∧ s.idleDue 12 0 = true ∧ s.lowPower = false ∧ s.simmer ≠ 9 ∧ s.fld F.PWR_STATUS_DARK 0 = 0) ∧
    (∃ (s : State) (n : Nat) (sl : Nat), ((s.fld F.PWR_DOM_CFG_MODE n ≠ 1 ∨ s.domIdle n sl = false ∨ s.idleDue n sl = false))) ∧
    (∃ (s : State), ((s.entryQuiet = false ∨ s.guardPast = false))) ∧
    (∃ (s : State), s.entryQuiet = true ∧ s.guardPast = true ∧ s.fld F.PWR_STATUS_MODE 0 = 1) ∧
    (∃ (s : State), s.entryQuiet = true ∧ s.guardPast = true ∧ s.fld F.PWR_STATUS_MODE 0 = 2) ∧
    (∃ (s : State), s.simmer ≠ 9 ∧ ((s.simmer ≠ 8 ∨ s.fld F.PWR_STATUS_DARK 0 = 0))) ∧
    (∃ (s : State), s.simmer = 9 ∧ s.ltb.sleep = none) ∧
    (∃ (s : State) (r : SleepRec), s.simmer = 9 ∧ s.ltb.sleep = some r ∧ r.lost = false) ∧
    (∃ (s : State) (r : SleepRec), s.simmer = 9 ∧ s.ltb.sleep = some r ∧ r.lost = false ∧ s.eligible s.tc = true) ∧
    (∃ (s : State) (r : SleepRec), s.simmer = 9 ∧ s.ltb.sleep = some r ∧ r.lost = true) ∧
    (∃ (s : State), s.fld F.PWR_STATUS_DARK 0 = 1 ∧ s.allOn = true ∧ s.txReady = true ∧ s.simmer = 8) ∧
    (∃ (s : State) (d : Desc), s.fld F.PWR_STATUS_DARK 0 = 1 ∧ s.allOn = true ∧ s.txReady = true ∧ s.simmer = 9 ∧ s.pwr.waiters = [d] ∧ s.fld F.PWR_SIMMER_CFG_EN 0 = 1 ∧ s.simmerChans ≠ []) ∧
    (∃ (s : State), ((s.fld F.PWR_STATUS_DARK 0 = 0 ∨ s.lowPower = true ∨ s.allOn = false))) :=
  ⟨⟨(let u := simS 1 [(F.PWR_DOM_CFG_MODE, 11, 1), (F.PWR_DOM_CFG_DEPTH, 11, 0)]; { u with ltb := { State.reset.ltb with lc := 999999999999 }, pwr := { u.pwr with idleFrom := [(88, 5)] } }), by decide +kernel⟩,
   ⟨(let u := simS 1 [(F.PWR_DOM_CFG_MODE, 12, 1), (F.PWR_DOM_CFG_DEPTH, 12, 1), (F.TIM_CFG_PPS_EN, 0, 0)]; { u with ltb := { State.reset.ltb with lc := 999999999999 }, pwr := { u.pwr with idleFrom := [(96, 5)] } }), by decide +kernel⟩,
   ⟨simS 1 [(F.PWR_DOM_CFG_MODE, 13, 0)], 13, 0, by decide +kernel⟩,
   ⟨askS 1 (simS 3 []), by decide +kernel⟩,
   ⟨simS 3 [(F.PWR_STATUS_MODE, 0, 1)], by decide +kernel⟩,
   ⟨simS 3 [(F.PWR_STATUS_MODE, 0, 2)], by decide +kernel⟩,
   ⟨simS 5 [], by decide +kernel⟩,
   ⟨{ simS 9 [(F.PWR_STATUS_DARK, 0, 1)] with pwr := { (simS 9 []).pwr with dom := [(32, 3), (33, 3)] } }, by decide +kernel⟩,
   ⟨{ simS 9 [(F.PWR_STATUS_DARK, 0, 1), (F.PWR_STATUS_RX_DARK, 0, 1), (F.LTB_STATUS_STATE, 0, 1)] with ltb := { State.reset.ltb with ticks := 1000, sleep := some ⟨0x40123, 1, 0, 5, false, [], 1, false⟩ } }, ⟨0x40123, 1, 0, 5, false, [], 1, false⟩, by decide +kernel⟩,
   ⟨{ simS 9 [(F.PWR_STATUS_DARK, 0, 1), (F.PWR_STATUS_RX_DARK, 0, 1), (F.LTB_STATUS_STATE, 0, 1)] with ltb := { State.reset.ltb with ticks := 1000, sleep := some ⟨0x40123, 1, 0, 5, false, [], 1, false⟩ } }, ⟨0x40123, 1, 0, 5, false, [], 1, false⟩, by decide +kernel⟩,
   ⟨{ simS 9 [(F.PWR_STATUS_DARK, 0, 1), (F.PWR_STATUS_RX_DARK, 0, 1), (F.LTB_STATUS_STATE, 0, 1)] with ltb := { State.reset.ltb with ticks := 1000, sleep := some ⟨0x40123, 1, 0, 5, false, [], 1, true⟩ } }, ⟨0x40123, 1, 0, 5, false, [], 1, true⟩, by decide +kernel⟩,
   ⟨(let u := simS 8 [(F.PWR_STATUS_DARK, 0, 1)]; { u with ltb := { u.ltb with ticks := 0x40000000 } }), by decide +kernel⟩,
   ⟨{ simS 9 [(F.PWR_STATUS_DARK, 0, 1)] with pwr := { (simS 9 []).pwr with waiters := [cmdD 0x3C01 []] } }, cmdD 0x3C01 [], by decide +kernel⟩,
   ⟨simS 5 [(F.PWR_STATUS_DARK, 0, 1)], by decide +kernel⟩⟩

end Sys2Proof.Tests
end

section
/-!
SUPPORT. The words of BAR0 that hold status bits or counters, and the two accesses that clear them (R10, R14, R16): a write and a read of a register are
each one pass over its fields, so both are stated through `State.setEach`, which carries the facts about such a pass.
-/
namespace Sys2Proof.Machine

/-! The register map. -/

/-- No unit has a code from 19 on (R7). -/
theorem RegMap.ofUnit_eq_nil {u : Nat} (h : 19 ≤ u) : RegMap.ofUnit u = [] := by
  obtain ⟨k, rfl⟩ := Nat.exists_eq_add_of_le' h
  rfl

/-- A property of every field listed for the unit codes in use is one of every field of every unit code. -/
theorem RegMap.forall_ofUnit {P : Fld → Prop} (h : ∀ f ∈ RegMap.all, P f) {u : Nat} {f : Fld} (hf : f ∈ RegMap.ofUnit u) : P f := by
  by_cases hu : u < 19
  · exact h f (List.mem_flatMap.2 ⟨u, List.mem_range.2 hu, hf⟩)
  · simp [RegMap.ofUnit_eq_nil (Nat.le_of_not_lt hu)] at hf

theorem RegMap.ids_nodup (u : Nat) : ((RegMap.ofUnit u).map Fld.id).Nodup := by
  by_cases hu : u < 19
  · have table : ∀ u < 19, ((RegMap.ofUnit u).map Fld.id).Nodup := by decide +kernel
    exact table u hu
  · simp [RegMap.ofUnit_eq_nil (Nat.le_of_not_lt hu)]

theorem mem_fieldsAt {addr : Nat} {p : Fld × Nat} :
    p ∈ fieldsAt addr ↔ p.1 ∈ RegMap.ofUnit (addr / 0x100000) ∧ p.1.instAt addr = some p.2 := by
  obtain ⟨f, i⟩ := p
  simp only [fieldsAt, List.mem_filterMap, Option.map_eq_some_iff, Prod.mk.injEq]
  constructor
  · rintro ⟨g, hg, j, hj, rfl, rfl⟩
    exact ⟨hg, hj⟩
  · rintro ⟨hf, hi⟩
    exact ⟨f, hf, i, hi, rfl, rfl⟩

/-- The fields of one word are stored under different numbers. -/
theorem fieldsAt_ids_nodup (addr : Nat) : ((fieldsAt addr).map (fun p => p.1.id)).Nodup := by
  have h := List.pairwise_map.1 (RegMap.ids_nodup (addr / 0x100000))
  refine List.pairwise_map.2 (List.Pairwise.filterMap _ (fun f g hfg p hp q hq => ?_) h)
  obtain ⟨_, _, rfl⟩ := Option.map_eq_some_iff.1 hp
  obtain ⟨_, _, rfl⟩ := Option.map_eq_some_iff.1 hq
  exact hfg

theorem fieldsAt_eq_of_id {addr : Nat} {p q : Fld × Nat} (hp : p ∈ fieldsAt addr) (hq : q ∈ fieldsAt addr) (h : p.1.id = q.1.id) : p = q :=
  List.inj_on_of_nodup_map (fieldsAt_ids_nodup addr) hp hq h

/-- Where a word holds a field: at its first address, or whole strides from there. The bound counts one more, for a field without a stride. -/
theorem Fld.addr_of_instAt {f : Fld} {addr i : Nat} (h : f.instAt addr = some i) : i < f.count + 1 ∧ addr = f.base + f.stride * i := by
  unfold Fld.instAt at h
  split_ifs at h with h1 h2 h3 h4
  · obtain rfl := Option.some.inj h
    omega
  · obtain rfl := Option.some.inj h
    have := Nat.div_add_mod (addr - f.base) f.stride
    omega

/-- A register that holds a status bit holds no RW and no WO field, so it is no set-up register and its writes are not journalled (R481). -/
theorem isSetup_of_w1c {addr : Nat} {p : Fld × Nat} (hp : p ∈ fieldsAt addr) (hw : p.1.acc = .w1c) : isSetup addr = false := by
  have table : ∀ f ∈ RegMap.all, f.acc = .w1c → ∀ i < f.count + 1, isSetup (f.base + f.stride * i) = false := by decide +kernel
  obtain ⟨hf, hi⟩ := mem_fieldsAt.1 hp
  obtain ⟨hlt, rfl⟩ := Fld.addr_of_instAt hi
  exact RegMap.forall_ofUnit table hf hw p.2 hlt

/-- No event count is stored where a status bit is. -/
theorem evcntOf_id_ne {f c g : Fld} {u : Nat} (h : evcntOf f = some c) (hg : g ∈ RegMap.ofUnit u) (hw : g.acc = .w1c) : c.id ≠ g.id := by
  have table : ∀ g ∈ RegMap.all, g.acc = .w1c → ∀ u < 19, ∀ q ∈ evPairs u, q.2.id ≠ g.id := by decide +kernel
  obtain ⟨q, hq, rfl⟩ := Option.map_eq_some_iff.1 h
  have hmem := List.mem_of_find?_eq_some hq
  by_cases hu : f.base / 0x100000 < 19
  · exact RegMap.forall_ofUnit table hg hw _ hu q hmem
  · obtain ⟨k, hk⟩ := Nat.exists_eq_add_of_le' (Nat.le_of_not_lt hu)
    rw [hk] at hmem
    exact absurd hmem List.not_mem_nil

/-! One pass over the fields of a word. -/

/-- Each listed field that `val` gives a value for takes it. -/
def State.setEach (s : State) (val : Fld × Nat → Option Nat) (l : List (Fld × Nat)) : State :=
  l.foldl (fun t p => (val p).elim t (t.setFld p.1 p.2)) s

theorem State.setEach_cons (s : State) (val : Fld × Nat → Option Nat) (p : Fld × Nat) (l : List (Fld × Nat)) :
    s.setEach val (p :: l) = ((val p).elim s (s.setFld p.1 p.2)).setEach val l := rfl

/-- Such a pass changes registers only. -/
theorem State.setEach_only_regs (s : State) (val : Fld × Nat → Option Nat) (l : List (Fld × Nat)) :
    s.setEach val l = { s with regs := (s.setEach val l).regs } := by
  induction l generalizing s with
  | nil => rfl
  | cons p l ih =>
    rw [State.setEach_cons]
    cases val p with
    | none => exact ih s
    | some v => exact ih (s.setFld p.1 p.2 v)

/-- A field that no listed one with a new value shares its place with reads as before. -/
theorem State.fld_setEach_of_none (s : State) (val : Fld × Nat → Option Nat) (l : List (Fld × Nat)) (f : Fld) (i : Nat)
    (h : ∀ p ∈ l, p.1.id = f.id → p.2 = i → val p = none) : (s.setEach val l).fld f i = s.fld f i := by
  induction l generalizing s with
  | nil => rfl
  | cons p l ih =>
    obtain ⟨hp, hl⟩ := List.forall_mem_cons.1 h
    rw [State.setEach_cons, ih _ hl]
    cases hv : val p with
    | none => rfl
    | some v =>
      refine State.fld_setFld_ne s p.1 f p.2 i v ?_
      by_contra! hsame
      simp [hp hsame.1 hsame.2] at hv

/-- A listed field takes its new value, within its width, where no other listed field is stored under its number. -/
theorem State.fld_setEach_of_some (s : State) (val : Fld × Nat → Option Nat) (l : List (Fld × Nat))
    (hl : (l.map (fun p => p.1.id)).Nodup) {p : Fld × Nat} {v : Nat} (hp : p ∈ l) (hv : val p = some v) :
    (s.setEach val l).fld p.1 p.2 = v % 2 ^ p.1.width := by
  induction l generalizing s with
  | nil => simp at hp
  | cons q l ih =>
    obtain ⟨hq, hl⟩ := List.nodup_cons.1 hl
    rw [State.setEach_cons]
    rcases List.mem_cons.1 hp with rfl | hp
    · rw [State.fld_setEach_of_none _ _ _ _ _ (fun r hr hid => absurd (List.mem_map.2 ⟨r, hr, hid⟩) hq), hv]
      exact State.fld_setFld_same s p.1 p.2 v
    · exact ih _ hl hp

/-- A field of the word is the only one stored under its number there: without a new value of its own it reads as before. -/
theorem State.fld_setEach_fieldsAt_of_none (s : State) (val : Fld × Nat → Option Nat) {addr : Nat} {p : Fld × Nat} (hp : p ∈ fieldsAt addr)
    (hv : val p = none) : (s.setEach val (fieldsAt addr)).fld p.1 p.2 = s.fld p.1 p.2 := by
  refine State.fld_setEach_of_none s val _ _ _ (fun q hq hid _ => ?_)
  rw [fieldsAt_eq_of_id hq hp hid, hv]

/-! Writes (R10, R14). -/

/-- What a plain write of `v` gives a field (R10). -/
def writtenValue (v : Nat) (p : Fld × Nat) : Option Nat :=
  if p.1.acc = .rw then some (bits v p.1.hi p.1.lo)
  else if p.1.acc = .w1c ∧ bits v p.1.hi p.1.lo % 2 = 1 then some 0
  else none

theorem writtenValue_of_w1c {p : Fld × Nat} (v : Nat) (hw : p.1.acc = .w1c) :
    writtenValue v p = if bits v p.1.hi p.1.lo % 2 = 1 then some 0 else none := by
  simp [writtenValue, hw]

theorem State.applyWrite_eq_setEach (s : State) (addr v : Nat) : s.applyWrite addr v = s.setEach (writtenValue v) (fieldsAt addr) := by
  unfold State.applyWrite State.setEach
  congr 1
  funext t p
  cases h : p.1.acc with
  | w1c =>
    rw [writtenValue_of_w1c v h]
    dsimp only
    split <;> rfl
  | _ => simp [writtenValue, h]

/-- A status bit written 1 clears, one written 0 stays (R10). -/
theorem State.fld_applyWrite_w1c (s : State) {addr : Nat} (v : Nat) {p : Fld × Nat} (hp : p ∈ fieldsAt addr) (hw : p.1.acc = .w1c) :
    (s.applyWrite addr v).fld p.1 p.2 = if bits v p.1.hi p.1.lo % 2 = 1 then 0 else s.fld p.1 p.2 := by
  have hv := writtenValue_of_w1c v hw
  rw [State.applyWrite_eq_setEach]
  split_ifs at hv ⊢
  · rw [State.fld_setEach_of_some s _ _ (fieldsAt_ids_nodup addr) hp hv, Nat.zero_mod]
  · exact State.fld_setEach_fieldsAt_of_none s _ hp hv

/-- In the units whose registers have no side effect, a write of a status register is a plain one: ACT_PARK_CFG, the one register there with an
effect of its own, holds no status bit. -/
theorem State.writeReg_of_w1c (s : State) {addr : Nat} (v : Nat) {p : Fld × Nat} (hu : addr / 0x100000 ∈ [4, 5, 6, 11, 17])
    (hp : p ∈ fieldsAt addr) (hw : p.1.acc = .w1c) : s.writeReg addr v = s.applyWrite addr v := by
  have hpark : addr ≠ 0x400010 := by
    rintro rfl
    exact absurd (isSetup_of_w1c hp hw) (by decide +kernel)
  simp only [List.mem_cons, List.not_mem_nil, or_false] at hu
  unfold State.writeReg
  rcases hu with hu | hu | hu | hu | hu <;> simp only [hu, if_neg hpark]

/-- A write that lands on a status register of the part has its effect and nothing else: it selects no absent resource and takes no record. -/
theorem State.landed_of_w1c (s : State) {addr : Nat} (v : Nat) (eff : State → State) {p : Fld × Nat} (habs : s.absentReg addr = false)
    (hp : p ∈ fieldsAt addr) (hw : p.1.acc = .w1c) : s.landed addr v eff = eff s := by
  have hsetup := isSetup_of_w1c hp hw
  have hsel : s.selectsAbsent addr v = false := by
    have hne : addr ≠ 0xE00004 := by
      rintro rfl
      exact absurd hsetup (by decide +kernel)
    unfold State.selectsAbsent
    split <;> simp_all
  simp [State.landed, State.journalDone, State.journalWrite, habs, hsel, hsetup]

theorem exec_w1cClear {s : State} {addr : Nat} (v sets : Word) (ha : addr % 4 = 0) (hok : s.access addr = .ok) :
    exec (.w1cClear addr v sets) s =
      .next (s.landed addr v.toNat (fun u => (u.writeReg addr v.toNat).hwSets addr sets.toNat)) := by
  change execW1cClear addr v sets s = _
  simp [execW1cClear, barAligned, ha, State.barWriteSet, State.hostWrite, hok]

/-! Hardware sets (R14, R15). -/

/-- A field of any width holds a 1. -/
theorem Fld.one_mod_width (f : Fld) : 1 % 2 ^ f.width = 1 :=
  Nat.mod_eq_of_lt (Nat.one_lt_two_pow (Nat.succ_ne_zero _))

/-- A status bit that hardware sets reads 1, whether or not it has an event count. -/
theorem State.fld_hwSet_same (s : State) {f : Fld} {u : Nat} (i : Nat) (hf : f ∈ RegMap.ofUnit u) (hw : f.acc = .w1c) :
    (s.hwSet f i).fld f i = 1 := by
  unfold State.hwSet
  split
  · rename_i c hc
    rw [State.raise_bit _ _ _ _ (evcntOf_id_ne hc hf hw), Fld.one_mod_width]
  · rw [State.fld_setFld_same, Fld.one_mod_width]

/-- A hardware set leaves every other status bit alone. -/
theorem State.fld_hwSet_ne (s : State) {f g : Fld} {u : Nat} (i j : Nat) (hg : g ∈ RegMap.ofUnit u) (hw : g.acc = .w1c) (hid : f.id ≠ g.id) :
    (s.hwSet f i).fld g j = s.fld g j := by
  unfold State.hwSet
  split
  · rename_i c hc
    exact State.fld_raise_ne s f c g i j hid (evcntOf_id_ne hc hg hw)
  · exact State.fld_setFld_id s f g i j 1 hid

/-- A status bit at 1 stays so through a hardware set of a field of its word. -/
theorem State.fld_hwSet_stays {s : State} {addr : Nat} {p q : Fld × Nat} (hp : p ∈ fieldsAt addr) (hw : p.1.acc = .w1c)
    (hq : q ∈ fieldsAt addr) (h : s.fld p.1 p.2 = 1) : (s.hwSet q.1 q.2).fld p.1 p.2 = 1 := by
  have hu := (mem_fieldsAt.1 hp).1
  by_cases hid : q.1.id = p.1.id
  · obtain rfl := fieldsAt_eq_of_id hq hp hid
    exact State.fld_hwSet_same s q.2 hu hw
  · rw [State.fld_hwSet_ne s q.2 p.2 hu hw hid, h]

/-- After the hardware sets of one cycle each of their status bits reads 1. -/
theorem State.fld_hwSets (s : State) {addr sets : Nat} {p : Fld × Nat} (hp : p ∈ fieldsAt addr) (hw : p.1.acc = .w1c)
    (hset : bits sets p.1.hi p.1.lo % 2 = 1) : (s.hwSets addr sets).fld p.1 p.2 = 1 := by
  obtain ⟨before, after, hl⟩ := List.append_of_mem hp
  have hafter : ∀ q ∈ after, q ∈ fieldsAt addr := fun q hq => by simp [hl, hq]
  unfold State.hwSets
  rw [hl, List.foldl_append, List.foldl_cons, if_pos ⟨hw, hset⟩]
  refine List.foldlRecOn (motive := fun t : State => t.fld p.1 p.2 = 1) after _
    (State.fld_hwSet_same _ p.2 (mem_fieldsAt.1 hp).1 hw) (fun t ht q hq => ?_)
  split_ifs
  · exact State.fld_hwSet_stays hp hw (hafter q hq) ht
  · exact ht

theorem State.hwSets_zero (s : State) (addr : Nat) : s.hwSets addr 0 = s := by
  simp [State.hwSets, bits]

/-! Reads (R10, R16). -/

/-- What a read leaves in a field, with the events `evs` of its cycle (R16). -/
def State.valueLeft (s : State) (evs : Nat) (p : Fld × Nat) : Option Nat :=
  if p.1.acc = .rc then some (s.rcLeft p.1 p.2 (bits evs p.1.hi p.1.lo)) else none

/-- A read that latches nothing is one pass over the RC fields of its word. -/
theorem State.readEff_eq_setEach (s : State) {addr : Nat} (evs : Nat) (hhi : hiOf addr = none) :
    s.readEff addr evs = s.setEach (s.valueLeft evs) (fieldsAt addr) := by
  simp only [State.readEff, hhi, State.setEach]
  congr 1
  funext t p
  unfold State.valueLeft
  split_ifs <;> rfl

/-- A counter is left with its reset value and the cycle's events, within its width. -/
theorem State.rcLeft_of_not_peak (s : State) {f : Fld} (i n : Nat) (h1 : f ≠ F.STR_RQ_DEPTH_PEAK) (h2 : f ≠ F.TBL_STASH_PEAK) :
    s.rcLeft f i n = min (f.rst + n) f.top := by
  rw [State.rcLeft, if_neg h1, if_neg h2]

theorem Fld.min_top_mod_width (f : Fld) (n : Nat) : min n f.top % 2 ^ f.width = min n f.top := by
  refine Nat.mod_eq_of_lt (lt_of_le_of_lt (min_le_right _ _) ?_)
  exact Nat.sub_lt (Nat.two_pow_pos _) Nat.one_pos

theorem exec_rcRead {s : State} {addr : Nat} (evs : Word) (ha : addr % 4 = 0) (hok : s.access addr = .ok) :
    exec (.rcRead addr false evs) s = .next ((s.readEff addr evs.toNat).returned [s.readWord addr]) := by
  change execRcRead addr false evs s = _
  simp [execRcRead, State.barReads, barAligned, ha, State.barRead, State.hostRead, hok]

/-! The obligations. -/

/-- Settles O8: the hardware sets act after the write's own effect, and no pass of theirs takes a status bit back to 0; without one the write is
a plain one. -/
theorem aHardwareSetWinsOverAClear : Obligations.AHardwareSetWinsOverAClear := by
  unfold Obligations.AHardwareSetWinsOverAClear
  constructor
  · intro s addr v sets p ha hok hp hw hset
    refine ⟨_, exec_w1cClear v sets ha hok, fun habs => ?_⟩
    rw [State.landed_of_w1c s _ _ habs hp hw]
    exact State.fld_hwSets _ hp hw hset
  · intro s addr v p hu ha hok habs hp hw
    have hplain : s.landed addr v.toNat (fun u => (u.writeReg addr v.toNat).hwSets addr (0 : Word).toNat) = s.applyWrite addr v.toNat := by
      rw [State.landed_of_w1c s _ _ habs hp hw]
      exact (State.hwSets_zero _ addr).trans (State.writeReg_of_w1c s _ hu hp hw)
    refine ⟨_, hplain ▸ exec_w1cClear v 0 ha hok, State.fld_applyWrite_w1c s _ hp hw, ?_⟩
    rw [State.applyWrite_eq_setEach, State.setEach_only_regs]

/-- Settles O9: the read's one pass over the RC fields leaves each with the events of its cycle. -/
theorem aReadThatClears : Obligations.AReadThatClears := by
  unfold Obligations.AReadThatClears
  intro s addr evs ha hok hhi
  have hread := exec_rcRead evs ha hok
  rw [State.readEff_eq_setEach s _ hhi] at hread
  refine ⟨_, hread, rfl, fun p hp hrc h1 h2 => ?_, fun f i hf => ?_, ?_⟩
  · have hv : s.valueLeft evs.toNat p = some (min (p.1.rst + bits evs.toNat p.1.hi p.1.lo) p.1.top) := by
      rw [State.valueLeft, if_pos hrc, State.rcLeft_of_not_peak s p.2 _ h1 h2]
    exact (State.fld_setEach_of_some s _ _ (fieldsAt_ids_nodup addr) hp hv).trans (p.1.min_top_mod_width _)
  · exact State.fld_setEach_of_none s _ _ f i (fun p hp hid hi => if_neg (hf p hp hid hi))
  · rw [State.returned, State.setEach_only_regs]

end Sys2Proof.Machine
end
